-- ==== Sys2Proof/Word.lean ====
section
/-! DEFINITION. Words and the plainest arithmetic on them: powers of two, fields of a word, two's complement.
The part's registers are numbers with a stated width; a field is cut out of the number that spells it. -/
namespace Sys2Proof

/-- Bits [lo + w - 1 : lo] of `n`, bit 0 being the least significant (R8). -/
def bitsOf (n lo w : Nat) : Nat := n / 2 ^ lo % 2 ^ w

/-- Bit `i` of `n` (R8). -/
def bitOf (n i : Nat) : Bool := n / 2 ^ i % 2 == 1

/-- 1 for true, 0 for false: a BOOL as R30 encodes it. -/
def b2i (b : Bool) : Int := if b then 1 else 0

/-- 1 for true, 0 for false, as a natural number. -/
def b2n (b : Bool) : Nat := if b then 1 else 0

end Sys2Proof
end

