-- ==== Sys2Proof/Syntax.lean ====
section
/-! DEFINITION. The commands the block takes: the messages of the Catalogue protocol with their parts, the twin's
messages, cells and packets, and the events on pins, lanes and clocks. One constructor of `Instr` for each row of the
table of operations. -/
namespace Sys2Proof

/-- Status codes (Table 2.8, R52). -/
inductive Status
  | ok | noObject | readOnly | writeOnly | type | range | notLent | wrongMode | notReady | busy | slipFull | slipLate
  | slipNearEdge | capacity | maintConflict | authFail | sequence | lockedOut | stepRefused | versionDown | segment
  | internal
deriving DecidableEq, Repr

/-- The code of a status (Table 2.8). -/
def Status.code : Status → Nat
  | .ok => 0 | .noObject => 1 | .readOnly => 2 | .writeOnly => 3 | .type => 4 | .range => 5 | .notLent => 6
  | .wrongMode => 7 | .notReady => 8 | .busy => 9 | .slipFull => 10 | .slipLate => 11 | .slipNearEdge => 12
  | .capacity => 13 | .maintConflict => 14 | .authFail => 15 | .sequence => 16 | .lockedOut => 17
  | .stepRefused => 18 | .versionDown => 19 | .segment => 20 | .internal => 21

/-- The session key K of R39 by what it is derived from: HKDF of slot 1 over the boot measurement, the token's salt and the session ID;
`SessKey.value` is K itself. -/
structure SessKey where
  slot1 : Nat
  measurement : Nat
  salt : Nat
  sid : Nat
deriving DecidableEq, Repr

/-- The 20-byte header of Table 2.4. `flags` is byte 2 of the header: RESPONSE bit 7, NOTIFY bit 6, MORE bit 5, bits 4
to 0 reserved. -/
structure Header where
  version : Nat
  status : Nat
  flags : Nat
  session : Nat
  sequence : Nat
  segment : Nat
  length : Nat
  transfer : Nat
  items : Nat
deriving DecidableEq, Repr

/-- A datagram as it arrives: the control port (0 CTLA, 1 CTLB), the destination MAC address, IP address (an IPv4 one mapped) and UDP port
it names, its header, the reserved bytes of its payload in their order, and its 16-byte tag. The rest of a payload is the operands of
its command (R32, R206). -/
structure Msg where
  port : Nat
  mac : Nat
  ip : Nat
  udp : Nat
  hdr : Header
  reserved : List Nat
  tag : Nat
deriving DecidableEq, Repr

/-- A value as it stands on the wire: type code, length in bytes, and the bytes as one big-endian number (R8, R30). -/
structure Value where
  code : Nat
  len : Nat
  raw : Nat
deriving DecidableEq, Repr

/-- A value item: 48-bit address and value (R34). -/
structure Item where
  addr : Nat
  val : Value
deriving DecidableEq, Repr

/-- A subscription item (R49). -/
structure SubItem where
  addr : Nat
  mode : Nat
  interval : Int
deriving DecidableEq, Repr

/-- The 160-byte loan token of Table 14.4. Times are raw 96-bit LTs; `flags` is byte 2, `spare` byte 3, `reserved` bytes 88 to 95;
the signature is (`sigR`, `sigS`). -/
structure Token where
  format : Nat
  side : Nat
  flags : Nat
  spare : Nat
  deskId : Nat
  epoch : Nat
  serial : Nat
  notBefore : Nat
  expiry : Nat
  salt : Nat
  reserved : Nat
  sigR : Nat
  sigS : Nat
deriving DecidableEq, Repr

/-- A request the twins mirror (R35, R112). `given` is the LAUNCH as given in an ARM. -/
inductive MirrorReq
  | write (items : List Item)
  | stage (slip : Nat) (items : List Item)
  | arm (slip : Nat) (items : List Item) (given : Nat)
  | cancel (slips : List Nat)
  | block (addr : Nat) (data : Nat)
deriving DecidableEq, Repr

/-- A HEALTH message (Table 14.9). -/
structure HealthMsg where
  epoch : Nat
  loan : Nat
  pairing : Nat
  mode : Nat
  safe : Bool
  runOn : Bool
  holdBad : Bool
  expiry : Nat
  ready : Nat
  programId : Nat
  runningId : Nat
  /-- Bytes 48 to 227 (Table 19.10): good bits, highest CLASS, count of bookings not FREE, STATES. -/
  good : Nat
  cls : Nat
  count : Nat
  states : List Nat
deriving DecidableEq, Repr

/-- The straps and the GPO levels the board presents at the release of PORST_N (R311). -/
structure Straps where
  centre : Bool
  slot : Nat
  right : Bool
  svcEn : Bool
  gpo : Nat
deriving DecidableEq, Repr

/-- A PTP message the servo reads (R70, R71): its kind, sequence number, and the carried time as seconds, nanoseconds
and correctionField in units of 2⁻¹⁶ ns, its domainNumber, and the transport it came over: 0 UDP/IPv4, 1 UDP/IPv6, 2 IEEE 802.3. -/
structure PtpMsg where
  /-- 0 Sync of a one-step master, 1 Sync of a two-step master, 2 Follow_Up, 3 Delay_Resp. -/
  kind : Nat
  seq : Nat
  secs : Nat
  nanos : Nat
  correction : Int
  domain : Nat
  via : Nat
deriving DecidableEq, Repr

/-- The link structure a serial receiver detects (R126): link rate code of Table 6.1, raster code, level (0 NONE, 1 A,
2 B_DL, 3 B_DS), quad division (0 2SI, 1 SQUARE), the ST 352 payload ID with its link number (0: none valid), and
whether something else of R120 makes the signal unsupported. -/
structure SdiLink where
  rate : Nat
  format : Nat
  level : Nat
  division : Nat
  payload : Nat
  link : Nat
  unsupported : Bool
deriving DecidableEq, Repr

/-- An ST 291-1 ancillary packet of a frame: DID, SDID or DBN, its words from the data flag to the checksum, whether its checksum
fails, its line, and its data space: 0 HANC Y, 1 HANC C, 2 VANC Y, 3 VANC C (R129). -/
structure AncPkt where
  did : Nat
  sdid : Nat
  words : Nat
  bad : Bool
  line : Nat
  space : Nat
deriving DecidableEq, Repr

/-- What one serial input frame shows its receiver (R125 to R130): check failures, ancillary packets, audio packets
corrected and failed, the channels whose groups declare 48 kHz synchronous audio, and an ST 352 that disagrees. -/
structure SdiFrame where
  crcY : Nat
  crcC : Nat
  trs : Nat
  lineNo : Nat
  anc : List AncPkt
  corrected : Nat
  failed : Nat
  audio : Nat
  /-- Embedded audio samples of each channel the frame carries (R255). -/
  samples : Nat
  mismatch : Bool
deriving DecidableEq, Repr

/-- A pattern of Table 8.6: lane (0 lower, 1 upper), link, phase and count. -/
structure Pat where
  lane : Nat
  link : Nat
  phase : Nat
  count : Nat
deriving DecidableEq, Repr

/-- The payload of RESERVE, GRANT, DENY, ASSIGN and RELEASE with the shelfmark of the header (Table 8.6). -/
structure Resv where
  shelf : Nat
  period : Nat
  request : Nat
  subscriber : Nat
  origin : Nat
  cls : Nat
  plane : Nat
  reason : Nat
  k : Nat
  links : Nat
  patterns : List Pat
deriving DecidableEq, Repr

/-- An offer record (Table 8.8). -/
structure OfferRec where
  shelf : Nat
  k : Nat
  cls : Nat
  links : Nat
  format : Nat
  rate : Nat
  state : Nat
deriving DecidableEq, Repr

/-- A LANE_STATUS payload (Table 8.9); `part` 0xFF carries no mask; `mask` holds the 1,792 bits of its part. -/
structure LaneStatus where
  part : Nat
  role : Nat
  slot : Nat
  lane : Nat
  period : Nat
  arrival : Int
  admitting : Nat
  mask : Nat
deriving DecidableEq, Repr

/-- The payload of a cell (Table 8.4). Essence words are held as one number. -/
inductive CellBody
  | none
  | words (v : Nat)
  | resv (r : Resv)
  | offers (l : List OfferRec)
  | status (x : LaneStatus)
deriving DecidableEq, Repr

/-- A fabric cell: the header of Table 8.3 and its payload. -/
structure Cell where
  kind : Nat
  plane : Nat
  shelf : Nat
  seq : Nat
  stamp : Nat
  length : Nat
  sou : Bool
  eou : Bool
  present : Bool
  link : Nat
  format : Nat
  rate : Nat
  group : Nat
  level : Nat
  division : Nat
  body : CellBody
deriving DecidableEq, Repr
/-- An RTP packet of a flow: version, the 16-bit sequence and the extended one, timestamp, bytes from the RTP header on,
marker, whether its length fits its type, and whether it holds the first EAV of line 1 (R210, R217, Table 10.4). -/
structure Rtp where
  version : Nat
  seq : Nat
  ext : Nat
  ts : Nat
  bytes : Nat
  marker : Bool
  fits : Bool
deriving DecidableEq, Repr

/-- What a received frame holds (R194, R197, R211). Addresses are 16-byte numbers. -/
inductive NetKind
  | pause
  | ptp (m : PtpMsg)
  /-- An ARP or NDP request for an address. -/
  | arp (target : Nat)
  /-- An ICMP or ICMPv6 echo request to an address. -/
  | echo (dest : Nat)
  /-- An IGMP or MLD query: of an older version, and the group asked for (none: general). -/
  | query (old : Bool) (group : Option Nat)
  | rtp (dest dport src sport : Nat) (p : Rtp)
  | other
deriving DecidableEq, Repr

/-- A frame as a port receives it: destination, 802.1Q VIDs, FCS, bytes from destination address to FCS; the FEC codewords
corrected and not corrected since the frame before, its own among them, and whether it touches an uncorrectable one (R194, R208). -/
structure NetFrame where
  dest : Nat
  tags : List Nat
  fcsOk : Bool
  bytes : Nat
  corrected : Nat
  lost : Nat
  spoiled : Bool
  kind : NetKind
deriving DecidableEq, Repr

/-- What the calendar period that ends has shown of a fabric lane: FEC codewords corrected and not corrected, and at a centre the mean
arrival offset of its slots in lf (R161, `6300:03`, `:05`). -/
structure LanePeriod where
  lane : Nat
  corrected : Nat
  lost : Nat
  arrival : Int
deriving DecidableEq, Repr

/-- What the device does to the UDP checksum of a PTP message it sends (R71). -/
inductive UdpSum
  /-- As computed when the message was made. -/
  | plain
  /-- Set to zero (UDP/IPv4, ONE_STEP). -/
  | zero
  /-- Corrected through the two bytes that IEEE 1588-2019 appends (UDP/IPv6, ONE_STEP). -/
  | corrected
  /-- No UDP (IEEE 802.3). -/
  | absent
deriving DecidableEq, Repr

/-- What stands before the payload of a frame the device sends: its traffic class, the source address, and the 802.1Q tag as
(VID, PCP) where the port sends one (R197, R198). -/
structure FrameHead where
  cls : Nat
  source : Nat
  tag : Option (Nat × Nat)
deriving DecidableEq, Repr

/-- A packet or frame the device sends. -/
inductive Packet
  /-- A Delay_Req: sequence, seconds, nanoseconds, correctionField in 2⁻¹⁶ ns, domainNumber, transport as a PtpMsg has it, and the
  UDP checksum (R71). -/
  | delayReq (seq secs nanos frac domain via : Nat) (sum : UdpSum)
  /-- A packet of an egress flow: flow, path (0 A, 1 B), its record's type, RTP timestamp, count c, payload type, marker,
  SSRC, frame bytes, DSCP, TTL, destination and source address and UDP port, destination MAC address (R209, R225, R226). -/
  | flow (j path type ts count pt : Nat) (marker : Bool) (ssrc bytes dscp ttl dest dport src sport destMac : Nat)
  /-- A membership report for a group: the source it includes, or none; whether the group is joined or left; the address it
  comes from (R216). -/
  | report (group : Nat) (source : Option Nat) (joined : Bool) (from_ : Nat)
  /-- An ARP, NDP or echo answer to an address (R197). -/
  | localAnswer (kind : Nat) (addr : Nat)
deriving DecidableEq, Repr

/-- What an uncorrectable memory error makes unreadable (R288): a recorder's folio or a clip's by its stamp, a frame of a
synchroniser or layer store, a block of a flow buffer by key, or nothing in use. -/
inductive MemUnit
  | none
  | folio (r : Nat) (stamp : Int)
  | clip (k : Nat) (stamp : Int)
  | sync (n : Nat) (stamp : Int)
  | layer (shelf : Nat) (stamp : Int)
  | flow (f : Nat) (t : Int) (q : Nat)
deriving DecidableEq, Repr

/-- The picture of the frame a layer source shows (R236): its shelfmark, and for each line the 10-bit Y samples and the
CB and CR samples at even x. -/
structure SrcPic where
  shelf : Nat
  rows : List (List Nat × List Nat × List Nat)
deriving DecidableEq, Repr

/-- What the keys of an SVC session come from beside M: the content of slot 3 as the session opened and the two nonces (Table 18.3). -/
structure SvcKey where
  slot3 : Nat
  clientNonce : Nat
  deviceNonce : Nat
deriving DecidableEq, Repr

/-- A datagram of the service port as it arrives (R379, Table 18.11): the destination MAC address, IP address (an IPv4 one mapped) and UDP
port, the fields of its header but OPCODE, which is the command, and its 16-byte tag. Its payload is the operands of its command: within
a session, what its ciphertext deciphers to. -/
structure SvcMsg where
  mac : Nat
  ip : Nat
  udp : Nat
  version : Nat
  status : Nat
  flags : Nat
  session : Nat
  seq : Nat
  length : Nat
  reserved : Nat
  tag : Nat
deriving DecidableEq, Repr

/-- A pixel to observe (R239, R243): of a canvas's picture, or of the picture a serial output sends while it shows the canvas. -/
inductive Probe
  | canvas (x y : Nat)
  | output (e x y : Nat)
deriving DecidableEq, Repr

/-- A writer of input slots (Table 12.2): an ingress flow, a bundle subscription, an AES3 receiver, a serial receive lane. -/
inductive Writer
  | flow (f : Nat)
  | bundle (i : Nat)
  | aes (r : Nat)
  | lane (n : Nat)
deriving DecidableEq, Repr

/-- A sample a writer holds for the pool (R252, R253): its channel from 0, the time in lf from which Table 12.1 counts its placement (an
embedded sample's instant of R255, a flow's key time, a bundle cell's STAMP; none for a receiver), whether a bundle's value is a
subframe, the 32-bit value behind any converter or resampler, and in an embedded channel an error that no code corrects (R130). -/
structure SampleIn where
  writer : Writer
  channel : Nat
  time : Int
  sub : Bool
  value : Int
  bad : Bool
deriving DecidableEq, Repr

/-- A frame an AES3 receiver received since the last sample instant: its two samples, their parity errors and V bits (R256, R269). -/
structure AesIn where
  r : Nat
  a : Int
  b : Int
  badA : Bool
  badB : Bool
  vA : Bool
  vB : Bool
deriving DecidableEq, Repr

/-- A slip as a reconciliation carries it (R296): its number, whether it is LAUNCHED, its armed fields as `5020:01` to `:0B`,
GIVEN_LAUNCH, and its staged items by index, element, sub-index and value. -/
structure SlipCopy where
  num : Nat
  launched : Bool
  kind : Nat
  target : Nat
  launch : Nat
  late : Nat
  group : Nat
  raster : Nat
  seq : Nat
  trigger : Nat
  gpi : Nat
  offset : Int
  flags : Nat
  given : Nat
  items : List (Nat × Nat × Nat × Int)
deriving DecidableEq, Repr


/-- The commands: one constructor for each row of the table of operations, with the row's rule. -/
inductive Instr
  /-- PORST_N_ASSERT (R310): Assertion of PORST_N resets every island, returns objects to defaults, empties the slip table and clears time state and epoch. -/
  | porstNAssert
  /-- PORST_N_RELEASE (R311): Release of PORST_N samples the straps and GPO levels, starts the pairing state and lets each island come out of reset. -/
  | porstNRelease (straps : Straps)
  /-- RAIL_BROWNOUT (R413): A rail below its threshold for 2 us resets the device as PORST_N does and records the cause. -/
  | railBrownout (rail : Nat)
  /-- BROWNOUT_RELEASE (R413): After every rail has been above threshold for 10 ms the internal reset releases as though PORST_N rose. -/
  | brownoutRelease (straps : Straps)
  /-- ISLAND_READY (R312): An island's checks pass and its crossing tokens are exchanged, so its READY bit rises. -/
  | islandReady (bit : Nat) (dimms : List (Nat × Nat × Nat))
  /-- BRINGUP_LATE (R312): An island bit not risen by its Table 15.1 maximum raises BRINGUP_LATE and restarts the island, holding it in reset after a third late attempt. -/
  | bringupLate (bit : Nat)
  /-- STANDING_RESTORE (R316): The newest valid commit is restored and its values applied as each island's bit rises. -/
  | standingRestore (bad : Nat)
  /-- RASTER_START_AT_TIME (R318): A committed raster under AT_TIME starts at the first nominal point after TIME_STATE becomes SET. -/
  | rasterStartAtTime (raster : Nat)
  /-- READ (R34): A READ message returns one read result per address. -/
  | read (m : Msg) (addrs : List Nat)
  /-- WRITE (R36): A WRITE message checks every item, mirrors if paired and lent, and applies all items or none. -/
  | write (m : Msg) (items : List Item)
  /-- STAGE (R93): A STAGE message adds or replaces RWS items in the named slip. -/
  | stage (m : Msg) (slip : Nat) (items : List Item)
  /-- ARM (R95): An ARM message checks and arms the named slip with its kind, target and launch, recording boundary and check point. -/
  | arm (m : Msg) (slip : Nat) (items : List Item)
  /-- CANCEL (R111): A CANCEL message cancels each named STAGED or ARMED slip. -/
  | cancel (m : Msg) (slips : List Nat)
  /-- SUBSCRIBE (R49): A SUBSCRIBE message sets, changes or ends subscriptions of the session. -/
  | subscribe (m : Msg) (subs : List SubItem)
  /-- BLOCK_READ (R48): A BLOCK_READ segment reads the live object or a snapshot of it. -/
  | blockRead (m : Msg) (addr offset len : Nat)
  /-- BLOCK_WRITE (R47): A BLOCK_WRITE segment is held and, when it completes the set, the object is committed in one step. -/
  | blockWrite (m : Msg) (addr offset len data : Nat)
  /-- LOAN (R40): A LOAN message verifies tag and token and opens or renews a session and its loan. -/
  | loan (m : Msg) (t : Token)
  /-- PING (R34): A PING within the session returns Ledger time, role, session state and highest sequence. -/
  | ping (m : Msg)
  /-- SESSIONLESS_PING (R51): A PING with session 0 and a zero tag is answered with a zero tag, within the rate limit. -/
  | sessionlessPing (m : Msg)
  /-- UNDEFINED_OPCODE (R34): A message with an undefined opcode is refused whole with TYPE. -/
  | undefinedOpcode (m : Msg) (opcode : Nat) (payload : List Nat)
  /-- MALFORMED_DATAGRAM (R33): A datagram with a bad Version or a length mismatch is discarded without response and counted. -/
  | malformedDatagram (port : Nat)
  /-- MIRROR_ACK (R35): The twin's acknowledgement arrives and the device applies the request and sends its response. -/
  | mirrorAck (n : Nat) (tag : Bool) (seq : Nat) (st : Status)
  /-- MIRROR_ACK_TIMEOUT (R35): No acknowledgement within 5 ms: nothing applied, INTERNAL returned and the TW island fault raised. -/
  | mirrorAckTimeout
  /-- MIRROR (R294): A MIRROR from the twin is applied if this twin is unlent, and acknowledged with its status. -/
  | mirror (n : Nat) (tag : Bool) (seq : Nat) (req : MirrorReq)
  /-- BLOCK_TRANSFER_IDLE (R47): A write transfer with no segment for 2 s is discarded and the object left unchanged. -/
  | blockTransferIdle (id : Nat)
  /-- SNAPSHOT_EXPIRY (R48): A BLOCK_READ snapshot is dropped 2 s after its last segment. -/
  | snapshotExpiry (id : Nat)
  /-- NOTIFICATION_INTERVAL (R49): At each subscription interval the device samples and sends the notifications that are due. -/
  | notificationInterval
  /-- UNLENT_SESSION_CLOSE (R42): An unlent session closes 10 s after it became unlent or after the last verified message. -/
  | unlentSessionClose
  /-- OLD_SESSION_KEY_EXPIRY (R41): The old session's key, kept to answer NOT_LENT, is dropped after 10 s. -/
  | oldSessionKeyExpiry
  /-- HANDOVER_KEY_GRACE_END (R43): 10 ms after the HANDOVER boundary the old key is no longer tried for arriving messages. -/
  | handoverKeyGraceEnd
  /-- REGISTER_WRITE (R31): A write to an object with no behaviour of its own takes effect on completion of the message. -/
  | registerWrite (addr : Nat) (v : Value)
  /-- TIME_INCREMENT_WRITE (R58): A write of TIME_INCREMENT sets the per-tick increment from the next tick. -/
  | timeIncrementWrite (v : Nat)
  /-- TIME_STEP_WRITE (R63): A write of AMOUNT, with or without FORCE, steps Ledger time or is refused and recorded. -/
  | timeStepWrite (amount : Int) (force : Bool)
  /-- OWNER_WRITE (R59): A write of DISCIPLINE OWNER moves control of increment and steps between servo and controller. -/
  | ownerWrite (v : Nat)
  /-- SLIP_CANCEL_GROUP (R111): A write of GROUP cancels every ARMED member of the group unless one is LAUNCHED. -/
  | slipCancelGroup (g : Nat)
  /-- SLIP_CANCEL_ALL (R111): A write of 1 to ALL cancels every STAGED and ARMED slip. -/
  | slipCancelAll
  /-- COMMIT (R319): A write of 1 to COMMIT copies the committable values and starts writing the journal. -/
  | commit
  /-- COMMIT_COMPLETE (R319): The journal write completes as DONE or FAILED. -/
  | commitComplete (ok : Bool)
  /-- RELEASE (R301): A write of 1 to RELEASE ends the loan. -/
  | release
  /-- COMPILE (R263): A write of 1 to COMPILE starts compiling the audio draft into the shadow program. -/
  | compile
  /-- COMPILE_COMPLETE (R263): The compile ends with the shadow READY or FAILED and RESULT set. -/
  | compileComplete
  /-- BUNDLE_IN_ENABLE (R259): A write of ENABLE on a bundle subscription opens or ends a fabric subscription to it. -/
  | bundleInEnable (i : Nat) (v : Value)
  /-- CAPTURE (R285): A write of 1 to CAPTURE starts keeping a recorder's frames from IN to OUT as a clip. -/
  | capture (k : Nat)
  /-- CAPTURE_COMPLETE (R285): When the recorder's newest entry reaches OUT the clip reads READY and surplus pages are freed. -/
  | captureComplete (k : Nat)
  /-- DELETE (R285): A write of 1 to DELETE frees a clip's pages and empties it. -/
  | delete (k : Nat)
  /-- BOOT_IDLE (R382): A write of BOOT_IDLE makes the idle Keeper pair boot a slot, or stops it. -/
  | bootIdle (v : Value)
  /-- IDLE_BOOT_COMPLETE (R382): The idle pair's boot ends READY with its measurement published, or REFUSED. -/
  | idleBootComplete
  /-- CONFIRM (R384): A write of 1 to CONFIRM records controller confirmation during probation. -/
  | confirm (v : Value)
  /-- REJECT (R385): A write of 1 to REJECT during probation starts a fallback to the old image. -/
  | reject (v : Value)
  /-- KEY_WRITE (R370): A write of a key slot writes the bank not in force and then its new generation. -/
  | keyWrite (n : Nat) (v : Value)
  /-- SUBMIT (R392): A write of 1 to SUBMIT checks a booking against the table and the twin and holds it. -/
  | submit (b : Nat)
  /-- BOOKING_CANCEL (R393): A write of 1 to CANCEL ends a HELD booking at once or a RUNNING one as at the end of its window. -/
  | bookingCancel (b : Nat)
  /-- FORCE (R406): A write of 1 to a source's FORCE bit raises that source once as a forced event. -/
  | force (source : Nat)
  /-- INJECT_ENABLE (R401): A write of ENABLE on an injection entry checks its fields and enables it. -/
  | injectEnable (j : Nat) (v : Bool)
  /-- ACCESSION (R212): A WRITE that leaves an ingress flow enabled checks the record, allocates its buffer and joins its groups. -/
  | accession (items : List Item)
  /-- LINK_GROUP_WRITE (R124): A write of LINK_GROUP forms or splits receive or transmit lane groups. -/
  | linkGroupWrite (n : Nat) (tx : Bool) (v : Value)
  /-- NET_PORT_MODE_WRITE (R191): A write of a port's MODE, MEDIA or AUTONEG under a booking retrains every MAC of the island. -/
  | netPortModeWrite (n sub : Nat) (v : Value)
  /-- GPO_LEVEL_WRITE (R434): A write of GPO LEVEL drives the pin to the new level within 1 us. -/
  | gpoLevelWrite (g : Nat) (v : Value)
  /-- TEST_GEN_WRITE (R407): A write to a test generator is checked and takes effect at the next boundary of its raster. -/
  | testGenWrite (g sub : Nat) (v : Int)
  /-- REF_RASTER_WRITE (R277): A write of REF_RASTER is admitted against HBM and starts or stops the lane's frame synchroniser. -/
  | refRasterWrite (n : Nat) (v : Value)
  /-- RATE_MODE_WRITE (R126): A write of RATE_MODE or POLARITY takes effect at once, a RATE_MODE change passing the lane through ABSENT. -/
  | rateModeWrite (n : Nat) (polarity : Bool) (v : Value)
  /-- GPI_POLARITY_WRITE (R432): A write of GPI POLARITY re-evaluates LEVEL after DEBOUNCE without an event. -/
  | gpiPolarityWrite (g : Nat) (v : Value)
  /-- PTP_EVENT_RX (R70): A PTP message is received, stamped and fed to the servo. -/
  | ptpEventRx (port : Nat) (m : PtpMsg)
  /-- DELAY_REQ (R71): The servo sends a Delay_Req, one-step or two-step, stamped on transmit. -/
  | delayReq (port : Nat)
  /-- MASTER_SELECTED (R65): The best master algorithm selects a new master and the servo enters ACQUIRING. -/
  | masterSelected (port clockId : Nat)
  /-- SERVO_MEASURE_DONE (R65): After 8 Sync intervals the servo tracks, steps or refuses according to the offset. -/
  | servoMeasureDone
  /-- ANNOUNCE_TIMEOUT (R65): Announce receipt timeout with no other master sends the servo to HOLDING. -/
  | announceTimeout
  /-- TWIN_TIME_COMPARE (R60): Every 1 ms the device compares its Ledger time with the twin's and updates TWIN_OFFSET. -/
  | twinTimeCompare
  /-- TIME (R60): A TIME twin message carrying the twin's Ledger time is received. -/
  | time (n lt : Nat)
  /-- TIMESTAMP_CAPTURE (R72): A configured edge on PPS_IN, HSx_F or GPI is stamped into LAST and counted. -/
  | timestampCapture (n : Nat) (rising : Bool)
  /-- CANDIDATE_LOSS (R73): A loss condition of a reference candidate makes it ABSENT and is handled at once. -/
  | candidateLoss (c : Nat)
  /-- REF_MEASUREMENT (R78): At the end of each one-second measurement the unit updates statuses, disagreement, selection and state. -/
  | refMeasurement (readings : List (Bool × Int)) (out fine : Int)
  /-- HOLDOVER_EVALUATION (R82): Once per second in holdover the estimated phase error is computed and LOST entered at either limit. -/
  | holdoverEvaluation
  /-- XO_CORRECTION (R76): After an hour LOCKED the mean offset becomes the new XO correction kept in the Almanac. -/
  | xoCorrection
  /-- REF_RESTART_RETURN (R84): On REF's return every candidate starts ABSENT and the unit takes HOLDOVER or its former state. -/
  | refRestartReturn
  /-- RASTER_BOUNDARY (R86): A raster produces a boundary, stamped by TIME, with PHASE_ERROR updated. -/
  | rasterBoundary (r : Nat)
  /-- SLIP_CHECK_POINT (R102): At a check point the device settles collisions, groups and launch checks of every slip due. -/
  | slipCheckPoint (at_ : Int)
  /-- SLIP_BOUNDARY (R106): At B the holding island applies the launched slips' values in the order of R105. -/
  | slipBoundary (at_ : Int)
  /-- SLIP_RETIRE (R106): A LAUNCHED slip whose time-line ends becomes RETIRED and releases old resources. -/
  | slipRetire (slip : Nat)
  /-- GPI_RESOLVE (R110): A GPI_RESOLVE twin message sets the resolved launch and sequence of a GPI-triggered slip. -/
  | gpiResolve (n slip launch seq : Nat)
  /-- SLIP_OUTCOME (R112): A SLIP_OUTCOME twin message is compared with the local outcome. -/
  | slipOutcome (n slip state : Nat) (index : Int)
  /-- SDI_RAW_TRANSITION (R125): A receive lane changes between raw present and raw absent. -/
  | sdiRawTransition (n : Nat) (d : Option SdiLink)
  /-- ACQUIRE_ELAPSED (R131): Raw present held for ACQUIRE decides PRESENT or UNSUPPORTED. -/
  | acquireElapsed (n : Nat)
  /-- LOSS_ELAPSED (R131): Raw absent held for LOSS decides ABSENT. -/
  | lossElapsed (n : Nat)
  /-- CHATTER_WINDOW_QUIET (R131): A whole CHATTER_WINDOW without raw transition moves SIGNAL from CHATTER to ABSENT. -/
  | chatterWindowQuiet (n : Nat)
  /-- SIGNAL_PUBLISH (R131): A decided change of SIGNAL is published at the next Ledger millisecond boundary. -/
  | signalPublish (n : Nat)
  /-- SDI_INPUT_FRAME (R127): An input frame is received and stamped at the EAV of line 1, with checks and counts. -/
  | sdiInputFrame (n : Nat) (f : SdiFrame)
  /-- OUTPUT_FRAME_BOUNDARY (R146): At an output's frame boundary the source is judged timed, untimed or absent and the policy chosen. -/
  | outputFrameBoundary (o : Nat)
  /-- DECISION (R148): A DECISION twin message gives the right twin the left twin's comparison outcome. -/
  | decision (n kind el idx : Nat) (value : Int)
  /-- FREEZE_LIMIT_EXPIRY (R152): An output frozen for FREEZE_LIMIT turns to black. -/
  | freezeLimitExpiry (o : Nat)
  /-- FAB_TRAINING_START (R159): An enabled fabric lane of a running F island leaves OFF for TRAINING. -/
  | fabTrainingStart (l : Nat)
  /-- FAB_TRAINING_DONE (R160): Training ends with the identity and delay checks, moving the lane to ALIGNING or FAILED. -/
  | fabTrainingDone (l role slot lane side delay : Nat)
  /-- FAB_TRAINING_TIMEOUT (R159): Training not complete within 500 ms moves the lane to FAILED. -/
  | fabTrainingTimeout (l : Nat)
  /-- FAB_ALIGNED (R161): Arrival offset within 300 lf for 10 periods moves the lane to UP. -/
  | fabAligned (l : Nat)
  /-- FAB_LANE_DOWN (R162): A failure condition moves an UP lane to FAILED and raises FAB_LANE_DOWN. -/
  | fabLaneDown (l : Nat)
  /-- FAB_RETRY (R159): 100 ms after entering FAILED the lane returns to TRAINING. -/
  | fabRetry (l : Nat)
  /-- CALENDAR_PERIOD (R163): At each calendar boundary shadow calendars and masks take effect and LANE_STATUS is sent. -/
  | calendarPeriod (lanes : List LanePeriod)
  /-- ESSENCE (R183): An ESSENCE cell is received and merged by the cell Concordance, or forwarded by a centre. -/
  | essence (l slot : Nat) (crcOk : Bool) (c : Cell)
  /-- PRESENCE (R170): A PRESENCE cell applies the source's present state at its stamp. -/
  | presence (l slot : Nat) (crcOk : Bool) (c : Cell)
  /-- RESERVE (R176): A centre receives a RESERVE cell and queues it for the next cut-off. -/
  | reserve (l : Nat) (crcOk : Bool) (r : Resv)
  /-- RESERVATION_CUTOFF (R177): At slot 3,528 a centre settles reservations in rotating order and sends GRANT, ASSIGN or DENY. -/
  | reservationCutoff
  /-- GRANT (R176): A GRANT cell loads the granted patterns into the shadow calendar. -/
  | grant (l : Nat) (crcOk : Bool) (r : Resv)
  /-- ASSIGN (R177): An ASSIGN cell gives the origin a new uplink pattern to send. -/
  | assign (l : Nat) (crcOk : Bool) (r : Resv)
  /-- DENY (R179): A DENY cell moves the subscriber to the next centre or to no path. -/
  | deny (l : Nat) (crcOk : Bool) (r : Resv)
  /-- RELEASE_CELL (R180): A RELEASE cell frees patterns from the named period. -/
  | releaseCell (l : Nat) (crcOk : Bool) (r : Resv)
  /-- OFFER (R171): An OFFER cell updates the offer table, and a centre relays it. -/
  | offer (l : Nat) (crcOk : Bool) (stamp : Nat) (recs : List OfferRec)
  /-- OFFER_RESEND (R171): Each offer record is resent once per second. -/
  | offerResend
  /-- OFFER_EXPIRY (R171): An offer not refreshed for 3 s is removed. -/
  | offerExpiry (shelf : Nat)
  /-- LANE_STATUS (R188): A LANE_STATUS cell updates peer identity, mask, admit and arrival offset. -/
  | laneStatus (l : Nat) (crcOk : Bool) (x : LaneStatus)
  /-- CELL_HOLD_EXPIRY (R183): A held cell that waited HOLD declares the missing cells lost and is released. -/
  | cellHoldExpiry (sub link : Nat)
  /-- PLANE_FAILURE (R185): A plane with no cell for two periods fails and is re-planned. -/
  | planeFailure (sub plane : Nat)
  /-- PATH_RETRY (R179): Every 100 periods a plane without path tries the whole centre order again. -/
  | pathRetry (sub : Nat)
  /-- FAB_UNPROTECTED (R179): A protected subscription on one plane only for 10 ms raises FAB_UNPROTECTED. -/
  | fabUnprotected (sub : Nat)
  /-- HEALTH_SEND (R189): Every 100 us the device sends HEALTH to its twin. -/
  | healthSend
  /-- HEALTH (R299): A HEALTH message is received and the twin's loan, mode, readiness and bookings recorded. -/
  | health (n : Nat) (h : HealthMsg)
  /-- TWIN_LINK_UP (R296): The twin link comes up, the twins re-key and reconciliation starts. -/
  | twinLinkUp
  /-- TWIN_LINK_DOWN (R189): No HEALTH for 1 ms brings the twin link down and raises TWIN_LINK_DOWN. -/
  | twinLinkDown
  /-- RECONCILE (R296): A RECONCILE block is received, the last applying the configuration of the source. -/
  | reconcile (n : Nat) (tag : Bool) (measurement : Option Nat) (last : Bool) (values standing : List (Nat × Nat × Nat × Int)) (slips : List SlipCopy)
  /-- RECONCILE_TIMEOUT (R296): A reconciliation not complete in 2 s raises the TW island fault. -/
  | reconcileTimeout
  /-- RECONCILE_RESTART (R296): 10 s after a timeout the reconciliation starts again. -/
  | reconcileRestart
  /-- LOAN_EXPIRY (R301): Ledger time reaching the expiry in force ends the loan. -/
  | loanExpiry
  /-- GOB_WORD (R304): Every 192 GOB_CK cycles a good-output word is sent on GOB_D. -/
  | gobWord
  /-- EGRESS_SWITCH (R205): At the millisecond boundary after a pairing change the egress MACs change. -/
  | egressSwitch
  /-- MAC_LINK_UP (R193): Training done and lock held for 10 ms moves a MAC to UP. -/
  | macLinkUp (m : Nat)
  /-- NET_LINK_DOWN (R193): Loss of lock or 16 bad codewords returns a MAC to DOWN and raises NET_LINK_DOWN. -/
  | netLinkDown (m corrected lost : Nat)
  /-- MAC_FRAME_RX (R194): A received frame is checked, filtered, stamped and handed to the classifier or local protocols. -/
  | macFrameRx (m : Nat) (f : NetFrame)
  /-- PACER_RELEASE (R203): A pacer releases an egress packet at its release time. -/
  | pacerRelease (j : Nat) (frame : Int) (i : Nat)
  /-- MAC_FRAME_START (R200): The MAC chooses and starts the next frame allowed by class and gate. -/
  | macFrameStart (m : Nat)
  /-- GATE_ENTRY (R199): The end of a gate entry's interval puts the next entry in force. -/
  | gateEntry (m : Nat)
  /-- MEMBERSHIP_REPORT (R216): An unsolicited IGMP or MLD report is sent at each interval after a change. -/
  | membershipReport (m : Nat)
  /-- NEED_TIME (R218): At a need time the consumer takes the held samples and counts the missing. -/
  | needTime (f : Nat) (t : Int) (q line : Nat)
  /-- NO_PACKETS (R220): A path without a packet for 10 ms reads NO_PACKETS, raising FLOW_PATH_LOSS if the other receives. -/
  | noPackets (f path : Nat)
  /-- FLOW_SKEW (R220): Each second skew is measured and a path lagging over 150 ms is set SKEWED. -/
  | flowSkew (f : Nat)
  /-- FLOW_PRESENCE_PUBLISH (R221): A change of an ingress flow's presence is published at the next millisecond boundary. -/
  | flowPresencePublish (f : Nat)
  /-- WEED (R215): At a second boundary a quiet unused flow on a lent device is disabled. -/
  | weed (f : Nat)
  /-- COMPRESSED_GAP (R223): A COMPRESSED gap is declared lost once a later packet has waited 1 ms. -/
  | compressedGap (f : Nat)
  /-- CANVAS_BOUNDARY (R234): At each canvas boundary every layer chooses a frame and the composed region is built. -/
  | canvasBoundary (k : Nat) (pics : List SrcPic) (probes : List Probe)
  /-- ENGINE_SAMPLE (R252): At each sample instant the engine reads inputs, runs the program and writes the output slots. -/
  | engineSample (ins : List SampleIn) (frames : List AesIn)
  /-- ZC_TIMEOUT (R266): No crossing within ZC_TIMEOUT starts a 1 ms ramp and counts. -/
  | zcTimeout (bus : Bool) (n : Nat)
  /-- AES_RX_PREAMBLE (R256): A valid preamble moves an AES3 receiver to LOCKING. -/
  | aesRxPreamble (r : Nat)
  /-- AES_RX_TRACKING (R256): Rate and fill held for 100 ms move the receiver to TRACKING. -/
  | aesRxTracking (r rate : Nat) (ratio : Int) (fill status : Nat)
  /-- AES_RX_LOSS (R256): No valid preamble for 1 ms moves the receiver to NO_SIGNAL and raises AES_RX_LOSS. -/
  | aesRxLoss (r : Nat)
  /-- AES_RX_UNDERRUN (R257): A PCM receiver buffer reaching 0 fades its slots and raises AES_RX_SLIP. -/
  | aesRxUnderrun (r : Nat)
  /-- AES_RX_OVERRUN (R257): A PCM receiver buffer reaching 64 fades its slots and raises AES_RX_SLIP. -/
  | aesRxOverrun (r : Nat)
  /-- AES_RX_RECOVERED (R257): Fill held within 4 of 32 for 10 ms ramps the slots back and returns to TRACKING. -/
  | aesRxRecovered (r : Nat)
  /-- TRANSPARENT_SLIP (R258): A transparent receiver buffer at 0 or 64 repeats or drops one frame and counts. -/
  | transparentSlip (r : Nat)
  /-- AES_TX_BLOCK_START (R260): A transmitter starts a channel-status block, applying writes and clock changes. -/
  | aesTxBlockStart (t : Nat)
  /-- MEM_UNCORRECTABLE (R288): An uncorrectable memory error makes its unit unreadable and raises MEM_UNCORRECTABLE. -/
  | memUncorrectable (k row pages : Nat) (unit : MemUnit)
  /-- MEM_CORRECTED_ERROR (R289): A corrected error is counted and can make its row a candidate. -/
  | memCorrectedError (k row pages : Nat)
  /-- SCRUB_PASS (R288): A scrub pass over every page of a memory completes. -/
  | scrubPass (k : Nat)
  /-- FAULT_RAISE (R332): A fault source is raised, the collector settles it and applies its reaction. -/
  | faultRaise (source detail : Nat)
  /-- FAULT_QUIET_EXPIRY (R340): A source's quiet period ends, clearing it or recovering its reaction. -/
  | faultQuietExpiry (source : Nat)
  /-- COLLECTOR_SELF (R343): A mismatch between collector registers and their shadow raises COLLECTOR_SELF. -/
  | collectorSelf
  /-- KEEPER_WATCHDOG (R344): No watchdog service for 50 ms raises KEEPER_WATCHDOG and warm-restarts KEEP. -/
  | keeperWatchdog
  /-- KEEPER_LOCKSTEP (R367): A mismatch at a pair's compare point raises KEEPER_LOCKSTEP and warm-restarts KEEP. -/
  | keeperLockstep
  /-- KEEP_BOOT (R381): The boot ROM tries ACTIVE, PREVIOUS and GOLD and boots the first that passes or enters recovery. -/
  | keepBoot (images : List (Nat × Nat × Nat))
  /-- ISLAND_RESTART_ORDER (R363): A restart order drops an island's READY bit and signals down on its crossings. -/
  | islandRestartOrder (island cause : Nat)
  /-- ISLAND_RESET_RELEASE (R363): After reset is held 1 us the island's reset releases. -/
  | islandResetRelease (island : Nat)
  /-- READY_TOKEN (R360): A ready token on a crossing is answered and the stream resumes at its next frame boundary. -/
  | readyToken (src dst : Nat)
  /-- POINTER_WRONG (R359): A wrong Gray pointer resynchronises the crossing and raises CROSSING. -/
  | pointerWrong (src dst units : Nat)
  /-- CROSSING_SATURATION (R355): A handoff counter reaching 255 loses events and raises CROSSING. -/
  | crossingSaturation (src dst : Nat)
  /-- TAMPER (R373): A tamper cause zeroes every key slot within 10 us and records the cause. -/
  | tamper (cause : Nat)
  /-- TAMPER_RECORD (R373): At the next tick with core rails up a tamper fuse is programmed and TAMPER raised. -/
  | tamperRecord
  /-- PROBATION_CONFIRM (R384): SELF_CHECK held 60 s with any required CONFIRM confirms the image and raises the floor. -/
  | probationConfirm (tests : Bool)
  /-- PROBATION_DEADLINE (R385): The deadline passing unconfirmed returns authority to the old pair. -/
  | probationDeadline
  /-- HELLO (R380): An SVC HELLO opens a keyed session when slot 3 is valid. -/
  | hello (m : SvcMsg) (nonce : Nat)
  /-- COLOPHON (R374): An SVC COLOPHON request returns a freshly signed colophon. -/
  | colophon (m : SvcMsg) (nonce : Nat)
  /-- IMAGE_OPEN (R380): IMAGE_OPEN erases an image slot and marks it WRITING. -/
  | imageOpen (m : SvcMsg) (slot reserved total : Nat)
  /-- IMAGE_DATA (R380): IMAGE_DATA writes image bytes at an offset. -/
  | imageData (m : SvcMsg) (offset len data : Nat)
  /-- IMAGE_CLOSE (R380): IMAGE_CLOSE checks completeness and digest and marks the slot WRITTEN or EMPTY. -/
  | imageClose (m : SvcMsg) (digest : Nat)
  /-- SVC_KEY_WRITE (R371): An SVC KEY_WRITE writes a key slot with SVC_EN high, unmirrored. -/
  | svcKeyWrite (m : SvcMsg) (slot reserved key : Nat)
  /-- SVC_READ (R380): An SVC READ returns read results as a Catalogue READ does. -/
  | svcRead (m : SvcMsg) (addrs : List Nat)
  /-- CLOSE (R379): An SVC CLOSE ends the session. -/
  | close (m : SvcMsg)
  /-- TIME_SET (R438): TIME_SET applies the exempt first step while Ledger time is UNSET. -/
  | timeSet (m : SvcMsg) (lt : Nat)
  /-- SVC_SESSION_TIMEOUT (R379): An SVC session closes after 60 s without a verified request. -/
  | svcSessionTimeout
  /-- WEAR_SAMPLE (R386): Every 10 s the wear monitors report SLACK and SHIFT. -/
  | wearSample (readings : List (Nat × Nat × Int))
  /-- THERMAL_SAMPLE (R387): Every 1 ms the thermal sensors are read and THERMAL_WARN or THERMAL_LIMIT judged. -/
  | thermalSample (temps : List Int)
  /-- EYE_SAMPLE (R386): Every 1 s the eye-margin monitors report each lane's margin. -/
  | eyeSample (readings : List (Nat × Nat × Nat × Bool))
  /-- ALMANAC_INTERVAL (R388): At each ten-minute boundary an interval record is written. -/
  | almanacInterval
  /-- AVS_STEP (R390): SLACK held past its limit moves AVS_OFFSET by one 2.5 mV step. -/
  | avsStep
  /-- AVS_LIMIT (R417): Measured VDD off target by over 10 mV for 1 s, or out of range, raises AVS_LIMIT. -/
  | avsLimit (vdd : Nat)
  /-- POWER_OVER_CAP (R418): MEASURED above CAP for 1 s raises POWER_OVER_CAP. -/
  | powerOverCap (watts : Nat)
  /-- BOOKING_START (R393): At Ts a booking runs if its conditions still hold, or fails. -/
  | bookingStart (b : Nat)
  /-- BOOKING_DONE (R393): A running booking's activity completes and it reads DONE. -/
  | bookingDone (b : Nat) (eyes : List (Nat × Nat × Nat))
  /-- BOOKING_WINDOW_END (R393): At the end of its window a booking finishes its step and reads ENDED. -/
  | bookingWindowEnd (b : Nat)
  /-- INJECT_DELAY_RELEASE (R402): A unit held by DELAY_TIME is released when DELAY passes. -/
  | injectDelayRelease (j : Nat)
  /-- GPI_RAW_TRANSITION (R432): A raw level change on a GPI input starts debounce and chatter counting. -/
  | gpiRawTransition (g : Nat) (level : Bool)
  /-- GPI_QUALIFY (R432): A level held for DEBOUNCE qualifies an edge, making an event and resolving GPI slips. -/
  | gpiQualify (g : Nat)
  /-- GPI_CHATTER_QUIET (R432): A whole window without transition moves the GPI out of CHATTER. -/
  | gpiChatterQuiet (g : Nat)
  /-- GPI_STUCK (R432): LEVEL active for STUCK_TIME moves the GPI to STUCK and raises its source. -/
  | gpiStuck (g : Nat)
  /-- SMBUS_READ (R425): An SMBus Read Byte, Read Word or Block Read returns a register. -/
  | smbusRead (address command : Nat)
  /-- SMBUS_WRITE (R425): An SMBus write other than the command byte is NACKed. -/
  | smbusWrite (address : Nat)
  /-- EXTEST (R408): The EXTEST instruction drives boundary cells while PORST_N is low. -/
  | extest (cells : Nat)
  /-- IDCODE (R408): The IDCODE instruction selects the identification register. -/
  | idcode
  /-- SAMPLE_PRELOAD (R408): The SAMPLE/PRELOAD instruction samples or preloads boundary cells. -/
  | samplePreload (cells : Nat)
  /-- EXTEST_PULSE (R409): The EXTEST_PULSE instruction acts on the 1149.6 differential cells in reset. -/
  | extestPulse (cells : Nat)
  /-- EXTEST_TRAIN (R409): The EXTEST_TRAIN instruction acts on the 1149.6 differential cells in reset. -/
  | extestTrain (cells : Nat)
  /-- HIGHZ (R408): The HIGHZ instruction floats the outputs while PORST_N is low. -/
  | highz
  /-- CLAMP (R408): The CLAMP instruction holds boundary outputs while PORST_N is low. -/
  | clamp
  /-- BYPASS (R408): BYPASS, and every undefined or out-of-reset instruction, selects the bypass register. -/
  | bypass (code : Nat)
  /-- CTL_LINK_UP (R312): The 10GBASE-KR link of CTLA or CTLB, or the SVC link, comes up and its READY bit 51, 52 or 53 rises. -/
  | ctlLinkUp (port : Nat)
  /-- CTL_LINK_DOWN (R330): The link of CTLA, CTLB or SVC goes down, its READY bit falls, responses go out on the other port only, and source 644 to 646 is raised with LINK_DOWN. -/
  | ctlLinkDown (port : Nat)
  /-- FALLBACK (R385): At the first Ledger millisecond boundary after an accepted REJECT, authority returns to the resident old Keeper pair through the folio, the key reverts and the slot reads REJECTED. -/
  | fallback
  /-- TAP_RESET (R408): A TAP reset, by TRST_N or by TMS, returns the TAP to Test-Logic-Reset and selects IDCODE. -/
  | tapReset
deriving DecidableEq, Repr

end Sys2Proof
end

