-- ==== Sys2Proof/WellFormed.lean ====
section
/-! DEFINITION. Which commands the part can receive: every element number lies in the part, and every operand fits the field
that carries it (Tables 2.2, 2.4, 8.3, 8.6, 8.8, 8.9, 14.4, 18.11). -/
namespace Sys2Proof

/-- A number of at most n bits. -/
def fitsBits (n v : Nat) : Bool := decide (v < 2 ^ n)
/-- A signed number of n bits. -/
def fitsSigned (n : Nat) (v : Int) : Bool := decide (-(2 ^ (n - 1)) ≤ v) && decide (v < 2 ^ (n - 1))

/-- A header whose fields fit Table 2.4, on CTLA or CTLB. -/
def Msg.wf (m : Msg) : Bool :=
  decide (m.port < 2) && fitsBits 48 m.mac && fitsBits 128 m.ip && fitsBits 16 m.udp && m.reserved.all (fitsBits 8) && fitsBits 128 m.tag &&
    fitsBits 8 m.hdr.version && fitsBits 8 m.hdr.status && fitsBits 8 m.hdr.flags && fitsBits 32 m.hdr.session &&
    fitsBits 32 m.hdr.sequence && fitsBits 16 m.hdr.segment && fitsBits 16 m.hdr.length && fitsBits 16 m.hdr.transfer &&
    fitsBits 16 m.hdr.items

/-- A value whose bytes are as many as it says (R30, R34). -/
def Value.wf (v : Value) : Bool := fitsBits 8 v.code && fitsBits 16 v.len && decide (v.raw < 256 ^ v.len)
/-- An item with a 48-bit address. -/
def Item.wf (i : Item) : Bool := fitsBits 48 i.addr && i.val.wf
/-- A subscription item. -/
def SubItem.wf (i : SubItem) : Bool := fitsBits 48 i.addr && fitsBits 8 i.mode && fitsSigned 64 i.interval
/-- A loan token (Table 14.4). -/
def Token.wf (t : Token) : Bool :=
  fitsBits 8 t.format && fitsBits 8 t.side && fitsBits 8 t.flags && fitsBits 8 t.spare && fitsBits 64 t.reserved && fitsBits 256 t.sigR &&
    fitsBits 256 t.sigS && fitsBits 32 t.deskId && fitsBits 64 t.epoch && fitsBits 128 t.serial &&
    fitsBits 96 t.notBefore && fitsBits 96 t.expiry && fitsBits 256 t.salt
/-- A reservation payload (Table 8.6). -/
def Resv.wf (r : Resv) : Bool :=
  fitsBits 20 r.shelf && fitsBits 32 r.period && fitsBits 16 r.request && decide (r.subscriber < 32) && decide (r.origin < 32) &&
    decide (r.cls < 2) && decide (r.plane < 2) && fitsBits 8 r.reason && fitsBits 16 r.k && decide (r.links ≤ 4) &&
    decide (r.patterns.length ≤ 8) &&
    r.patterns.all (fun p => decide (p.lane < 2) && decide (p.link < 4) && decide (p.phase < 4410) && decide (p.count ≤ 4410))
/-- An offer record (Table 8.8). -/
def OfferRec.wf (r : OfferRec) : Bool := fitsBits 20 r.shelf && fitsBits 16 r.k && decide (r.cls < 2) && decide (r.state < 3)
/-- A LANE_STATUS payload (Table 8.9). -/
def LaneStatus.wf (x : LaneStatus) : Bool :=
  (decide (x.part < 3) || x.part == 255) && decide (x.role < 2) && decide (x.slot < 32) && decide (x.lane < 64) &&
    fitsBits 32 x.period && fitsSigned 16 x.arrival && decide (x.admitting < 3) && fitsBits 1792 x.mask
/-- A cell header (Table 8.3). -/
def Cell.wf (c : Cell) : Bool :=
  fitsBits 4 c.kind && decide (c.plane < 2) && fitsBits 20 c.shelf && fitsBits 24 c.seq && fitsBits 40 c.stamp && decide (c.length ≤ 120) &&
    decide (c.link < 4) && fitsBits 8 c.format && fitsBits 3 c.rate && fitsBits 2 c.group && decide (c.level < 2) && decide (c.division < 2)
/-- A writer that exists (Table 12.2). -/
def Writer.wf : Writer → Bool
  | .flow f => decide (f < 16384)
  | .bundle i => decide (i < 256)
  | .aes r => decide (r < 32)
  | .lane n => decide (n < 96)
/-- A sample of a writer that exists. -/
def SampleIn.wf (x : SampleIn) : Bool := x.writer.wf && fitsSigned 32 x.value

/-- An SVC datagram (Table 18.11). -/
def SvcMsg.wf (m : SvcMsg) : Bool :=
  fitsBits 48 m.mac && fitsBits 128 m.ip && fitsBits 16 m.udp && fitsBits 8 m.version && fitsBits 8 m.status && fitsBits 8 m.flags &&
    fitsBits 32 m.session && fitsBits 32 m.seq && fitsBits 16 m.length && fitsBits 16 m.reserved && fitsBits 128 m.tag

/-- The straps of R311. -/
def Straps.wf (x : Straps) : Bool := decide (x.slot < 32) && fitsBits 16 x.gpo
/-- A fault source that Tables 16.2 to 16.4 name. -/
def sourceWf (n : Nat) : Bool := !((decide (33 ≤ n) && decide (n < 64)) || (decide (252 ≤ n) && decide (n < 256)) || decide (663 ≤ n))

/-- The command is one the part can receive. -/
def Instr.wellFormed : Instr → Bool
  | .porstNAssert => true
  | .porstNRelease x => x.wf
  | .railBrownout rail => decide (1 ≤ rail) && decide (rail ≤ 6)
  | .brownoutRelease x => x.wf
  | .islandReady b _ => decide (b < 57)
  | .bringupLate b => decide (b < 57)
  | .standingRestore _ => true
  | .rasterStartAtTime r => decide (r < 32)
  | .read m addrs => m.wf && addrs.all (fitsBits 48)
  | .write m items => m.wf && items.all Item.wf
  | .stage m n items => m.wf && fitsBits 16 n && items.all Item.wf
  | .arm m n items => m.wf && fitsBits 16 n && items.all Item.wf
  | .cancel m slips => m.wf && slips.all (fitsBits 16)
  | .subscribe m subs => m.wf && subs.all SubItem.wf
  | .blockRead m a o n => m.wf && fitsBits 48 a && fitsBits 32 o && fitsBits 16 n
  | .blockWrite m a o n d => m.wf && fitsBits 48 a && fitsBits 32 o && fitsBits 16 n && decide (d < 256 ^ n)
  | .loan m t => m.wf && t.wf
  | .ping m => m.wf
  | .sessionlessPing m => m.wf
  | .undefinedOpcode m opcode p => m.wf && fitsBits 8 opcode && p.all (fitsBits 8)
  | .malformedDatagram port => decide (port < 2)
  | .mirrorAck n _ seq _ => fitsBits 32 n && fitsBits 32 seq
  | .mirrorAckTimeout => true
  | .mirror n _ seq _ => fitsBits 32 n && fitsBits 32 seq
  | .blockTransferIdle id => fitsBits 16 id
  | .snapshotExpiry id => fitsBits 16 id
  | .notificationInterval => true
  | .unlentSessionClose => true
  | .oldSessionKeyExpiry => true
  | .handoverKeyGraceEnd => true
  | .registerWrite a v => fitsBits 48 a && v.wf
  | .timeIncrementWrite v => fitsBits 64 v
  | .timeStepWrite amount _ => fitsSigned 64 amount
  | .ownerWrite v => fitsBits 8 v
  | .slipCancelGroup g => fitsBits 16 g
  | .slipCancelAll => true
  | .commit => true
  | .commitComplete _ => true
  | .release => true
  | .compile => true
  | .compileComplete => true
  | .bundleInEnable i v => decide (i < 256) && v.wf
  | .capture k => decide (k < 1024)
  | .captureComplete k => decide (k < 1024)
  | .delete k => decide (k < 1024)
  | .bootIdle v => v.wf
  | .idleBootComplete => true
  | .confirm v => v.wf
  | .reject v => v.wf
  | .keyWrite n v => decide (n < 16) && v.wf
  | .submit b => decide (b < 32)
  | .bookingCancel b => decide (b < 32)
  | .force n => decide (n < 1024)
  | .injectEnable j _ => decide (j < 64)
  | .accession items => items.all Item.wf
  | .linkGroupWrite n _ v => decide (n < 96) && v.wf
  | .netPortModeWrite n sub v => decide (n < 4) && decide (1 ≤ sub) && decide (sub ≤ 3) && v.wf
  | .gpoLevelWrite g v => decide (g < 16) && v.wf
  | .testGenWrite g sub v => decide (g < 256) && decide (1 ≤ sub) && decide (sub ≤ 9) && fitsSigned 64 v
  | .refRasterWrite n v => decide (n < 96) && v.wf
  | .rateModeWrite n _ v => decide (n < 96) && v.wf
  | .gpiPolarityWrite g v => decide (g < 16) && v.wf
  | .ptpEventRx p m => decide (p < 19) && decide (m.kind < 4) && fitsBits 16 m.seq && fitsBits 48 m.secs && fitsBits 32 m.nanos
  | .delayReq p => decide (p < 19)
  | .masterSelected p c => decide (p < 19) && fitsBits 64 c
  | .servoMeasureDone => true
  | .announceTimeout => true
  | .twinTimeCompare => true
  | .time n lt => fitsBits 32 n && fitsBits 96 lt
  | .timestampCapture n _ => decide (n < 19)
  | .candidateLoss c => decide (c < 5)
  | .refMeasurement l _ _ => decide (l.length = 5)
  | .holdoverEvaluation => true
  | .xoCorrection => true
  | .refRestartReturn => true
  | .rasterBoundary r => decide (r < 32)
  | .slipCheckPoint _ => true
  | .slipBoundary _ => true
  | .slipRetire n => decide (n < 8192)
  | .gpiResolve m n l q => fitsBits 32 m && decide (n < 8192) && fitsBits 96 l && fitsBits 64 q
  | .slipOutcome m n st _ => fitsBits 32 m && decide (n < 8192) && decide (st < 8)
  | .sdiRawTransition n _ => decide (n < 96)
  | .acquireElapsed n => decide (n < 96)
  | .lossElapsed n => decide (n < 96)
  | .chatterWindowQuiet n => decide (n < 96)
  | .signalPublish n => decide (n < 96)
  | .sdiInputFrame n _ => decide (n < 96)
  | .outputFrameBoundary o => decide (o < 16480)
  | .decision n k el i _ => fitsBits 32 n && decide (k < 6) && fitsBits 32 el && fitsBits 64 i
  | .freezeLimitExpiry o => decide (o < 16480)
  | .fabTrainingStart l => decide (l < 66)
  | .fabTrainingDone l role slot lane side delay =>
    decide (l < 66) && fitsBits 8 role && fitsBits 8 slot && fitsBits 8 lane && fitsBits 8 side && fitsBits 63 delay
  | .fabTrainingTimeout l => decide (l < 66)
  | .fabAligned l => decide (l < 66)
  | .fabLaneDown l => decide (l < 66)
  | .fabRetry l => decide (l < 66)
  | .calendarPeriod lanes => lanes.all (fun x => decide (x.lane < 64))
  | .essence l slot _ c => decide (l < 64) && decide (slot < 4410) && c.wf
  | .presence l slot _ c => decide (l < 64) && decide (slot < 4410) && c.wf
  | .reserve l _ r => decide (l < 64) && r.wf
  | .reservationCutoff => true
  | .grant l _ r => decide (l < 64) && r.wf
  | .assign l _ r => decide (l < 64) && r.wf
  | .deny l _ r => decide (l < 64) && r.wf
  | .releaseCell l _ r => decide (l < 64) && r.wf
  | .offer l _ stamp recs => decide (l < 64) && fitsBits 40 stamp && decide (recs.length ≤ 19) && recs.all OfferRec.wf
  | .offerResend => true
  | .offerExpiry m => fitsBits 20 m
  | .laneStatus l _ x => decide (l < 64) && x.wf
  | .cellHoldExpiry sub link => decide (sub < 4096) && decide (link < 4)
  | .planeFailure sub p => decide (sub < 4096) && decide (p < 2)
  | .pathRetry sub => decide (sub < 4096)
  | .fabUnprotected sub => decide (sub < 4096)
  | .healthSend => true
  | .health n h => fitsBits 32 n && fitsBits 64 h.epoch && fitsBits 64 h.ready && decide (h.states.length ≤ 32)
  | .twinLinkUp => true
  | .twinLinkDown => true
  | .reconcile n _ _ _ _ _ slips => fitsBits 32 n && slips.all (fun x => decide (x.num < 8192))
  | .reconcileTimeout => true
  | .reconcileRestart => true
  | .loanExpiry => true
  | .gobWord => true
  | .egressSwitch => true
  | .macLinkUp m => decide (m < 16)
  | .netLinkDown m _ _ => decide (m < 16)
  | .macFrameRx m f => decide (m < 19) && fitsBits 48 f.dest && f.tags.all (fitsBits 12)
  | .pacerRelease j _ _ => decide (j < 16384)
  | .macFrameStart m => decide (m < 19)
  | .gateEntry m => decide (m < 16)
  | .membershipReport m => decide (m < 16)
  | .needTime f _ _ _ => decide (f < 16384)
  | .noPackets f p => decide (f < 16384) && decide (p < 2)
  | .flowSkew f => decide (f < 16384)
  | .flowPresencePublish f => decide (f < 16384)
  | .weed f => decide (f < 16384)
  | .compressedGap f => decide (f < 16384)
  | .canvasBoundary k _ _ => decide (k < 256)
  | .engineSample ins frames => ins.all SampleIn.wf && frames.all (fun x => decide (x.r < 32))
  | .zcTimeout bus n => if bus then decide (n < 1024) else decide (n < 65536)
  | .aesRxPreamble r => decide (r < 32)
  | .aesRxTracking r _ _ fill status => decide (r < 32) && decide (fill ≤ 64) && fitsBits 192 status
  | .aesRxLoss r => decide (r < 32)
  | .aesRxUnderrun r => decide (r < 32)
  | .aesRxOverrun r => decide (r < 32)
  | .aesRxRecovered r => decide (r < 32)
  | .transparentSlip r => decide (r < 32)
  | .aesTxBlockStart t => decide (t < 32)
  | .memUncorrectable k _ _ _ => decide (k < 18)
  | .memCorrectedError k _ _ => decide (k < 18)
  | .scrubPass k => decide (k < 18)
  | .faultRaise n d => sourceWf n && fitsBits 32 d
  | .faultQuietExpiry n => sourceWf n
  | .collectorSelf => true
  | .keeperWatchdog => true
  | .keeperLockstep => true
  | .keepBoot images => images.all (fun i => decide (i.1 < 3))
  | .islandRestartOrder i c => decide (i < 47) && decide (1 ≤ c) && decide (c ≤ 4)
  | .islandResetRelease i => decide (i < 47)
  | .readyToken a b => decide (a < 47) && decide (b < 47)
  | .pointerWrong a b _ => decide (a < 47) && decide (b < 47)
  | .crossingSaturation a b => decide (a < 47) && decide (b < 47)
  | .tamper c => decide (c ≤ 4)
  | .tamperRecord => true
  | .probationConfirm _ => true
  | .probationDeadline => true
  | .hello m nonce => m.wf && fitsBits 128 nonce
  | .colophon m nonce => m.wf && fitsBits 256 nonce
  | .imageOpen m slot reserved total => m.wf && fitsBits 8 slot && fitsBits 24 reserved && fitsBits 32 total
  | .imageData m o n d => m.wf && fitsBits 32 o && decide (n ≤ 1436) && decide (d < 256 ^ n)
  | .imageClose m digest => m.wf && fitsBits 384 digest
  | .svcKeyWrite m slot reserved key => m.wf && fitsBits 8 slot && fitsBits 24 reserved && fitsBits 1024 key
  | .svcRead m addrs => m.wf && addrs.all (fitsBits 48)
  | .close m => m.wf
  | .timeSet m lt => m.wf && fitsBits 96 lt
  | .svcSessionTimeout => true
  | .wearSample l => l.all (fun r => decide (r.1 < 256))
  | .thermalSample l => decide (l.length ≤ 64)
  | .eyeSample l => l.all (fun r => decide (r.1 < 181))
  | .almanacInterval => true
  | .avsStep => true
  | .avsLimit _ => true
  | .powerOverCap _ => true
  | .bookingStart b => decide (b < 32)
  | .bookingDone b eyes => decide (b < 32) && eyes.all (fun e => decide (e.1 < 181))
  | .bookingWindowEnd b => decide (b < 32)
  | .injectDelayRelease j => decide (j < 64)
  | .gpiRawTransition g _ => decide (g < 16)
  | .gpiQualify g => decide (g < 16)
  | .gpiChatterQuiet g => decide (g < 16)
  | .gpiStuck g => decide (g < 16)
  | .smbusRead a c => fitsBits 7 a && fitsBits 8 c
  | .smbusWrite a => fitsBits 7 a
  | .extest cells => fitsBits 4096 cells
  | .idcode => true
  | .samplePreload cells => fitsBits 4096 cells
  | .extestPulse cells => fitsBits 4096 cells
  | .extestTrain cells => fitsBits 4096 cells
  | .highz => true
  | .clamp => true
  | .bypass code => fitsBits 8 code
  | .ctlLinkUp p => decide (p < 3)
  | .ctlLinkDown p => decide (p < 3)
  | .fallback => true
  | .tapReset => true

end Sys2Proof
end

