-- ==== Sys2Proof/Decode.lean ====
section
/-! DEFINITION. The commands a word of spec/opcode_table.json spells. The table gives no row any bits: the commands are
messages, cells, events on pins and instants of clocks, which no instruction word encodes. So a word spells none. -/
namespace Sys2Proof

/-- The command that a word of `nbits` bits spells by the table's bits: none, as no row has bits. -/
def decodeTableWord (_nbits _w : Nat) : Option Instr := none

end Sys2Proof
end

