-- ==== Sys2Proof/Config.lean ====
section
/-! DEFINITION. What one part fixes for itself (OTP, fuses, boot image, boot ROM) and the free values: values the
manual leaves open, each an opaque constant with no body, so that nothing can be proved of it. -/
namespace Sys2Proof

/-- A value the manual leaves open, fresh at each use: applied to the counter `State.free` (log entry 3). -/
opaque Config.freeValue : Nat → Nat

/-- The words and samples of a unit whose content the model does not hold: applied to the draw of the unit and to the word's place
in it (log entry 3). -/
opaque Config.freeWord : Nat → Nat → Nat

/-- The DATA bytes of a twin message of a type with so many items, where the manual gives no layout (R189, log entry 86). -/
opaque Config.twinBytes : Nat → Nat → Nat

/-- The value of a field whose call card says From OTP, From image, From flash, Fused or From boot ROM:
index, element, sub-index (log entry 4). -/
opaque Config.fused : Nat → Nat → Nat → Nat

/-- The lowest address of the part's MAC block divided by 32: its five low bits are 0 (R437). -/
opaque Config.macBlock : Nat

/-- The signature of the identity key over a statement (R374). -/
opaque Config.sign : Nat → Nat → Nat

/-- The CRC-32C of a compiled program, whose form the manual does not give: its rate and its edges and buses as a list
(`8400:07`). -/
opaque Config.programCrc : List Nat → Nat

/-- The reference block of a signed boot image (R75): image by its measurement, and the number of the parameter. Chapter 18 gives
the block no format. -/
opaque Config.refBlock : Nat → Nat → Nat

/-- The words that the device's own packets leave to passed ancillary packets in a data space of a line: link rate, raster code, line, space,
whether a payload ID stands on the line, and the audio groups embedded on it (R135). The manual gives the data spaces no sizes. -/
opaque Config.ancRoom : Nat → Nat → Nat → Nat → Bool → Nat → Nat

/-- The code in bits [31:28] of a subframe for the preambles Z, X and Y, 0 to 2 (R252). The manual names the field and gives no codes. -/
opaque Config.preamble : Nat → Nat

/-- The public key of Osviop's image signatures, X then Y: fixed in the boot ROM (R377). -/
opaque Config.osviopKey : Nat × Nat

/-- By how much SLACK rises, in 0.01 %, on an island whose core voltage rises by so many 0.1 mV: what R391 projects with, and the
manual does not give (log entry 94). -/
opaque Config.slackGain : Nat → Int → Int

end Sys2Proof
end

