-- ==== Sys2Proof/Machine/Bits.lean ====
section
/-! DEFINITION. Bit-field, sign, rounding and check-sum helpers the meanings share. Here, and not in Word.lean,
because a later repair may mend them. -/
namespace Sys2Proof.Machine

/-- The signed value of a `w`-bit two's-complement field (R7, R30). -/
def toSigned (w n : Nat) : Int :=
  let m := n % 2 ^ w
  if m < 2 ^ (w - 1) then (m : Int) else (m : Int) - 2 ^ w

/-- The `w`-bit two's-complement field of a signed value (R7, R30). -/
def fromSigned (w : Nat) (v : Int) : Nat := (v % 2 ^ w).toNat

/-- `n / d` rounded to the nearest integer, ties to even (R66, R67). -/
def divNearestEven (n d : Nat) : Nat :=
  let q := n / d
  let r := n % d
  if 2 * r < d then q else if 2 * r > d then q + 1 else if q % 2 = 0 then q else q + 1

/-- `n / d` rounded half up, for signed `n`. -/
def divHalfUp (n : Int) (d : Nat) : Int := (2 * n + d) / (2 * d)

/-- `v` held within [lo, hi]. -/
def clampInt (lo hi v : Int) : Int := if v < lo then lo else if hi < v then hi else v

/-- The set bits of the low `w` bits of `n`. -/
def popCount : Nat → Nat → Nat
  | 0, _ => 0
  | w + 1, n => n % 2 + popCount w (n / 2)

/-- One step of a reflected CRC with polynomial `poly` (reflected form), over one bit already folded in. -/
def crcBit (poly c : Nat) : Nat := if c % 2 = 1 then (c / 2) ^^^ poly else c / 2

/-- A reflected CRC taken over one byte. -/
def crcByte (poly c b : Nat) : Nat :=
  Nat.repeat (crcBit poly) 8 (c ^^^ (b % 256))

/-- CRC-32C (Castagnoli, reflected 0x82F63B78, initial and final all ones) of a byte list. -/
def crc32c (bs : List Nat) : Nat :=
  (bs.foldl (crcByte 0x82F63B78) 0xFFFFFFFF) ^^^ 0xFFFFFFFF

/-- The IEEE 802.3 CRC-32 (reflected 0xEDB88320, initial and final all ones) of a byte list. -/
def crc32 (bs : List Nat) : Nat :=
  (bs.foldl (crcByte 0xEDB88320) 0xFFFFFFFF) ^^^ 0xFFFFFFFF

/-- The number whose big-endian bytes are `bs` (R8). -/
def beNat (bs : List Nat) : Nat := bs.foldl (fun a b => a * 256 + b % 256) 0

/-- The low `n` bytes of `v`, most significant first (R8). -/
def beBytes : Nat → Nat → List Nat
  | 0, _ => []
  | n + 1, v => (v / 256 ^ n % 256) :: beBytes n v

/-- The elements of a list with their positions, from `i` on. -/
def indexed {α : Type} : Nat → List α → List (Nat × α)
  | _, [] => []
  | i, a :: as => (i, a) :: indexed (i + 1) as

/-- `n` replaced in bit `i` by `b`. -/
def setBit (n i : Nat) (b : Bool) : Nat :=
  (n / 2 ^ (i + 1)) * 2 ^ (i + 1) + (b2n b) * 2 ^ i + n % 2 ^ i

/-- The median of three readings' positions: a list sorted rising by insertion. -/
def insertSorted (x : Int) : List Int → List Int
  | [] => [x]
  | y :: ys => if x ≤ y then x :: y :: ys else y :: insertSorted x ys

def sortInts (l : List Int) : List Int := l.foldr insertSorted []

end Sys2Proof.Machine
end

