-- ==== Sys2Proof/Machine/Crypto.lean ====
section
/-! DEFINITION. The standard functions that the protocols name: SHA-256 and SHA-384 (FIPS 180-4), HMAC (RFC 2104), HKDF (RFC 5869),
ECDSA over P-256 and P-384 (FIPS 186-5) and AES-256-GCM (FIPS 197, SP 800-38D). The manual names them (R38, R39, R297, R369, R372, R374,
R377, R379); their contents are those of the standards (PRESUMED, log entry 95). Byte strings are lists, first byte first. -/
namespace Sys2Proof.Machine

/-! ### SHA-2 -/

/-- A member of SHA-2: its word length, its rounds, and the rotations of its four functions; the last of the small ones is a shift. -/
structure Sha2 where
  w : Nat
  rounds : Nat
  big0 : List Nat
  big1 : List Nat
  small0 : List Nat × Nat
  small1 : List Nat × Nat
deriving DecidableEq, Repr

/-- SHA-256. -/
def sha2Short : Sha2 := ⟨32, 64, [2, 13, 22], [6, 11, 25], ([7, 18], 3), ([17, 19], 10)⟩
/-- SHA-384 and SHA-512. -/
def sha2Long : Sha2 := ⟨64, 80, [28, 34, 39], [14, 18, 41], ([1, 8], 7), ([19, 61], 6)⟩

/-- The round constants at 64 bits; SHA-256 takes their upper halves. -/
def sha2K : List Nat :=
  [0x428A2F98D728AE22, 0x7137449123EF65CD, 0xB5C0FBCFEC4D3B2F, 0xE9B5DBA58189DBBC, 0x3956C25BF348B538,
   0x59F111F1B605D019, 0x923F82A4AF194F9B, 0xAB1C5ED5DA6D8118, 0xD807AA98A3030242, 0x12835B0145706FBE,
   0x243185BE4EE4B28C, 0x550C7DC3D5FFB4E2, 0x72BE5D74F27B896F, 0x80DEB1FE3B1696B1, 0x9BDC06A725C71235,
   0xC19BF174CF692694, 0xE49B69C19EF14AD2, 0xEFBE4786384F25E3, 0x0FC19DC68B8CD5B5, 0x240CA1CC77AC9C65] ++
  [0x2DE92C6F592B0275, 0x4A7484AA6EA6E483, 0x5CB0A9DCBD41FBD4, 0x76F988DA831153B5, 0x983E5152EE66DFAB,
   0xA831C66D2DB43210, 0xB00327C898FB213F, 0xBF597FC7BEEF0EE4, 0xC6E00BF33DA88FC2, 0xD5A79147930AA725,
   0x06CA6351E003826F, 0x142929670A0E6E70, 0x27B70A8546D22FFC, 0x2E1B21385C26C926, 0x4D2C6DFC5AC42AED,
   0x53380D139D95B3DF, 0x650A73548BAF63DE, 0x766A0ABB3C77B2A8, 0x81C2C92E47EDAEE6, 0x92722C851482353B] ++
  [0xA2BFE8A14CF10364, 0xA81A664BBC423001, 0xC24B8B70D0F89791, 0xC76C51A30654BE30, 0xD192E819D6EF5218,
   0xD69906245565A910, 0xF40E35855771202A, 0x106AA07032BBD1B8, 0x19A4C116B8D2D0C8, 0x1E376C085141AB53,
   0x2748774CDF8EEB99, 0x34B0BCB5E19B48A8, 0x391C0CB3C5C95A63, 0x4ED8AA4AE3418ACB, 0x5B9CCA4F7763E373,
   0x682E6FF3D6B2B8A3, 0x748F82EE5DEFB2FC, 0x78A5636F43172F60, 0x84C87814A1F0AB72, 0x8CC702081A6439EC] ++
  [0x90BEFFFA23631E28, 0xA4506CEBDE82BDE9, 0xBEF9A3F7B2C67915, 0xC67178F2E372532B, 0xCA273ECEEA26619C,
   0xD186B8C721C0C207, 0xEADA7DD6CDE0EB1E, 0xF57D4F7FEE6ED178, 0x06F067AA72176FBA, 0x0A637DC5A2C898A6,
   0x113F9804BEF90DAE, 0x1B710B35131C471B, 0x28DB77F523047D84, 0x32CAAB7B40C72493, 0x3C9EBE0A15C9BEBC,
   0x431D67C49C100D4C, 0x4CC5D4BECB3E42B6, 0x597F299CFC657E2A, 0x5FCB6FAB3AD6FAEC, 0x6C44198C4A475817]

/-- The initial value of SHA-256. -/
def sha256H : List Nat :=
  [0x6A09E667, 0xBB67AE85, 0x3C6EF372, 0xA54FF53A, 0x510E527F, 0x9B05688C, 0x1F83D9AB, 0x5BE0CD19]

/-- The initial value of SHA-384. -/
def sha384H : List Nat :=
  [0xCBBB9D5DC1059ED8, 0x629A292A367CD507, 0x9159015A3070DD17, 0x152FECD8F70E5939, 0x67332667FFC00B31,
   0x8EB44A8768581511, 0xDB0C2E0D64F98FA7, 0x47B5481DBEFA4FA4]

/-- A word rotated right. -/
def Sha2.rotr (h : Sha2) (n x : Nat) : Nat := x / 2 ^ n + x % 2 ^ n * 2 ^ (h.w - n)
/-- The exclusive or of a word's rotations. -/
def Sha2.rots (h : Sha2) (l : List Nat) (x : Nat) : Nat := l.foldl (fun a n => a ^^^ h.rotr n x) 0

/-- The message schedule: the words of a block, last first, extended by n. -/
def Sha2.schedule (h : Sha2) : Nat → List Nat → List Nat
  | 0, l => l
  | n + 1, l =>
    let at_ (i : Nat) : Nat := (l[i]?).getD 0
    let small (p : List Nat × Nat) (x : Nat) : Nat := h.rots p.1 x ^^^ (x / 2 ^ p.2)
    Sha2.schedule h n (((small h.small1 (at_ 1) + at_ 6 + small h.small0 (at_ 14) + at_ 15) % 2 ^ h.w) :: l)

/-- One round on the eight working words, with the sum of its constant and its schedule word. -/
def Sha2.round (h : Sha2) (v : List Nat) (kw : Nat) : List Nat :=
  match v with
  | [a, b, c, d, e, f, g, i] =>
    let ones := 2 ^ h.w - 1
    let t := i + h.rots h.big1 e + ((e &&& f) ^^^ ((ones ^^^ e) &&& g)) + kw
    [(t + h.rots h.big0 a + ((a &&& b) ^^^ (a &&& c) ^^^ (b &&& c))) % 2 ^ h.w, a, b, c, (d + t) % 2 ^ h.w, e, f, g]
  | _ => v

/-- A byte string cut into pieces of n bytes, `fuel` of them. -/
def chunks (n : Nat) : Nat → List Nat → List (List Nat)
  | 0, _ => []
  | fuel + 1, l => if l = [] then [] else l.take n :: chunks n fuel (l.drop n)

/-- One block. -/
def Sha2.block (h : Sha2) (v : List Nat) (b : List Nat) : List Nat :=
  let words := (chunks (h.w / 8) 16 b).map beNat
  let sched := (h.schedule (h.rounds - 16) words.reverse).reverse
  let kw := List.zipWith (fun k x => k / 2 ^ (64 - h.w) + x) sha2K sched
  List.zipWith (fun x y => (x + y) % 2 ^ h.w) v (kw.foldl h.round v)

/-- A message padded to whole blocks: a one bit, zeros, and its length in bits. -/
def Sha2.pad (h : Sha2) (m : List Nat) : List Nat :=
  let b := 2 * h.w
  let n := m.length + 1 + h.w / 4
  m ++ [128] ++ List.replicate ((b - n % b) % b) 0 ++ beBytes (h.w / 4) (8 * m.length)

/-- The digest of a message: n bytes. -/
def Sha2.digest (h : Sha2) (init : List Nat) (n : Nat) (m : List Nat) : List Nat :=
  let p := h.pad m
  (((chunks (2 * h.w) p.length p).foldl h.block init).flatMap (fun x => beBytes (h.w / 8) x)).take n

/-- SHA-256. -/
def sha256 (m : List Nat) : List Nat := sha2Short.digest sha256H 32 m
/-- SHA-384. -/
def sha384 (m : List Nat) : List Nat := sha2Long.digest sha384H 48 m

/-- HMAC of a hash with blocks of b bytes. -/
def hmac (hash : List Nat → List Nat) (b : Nat) (key m : List Nat) : List Nat :=
  let k := if b < key.length then hash key else key
  let k := k ++ List.replicate (b - k.length) 0
  hash (k.map (fun x => x ^^^ 0x5C) ++ hash (k.map (fun x => x ^^^ 0x36) ++ m))

/-- HMAC-SHA-256. -/
def hmacSha256 (key m : List Nat) : List Nat := hmac sha256 64 key m

/-- The expansion of HKDF: n more blocks after block `t`, numbered from i. -/
def hkdfExpand (prk info : List Nat) : Nat → Nat → List Nat → List Nat
  | 0, _, _ => []
  | n + 1, i, t =>
    let x := hmac sha384 128 prk (t ++ info ++ [i])
    x ++ hkdfExpand prk info n (i + 1) x

/-- HKDF-SHA-384 to n bytes. -/
def hkdf384 (key salt info : List Nat) (n : Nat) : List Nat :=
  (hkdfExpand (hmac sha384 128 salt key) info ((n + 47) / 48) 1 []).take n

/-! ### ECDSA -/

/-- A curve y² = x³ − 3x + b over a prime field, its base point and the base point's order. -/
structure Curve where
  p : Nat
  b : Nat
  n : Nat
  gx : Nat
  gy : Nat
  bytes : Nat
deriving DecidableEq, Repr

/-- P-256. -/
def curve256 : Curve :=
  ⟨2 ^ 256 - 2 ^ 224 + 2 ^ 192 + 2 ^ 96 - 1, 0x5AC635D8AA3A93E7B3EBBD55769886BC651D06B0CC53B0F63BCE3C3E27D2604B,
    0xFFFFFFFF00000000FFFFFFFFFFFFFFFFBCE6FAADA7179E84F3B9CAC2FC632551,
    0x6B17D1F2E12C4247F8BCE6E563A440F277037D812DEB33A0F4A13945D898C296,
    0x4FE342E2FE1A7F9B8EE7EB4A7C0F9E162BCE33576B315ECECBB6406837BF51F5, 32⟩
/-- P-384. -/
def curve384 : Curve :=
  ⟨2 ^ 384 - 2 ^ 128 - 2 ^ 96 + 2 ^ 32 - 1,
    0xB3312FA7E23EE7E4988E056BE3F82D19181D9C6EFE8141120314088F5013875AC656398D8A2ED19D2A85C8EDD3EC2AEF,
    0xFFFFFFFFFFFFFFFFFFFFFFFFFFFFFFFFFFFFFFFFFFFFFFFFC7634D81F4372DDF581A0DB248B0A77AECEC196ACCC52973,
    0xAA87CA22BE8B05378EB1C71EF320AD746E1D3B628BA79B9859F741E082542A385502F25DBF55296C3A545E3872760AB7,
    0x3617DE4A96262C6F5D9E98BF9292DC29F8F41DBD289A147CE9DA3113B5F0B8C00A60B1CE1D7E819D7A431D7C90EA0E5F, 48⟩

/-- b to the power e modulo m, over the low `bits` bits of e. -/
def powMod (m b e : Nat) : Nat → Nat
  | 0 => 1
  | bits + 1 =>
    let r := powMod m b e bits
    -- the bits are taken from the highest down: bit `bits` of the reversed count
    r * r % m * (if bitOf e (8 * 64 - 1 - bits) then b else 1) % m

/-- The inverse modulo a prime, by Fermat. -/
def invMod (m x : Nat) : Nat := powMod m x (m - 2) 512

/-- The sum of two points; none is the point at infinity. -/
def Curve.add (c : Curve) (u v : Option (Nat × Nat)) : Option (Nat × Nat) :=
  match u, v with
  | none, q => q
  | q, none => q
  | some (x1, y1), some (x2, y2) =>
    if x1 = x2 ∧ (y1 + y2) % c.p = 0 then none
    else
      let l := if x1 = x2 then (3 * x1 * x1 + c.p - 3) % c.p * invMod c.p (2 * y1 % c.p) % c.p
        else (y2 + c.p - y1) % c.p * invMod c.p ((x2 + c.p - x1) % c.p) % c.p
      let x := (l * l + 2 * c.p - x1 - x2) % c.p
      some (x, (l * ((x1 + c.p - x) % c.p) + c.p - y1) % c.p)

/-- A multiple of a point, over the high `bits` of 384 bits. -/
def Curve.mul (c : Curve) (k : Nat) (q : Option (Nat × Nat)) : Nat → Option (Nat × Nat)
  | 0 => none
  | bits + 1 =>
    let r := Curve.mul c k q bits
    let d := c.add r r
    if bitOf k (384 - 1 - bits) then c.add d q else d

/-- A signature (r, s) over a digest verifies under a public key (x, y). -/
def Curve.verify (c : Curve) (x y : Nat) (digest : List Nat) (r s : Nat) : Bool :=
  let e := beNat (digest.take c.bytes)
  let w := invMod c.n s
  decide (0 < r) && decide (r < c.n) && decide (0 < s) && decide (s < c.n) && decide (x < c.p) && decide (y < c.p) &&
    (y * y % c.p == (x * x % c.p * x + 3 * (c.p - x) + c.b) % c.p) &&
    (match c.add (c.mul (e * w % c.n) (some (c.gx, c.gy)) 384) (c.mul (r * w % c.n) (some (x, y)) 384) with
     | none => false
     | some (v, _) => v % c.n == r)

/-! ### AES-256-GCM -/

/-- A byte times x in the field of AES. -/
def aesTwice (b : Nat) : Nat := if b < 128 then 2 * b else (2 * b) ^^^ 0x11B
/-- A product in the field of AES. -/
def aesMul (a b : Nat) : Nat :=
  ((List.range 8).foldl (fun (r : Nat × Nat) i => (if bitOf b i then r.1 ^^^ r.2 else r.1, aesTwice r.2)) (0, a)).1
/-- The inverse in the field of AES, 0 of 0: the power 254. -/
def aesInv (b : Nat) : Nat := ((List.range 6).foldl (fun a _ => aesMul (aesMul a a) b) b |> fun a => aesMul a a)
/-- The substitution of a byte. -/
def aesSub (b : Nat) : Nat :=
  let v := aesInv b
  let rot (n : Nat) : Nat := (v * 2 ^ n + v / 2 ^ (8 - n)) % 256
  v ^^^ rot 1 ^^^ rot 2 ^^^ rot 3 ^^^ rot 4 ^^^ 0x63

/-- The key schedule: n more words of four bytes, the last first. -/
def aesExpand (i : Nat) : Nat → List (List Nat) → List (List Nat)
  | 0, l => l
  | n + 1, l =>
    let prev := l.headD []
    let old := (l[7]?).getD []
    let rcon := Nat.repeat aesTwice (i / 8 - 1) 1
    let t := if i % 8 = 0 then
        List.zipWith (· ^^^ ·) ((prev.drop 1 ++ prev.take 1).map aesSub) [rcon, 0, 0, 0]
      else if i % 8 = 4 then prev.map aesSub else prev
    aesExpand (i + 1) n (List.zipWith (· ^^^ ·) old t :: l)

/-- The 15 round keys, 16 bytes each. -/
def aesKeys (key : List Nat) : List (List Nat) :=
  chunks 16 15 ((aesExpand 8 52 ((chunks 4 8 key).reverse)).reverse.flatten)

/-- The rows shifted: byte r of column c comes from column c + r. -/
def aesShift (b : List Nat) : List Nat := (List.range 16).map (fun i => (b[(i + 4 * (i % 4)) % 16]?).getD 0)
/-- A column mixed. -/
def aesColumn (b : List Nat) : List Nat :=
  (List.range 4).map (fun i =>
    let at_ (k : Nat) : Nat := (b[(i + k) % 4]?).getD 0
    aesTwice (at_ 0) ^^^ aesTwice (at_ 1) ^^^ at_ 1 ^^^ at_ 2 ^^^ at_ 3)

/-- One block enciphered under AES-256. -/
def aesBlock (key b : List Nat) : List Nat :=
  let ks := aesKeys key
  let k (i : Nat) : List Nat := (ks[i]?).getD []
  let last := (List.range 13).foldl (fun v i =>
    List.zipWith (· ^^^ ·) ((chunks 4 4 (aesShift (v.map aesSub))).flatMap aesColumn) (k (i + 1))) (List.zipWith (· ^^^ ·) b (k 0))
  List.zipWith (· ^^^ ·) (aesShift (last.map aesSub)) (k 14)

/-- A product in the field of GHASH, bit 0 being the most significant of 128. -/
def ghashMul (x y : Nat) : Nat :=
  ((List.range 128).foldl (fun (r : Nat × Nat) i =>
    (if bitOf x (127 - i) then r.1 ^^^ r.2 else r.1, if r.2 % 2 = 1 then (r.2 / 2) ^^^ (0xE1 * 2 ^ 120) else r.2 / 2)) (0, y)).1

/-- A string filled with zeros to whole blocks of 16 bytes. -/
def zeroFill (l : List Nat) : List Nat := l ++ List.replicate ((16 - l.length % 16) % 16) 0

/-- AES-256-GCM under a key, a 12-byte nonce and additional data: the ciphertext and its 16-byte tag. -/
def gcmSeal (key nonce aad plain : List Nat) : List Nat × List Nat :=
  let h := beNat (aesBlock key (List.replicate 16 0))
  let stream (n : Nat) : List Nat := aesBlock key (nonce ++ beBytes 4 n)
  let c := (indexed 0 (chunks 16 plain.length plain)).flatMap (fun p => List.zipWith (· ^^^ ·) p.2 (stream (p.1 + 2)))
  let all := zeroFill aad ++ zeroFill c ++ beBytes 8 (8 * aad.length) ++ beBytes 8 (8 * c.length)
  let s := (chunks 16 all.length all).foldl (fun a b => ghashMul (a ^^^ beNat b) h) 0
  (c, List.zipWith (· ^^^ ·) (beBytes 16 s) (stream 1))

end Sys2Proof.Machine
end

