-- ==== Sys2Proof/Machine/Catalogue.lean ====
section
/-! DEFINITION. The Catalogue (22_catalogue_index.md and every call card): each object's elements, fields, types,
access classes, defaults and simple ranges, and the keyed store that holds the values that differ from their defaults. -/
namespace Sys2Proof.Machine

/-- A call number without its ELEMENT_PRESENT bit: index, element, sub-index (R29). Indices from 0x10000 on name the
model's internal registers, which no address reaches. -/
structure Key where
  idx : Nat
  el : Nat
  sub : Nat
deriving DecidableEq, Repr

/-- The types of Table 2.2 (R30). -/
inductive Ty
  | bool | u8 | u16 | u32 | u64 | i8 | i16 | i32 | i64 | lt | span | fx18 | enum8 | bits32 | bits64 | str32
  | octets (n : Nat) | shelf | ip16 | mac48
deriving DecidableEq, Repr

/-- The access classes of Table 2.3 (R31). -/
inductive Access
  | ro | rw | wo | rws | rwm | wos | rc
deriving DecidableEq, Repr

/-- The range a call card states for a written value, where one field alone decides it. -/
inductive Range
  /-- Any value of the type. -/
  | any
  /-- From `lo` to `hi`, both included. -/
  | range (lo hi : Int)
  /-- From `lo` to `hi`, or exactly `x`. -/
  | rangeOr (lo hi x : Int)
  /-- An even value from `lo` to `hi`. -/
  | even (lo hi : Int)
  /-- No bit outside `m` set. -/
  | mask (m : Nat)
  /-- One of the values listed. -/
  | vals (l : List Int)
deriving DecidableEq, Repr

/-- How a field's default is given. -/
inductive Dflt
  | const (v : Int)
  /-- base + mul × element. -/
  | elem (base mul : Int)
  /-- `a` below element `n`, else `b`. -/
  | below (n : Nat) (a b : Int)
  /-- Entry i = 16 i of the 64 entries this sub-index holds (Table 11.4). -/
  | lut
  /-- ENTRIES of a gate list: entry 0 is 0xFF00_0000_0327_7EC0, the rest zero (Table 9.6). -/
  | gates
  /-- The identity matrix in FX18 (Table 11.3). -/
  | diag
  /-- Bits 0 to 4,409 of 4,416 set (Table 8.5a). -/
  | slotsAll
  /-- The address of a control port, or of a MAC, in the part's block (R437). -/
  | macCtl | macNet
  /-- From OTP, image, flash, fuses or boot ROM. -/
  | fused
  /-- The default severity of the fault source (Tables 16.2 to 16.4). -/
  | severity
  | sevFixed | srcOwner | srcName | islandName | islandClock
deriving DecidableEq, Repr

/-- Sub-indices `lo` to `hi` of one object, alike in all but their place. -/
structure FieldDef where
  lo : Nat
  hi : Nat
  ty : Ty
  acc : Access
  dflt : Dflt
  chk : Range
deriving DecidableEq, Repr

/-- One object of the index: `count` elements (0: no array), `edgeOnly` for Role E (R429). -/
structure ObjDef where
  idx : Nat
  count : Nat
  edgeOnly : Bool
  fields : List FieldDef
deriving DecidableEq, Repr

namespace Cat

/-- The objects of index range 1000 (22_catalogue_index.md, and the call cards it names). -/
def objectsConfig : List ObjDef := [
  ⟨0x1000, 0, false, [ -- IDENTITY
    ⟨0, 0, .u8, .ro, .const 7, .any⟩,
    ⟨1, 1, .u32, .ro, .const 1536, .any⟩,
    ⟨2, 2, .u8, .ro, .const 66, .any⟩,
    ⟨3, 3, .octets 16, .ro, .fused, .any⟩,
    ⟨4, 4, .u32, .ro, .fused, .any⟩,
    ⟨5, 5, .u32, .ro, .fused, .any⟩,
    ⟨6, 6, .u8, .ro, .const 0, .any⟩,
    ⟨7, 7, .bool, .ro, .const 0, .any⟩]⟩,
  ⟨0x1010, 0, false, [ -- ROLE
    ⟨0, 0, .enum8, .ro, .const 0, .any⟩]⟩,
  ⟨0x1100, 0, false, [ -- MODE
    ⟨0, 0, .u8, .ro, .const 2, .any⟩,
    ⟨1, 1, .enum8, .rws, .const 0, .range 0 7⟩,
    ⟨2, 2, .enum8, .rws, .const 0, .range 0 7⟩]⟩,
  ⟨0x1101, 0, false, [ -- MODE_ACTIVE
    ⟨0, 0, .enum8, .ro, .const 0, .any⟩]⟩,
  ⟨0x1102, 0, false, [ -- MODE_HISTORY
    ⟨0, 0, .u8, .ro, .const 4, .any⟩,
    ⟨1, 1, .lt, .ro, .const 0, .any⟩,
    ⟨2, 2, .enum8, .ro, .const 0, .any⟩,
    ⟨3, 3, .u32, .rc, .const 0, .any⟩,
    ⟨4, 4, .enum8, .ro, .const 0, .any⟩]⟩,
  ⟨0x1110, 0, false, [ -- POWER
    ⟨0, 0, .u8, .ro, .const 3, .any⟩,
    ⟨1, 1, .u16, .ro, .const 260, .any⟩,
    ⟨2, 2, .u16, .ro, .const 0, .any⟩,
    ⟨3, 3, .u16, .ro, .const 0, .any⟩]⟩,
  ⟨0x1120, 0, false, [ -- SUPPLY
    ⟨0, 0, .u8, .ro, .const 6, .any⟩,
    ⟨1, 1, .u16, .ro, .fused, .any⟩,
    ⟨2, 2, .u16, .ro, .const 7500, .any⟩,
    ⟨3, 3, .u16, .ro, .const 0, .any⟩,
    ⟨4, 4, .i16, .ro, .const 0, .any⟩,
    ⟨5, 5, .enum8, .ro, .const 0, .any⟩,
    ⟨6, 6, .u32, .rc, .const 0, .any⟩]⟩,
  ⟨0x1200, 0, false, [ -- READY
    ⟨0, 0, .bits64, .ro, .const 0, .any⟩]⟩,
  ⟨0x1201, 64, false, [ -- READY_TIME
    ⟨0, 0, .u8, .ro, .const 3, .any⟩,
    ⟨1, 1, .span, .ro, .const 0, .any⟩,
    ⟨2, 2, .lt, .ro, .const 0, .any⟩,
    ⟨3, 3, .u32, .rc, .const 0, .any⟩]⟩,
  ⟨0x1210, 47, false, [ -- ISLAND
    ⟨0, 0, .u8, .ro, .const 9, .any⟩,
    ⟨1, 1, .str32, .ro, .islandName, .any⟩,
    ⟨2, 2, .u64, .ro, .islandClock, .any⟩,
    ⟨3, 3, .enum8, .ro, .const 2, .any⟩,
    ⟨4, 4, .u32, .rc, .const 0, .any⟩,
    ⟨5, 5, .lt, .ro, .const 0, .any⟩,
    ⟨6, 6, .u64, .rc, .const 0, .any⟩,
    ⟨7, 7, .u32, .rc, .const 0, .any⟩,
    ⟨8, 8, .u32, .rc, .const 0, .any⟩,
    ⟨9, 9, .enum8, .ro, .const 0, .any⟩]⟩,
  ⟨0x1300, 0, false, [ -- LOAN
    ⟨0, 0, .u8, .ro, .const 9, .any⟩,
    ⟨1, 1, .enum8, .ro, .const 0, .any⟩,
    ⟨2, 2, .u32, .ro, .const 0, .any⟩,
    ⟨3, 3, .lt, .ro, .const 0, .any⟩,
    ⟨4, 4, .lt, .ro, .const 0, .any⟩,
    ⟨5, 5, .bool, .ro, .const 0, .any⟩,
    ⟨6, 6, .enum8, .ro, .const 0, .any⟩,
    ⟨7, 7, .u64, .rc, .const 0, .any⟩,
    ⟨8, 8, .bool, .wo, .const 0, .any⟩,
    ⟨9, 9, .u64, .ro, .const 0, .any⟩]⟩,
  ⟨0x1310, 0, false, [ -- LOAN_PRESENT
    ⟨0, 0, .bool, .ro, .const 0, .any⟩]⟩,
  ⟨0x1320, 0, true, [ -- PAIRING
    ⟨0, 0, .u8, .ro, .const 6, .any⟩,
    ⟨1, 1, .enum8, .ro, .const 1, .any⟩,
    ⟨2, 2, .enum8, .ro, .const 0, .any⟩,
    ⟨3, 3, .u8, .ro, .const 255, .any⟩,
    ⟨4, 4, .u32, .ro, .const 0, .any⟩,
    ⟨5, 5, .u32, .rc, .const 0, .any⟩,
    ⟨6, 6, .u64, .rc, .const 0, .any⟩]⟩,
  ⟨0x1400, 0, false, [ -- SESSION
    ⟨0, 0, .u8, .ro, .const 11, .any⟩,
    ⟨1, 1, .u32, .ro, .const 0, .any⟩,
    ⟨2, 2, .enum8, .ro, .const 0, .any⟩,
    ⟨3, 3, .u64, .ro, .const 0, .any⟩,
    ⟨4, 4, .lt, .ro, .const 0, .any⟩,
    ⟨5, 5, .u32, .ro, .const 0, .any⟩,
    ⟨6, 6, .u32, .ro, .const 0, .any⟩,
    ⟨7, 7, .u16, .ro, .const 1436, .any⟩,
    ⟨8, 8, .u64, .rc, .const 0, .any⟩,
    ⟨9, 9, .u64, .rc, .const 0, .any⟩,
    ⟨10, 10, .u64, .rc, .const 0, .any⟩,
    ⟨11, 11, .u16, .ro, .const 0, .any⟩]⟩,
  ⟨0x1410, 2, false, [ -- CTL_PORT
    ⟨0, 0, .u8, .ro, .const 6, .any⟩,
    ⟨1, 1, .mac48, .ro, .macCtl, .any⟩,
    ⟨2, 2, .ip16, .rwm, .const 0, .any⟩,
    ⟨3, 3, .u8, .rwm, .const 16, .range 8 30⟩,
    ⟨4, 4, .u16, .ro, .const 47321, .any⟩,
    ⟨5, 5, .bool, .rwm, .const 0, .any⟩,
    ⟨6, 6, .bool, .ro, .const 0, .any⟩]⟩,
  ⟨0x1500, 0, false, [ -- STANDING_COMMIT
    ⟨0, 0, .u8, .ro, .const 8, .any⟩,
    ⟨1, 1, .bool, .wo, .const 0, .any⟩,
    ⟨2, 2, .enum8, .ro, .const 0, .any⟩,
    ⟨3, 3, .lt, .ro, .const 0, .any⟩,
    ⟨4, 4, .u64, .ro, .const 0, .any⟩,
    ⟨5, 5, .enum8, .ro, .const 0, .any⟩,
    ⟨6, 6, .enum8, .rw, .const 0, .range 0 1⟩,
    ⟨7, 7, .u32, .ro, .const 0, .any⟩,
    ⟨8, 8, .u32, .ro, .const 0, .any⟩]⟩,
  ⟨0x1600, 16, false, [ -- GPI
    ⟨0, 0, .u8, .ro, .const 9, .any⟩,
    ⟨1, 1, .bool, .rw, .const 0, .any⟩,
    ⟨2, 2, .span, .rw, .const 52920000, .range 5292000 5292000000⟩,
    ⟨3, 3, .u8, .rw, .const 8, .range 2 255⟩,
    ⟨4, 4, .span, .rw, .const 2646000000, .range 529200000 52920000000⟩,
    ⟨5, 5, .span, .rw, .const 3175200000000, .rangeOr 52920000000 190512000000000 0⟩,
    ⟨6, 6, .bool, .ro, .const 0, .any⟩,
    ⟨7, 7, .enum8, .ro, .const 0, .any⟩,
    ⟨8, 8, .u64, .rc, .const 0, .any⟩,
    ⟨9, 9, .lt, .ro, .const 0, .any⟩]⟩,
  ⟨0x1610, 16, false, [ -- GPO
    ⟨0, 0, .u8, .ro, .const 2, .any⟩,
    ⟨1, 1, .bool, .rw, .const 0, .any⟩,
    ⟨2, 2, .bool, .ro, .const 0, .any⟩]⟩,
  ⟨0x1700, 0, true, [ -- GOB
    ⟨0, 0, .u8, .ro, .const 4, .any⟩,
    ⟨1, 1, .octets 12, .ro, .const 0, .any⟩,
    ⟨2, 2, .bool, .rw, .const 0, .any⟩,
    ⟨3, 3, .bool, .rw, .const 0, .any⟩,
    ⟨4, 4, .u64, .rc, .const 0, .any⟩]⟩]

/-- The objects of index range 2000 (22_catalogue_index.md, and the call cards it names). -/
def objectsTime : List ObjDef := [
  ⟨0x2000, 0, false, [ -- TIME_NOW
    ⟨0, 0, .lt, .ro, .const 0, .any⟩]⟩,
  ⟨0x2001, 0, false, [ -- TIME_STATE
    ⟨0, 0, .enum8, .ro, .const 0, .any⟩]⟩,
  ⟨0x2010, 0, false, [ -- TIME_INCREMENT
    ⟨0, 0, .u64, .rw, .const 227289669304, .range 227176024470 227403314138⟩]⟩,
  ⟨0x2020, 0, false, [ -- TIME_STEP
    ⟨0, 0, .u8, .ro, .const 2, .any⟩,
    ⟨1, 1, .span, .wo, .const 0, .any⟩,
    ⟨2, 2, .bool, .wo, .const 0, .any⟩]⟩,
  ⟨0x2021, 0, false, [ -- STEP_LIMIT
    ⟨0, 0, .span, .rwm, .const 52920000, .range 0 529200000000⟩]⟩,
  ⟨0x2022, 0, false, [ -- STEP_STATUS
    ⟨0, 0, .u8, .ro, .const 6, .any⟩,
    ⟨1, 1, .span, .ro, .const 0, .any⟩,
    ⟨2, 2, .enum8, .ro, .const 0, .any⟩,
    ⟨3, 3, .lt, .ro, .const 0, .any⟩,
    ⟨4, 4, .enum8, .ro, .const 0, .any⟩,
    ⟨5, 5, .u32, .rc, .const 0, .any⟩,
    ⟨6, 6, .span, .ro, .const 0, .any⟩]⟩,
  ⟨0x2030, 0, false, [ -- DISCIPLINE
    ⟨0, 0, .u8, .ro, .const 6, .any⟩,
    ⟨1, 1, .enum8, .rw, .const 0, .range 0 1⟩,
    ⟨2, 2, .enum8, .ro, .const 0, .any⟩,
    ⟨3, 3, .span, .rw, .const 1058400, .any⟩,
    ⟨4, 4, .u8, .ro, .const 255, .any⟩,
    ⟨5, 5, .span, .ro, .const 0, .any⟩,
    ⟨6, 6, .span, .ro, .const 0, .any⟩]⟩,
  ⟨0x2040, 19, false, [ -- PTP_PORT
    ⟨0, 0, .u8, .ro, .const 9, .any⟩,
    ⟨1, 1, .bool, .rw, .below 2 1 0, .any⟩,
    ⟨2, 2, .u8, .rw, .const 127, .range 0 127⟩,
    ⟨3, 3, .enum8, .rw, .const 0, .range 0 1⟩,
    ⟨4, 4, .enum8, .ro, .const 0, .any⟩,
    ⟨5, 5, .octets 8, .ro, .const 0, .any⟩,
    ⟨6, 6, .span, .ro, .const 0, .any⟩,
    ⟨7, 7, .span, .ro, .const 0, .any⟩,
    ⟨8, 8, .u8, .rw, .const 3, .range 2 10⟩,
    ⟨9, 9, .span, .rw, .const 0, .any⟩]⟩,
  ⟨0x2050, 19, false, [ -- TIMESTAMP_CAPTURE
    ⟨0, 0, .u8, .ro, .const 3, .any⟩,
    ⟨1, 1, .enum8, .rw, .const 0, .range 0 3⟩,
    ⟨2, 2, .lt, .ro, .const 0, .any⟩,
    ⟨3, 3, .u32, .rc, .const 0, .any⟩]⟩,
  ⟨0x2100, 0, false, [ -- REF_STATE
    ⟨0, 0, .u8, .ro, .const 7, .any⟩,
    ⟨1, 1, .enum8, .ro, .const 0, .any⟩,
    ⟨2, 2, .lt, .ro, .const 0, .any⟩,
    ⟨3, 3, .enum8, .ro, .const 0, .any⟩,
    ⟨4, 4, .u32, .rc, .const 0, .any⟩,
    ⟨5, 5, .bool, .ro, .const 0, .any⟩,
    ⟨6, 6, .i32, .ro, .const 0, .any⟩,
    ⟨7, 7, .i32, .ro, .const 0, .any⟩]⟩,
  ⟨0x2110, 5, false, [ -- REF_CANDIDATE
    ⟨0, 0, .u8, .ro, .const 7, .any⟩,
    ⟨1, 1, .u8, .ro, .fused, .any⟩,
    ⟨2, 2, .u32, .ro, .const 2000000, .any⟩,
    ⟨3, 3, .enum8, .ro, .const 1, .any⟩,
    ⟨4, 4, .i32, .ro, .const 0, .any⟩,
    ⟨5, 5, .lt, .ro, .const 0, .any⟩,
    ⟨6, 6, .u32, .rc, .const 0, .any⟩,
    ⟨7, 7, .bool, .ro, .const 0, .any⟩]⟩,
  ⟨0x2120, 0, false, [ -- REF_SELECTED
    ⟨0, 0, .u8, .ro, .const 4, .any⟩,
    ⟨1, 1, .enum8, .ro, .const 255, .any⟩,
    ⟨2, 2, .lt, .ro, .const 0, .any⟩,
    ⟨3, 3, .span, .ro, .const 0, .any⟩,
    ⟨4, 4, .bits32, .ro, .const 0, .any⟩]⟩,
  ⟨0x2130, 0, false, [ -- HOLDOVER
    ⟨0, 0, .u8, .ro, .const 8, .any⟩,
    ⟨1, 1, .span, .ro, .const 762048000000000, .any⟩,
    ⟨2, 2, .span, .ro, .const 52920, .any⟩,
    ⟨3, 3, .enum8, .ro, .fused, .any⟩,
    ⟨4, 4, .u32, .ro, .fused, .any⟩,
    ⟨5, 5, .span, .ro, .const 0, .any⟩,
    ⟨6, 6, .i32, .ro, .const 0, .any⟩,
    ⟨7, 7, .span, .ro, .const 0, .any⟩,
    ⟨8, 8, .i32, .ro, .const 0, .any⟩]⟩,
  ⟨0x2300, 32, false, [ -- RASTER
    ⟨0, 0, .u8, .ro, .const 7, .any⟩,
    ⟨1, 1, .enum8, .rws, .const 0, .range 0 16⟩,
    ⟨2, 2, .span, .rws, .const 0, .any⟩,
    ⟨3, 3, .lt, .ro, .const 0, .any⟩,
    ⟨4, 4, .span, .ro, .const 0, .any⟩,
    ⟨5, 5, .u64, .ro, .const 0, .any⟩,
    ⟨6, 6, .u32, .rc, .const 0, .any⟩,
    ⟨7, 7, .span, .ro, .const 0, .any⟩]⟩,
  ⟨0x2310, 0, false, [ -- ALIGN
    ⟨0, 0, .u8, .ro, .const 2, .any⟩,
    ⟨1, 1, .bits32, .rws, .const 0, .any⟩,
    ⟨2, 2, .enum8, .rws, .const 0, .range 0 1⟩]⟩,
  ⟨0x2320, 4, false, [ -- FPULSE
    ⟨0, 0, .u8, .ro, .const 4, .any⟩,
    ⟨1, 1, .u8, .rw, .const 255, .rangeOr 0 31 255⟩,
    ⟨2, 2, .u16, .rw, .const 1, .range 1 64⟩,
    ⟨3, 3, .u8, .rw, .const 1, .range 1 255⟩,
    ⟨4, 4, .enum8, .rw, .const 0, .range 0 1⟩]⟩]

/-- The objects of index range 3000 (22_catalogue_index.md, and the call cards it names). -/
def objectsSerial : List ObjDef := [
  ⟨0x3000, 96, true, [ -- SDI_RX
    ⟨0, 0, .u8, .ro, .const 19, .any⟩,
    ⟨1, 1, .enum8, .rw, .const 0, .range 0 5⟩,
    ⟨2, 2, .bool, .rw, .const 0, .any⟩,
    ⟨3, 3, .enum8, .ro, .const 0, .any⟩,
    ⟨4, 4, .enum8, .ro, .const 0, .any⟩,
    ⟨5, 5, .enum8, .ro, .const 0, .any⟩,
    ⟨6, 6, .enum8, .ro, .const 0, .any⟩,
    ⟨7, 7, .octets 4, .ro, .const 0, .any⟩,
    ⟨8, 8, .lt, .ro, .const 0, .any⟩,
    ⟨9, 9, .u8, .rw, .const 255, .rangeOr 0 31 255⟩,
    ⟨10, 10, .span, .ro, .const 0, .any⟩,
    ⟨11, 11, .span, .rw, .const 1058400000, .range 5292000 5292000000⟩,
    ⟨12, 12, .span, .rw, .const 52920000, .range 5292000 5292000000⟩,
    ⟨13, 13, .u8, .rw, .const 8, .range 2 255⟩,
    ⟨14, 14, .span, .rw, .const 2646000000, .range 529200000 52920000000⟩,
    ⟨15, 15, .lt, .ro, .const 0, .any⟩,
    ⟨16, 16, .bits32, .ro, .const 0, .any⟩,
    ⟨17, 17, .span, .ro, .const 0, .any⟩,
    ⟨18, 18, .enum8, .ro, .const 0, .any⟩,
    ⟨19, 19, .u8, .ro, .const 0, .any⟩]⟩,
  ⟨0x3100, 96, true, [ -- SDI_TX
    ⟨0, 0, .u8, .ro, .const 11, .any⟩,
    ⟨1, 1, .bool, .rws, .const 0, .any⟩,
    ⟨2, 2, .u8, .rws, .const 255, .rangeOr 0 31 255⟩,
    ⟨3, 3, .enum8, .rws, .const 0, .range 0 5⟩,
    ⟨4, 4, .enum8, .rws, .const 1, .range 1 2⟩,
    ⟨5, 5, .enum8, .rws, .const 0, .range 0 1⟩,
    ⟨6, 6, .enum8, .rws, .const 0, .range 0 1⟩,
    ⟨7, 7, .u16, .rw, .const 800, .any⟩,
    ⟨8, 8, .u8, .rw, .const 0, .any⟩,
    ⟨9, 9, .bool, .rw, .const 0, .any⟩,
    ⟨10, 10, .enum8, .ro, .const 0, .any⟩,
    ⟨11, 11, .u8, .ro, .elem 0 1, .any⟩]⟩,
  ⟨0x3200, 96, true, [ -- LINK_GROUP
    ⟨0, 0, .u8, .ro, .const 4, .any⟩,
    ⟨1, 1, .u8, .rwm, .const 1, .vals [1, 2, 4]⟩,
    ⟨2, 2, .u8, .rwm, .const 1, .vals [1, 2, 4]⟩,
    ⟨3, 3, .u8, .ro, .elem 0 1, .any⟩,
    ⟨4, 4, .u8, .ro, .elem 0 1, .any⟩]⟩,
  ⟨0x3300, 96, true, [ -- SDI_STATS
    ⟨0, 0, .u8, .ro, .const 15, .any⟩,
    ⟨1, 1, .u64, .rc, .const 0, .any⟩,
    ⟨2, 2, .u64, .rc, .const 0, .any⟩,
    ⟨3, 3, .u64, .rc, .const 0, .any⟩,
    ⟨4, 4, .u64, .rc, .const 0, .any⟩,
    ⟨5, 5, .u64, .rc, .const 0, .any⟩,
    ⟨6, 6, .u64, .rc, .const 0, .any⟩,
    ⟨7, 7, .u64, .rc, .const 0, .any⟩,
    ⟨8, 8, .u64, .rc, .const 0, .any⟩,
    ⟨9, 9, .u64, .rc, .const 0, .any⟩,
    ⟨10, 10, .u64, .rc, .const 0, .any⟩,
    ⟨11, 11, .u64, .rc, .const 0, .any⟩,
    ⟨12, 12, .u64, .rc, .const 0, .any⟩,
    ⟨13, 13, .u64, .rc, .const 0, .any⟩,
    ⟨14, 14, .u64, .rc, .const 0, .any⟩,
    ⟨15, 15, .u64, .rc, .const 0, .any⟩]⟩,
  ⟨0x3400, 96, true, [ -- ANC
    ⟨0, 0, .u8, .ro, .const 10, .any⟩,
    ⟨1, 1, .enum8, .rw, .const 1, .range 0 2⟩,
    ⟨2, 9, .bits32, .rw, .const 0, .any⟩,
    ⟨10, 10, .u16, .ro, .const 16384, .any⟩]⟩,
  ⟨0x3500, 96, true, [ -- EMBED
    ⟨0, 0, .u8, .ro, .const 4, .any⟩,
    ⟨1, 1, .enum8, .rws, .const 1, .range 0 2⟩,
    ⟨2, 2, .bits32, .rws, .const 15, .mask 0xFF⟩,
    ⟨3, 3, .u16, .rws, .elem 0 32, .range 0 8160⟩,
    ⟨4, 4, .bool, .ro, .const 0, .any⟩]⟩]

/-- The objects of index range 4000 (22_catalogue_index.md, and the call cards it names). -/
def objectsNet : List ObjDef := [
  ⟨0x4000, 4, true, [ -- NET_PORT
    ⟨0, 0, .u8, .ro, .const 4, .any⟩,
    ⟨1, 1, .enum8, .rwm, .const 0, .range 0 2⟩,
    ⟨2, 2, .enum8, .rwm, .const 0, .range 0 1⟩,
    ⟨3, 3, .bool, .rwm, .const 1, .any⟩,
    ⟨4, 4, .bool, .ro, .const 0, .any⟩]⟩,
  ⟨0x4010, 16, true, [ -- MAC
    ⟨0, 0, .u8, .ro, .const 11, .any⟩,
    ⟨1, 1, .bool, .ro, .const 0, .any⟩,
    ⟨2, 2, .enum8, .ro, .const 0, .any⟩,
    ⟨3, 3, .u16, .ro, .const 0, .any⟩,
    ⟨4, 4, .u16, .rw, .const 0, .range 0 4094⟩,
    ⟨5, 5, .enum8, .rw, .const 0, .range 0 2⟩,
    ⟨6, 6, .u64, .ro, .const 0, .any⟩,
    ⟨7, 7, .u64, .ro, .const 0, .any⟩,
    ⟨8, 8, .bool, .ro, .const 0, .any⟩,
    ⟨9, 9, .lt, .ro, .const 0, .any⟩,
    ⟨10, 10, .ip16, .rw, .const 281470681743360, .any⟩,
    ⟨11, 11, .u8, .rw, .const 24, .any⟩]⟩,
  ⟨0x4020, 16, true, [ -- MAC_UNICAST
    ⟨0, 0, .u8, .ro, .const 8, .any⟩,
    ⟨1, 1, .mac48, .rw, .macNet, .any⟩,
    ⟨2, 8, .mac48, .rw, .const 0, .any⟩]⟩,
  ⟨0x4030, 16, true, [ -- MAC_HASH
    ⟨0, 0, .u8, .ro, .const 1, .any⟩,
    ⟨1, 1, .octets 512, .rw, .const 0, .any⟩]⟩,
  ⟨0x4040, 16, true, [ -- GATE_LIST
    ⟨0, 0, .u8, .ro, .const 38, .any⟩,
    ⟨1, 1, .bool, .rws, .const 0, .any⟩,
    ⟨2, 2, .lt, .rws, .const 0, .any⟩,
    ⟨3, 3, .span, .rws, .const 52920000, .range 52920 529200000⟩,
    ⟨4, 4, .u16, .rws, .const 1, .range 1 256⟩,
    ⟨5, 36, .octets 64, .rws, .gates, .any⟩,
    ⟨37, 37, .lt, .ro, .const 0, .any⟩,
    ⟨38, 38, .u32, .rc, .const 0, .any⟩]⟩,
  ⟨0x4100, 65536, true, [ -- FLOW
    ⟨0, 0, .u8, .ro, .const 34, .any⟩,
    ⟨1, 1, .bool, .rws, .const 0, .any⟩,
    ⟨2, 2, .enum8, .ro, .const 0, .any⟩,
    ⟨3, 3, .enum8, .rws, .const 0, .range 0 6⟩,
    ⟨4, 4, .enum8, .rws, .const 0, .range 0 16⟩,
    ⟨5, 5, .enum8, .rws, .const 0, .range 0 2⟩,
    ⟨6, 6, .enum8, .rws, .const 0, .range 0 2⟩,
    ⟨7, 7, .enum8, .rws, .const 0, .range 0 3⟩,
    ⟨8, 8, .u8, .rws, .const 2, .range 1 80⟩,
    ⟨9, 9, .u16, .rws, .const 0, .range 0 8191⟩,
    ⟨10, 10, .u8, .rws, .const 255, .rangeOr 0 31 255⟩,
    ⟨11, 11, .span, .rws, .const 0, .any⟩,
    ⟨12, 12, .u64, .rws, .const 0, .any⟩,
    ⟨13, 13, .u8, .rws, .const 5, .range 0 5⟩,
    ⟨14, 14, .u32, .rws, .const 0, .any⟩,
    ⟨15, 15, .u8, .rws, .const 96, .range 96 127⟩,
    ⟨16, 16, .u16, .rws, .const 65535, .any⟩,
    ⟨17, 17, .shelf, .rws, .const 0, .any⟩,
    ⟨18, 18, .u16, .rws, .const 0, .any⟩,
    ⟨19, 19, .span, .rws, .const 0, .any⟩,
    ⟨20, 20, .enum8, .rws, .const 0, .range 0 3⟩,
    ⟨21, 21, .u32, .rws, .const 67633664, .any⟩,
    ⟨22, 22, .enum8, .rws, .const 0, .range 0 1⟩,
    ⟨23, 23, .span, .rws, .const 0, .rangeOr 52920000 529200000000 0⟩,
    ⟨24, 24, .u16, .ro, .const 0, .any⟩,
    ⟨25, 25, .bool, .rws, .const 0, .any⟩,
    ⟨26, 26, .u8, .rws, .const 0, .range 0 15⟩,
    ⟨27, 27, .ip16, .rws, .const 281470681743360, .any⟩,
    ⟨28, 28, .u16, .rws, .const 20000, .any⟩,
    ⟨29, 29, .ip16, .rws, .const 281470681743360, .any⟩,
    ⟨30, 30, .u16, .rws, .const 0, .any⟩,
    ⟨31, 31, .mac48, .rws, .const 0, .any⟩,
    ⟨32, 32, .u8, .rws, .const 34, .range 0 63⟩,
    ⟨33, 33, .u8, .rws, .const 64, .range 1 255⟩,
    ⟨34, 34, .enum8, .ro, .const 0, .any⟩]⟩,
  ⟨0x4200, 16384, true, [ -- CONCORDANCE
    ⟨0, 0, .u8, .ro, .const 13, .any⟩,
    ⟨1, 1, .u64, .rc, .const 0, .any⟩,
    ⟨2, 2, .u64, .rc, .const 0, .any⟩,
    ⟨3, 3, .u64, .rc, .const 0, .any⟩,
    ⟨4, 4, .u64, .rc, .const 0, .any⟩,
    ⟨5, 5, .u64, .rc, .const 0, .any⟩,
    ⟨6, 6, .u64, .rc, .const 0, .any⟩,
    ⟨7, 7, .u64, .rc, .const 0, .any⟩,
    ⟨8, 8, .span, .ro, .const 0, .any⟩,
    ⟨9, 9, .u64, .rc, .const 0, .any⟩,
    ⟨10, 10, .u64, .rc, .const 0, .any⟩,
    ⟨11, 11, .u64, .rc, .const 0, .any⟩,
    ⟨12, 12, .lt, .ro, .const 0, .any⟩,
    ⟨13, 13, .u64, .rc, .const 0, .any⟩]⟩,
  ⟨0x4210, 0, true, [ -- MEMBERSHIP
    ⟨0, 0, .u8, .ro, .const 4, .any⟩,
    ⟨1, 1, .u8, .rw, .const 2, .range 1 7⟩,
    ⟨2, 2, .span, .rw, .const 52920000000, .range 52920000 529200000000⟩,
    ⟨3, 3, .u32, .ro, .const 0, .any⟩,
    ⟨4, 4, .u64, .rc, .const 0, .any⟩]⟩,
  ⟨0x4220, 16384, true, [ -- FLOW_TX
    ⟨0, 0, .u8, .ro, .const 2, .any⟩,
    ⟨1, 1, .u64, .rc, .const 0, .any⟩,
    ⟨2, 2, .u64, .rc, .const 0, .any⟩]⟩,
  ⟨0x4300, 16, true, [ -- NET_STATS
    ⟨0, 0, .u8, .ro, .const 17, .any⟩,
    ⟨1, 1, .u64, .rc, .const 0, .any⟩,
    ⟨2, 2, .u64, .rc, .const 0, .any⟩,
    ⟨3, 3, .u64, .rc, .const 0, .any⟩,
    ⟨4, 4, .u64, .rc, .const 0, .any⟩,
    ⟨5, 5, .u64, .rc, .const 0, .any⟩,
    ⟨6, 6, .u64, .rc, .const 0, .any⟩,
    ⟨7, 7, .u64, .rc, .const 0, .any⟩,
    ⟨8, 8, .u64, .rc, .const 0, .any⟩,
    ⟨9, 9, .u64, .rc, .const 0, .any⟩,
    ⟨10, 10, .u64, .rc, .const 0, .any⟩,
    ⟨11, 11, .u64, .rc, .const 0, .any⟩,
    ⟨12, 12, .u64, .rc, .const 0, .any⟩,
    ⟨13, 13, .u64, .rc, .const 0, .any⟩,
    ⟨14, 14, .u64, .rc, .const 0, .any⟩,
    ⟨15, 15, .u64, .rc, .const 0, .any⟩,
    ⟨16, 16, .u64, .rc, .const 0, .any⟩,
    ⟨17, 17, .u64, .rc, .const 0, .any⟩]⟩]

/-- The objects of index range 5000 (22_catalogue_index.md, and the call cards it names). -/
def objectsSlips : List ObjDef := [
  ⟨0x5000, 0, false, [ -- SLIP_STAGE
    ⟨0, 0, .u8, .ro, .const 4, .any⟩,
    ⟨1, 1, .u32, .ro, .const 0, .any⟩,
    ⟨2, 2, .u32, .ro, .const 262144, .any⟩,
    ⟨3, 3, .u16, .ro, .const 4096, .any⟩,
    ⟨4, 4, .u16, .ro, .const 0, .any⟩]⟩,
  ⟨0x5010, 0, false, [ -- SLIP_ARM
    ⟨0, 0, .u8, .ro, .const 11, .any⟩,
    ⟨1, 1, .enum8, .rw, .const 0, .range 0 13⟩,
    ⟨2, 2, .u32, .rw, .const 0, .any⟩,
    ⟨3, 3, .lt, .rw, .const 0, .any⟩,
    ⟨4, 4, .enum8, .rw, .const 0, .range 0 1⟩,
    ⟨5, 5, .u16, .rw, .const 0, .range 0 4095⟩,
    ⟨6, 6, .u8, .rw, .const 255, .rangeOr 0 31 255⟩,
    ⟨7, 7, .u64, .rw, .const 0, .any⟩,
    ⟨8, 8, .enum8, .rw, .const 0, .range 0 3⟩,
    ⟨9, 9, .u8, .rw, .const 0, .range 0 15⟩,
    ⟨10, 10, .span, .rw, .const 0, .range 0 529200000000⟩,
    ⟨11, 11, .bits32, .rw, .const 0, .mask 1⟩]⟩,
  ⟨0x5020, 8192, false, [ -- SLIP
    ⟨0, 0, .u8, .ro, .const 21, .any⟩,
    ⟨1, 1, .enum8, .ro, .const 0, .any⟩,
    ⟨2, 2, .u32, .ro, .const 0, .any⟩,
    ⟨3, 3, .lt, .ro, .const 0, .any⟩,
    ⟨4, 4, .enum8, .ro, .const 0, .any⟩,
    ⟨5, 5, .u16, .ro, .const 0, .any⟩,
    ⟨6, 6, .u8, .ro, .const 255, .any⟩,
    ⟨7, 7, .u64, .ro, .const 0, .any⟩,
    ⟨8, 8, .enum8, .ro, .const 0, .any⟩,
    ⟨9, 9, .u8, .ro, .const 0, .any⟩,
    ⟨10, 10, .span, .ro, .const 0, .any⟩,
    ⟨11, 11, .bits32, .ro, .const 0, .any⟩,
    ⟨12, 12, .enum8, .ro, .const 0, .any⟩,
    ⟨13, 13, .lt, .ro, .const 0, .any⟩,
    ⟨14, 14, .lt, .ro, .const 0, .any⟩,
    ⟨15, 15, .lt, .ro, .const 0, .any⟩,
    ⟨16, 16, .enum8, .ro, .const 0, .any⟩,
    ⟨17, 17, .u16, .ro, .const 65535, .any⟩,
    ⟨18, 18, .u16, .ro, .const 0, .any⟩,
    ⟨19, 19, .octets 1048576, .ro, .const 0, .any⟩,
    ⟨20, 20, .enum8, .ro, .const 0, .any⟩,
    ⟨21, 21, .lt, .ro, .const 0, .any⟩]⟩,
  ⟨0x5030, 0, false, [ -- SLIP_CANCEL
    ⟨0, 0, .u8, .ro, .const 2, .any⟩,
    ⟨1, 1, .u16, .wo, .const 0, .range 1 4095⟩,
    ⟨2, 2, .bool, .wo, .const 0, .any⟩]⟩,
  ⟨0x5040, 0, false, [ -- SLIP_GUARD
    ⟨0, 0, .span, .rw, .const 5292000, .range 1058400 52920000⟩]⟩,
  ⟨0x5050, 0, false, [ -- SLIP_COUNT
    ⟨0, 0, .u8, .ro, .const 12, .any⟩,
    ⟨1, 1, .u16, .ro, .const 0, .any⟩,
    ⟨2, 2, .u16, .ro, .const 0, .any⟩,
    ⟨3, 3, .u16, .ro, .const 0, .any⟩,
    ⟨4, 4, .u16, .ro, .const 0, .any⟩,
    ⟨5, 5, .u64, .rc, .const 0, .any⟩,
    ⟨6, 6, .u64, .rc, .const 0, .any⟩,
    ⟨7, 7, .u64, .rc, .const 0, .any⟩,
    ⟨8, 8, .u64, .rc, .const 0, .any⟩,
    ⟨9, 9, .u64, .rc, .const 0, .any⟩,
    ⟨10, 10, .u64, .rc, .const 0, .any⟩,
    ⟨11, 11, .u64, .ro, .const 0, .any⟩,
    ⟨12, 12, .u32, .rc, .const 0, .any⟩]⟩,
  ⟨0x5100, 16480, true, [ -- XPT_OUT
    ⟨0, 0, .u8, .ro, .const 13, .any⟩,
    ⟨1, 1, .enum8, .rws, .const 0, .range 0 3⟩,
    ⟨2, 2, .shelf, .rws, .const 0, .any⟩,
    ⟨3, 3, .span, .rws, .const 0, .any⟩,
    ⟨4, 4, .u16, .rws, .const 65535, .any⟩,
    ⟨5, 5, .u16, .rws, .const 65535, .any⟩,
    ⟨6, 6, .enum8, .rws, .const 0, .range 0 1⟩,
    ⟨7, 7, .enum8, .ro, .const 0, .any⟩,
    ⟨8, 8, .span, .ro, .const 0, .any⟩,
    ⟨9, 9, .lt, .ro, .const 0, .any⟩,
    ⟨10, 10, .enum8, .ro, .const 0, .any⟩,
    ⟨11, 11, .u64, .rc, .const 0, .any⟩,
    ⟨12, 12, .u64, .rc, .const 0, .any⟩,
    ⟨13, 13, .u64, .rc, .const 0, .any⟩]⟩,
  ⟨0x5200, 96, true, [ -- OUT_POLICY
    ⟨0, 0, .u8, .ro, .const 4, .any⟩,
    ⟨1, 1, .enum8, .rws, .const 0, .range 0 3⟩,
    ⟨2, 2, .u32, .rws, .const 67633664, .any⟩,
    ⟨3, 3, .enum8, .rws, .const 0, .range 0 1⟩,
    ⟨4, 4, .span, .rws, .const 0, .rangeOr 52920000 529200000000 0⟩]⟩,
  ⟨0x5300, 96, true, [ -- SYNC
    ⟨0, 0, .u8, .ro, .const 7, .any⟩,
    ⟨1, 1, .enum8, .ro, .const 0, .any⟩,
    ⟨2, 2, .u64, .rc, .const 0, .any⟩,
    ⟨3, 3, .u64, .rc, .const 0, .any⟩,
    ⟨4, 4, .lt, .ro, .const 0, .any⟩,
    ⟨5, 5, .enum8, .ro, .const 0, .any⟩,
    ⟨6, 6, .u8, .ro, .const 8, .any⟩,
    ⟨7, 7, .u64, .rc, .const 0, .any⟩]⟩,
  ⟨0x5400, 0, true, [ -- XPT_STORE
    ⟨0, 0, .u8, .ro, .const 3, .any⟩,
    ⟨1, 1, .u8, .ro, .const 8, .any⟩,
    ⟨2, 2, .u8, .ro, .const 0, .any⟩,
    ⟨3, 3, .u64, .rc, .const 0, .any⟩]⟩]

/-- The objects of index range 6000 (22_catalogue_index.md, and the call cards it names). -/
def objectsFabric : List ObjDef := [
  ⟨0x6000, 64, false, [ -- FAB_LANE
    ⟨0, 0, .u8, .ro, .const 10, .any⟩,
    ⟨1, 1, .bool, .rwm, .const 1, .any⟩,
    ⟨2, 2, .enum8, .ro, .const 0, .any⟩,
    ⟨3, 3, .enum8, .ro, .const 255, .any⟩,
    ⟨4, 4, .u8, .ro, .const 255, .any⟩,
    ⟨5, 5, .u8, .ro, .const 255, .any⟩,
    ⟨6, 6, .span, .ro, .const 0, .any⟩,
    ⟨7, 7, .span, .ro, .const 0, .any⟩,
    ⟨8, 8, .span, .ro, .const 0, .any⟩,
    ⟨9, 9, .lt, .ro, .const 0, .any⟩,
    ⟨10, 10, .u32, .rc, .const 0, .any⟩]⟩,
  ⟨0x6010, 0, false, [ -- FAB_CONFIG
    ⟨0, 0, .u8, .ro, .const 3, .any⟩,
    ⟨1, 1, .bool, .rw, .const 1, .any⟩,
    ⟨2, 2, .u16, .ro, .const 0, .any⟩,
    ⟨3, 3, .u32, .ro, .const 0, .any⟩]⟩,
  ⟨0x6100, 64, false, [ -- FAB_CALENDAR
    ⟨0, 0, .u8, .ro, .const 4, .any⟩,
    ⟨1, 1, .octets 552, .rws, .slotsAll, .any⟩,
    ⟨2, 2, .octets 17640, .ro, .const 0, .any⟩,
    ⟨3, 3, .octets 552, .ro, .slotsAll, .any⟩,
    ⟨4, 4, .u16, .ro, .const 0, .any⟩]⟩,
  ⟨0x6200, 64, false, [ -- FAB_PATH
    ⟨0, 0, .u8, .ro, .const 2, .any⟩,
    ⟨1, 1, .enum8, .rws, .const 0, .range 0 2⟩,
    ⟨2, 2, .bool, .ro, .const 0, .any⟩]⟩,
  ⟨0x6210, 4096, true, [ -- FAB_SUB
    ⟨0, 0, .u8, .ro, .const 12, .any⟩,
    ⟨1, 1, .shelf, .ro, .const 0, .any⟩,
    ⟨2, 2, .enum8, .ro, .const 0, .any⟩,
    ⟨3, 3, .u8, .ro, .const 255, .any⟩,
    ⟨4, 4, .u8, .ro, .const 255, .any⟩,
    ⟨5, 5, .u16, .ro, .const 0, .any⟩,
    ⟨6, 6, .enum8, .ro, .const 0, .any⟩,
    ⟨7, 7, .u64, .rc, .const 0, .any⟩,
    ⟨8, 8, .u64, .rc, .const 0, .any⟩,
    ⟨9, 9, .u64, .rc, .const 0, .any⟩,
    ⟨10, 10, .u64, .rc, .const 0, .any⟩,
    ⟨11, 11, .u32, .rc, .const 0, .any⟩,
    ⟨12, 12, .u16, .ro, .const 0, .any⟩]⟩,
  ⟨0x6300, 64, false, [ -- FAB_STATS
    ⟨0, 0, .u8, .ro, .const 8, .any⟩,
    ⟨1, 1, .u64, .rc, .const 0, .any⟩,
    ⟨2, 2, .u64, .rc, .const 0, .any⟩,
    ⟨3, 3, .u64, .rc, .const 0, .any⟩,
    ⟨4, 4, .u64, .rc, .const 0, .any⟩,
    ⟨5, 5, .u64, .rc, .const 0, .any⟩,
    ⟨6, 6, .u64, .rc, .const 0, .any⟩,
    ⟨7, 7, .u64, .rc, .const 0, .any⟩,
    ⟨8, 8, .u64, .rc, .const 0, .any⟩]⟩,
  ⟨0x6400, 0, true, [ -- TWIN_LINK
    ⟨0, 0, .u8, .ro, .const 8, .any⟩,
    ⟨1, 1, .enum8, .ro, .const 0, .any⟩,
    ⟨2, 2, .bits32, .ro, .const 0, .any⟩,
    ⟨3, 3, .span, .ro, .const 0, .any⟩,
    ⟨4, 4, .u64, .rc, .const 0, .any⟩,
    ⟨5, 5, .u64, .rc, .const 0, .any⟩,
    ⟨6, 6, .u64, .rc, .const 0, .any⟩,
    ⟨7, 7, .u32, .rc, .const 0, .any⟩,
    ⟨8, 8, .u64, .rc, .const 0, .any⟩]⟩]

/-- The objects of index range 7000 (22_catalogue_index.md, and the call cards it names). -/
def objectsComp : List ObjDef := [
  ⟨0x7000, 256, true, [ -- CANVAS
    ⟨0, 0, .u8, .ro, .const 12, .any⟩,
    ⟨1, 1, .bool, .rws, .const 0, .any⟩,
    ⟨2, 2, .u8, .rws, .const 255, .rangeOr 0 31 255⟩,
    ⟨3, 3, .u16, .rws, .const 1920, .even 64 32768⟩,
    ⟨4, 4, .u16, .rws, .const 1080, .range 16 8192⟩,
    ⟨5, 5, .u32, .rws, .const 67633664, .any⟩,
    ⟨6, 6, .bits32, .rws, .const 255, .mask 0xFF⟩,
    ⟨7, 7, .enum8, .ro, .const 0, .any⟩,
    ⟨8, 8, .u8, .ro, .const 0, .any⟩,
    ⟨9, 9, .u64, .ro, .const 0, .any⟩,
    ⟨10, 10, .u64, .ro, .const 0, .any⟩,
    ⟨11, 11, .lt, .ro, .const 0, .any⟩,
    ⟨12, 12, .u64, .rc, .const 0, .any⟩]⟩,
  ⟨0x7010, 8, true, [ -- SLICE
    ⟨0, 0, .u8, .ro, .const 4, .any⟩,
    ⟨1, 1, .u64, .ro, .const 0, .any⟩,
    ⟨2, 2, .u64, .ro, .const 0, .any⟩,
    ⟨3, 3, .u64, .ro, .const 48000000000, .any⟩,
    ⟨4, 4, .u64, .ro, .const 8000000000, .any⟩]⟩,
  ⟨0x7100, 4096, true, [ -- LAYER
    ⟨0, 0, .u8, .ro, .const 24, .any⟩,
    ⟨1, 1, .u16, .rws, .const 65535, .rangeOr 0 255 65535⟩,
    ⟨2, 2, .u8, .rws, .const 0, .range 0 15⟩,
    ⟨3, 3, .bool, .rws, .const 0, .any⟩,
    ⟨4, 4, .shelf, .rws, .const 0, .any⟩,
    ⟨5, 5, .u16, .rws, .const 0, .any⟩,
    ⟨6, 6, .u16, .rws, .const 0, .any⟩,
    ⟨7, 7, .u16, .rws, .const 1920, .any⟩,
    ⟨8, 8, .u16, .rws, .const 1080, .any⟩,
    ⟨9, 9, .i32, .rws, .const 0, .any⟩,
    ⟨10, 10, .i32, .rws, .const 0, .any⟩,
    ⟨11, 11, .u32, .rws, .const 1920, .any⟩,
    ⟨12, 12, .u32, .rws, .const 1080, .any⟩,
    ⟨13, 13, .enum8, .rws, .const 0, .range 0 2⟩,
    ⟨14, 14, .u16, .rws, .const 4095, .range 0 4095⟩,
    ⟨15, 15, .enum8, .rws, .const 0, .range 0 2⟩,
    ⟨16, 16, .u32, .rws, .const 67633664, .any⟩,
    ⟨17, 17, .enum8, .rws, .const 0, .range 0 1⟩,
    ⟨18, 18, .enum8, .ro, .const 0, .any⟩,
    ⟨19, 19, .span, .ro, .const 0, .any⟩,
    ⟨20, 20, .u64, .rc, .const 0, .any⟩,
    ⟨21, 21, .u64, .rc, .const 0, .any⟩,
    ⟨22, 22, .u64, .rc, .const 0, .any⟩,
    ⟨23, 23, .u64, .ro, .const 0, .any⟩,
    ⟨24, 24, .u64, .rc, .const 0, .any⟩]⟩,
  ⟨0x7200, 4096, true, [ -- MATRIX
    ⟨0, 0, .u8, .ro, .const 12, .any⟩,
    ⟨1, 9, .fx18, .rws, .diag, .any⟩,
    ⟨10, 12, .i16, .rws, .const 0, .any⟩]⟩,
  ⟨0x7300, 4352, true, [ -- LUT
    ⟨0, 0, .u8, .ro, .const 65, .any⟩,
    ⟨1, 1, .bits32, .rws, .const 0, .mask 7⟩,
    ⟨2, 65, .octets 128, .rws, .lut, .any⟩]⟩,
  ⟨0x7400, 1024, true, [ -- TILE
    ⟨0, 0, .u8, .ro, .const 13, .any⟩,
    ⟨1, 1, .u16, .rws, .const 65535, .rangeOr 0 255 65535⟩,
    ⟨2, 2, .u16, .rws, .const 0, .even 0 65535⟩,
    ⟨3, 3, .u16, .rws, .const 0, .any⟩,
    ⟨4, 4, .u16, .rws, .const 1920, .even 2 7680⟩,
    ⟨5, 5, .u16, .rws, .const 1080, .range 1 4320⟩,
    ⟨6, 6, .u16, .rws, .const 0, .even 0 65535⟩,
    ⟨7, 7, .u16, .rws, .const 0, .any⟩,
    ⟨8, 8, .u16, .rws, .const 65535, .rangeOr 0 255 65535⟩,
    ⟨9, 9, .enum8, .rws, .const 2, .range 1 5⟩,
    ⟨10, 10, .u8, .rws, .const 1, .vals [1, 2, 4]⟩,
    ⟨11, 11, .enum8, .rws, .const 1, .range 1 2⟩,
    ⟨12, 12, .enum8, .rws, .const 0, .range 0 1⟩,
    ⟨13, 13, .u16, .ro, .const 0, .any⟩]⟩]

/-- The objects of index range 8000 (22_catalogue_index.md, and the call cards it names). -/
def objectsAudio : List ObjDef := [
  ⟨0x8000, 32, true, [ -- AES_RX
    ⟨0, 0, .u8, .ro, .const 8, .any⟩,
    ⟨1, 1, .bool, .rw, .const 1, .any⟩,
    ⟨2, 2, .enum8, .rw, .const 0, .range 0 1⟩,
    ⟨3, 3, .enum8, .ro, .const 0, .any⟩,
    ⟨4, 4, .enum8, .ro, .const 0, .any⟩,
    ⟨5, 5, .i32, .ro, .const 0, .any⟩,
    ⟨6, 6, .u8, .ro, .const 0, .any⟩,
    ⟨7, 7, .octets 24, .ro, .const 0, .any⟩,
    ⟨8, 8, .u16, .ro, .elem 3072 2, .any⟩]⟩,
  ⟨0x8100, 32, true, [ -- AES_TX
    ⟨0, 0, .u8, .ro, .const 6, .any⟩,
    ⟨1, 1, .bool, .rw, .const 1, .any⟩,
    ⟨2, 2, .enum8, .rw, .const 0, .range 0 1⟩,
    ⟨3, 3, .u8, .rw, .const 0, .range 0 31⟩,
    ⟨4, 4, .enum8, .rw, .const 0, .range 0 1⟩,
    ⟨5, 5, .enum8, .ro, .const 0, .any⟩,
    ⟨6, 6, .u16, .ro, .elem 3072 2, .any⟩]⟩,
  ⟨0x8200, 1024, true, [ -- AUDIO_NODE
    ⟨0, 0, .u8, .ro, .const 3, .any⟩,
    ⟨1, 1, .bool, .rw, .const 0, .any⟩,
    ⟨2, 2, .fx18, .rws, .const 32768, .any⟩,
    ⟨3, 3, .bool, .rws, .const 0, .any⟩]⟩,
  ⟨0x8300, 65536, true, [ -- AUDIO_EDGE
    ⟨0, 0, .u8, .ro, .const 5, .any⟩,
    ⟨1, 1, .u16, .rw, .const 65535, .any⟩,
    ⟨2, 2, .u16, .rw, .const 65535, .any⟩,
    ⟨3, 3, .fx18, .rws, .const 32768, .any⟩,
    ⟨4, 4, .bool, .rws, .const 0, .any⟩,
    ⟨5, 5, .enum8, .ro, .const 0, .any⟩]⟩,
  ⟨0x8400, 0, true, [ -- AUDIO_COMPILE
    ⟨0, 0, .u8, .ro, .const 11, .any⟩,
    ⟨1, 1, .bool, .wo, .const 0, .any⟩,
    ⟨2, 2, .enum8, .rw, .const 0, .range 0 1⟩,
    ⟨3, 3, .enum8, .ro, .const 0, .any⟩,
    ⟨4, 4, .enum8, .ro, .const 0, .any⟩,
    ⟨5, 5, .u32, .ro, .const 0, .any⟩,
    ⟨6, 6, .u32, .ro, .const 0, .any⟩,
    ⟨7, 7, .u32, .ro, .const 0, .any⟩,
    ⟨8, 8, .u32, .ro, .const 0, .any⟩,
    ⟨9, 9, .enum8, .ro, .const 0, .any⟩,
    ⟨10, 10, .u32, .ro, .const 0, .any⟩,
    ⟨11, 11, .span, .rw, .const 529200000, .range 0 5292000000⟩]⟩,
  ⟨0x8500, 8, true, [ -- SIDETONE
    ⟨0, 0, .u8, .ro, .const 5, .any⟩,
    ⟨1, 1, .bool, .rws, .const 0, .any⟩,
    ⟨2, 2, .u8, .rws, .const 0, .range 0 31⟩,
    ⟨3, 3, .u8, .rws, .const 0, .range 0 31⟩,
    ⟨4, 4, .fx18, .rws, .const 32768, .any⟩,
    ⟨5, 5, .enum8, .ro, .const 0, .any⟩]⟩,
  ⟨0x8600, 8192, true, [ -- LIMITER
    ⟨0, 0, .u8, .ro, .const 4, .any⟩,
    ⟨1, 1, .i16, .rws, .const 0, .range (-6000) 0⟩,
    ⟨2, 2, .span, .rws, .const 5292000000, .range 52920000 52920000000⟩,
    ⟨3, 3, .bool, .ro, .const 0, .any⟩,
    ⟨4, 4, .i16, .ro, .const 0, .any⟩]⟩,
  ⟨0x8700, 32, true, [ -- AUDIO_STATS
    ⟨0, 0, .u8, .ro, .const 6, .any⟩,
    ⟨1, 1, .u64, .rc, .const 0, .any⟩,
    ⟨2, 2, .u64, .rc, .const 0, .any⟩,
    ⟨3, 3, .u64, .rc, .const 0, .any⟩,
    ⟨4, 4, .u64, .rc, .const 0, .any⟩,
    ⟨5, 5, .u64, .rc, .const 0, .any⟩,
    ⟨6, 6, .u64, .rc, .const 0, .any⟩]⟩,
  ⟨0x8710, 0, true, [ -- ENGINE_STATS
    ⟨0, 0, .u8, .ro, .const 6, .any⟩,
    ⟨1, 1, .u64, .rc, .const 0, .any⟩,
    ⟨2, 2, .u64, .rc, .const 0, .any⟩,
    ⟨3, 3, .u64, .rc, .const 0, .any⟩,
    ⟨4, 4, .u64, .rc, .const 0, .any⟩,
    ⟨5, 5, .u64, .rc, .const 0, .any⟩,
    ⟨6, 6, .u64, .rc, .const 0, .any⟩]⟩,
  ⟨0x8800, 256, true, [ -- BUNDLE_OUT
    ⟨0, 0, .u8, .ro, .const 3, .any⟩,
    ⟨1, 1, .bool, .rw, .const 0, .any⟩,
    ⟨2, 2, .u16, .rw, .const 0, .any⟩,
    ⟨3, 3, .u8, .rw, .const 2, .range 1 59⟩]⟩,
  ⟨0x8810, 256, true, [ -- BUNDLE_IN
    ⟨0, 0, .u8, .ro, .const 6, .any⟩,
    ⟨1, 1, .bool, .rw, .const 0, .any⟩,
    ⟨2, 2, .shelf, .rw, .const 0, .any⟩,
    ⟨3, 3, .u16, .rw, .const 0, .any⟩,
    ⟨4, 4, .u8, .rw, .const 2, .range 1 59⟩,
    ⟨5, 5, .enum8, .ro, .const 0, .any⟩,
    ⟨6, 6, .enum8, .ro, .const 0, .any⟩]⟩]

/-- The objects of index range 9000 (22_catalogue_index.md, and the call cards it names). -/
def objectsStacks : List ObjDef := [
  ⟨0x9000, 0, true, [ -- STACKS
    ⟨0, 0, .u8, .ro, .const 6, .any⟩,
    ⟨1, 1, .bits32, .ro, .const 0, .any⟩,
    ⟨2, 2, .u16, .ro, .const 0, .any⟩,
    ⟨3, 3, .u64, .ro, .const 0, .any⟩,
    ⟨4, 4, .u64, .ro, .const 0, .any⟩,
    ⟨5, 5, .u64, .ro, .const 0, .any⟩,
    ⟨6, 6, .u16, .ro, .const 0, .any⟩]⟩,
  ⟨0x9100, 256, true, [ -- RECORDER
    ⟨0, 0, .u8, .ro, .const 16, .any⟩,
    ⟨1, 1, .bool, .rws, .const 0, .any⟩,
    ⟨2, 2, .shelf, .rws, .const 0, .any⟩,
    ⟨3, 3, .u8, .rws, .const 255, .rangeOr 0 31 255⟩,
    ⟨4, 4, .span, .rws, .const 529200000000, .range 52920000000 190512000000000⟩,
    ⟨5, 5, .enum8, .rws, .const 1, .range 0 1⟩,
    ⟨6, 6, .u8, .rws, .const 255, .rangeOr 0 3 255⟩,
    ⟨7, 7, .enum8, .ro, .const 0, .any⟩,
    ⟨8, 8, .u8, .ro, .const 255, .any⟩,
    ⟨9, 9, .u32, .ro, .const 0, .any⟩,
    ⟨10, 10, .u32, .ro, .const 0, .any⟩,
    ⟨11, 11, .lt, .ro, .const 0, .any⟩,
    ⟨12, 12, .lt, .ro, .const 0, .any⟩,
    ⟨13, 13, .span, .ro, .const 0, .any⟩,
    ⟨14, 14, .u64, .rc, .const 0, .any⟩,
    ⟨15, 15, .u64, .rc, .const 0, .any⟩,
    ⟨16, 16, .u64, .rc, .const 0, .any⟩]⟩,
  ⟨0x9200, 256, true, [ -- HEAD
    ⟨0, 0, .u8, .ro, .const 12, .any⟩,
    ⟨1, 1, .enum8, .rws, .const 0, .range 0 2⟩,
    ⟨2, 2, .u8, .rws, .const 255, .rangeOr 0 31 255⟩,
    ⟨3, 3, .shelf, .rws, .const 0, .any⟩,
    ⟨4, 4, .span, .rws, .const 0, .any⟩,
    ⟨5, 5, .u16, .rws, .const 65535, .any⟩,
    ⟨6, 6, .u32, .rws, .const 0, .any⟩,
    ⟨7, 7, .bool, .rws, .const 0, .any⟩,
    ⟨8, 8, .enum8, .ro, .const 0, .any⟩,
    ⟨9, 9, .u16, .ro, .const 65535, .any⟩,
    ⟨10, 10, .lt, .ro, .const 0, .any⟩,
    ⟨11, 11, .u64, .rc, .const 0, .any⟩,
    ⟨12, 12, .u64, .rc, .const 0, .any⟩]⟩,
  ⟨0x9300, 1024, true, [ -- CLIP
    ⟨0, 0, .u8, .ro, .const 12, .any⟩,
    ⟨1, 1, .str32, .rw, .const 0, .any⟩,
    ⟨2, 2, .u16, .rw, .const 0, .range 0 255⟩,
    ⟨3, 3, .lt, .rw, .const 0, .any⟩,
    ⟨4, 4, .lt, .rw, .const 0, .any⟩,
    ⟨5, 5, .bool, .wo, .const 0, .any⟩,
    ⟨6, 6, .bool, .wo, .const 0, .any⟩,
    ⟨7, 7, .enum8, .ro, .const 0, .any⟩,
    ⟨8, 8, .u32, .ro, .const 0, .any⟩,
    ⟨9, 9, .u64, .ro, .const 0, .any⟩,
    ⟨10, 10, .enum8, .ro, .const 0, .any⟩,
    ⟨11, 11, .u8, .ro, .const 255, .any⟩,
    ⟨12, 12, .lt, .ro, .const 0, .any⟩]⟩,
  ⟨0x9400, 0, true, [ -- ADMISSION
    ⟨0, 0, .u8, .ro, .const 8, .any⟩,
    ⟨1, 1, .u64, .ro, .const 2000000000000, .any⟩,
    ⟨2, 2, .u64, .ro, .const 0, .any⟩,
    ⟨3, 3, .u64, .ro, .const 0, .any⟩,
    ⟨4, 4, .u64, .ro, .const 0, .any⟩,
    ⟨5, 5, .u64, .ro, .const 0, .any⟩,
    ⟨6, 6, .u64, .ro, .const 12451840, .any⟩,
    ⟨7, 7, .u64, .ro, .const 0, .any⟩,
    ⟨8, 8, .u64, .rc, .const 0, .any⟩]⟩,
  ⟨0x9410, 4, true, [ -- DDR_ADMISSION
    ⟨0, 0, .u8, .ro, .const 4, .any⟩,
    ⟨1, 1, .u64, .ro, .const 0, .any⟩,
    ⟨2, 2, .u64, .ro, .const 0, .any⟩,
    ⟨3, 3, .u64, .ro, .const 0, .any⟩,
    ⟨4, 4, .u64, .ro, .const 0, .any⟩]⟩,
  ⟨0x9500, 18, true, [ -- MEM_STATS
    ⟨0, 0, .u8, .ro, .const 8, .any⟩,
    ⟨1, 1, .u64, .rc, .const 0, .any⟩,
    ⟨2, 2, .u64, .rc, .const 0, .any⟩,
    ⟨3, 3, .u64, .rc, .const 0, .any⟩,
    ⟨4, 4, .u32, .ro, .const 0, .any⟩,
    ⟨5, 5, .u32, .ro, .const 0, .any⟩,
    ⟨6, 6, .u64, .ro, .const 0, .any⟩,
    ⟨7, 7, .u16, .ro, .const 0, .any⟩,
    ⟨8, 8, .enum8, .ro, .const 0, .any⟩]⟩]

/-- The objects of index range A000 (22_catalogue_index.md, and the call cards it names). -/
def objectsFault : List ObjDef := [
  ⟨0xA000, 1024, false, [ -- FAULT_SOURCE
    ⟨0, 0, .u8, .ro, .const 12, .any⟩,
    ⟨1, 1, .str32, .ro, .srcName, .any⟩,
    ⟨2, 2, .enum8, .ro, .severity, .any⟩,
    ⟨3, 3, .enum8, .rw, .severity, .range 0 5⟩,
    ⟨4, 4, .bool, .ro, .sevFixed, .any⟩,
    ⟨5, 5, .u8, .ro, .srcOwner, .any⟩,
    ⟨6, 6, .enum8, .ro, .const 0, .any⟩,
    ⟨7, 7, .enum8, .ro, .const 0, .any⟩,
    ⟨8, 8, .lt, .ro, .const 0, .any⟩,
    ⟨9, 9, .u32, .ro, .const 0, .any⟩,
    ⟨10, 10, .u64, .rc, .const 0, .any⟩,
    ⟨11, 11, .u32, .ro, .const 0, .any⟩,
    ⟨12, 12, .u8, .ro, .const 0, .any⟩]⟩,
  ⟨0xA100, 0, false, [ -- LOGBOOK
    ⟨0, 0, .u8, .ro, .const 4, .any⟩,
    ⟨1, 1, .octets 2048, .ro, .const 0, .any⟩,
    ⟨2, 2, .u8, .ro, .const 0, .any⟩,
    ⟨3, 3, .u32, .ro, .const 0, .any⟩,
    ⟨4, 4, .u64, .rc, .const 0, .any⟩]⟩,
  ⟨0xA200, 0, false, [ -- QUIET
    ⟨0, 0, .u8, .ro, .const 2, .any⟩,
    ⟨1, 1, .span, .rw, .const 529200000000, .range 52920000000 190512000000000⟩,
    ⟨2, 2, .span, .rw, .const 3175200000000, .range 52920000000 190512000000000⟩]⟩,
  ⟨0xA300, 0, false, [ -- RECOVERY
    ⟨0, 0, .u8, .ro, .const 4, .any⟩,
    ⟨1, 1, .u8, .ro, .const 3, .any⟩,
    ⟨2, 2, .span, .ro, .const 190512000000000, .any⟩,
    ⟨3, 3, .u16, .ro, .const 0, .any⟩,
    ⟨4, 4, .u64, .rc, .const 0, .any⟩]⟩,
  ⟨0xA400, 0, false, [ -- SAFE
    ⟨0, 0, .u8, .ro, .const 5, .any⟩,
    ⟨1, 1, .enum8, .ro, .const 0, .any⟩,
    ⟨2, 2, .lt, .ro, .const 0, .any⟩,
    ⟨3, 3, .u16, .ro, .const 65535, .any⟩,
    ⟨4, 4, .bool, .ro, .const 0, .any⟩,
    ⟨5, 5, .bits64, .ro, .const 0, .any⟩]⟩,
  ⟨0xA410, 0, false, [ -- ALERT
    ⟨0, 0, .u8, .ro, .const 2, .any⟩,
    ⟨1, 1, .enum8, .rw, .const 2, .range 1 5⟩,
    ⟨2, 2, .bool, .ro, .const 0, .any⟩]⟩]

/-- The objects of index range B000 (22_catalogue_index.md, and the call cards it names). -/
def objectsKeys : List ObjDef := [
  ⟨0xB000, 16, false, [ -- KEY_SLOT
    ⟨0, 0, .u8, .ro, .const 1, .any⟩,
    ⟨1, 1, .octets 128, .wos, .const 0, .any⟩]⟩,
  ⟨0xB100, 16, false, [ -- KEY_STATUS
    ⟨0, 0, .u8, .ro, .const 4, .any⟩,
    ⟨1, 1, .enum8, .ro, .const 0, .any⟩,
    ⟨2, 2, .u32, .ro, .const 0, .any⟩,
    ⟨3, 3, .u8, .ro, .const 0, .any⟩,
    ⟨4, 4, .octets 8, .ro, .const 0, .any⟩]⟩,
  ⟨0xB110, 0, false, [ -- OWNER_ANSWER
    ⟨0, 0, .u8, .ro, .const 3, .any⟩,
    ⟨1, 1, .u8, .rw, .const 5, .range 5 15⟩,
    ⟨2, 2, .octets 32, .rw, .const 0, .any⟩,
    ⟨3, 3, .octets 32, .ro, .const 0, .any⟩]⟩,
  ⟨0xB200, 0, false, [ -- COLOPHON
    ⟨0, 0, .u8, .ro, .const 4, .any⟩,
    ⟨1, 1, .octets 32, .rw, .const 0, .any⟩,
    ⟨2, 2, .octets 352, .ro, .const 0, .any⟩,
    ⟨3, 3, .octets 1024, .ro, .fused, .any⟩,
    ⟨4, 4, .octets 48, .ro, .const 0, .any⟩]⟩,
  ⟨0xB300, 0, false, [ -- TAMPER
    ⟨0, 0, .u8, .ro, .const 5, .any⟩,
    ⟨1, 1, .u8, .ro, .fused, .any⟩,
    ⟨2, 2, .enum8, .ro, .const 0, .any⟩,
    ⟨3, 3, .lt, .ro, .const 0, .any⟩,
    ⟨4, 4, .bool, .ro, .const 0, .any⟩,
    ⟨5, 5, .u16, .ro, .const 0, .any⟩]⟩]

/-- The objects of index range C000 (22_catalogue_index.md, and the call cards it names). -/
def objectsUpdate : List ObjDef := [
  ⟨0xC000, 0, false, [ -- UPDATE
    ⟨0, 0, .u8, .ro, .const 9, .any⟩,
    ⟨1, 1, .u8, .rw, .const 255, .rangeOr 0 2 255⟩,
    ⟨2, 2, .u8, .ro, .const 0, .any⟩,
    ⟨3, 3, .enum8, .ro, .const 0, .any⟩,
    ⟨4, 4, .enum8, .ro, .const 0, .any⟩,
    ⟨5, 5, .u8, .ro, .const 255, .any⟩,
    ⟨6, 6, .octets 48, .ro, .const 0, .any⟩,
    ⟨7, 7, .u32, .ro, .const 0, .any⟩,
    ⟨8, 8, .u32, .rc, .const 0, .any⟩,
    ⟨9, 9, .enum8, .ro, .const 0, .any⟩]⟩,
  ⟨0xC100, 3, false, [ -- IMAGE_WINDOW
    ⟨0, 0, .u8, .ro, .const 6, .any⟩,
    ⟨1, 1, .enum8, .ro, .const 0, .any⟩,
    ⟨2, 2, .u32, .ro, .const 0, .any⟩,
    ⟨3, 3, .u32, .ro, .const 0, .any⟩,
    ⟨4, 4, .octets 48, .ro, .const 0, .any⟩,
    ⟨5, 5, .enum8, .ro, .const 0, .any⟩,
    ⟨6, 6, .lt, .ro, .const 0, .any⟩]⟩,
  ⟨0xC200, 0, false, [ -- HEALTH_CONFIRM
    ⟨0, 0, .u8, .ro, .const 7, .any⟩,
    ⟨1, 1, .bool, .wo, .const 0, .any⟩,
    ⟨2, 2, .bool, .rw, .const 0, .any⟩,
    ⟨3, 3, .bool, .wo, .const 0, .any⟩,
    ⟨4, 4, .span, .rw, .const 15876000000000, .range 3175200000000 190512000000000⟩,
    ⟨5, 5, .enum8, .ro, .const 0, .any⟩,
    ⟨6, 6, .lt, .ro, .const 0, .any⟩,
    ⟨7, 7, .bits32, .ro, .const 0, .any⟩]⟩,
  ⟨0xC300, 0, false, [ -- ROLLBACK_FLOOR
    ⟨0, 0, .u8, .ro, .const 2, .any⟩,
    ⟨1, 1, .u32, .ro, .fused, .any⟩,
    ⟨2, 2, .u8, .ro, .fused, .any⟩]⟩]

/-- The objects of index range D000 (22_catalogue_index.md, and the call cards it names). -/
def objectsWear : List ObjDef := [
  ⟨0xD000, 0, false, [ -- ALMANAC
    ⟨0, 0, .u8, .ro, .const 7, .any⟩,
    ⟨1, 1, .u32, .ro, .const 0, .any⟩,
    ⟨2, 2, .u32, .ro, .const 0, .any⟩,
    ⟨3, 3, .lt, .ro, .const 0, .any⟩,
    ⟨4, 4, .enum8, .rw, .const 1, .range 1 2⟩,
    ⟨5, 5, .u32, .rw, .const 0, .any⟩,
    ⟨6, 6, .octets 1048576, .ro, .const 0, .any⟩,
    ⟨7, 7, .u64, .ro, .fused, .any⟩]⟩,
  ⟨0xD010, 256, false, [ -- WEAR
    ⟨0, 0, .u8, .ro, .const 3, .any⟩,
    ⟨1, 1, .u8, .ro, .fused, .any⟩,
    ⟨2, 2, .u16, .ro, .const 0, .any⟩,
    ⟨3, 3, .i32, .ro, .const 0, .any⟩]⟩,
  ⟨0xD020, 64, false, [ -- THERMAL
    ⟨0, 0, .u8, .ro, .const 3, .any⟩,
    ⟨1, 1, .u8, .ro, .fused, .any⟩,
    ⟨2, 2, .i16, .ro, .const 0, .any⟩,
    ⟨3, 3, .i16, .ro, .const 0, .any⟩]⟩,
  ⟨0xD030, 181, false, [ -- EYE
    ⟨0, 0, .u8, .ro, .const 6, .any⟩,
    ⟨1, 1, .u8, .ro, .const 0, .any⟩,
    ⟨2, 2, .u16, .ro, .const 0, .any⟩,
    ⟨3, 3, .lt, .ro, .const 0, .any⟩,
    ⟨4, 4, .u8, .ro, .const 0, .any⟩,
    ⟨5, 5, .u16, .ro, .const 0, .any⟩,
    ⟨6, 6, .bool, .ro, .const 0, .any⟩]⟩,
  ⟨0xD100, 47, false, [ -- MARGIN_PLAN
    ⟨0, 0, .u8, .ro, .const 3, .any⟩,
    ⟨1, 1, .u16, .ro, .const 0, .any⟩,
    ⟨2, 2, .u16, .ro, .const 65534, .any⟩,
    ⟨3, 3, .enum8, .ro, .const 0, .any⟩]⟩,
  ⟨0xD110, 0, false, [ -- MARGIN_CONTROL
    ⟨0, 0, .u8, .ro, .const 7, .any⟩,
    ⟨1, 1, .i16, .ro, .const 0, .any⟩,
    ⟨2, 2, .u32, .rc, .const 0, .any⟩,
    ⟨3, 3, .lt, .ro, .const 0, .any⟩,
    ⟨4, 4, .u8, .ro, .fused, .any⟩,
    ⟨5, 5, .u8, .ro, .fused, .any⟩,
    ⟨6, 6, .u16, .rw, .const 30, .any⟩,
    ⟨7, 7, .bool, .rw, .const 1, .any⟩]⟩,
  ⟨0xD200, 32, false, [ -- BOOKING
    ⟨0, 0, .u8, .ro, .const 16, .any⟩,
    ⟨1, 1, .enum8, .rw, .const 0, .range 0 9⟩,
    ⟨2, 2, .enum8, .rw, .const 0, .range 0 2⟩,
    ⟨3, 3, .bits64, .rw, .const 0, .mask 1407374883553149⟩,
    ⟨4, 4, .octets 12, .rw, .const 0, .any⟩,
    ⟨5, 5, .bits64, .rw, .const 0, .any⟩,
    ⟨6, 6, .bits32, .rw, .const 0, .mask 0x3FFFF⟩,
    ⟨7, 7, .bits32, .rw, .const 0, .mask 0x3FFFF⟩,
    ⟨8, 8, .bits64, .rw, .const 0, .any⟩,
    ⟨9, 9, .lt, .rw, .const 0, .any⟩,
    ⟨10, 10, .span, .rw, .const 3175200000000, .any⟩,
    ⟨11, 11, .bits32, .rw, .const 0, .mask 1⟩,
    ⟨12, 12, .bool, .wo, .const 0, .any⟩,
    ⟨13, 13, .bool, .wo, .const 0, .any⟩,
    ⟨14, 14, .enum8, .ro, .const 0, .any⟩,
    ⟨15, 15, .enum8, .ro, .const 0, .any⟩,
    ⟨16, 16, .enum8, .ro, .const 0, .any⟩]⟩]

/-- The objects of index range E000 (22_catalogue_index.md, and the call cards it names). -/
def objectsTest : List ObjDef := [
  ⟨0xE000, 64, false, [ -- INJECT
    ⟨0, 0, .u8, .ro, .const 16, .any⟩,
    ⟨1, 1, .bool, .rw, .const 0, .any⟩,
    ⟨2, 2, .enum8, .rw, .const 0, .range 0 8⟩,
    ⟨3, 3, .u32, .rw, .const 0, .any⟩,
    ⟨4, 4, .u8, .rw, .const 0, .range 0 2⟩,
    ⟨5, 5, .enum8, .rw, .const 1, .range 1 7⟩,
    ⟨6, 6, .enum8, .rw, .const 0, .range 0 2⟩,
    ⟨7, 7, .u32, .rw, .const 1, .range 1 4294967295⟩,
    ⟨8, 8, .u32, .rw, .const 1, .range 1 4294967295⟩,
    ⟨9, 9, .u32, .rw, .const 1, .any⟩,
    ⟨10, 10, .u32, .rw, .const 0, .any⟩,
    ⟨11, 11, .u8, .rw, .const 1, .range 1 255⟩,
    ⟨12, 12, .span, .rw, .const 52920, .any⟩,
    ⟨13, 13, .enum8, .ro, .const 0, .any⟩,
    ⟨14, 14, .u64, .rc, .const 0, .any⟩,
    ⟨15, 15, .u64, .rc, .const 0, .any⟩,
    ⟨16, 16, .u64, .rc, .const 0, .any⟩]⟩,
  ⟨0xE100, 1024, false, [ -- FAULT_FORCE
    ⟨0, 0, .u8, .ro, .const 1, .any⟩,
    ⟨1, 1, .bool, .rwm, .const 0, .any⟩]⟩,
  ⟨0xE200, 256, true, [ -- TEST_GEN
    ⟨0, 0, .u8, .ro, .const 10, .any⟩,
    ⟨1, 1, .bool, .rw, .const 0, .any⟩,
    ⟨2, 2, .u8, .rw, .const 255, .rangeOr 0 31 255⟩,
    ⟨3, 3, .enum8, .rw, .const 2, .range 1 5⟩,
    ⟨4, 4, .u8, .rw, .const 1, .vals [1, 2, 4]⟩,
    ⟨5, 5, .enum8, .rw, .const 1, .range 1 2⟩,
    ⟨6, 6, .enum8, .rw, .const 0, .range 0 1⟩,
    ⟨7, 7, .enum8, .rw, .const 0, .range 0 4⟩,
    ⟨8, 8, .u32, .rw, .const 67633664, .any⟩,
    ⟨9, 9, .bool, .rw, .const 1, .any⟩,
    ⟨10, 10, .enum8, .ro, .const 0, .any⟩]⟩]

/-- The whole Catalogue: every object of the index. -/
def objects : List ObjDef :=
  objectsConfig ++ objectsTime ++ objectsSerial ++ objectsNet ++ objectsSlips ++ objectsFabric ++ objectsComp ++ objectsAudio ++ objectsStacks ++ objectsFault ++ objectsKeys ++ objectsUpdate ++ objectsWear ++ objectsTest

/-- The object of an index. -/
def objOf (idx : Nat) : Option ObjDef := objects.find? (fun o => o.idx == idx)

/-- The field definition of a call number, whatever the role. -/
def fieldOf (k : Key) : Option FieldDef :=
  match objOf k.idx with
  | none => none
  | some o => if k.el < max o.count 1 then o.fields.find? (fun f => f.lo ≤ k.sub && k.sub ≤ f.hi) else none

end Cat
end Sys2Proof.Machine
end

