-- ==== Sys2Proof/Machine/Sources.lean ====
section
/-! DEFINITION. The fault sources of 16_faults.md (Tables 16.1 to 16.4a), the islands of Table 1.1, and the default of
every Catalogue field. -/
namespace Sys2Proof.Machine

/-- A device-wide source of Table 16.2: name, owner island index (0xFE detail, 0xFF none), default severity, fixed. -/
structure WideSource where
  name : String
  owner : Nat
  severity : Nat
  fixed : Bool
deriving DecidableEq, Repr

/-- Table 16.2, sources 0 to 32 in order (R328). -/
def wideSources : List WideSource := [
  ⟨"COLLECTOR_SELF", 4, 5, true⟩, ⟨"KEEPER_LOCKSTEP", 0, 4, true⟩, ⟨"KEEPER_WATCHDOG", 0, 4, true⟩,
  ⟨"BRINGUP_LATE", 0xFE, 2, false⟩, ⟨"STANDING_FALLBACK", 0, 2, false⟩, ⟨"TWIN_STRAP", 31, 2, false⟩,
  ⟨"TWIN_LINK_DOWN", 31, 2, false⟩, ⟨"TWIN_TIME_OFFSET", 1, 2, false⟩, ⟨"TIME_STEP_REFUSED", 1, 2, false⟩,
  ⟨"TIME_STEPPED", 1, 1, false⟩, ⟨"REF_DEGRADED", 2, 1, false⟩, ⟨"REF_DISAGREE", 2, 2, false⟩,
  ⟨"REF_HOLDOVER", 2, 2, false⟩, ⟨"REF_LOST", 2, 2, false⟩, ⟨"RASTER_DRIFT", 2, 2, false⟩,
  ⟨"SLIP_FAILED", 1, 1, false⟩, ⟨"SLIP_DIVERGED", 1, 2, false⟩, ⟨"FAB_NO_PATH", 5, 2, false⟩,
  ⟨"FAB_UNPROTECTED", 5, 1, false⟩, ⟨"COMP_LAYER_NOT_READY", 0xFF, 1, false⟩, ⟨"AUDIO_SATURATION", 46, 1, false⟩,
  ⟨"AUDIO_PROGRAM_DIVERGED", 46, 2, false⟩, ⟨"AES_TX_DARS_LOST", 46, 1, false⟩, ⟨"MEM_POPULATION", 0xFE, 2, false⟩,
  ⟨"LOAN_TAKEN", 0, 1, false⟩, ⟨"TAMPER", 3, 2, false⟩, ⟨"KEY_STORE", 3, 2, false⟩, ⟨"IMAGE_FALLBACK", 0, 2, false⟩,
  ⟨"THERMAL_WARN", 0xFF, 1, false⟩, ⟨"THERMAL_LIMIT", 0xFF, 2, false⟩, ⟨"MARGIN_LOW", 0xFF, 1, false⟩,
  ⟨"AVS_LIMIT", 0xFF, 2, false⟩, ⟨"POWER_OVER_CAP", 0xFF, 1, false⟩]

/-- The islands in the order of Table 16.3. -/
def islandNames : List String := [
  "KEEP", "TIME", "REF", "SEC", "FLT", "X", "P", "G0", "G1", "G2", "G3", "G4", "G5", "G6", "G7", "G8", "G9", "G10",
  "G11", "N0", "N1", "N2", "N3", "F0", "F1", "F2", "F3", "F4", "F5", "F6", "F7", "TW", "H0", "H1", "D0", "D1", "D2",
  "D3", "C0", "C1", "C2", "C3", "C4", "C5", "C6", "C7", "AUD"]

/-- The READY bit of island i (Tables 1.1 and 16.3, R13). -/
def islandBit (i : Nat) : Nat :=
  if i = 0 then 0 else if i ≤ 5 then i + 1 else if i = 6 then 50 else if i ≤ 18 then i + 1
  else if i ≤ 45 then i + 1 else 47

/-- The island whose READY bit is b, where b is an island bit (R13). -/
def bitIsland (b : Nat) : Option Nat :=
  if b = 0 then some 0 else if 2 ≤ b ∧ b ≤ 6 then some (b - 1) else if b = 50 then some 6
  else if 8 ≤ b ∧ b ≤ 46 then some (b - 1) else if b = 47 then some 46 else none

/-- A source number that is never raised (R327, R328). -/
def srcReserved (n : Nat) : Bool :=
  (decide (33 ≤ n) && decide (n < 64)) || (decide (252 ≤ n) && decide (n < 256)) || decide (663 ≤ n)

/-- The island that owns a source, by its index of Table 16.3; 0xFE detail, 0xFF none (R328 to R330). -/
def srcOwner (n : Nat) : Nat :=
  if n < 64 then ((wideSources[n]?).map (·.owner)).getD 0xFF
  else if n < 252 then (n - 64) / 4
  else if n < 256 then 0xFF
  else if n < 352 then 7 + (n - 256) / 8
  else if n < 400 then 7 + 2 * (n - 352) / 8
  else if n < 496 then 7 + (n - 400) / 8
  else if n < 560 then 23 + (n - 496) / 8
  else if n < 562 then 31
  else if n < 578 then 19 + (n - 562) / 4
  else if n < 594 then 19 + (n - 578) / 4
  else if n < 626 then 46
  else if n < 642 then 34 + (n - 626) / 4
  else if n < 644 then 32 + (n - 642)
  else if n < 663 then 0 else 0xFF

/-- The default severity of a source (Tables 16.2 to 16.4). -/
def srcSeverity (n : Nat) : Nat :=
  if n < 64 then ((wideSources[n]?).map (·.severity)).getD 0
  else if n < 252 then (if (n - 64) % 4 = 0 ∨ (n - 64) % 4 = 2 then 3 else 2)
  else if n < 256 then 0
  else if n < 352 then 1
  else if n < 400 then 2
  else if n < 496 then 1
  else if n < 578 then 2
  else if n < 626 then 1
  else if n < 644 then 2
  else if n < 663 then 1 else 0

/-- Severity fixed whatever the role (Table 16.2, R327). -/
def srcFixed (n : Nat) : Bool :=
  srcReserved n || ((wideSources[n]?).map (·.fixed)).getD false

/-- Table 16.3's names of k. -/
def islandSourceNames : List String := ["INTERNAL", "CROSSING", "CLOCK", "FUNCTION"]

/-- NAME of a source (R436). -/
def srcNameText (n : Nat) : String :=
  if n < 64 then ((wideSources[n]?).map (·.name)).getD ""
  else if n < 252 then
    (islandNames[(n - 64) / 4]?).getD "" ++ "_" ++ (islandSourceNames[(n - 64) % 4]?).getD ""
  else if n < 256 then ""
  else if n < 352 then "SDI_RX " ++ toString (n - 256)
  else if n < 400 then "SDI_GROUP " ++ toString (2 * (n - 352))
  else if n < 496 then "SDI_TX " ++ toString (n - 400)
  else if n < 560 then "FAB_LANE " ++ toString (n - 496)
  else if n < 562 then "TWIN_LANE " ++ toString (n - 560)
  else if n < 578 then "MAC " ++ toString (n - 562)
  else if n < 594 then "MAC_FLOW " ++ toString (n - 578)
  else if n < 626 then "AES_RX " ++ toString (n - 594)
  else if n < 642 then "DDR " ++ toString (n - 626)
  else if n < 644 then "HBM " ++ toString (n - 642)
  else if n = 644 then "CTLA" else if n = 645 then "CTLB" else if n = 646 then "SVC"
  else if n < 663 then "GPI " ++ toString (n - 647) else ""

/-- A text as STR32 encodes it: 32 bytes, padded with zero (R30). -/
def str32 (t : String) : Int :=
  let bs := t.toList.map (fun c => c.toNat)
  (beNat (bs ++ List.replicate (32 - bs.length) 0) : Nat)

/-- The nominal clock of island i in Hz, outside MARGIN (Table 17.1, R368). D islands read 0 until trained. -/
def islandHz (i : Nat) : Nat :=
  if i = 0 then 1000000000 else if i = 1 then 1000000000 else if i = 2 then 500000000 else if i = 3 then 250000000
  else if i = 4 then 500000000 else if i = 5 then 1250000000 else if i = 6 then 1250000000
  else if i ≤ 18 then 800000000 else if i ≤ 33 then 1600000000 else if i ≤ 37 then 0
  else if i ≤ 45 then 1500000000 else 800000000

/-- Entry i = 16 i of the 64 entries of LUT sub-index 2 + j, as one 128-byte number (Table 11.4). -/
def lutDefault (sub : Nat) : Int :=
  ((List.range 64).foldl (fun a i => a * 65536 + 16 * (64 * (sub - 2) + i)) 0 : Nat)

/-- A of R437: the lowest address of the part's block of 32, with its five low bits 0, in the form of a universally administered
unicast address (the two lowest bits of its first octet are 0). -/
def macBase : Nat :=
  let a := Config.macBlock % 2 ^ 43 * 32
  a - a / 2 ^ 40 % 4 * 2 ^ 40

/-- The default a field definition gives an address (R11). -/
def dfltValue (d : Dflt) (k : Key) : Int :=
  match d with
  | .const v => v
  | .elem base mul => base + mul * k.el
  | .below n a b => if k.el < n then a else b
  | .lut => lutDefault k.sub
  | .gates => if k.sub = 5 then 0xFF00000003277EC0 * 2 ^ 448 else 0
  | .diag => if k.sub = 1 ∨ k.sub = 5 ∨ k.sub = 9 then 32768 else 0
  | .slotsAll => (2 ^ 4410 - 1) * 64
  | .macCtl => (macBase + k.el : Nat)
  | .macNet => (macBase + 16 + k.el : Nat)
  | .fused => (Config.fused k.idx k.el k.sub : Nat)
  | .severity => (srcSeverity k.el : Nat)
  | .sevFixed => b2i (srcFixed k.el)
  | .srcOwner => (srcOwner k.el : Nat)
  | .srcName => str32 (srcNameText k.el)
  | .islandName => str32 ((islandNames[k.el]?).getD "")
  | .islandClock => (islandHz k.el : Nat)

/-- The default of a call number; 0 for an internal register and for what no object defines. -/
def dfltOf (k : Key) : Int :=
  if 0x10000 ≤ k.idx then 0 else
  match Cat.fieldOf k with
  | none => 0
  | some f => dfltValue f.dflt k

end Sys2Proof.Machine
end

