-- ==== Sys2Proof/Machine/Store.lean ====
section
/-! DEFINITION. The keyed store of register values in its one canonical form: keys strictly rising, no entry equal to
the key's default. -/
namespace Sys2Proof.Machine

/-- The order of call numbers: index, then element, then sub-index. -/
def keyLt (a b : Key) : Bool :=
  decide (a.idx < b.idx) || (a.idx == b.idx && (decide (a.el < b.el) || (a.el == b.el && decide (a.sub < b.sub))))

/-- A store: the values that differ from their defaults, by rising key. -/
abbrev Store := List (Key × Int)

/-- The value a store lists for a key. -/
def storeFind : Store → Key → Option Int
  | [], _ => none
  | (a, v) :: t, k => if a = k then some v else storeFind t k

/-- The value of a key: the listed one, else the default. -/
def storeGet (t : Store) (k : Key) : Int := (storeFind t k).getD (dfltOf k)

/-- The store without a key. -/
def storeDrop : Store → Key → Store
  | [], _ => []
  | (a, v) :: t, k => if a = k then storeDrop t k else (a, v) :: storeDrop t k

/-- The store with an entry put at its place in the order. -/
def storeIns : Store → Key → Int → Store
  | [], k, v => [(k, v)]
  | (a, w) :: t, k, v => if keyLt k a then (k, v) :: (a, w) :: t else (a, w) :: storeIns t k v

/-- The store in which a key has a value: a value equal to the default is not listed. -/
def storePut (t : Store) (k : Key) (v : Int) : Store :=
  let u := storeDrop t k
  if v = dfltOf k then u else storeIns u k v

/-- Every key of the list lies above `k`. -/
def storeAbove (k : Key) : Store → Bool
  | [] => true
  | (a, _) :: t => keyLt k a && storeAbove k t

/-- The canonical form: keys strictly rising, no value equal to its default. -/
def storeWf : Store → Bool
  | [] => true
  | (a, v) :: t => storeAbove a t && decide (v ≠ dfltOf a) && storeWf t

/-- The entries whose key satisfies `p` (for a reset of part of the store). -/
def storeKeep (p : Key → Bool) : Store → Store
  | [] => []
  | (a, v) :: t => if p a then (a, v) :: storeKeep p t else storeKeep p t

end Sys2Proof.Machine
end

