-- ==== Sys2Proof/Machine/State.lean ====
section
/-! DEFINITION. The state of the block as plain data: the keyed register store (every Catalogue value and the model's
internal registers), the queue of waiting commands, what has been sent, and the structures no register shows. -/
namespace Sys2Proof.Machine

/-- Why a step stops with a fault. No meaning of this model ends in one. -/
inductive Fault
  /-- The command names an element that the part does not have. No meaning raises it: such a command is no event of the part, and changes
  nothing (log entry 1). Safe. -/
  | noSuchElement
deriving DecidableEq, Repr

/-- Why a step has no meaning. -/
inductive Refusal
  /-- The command has no meaning in this model yet. Raised by the arms of the dispatch alone. Safe. -/
  | notModelled (mnemonic : String)
deriving DecidableEq, Repr

/-- One read result (R34). -/
structure ReadResult where
  status : Status
  code : Nat
  len : Nat
  raw : Nat
deriving DecidableEq, Repr

/-- The payload of a response (Table 2.5). -/
inductive Body
  | empty
  | reads (l : List ReadResult)
  | words (l : List Status)
  | block (addr offset len data : Nat)
  | loan (sid epoch expiry : Nat)
  | ping (lt role state highest : Nat)
deriving DecidableEq, Repr

/-- A response: opcode, header status, MORE, the echoed session, sequence, segment and transfer, the item count (R32, R441). -/
structure Resp where
  opcode : Nat
  status : Status
  more : Bool
  session : Nat
  sequence : Nat
  segment : Nat
  transfer : Nat
  items : Nat
  body : Body
deriving DecidableEq, Repr

/-- The messages the device sends to its twin (Table 8.11). -/
inductive TwinMsg
  | time (lt : Nat)
  | decision (kind el idx : Nat) (value : Int)
  | gpiResolve (slip launch seq : Nat)
  | slipOutcome (slip state : Nat) (index : Int)
  | mirrorAck (seq : Nat) (st : Status)
  | mirror (seq : Nat) (req : MirrorReq)
  | health (h : HealthMsg)
  | reconcile (last : Bool) (values standing : List (Nat × Nat × Nat × Int)) (slips : List SlipCopy)
  | measurement (m : Nat)
deriving DecidableEq, Repr

/-- An SVC response (R379, R380): its opcode, status, session and sequence, and the bytes of its payload, in the clear. -/
structure SvcResp where
  opcode : Nat
  status : Status
  session : Nat
  seq : Nat
  payload : List Nat
deriving DecidableEq, Repr

/-- The open SVC session (R379): its ID and key, the last executed sequence with its response, and the tick time of its
last verified request. -/
structure SvcSession where
  id : Nat
  key : SvcKey
  last : Option SvcResp
  lastAt : Int
deriving DecidableEq, Repr

/-- An image slot of the flash (R376): the slot, the total length given at IMAGE_OPEN, and the pieces written: offset,
length, bytes. -/
structure FlashImage where
  slot : Nat
  total : Nat
  pieces : List (Nat × Nat × Nat)
deriving DecidableEq, Repr

/-- A cell of a twin message (Table 8.12): FRAGMENT, SOU, EOU, and the DATA bytes it carries. -/
structure TwinCell where
  fragment : Nat
  sou : Bool
  eou : Bool
  bytes : Nat
deriving DecidableEq, Repr

/-- A slot trailer (Table 8.2): CELL_CRC, SLOT and PERIOD. -/
structure Trailer where
  crc : Nat
  slot : Nat
  period : Nat
deriving DecidableEq, Repr

/-- A picture an output sends from a line of its frame on, until its next one (R135, R136, R142, R152): the first line, what it shows
(0 black, 1 its source's frame, 2 the frozen frame, 3 MATTE, 4 nothing selected: black), the stamp of that frame, the MATTE colour, lines
that go out black because they were never received (first and last; last 0: to the end), the passed ancillary packets, the lines that
carry an ST 352 payload ID, and the embedded audio: 0 none, 1 the source's packets unchanged, 2 output slots, 3 the follow feed, with
each audio group and its first slot or channel. -/
structure OutPicture where
  out : Nat
  line : Nat
  shows : Nat
  stamp : Int
  matte : Nat
  black : List (Nat × Nat)
  anc : List AncPkt
  payload : List Nat
  embed : Nat
  groups : List (Nat × Nat)
deriving DecidableEq, Repr

/-- What stands before a Catalogue message that leaves on a control port: the port (0 CTLA, 1 CTLB), the frame's head, the IPv4 address it
comes from (mapped), and the source and destination UDP port (R32, R206). -/
structure UdpHead where
  port : Nat
  frame : FrameHead
  source : Nat
  sport : Nat
  dport : Nat
deriving DecidableEq, Repr

/-- What leaves the device. -/
inductive Emit
  /-- A response on the ports listed, tagged under the key, or with a zero tag, and the bytes of its datagram (R32, R38, R45). -/
  | response (ports : List UdpHead) (key : Option SessKey) (r : Resp) (bytes : List Nat)
  /-- A notification: its sequence, the LT of the sample, the values due, and the bytes of its datagram (R32, R49). -/
  | notify (ports : List UdpHead) (key : SessKey) (seq lt : Nat) (items : List (Key × Int)) (bytes : List Nat)
  /-- The outcome of one register write command. -/
  | result (st : Status)
  /-- A message to the twin on one twin lane: the lane, TWIN_SEQUENCE, its DATA bytes, and the message (R189). -/
  | twin (lane seq bytes : Nat) (m : TwinMsg)
  /-- A fabric cell sent on a lane, with the trailer of its slot (R163, Table 8.2). -/
  | cell (lane : Nat) (c : Cell) (t : Trailer)
  /-- A packet or frame sent by a MAC or control port: port (0 to 15 MACs, 16 CTLA, 17 CTLB, 18 SVC), head, and content. -/
  | packet (port : Nat) (h : FrameHead) (p : Packet)
  /-- An SVC response: what stands before it, and the bytes of its datagram as they leave, sealed within a session (R379, R380). -/
  | svc (h : UdpHead) (r : SvcResp) (bytes : List Nat)
  /-- A level driven on an output pin (0 ALERT_N, 1 GOB_D word, 2 GPO, 3 FPULSE, 4 AES_OUT, 5 SDI_TX, 6 TDO), its
  number, and the level or word; under the TAP 7 all boundary outputs by their cells, 8 the differential pins (0 pulse, 1
  train), 9 all outputs floated. -/
  | pin (pin n : Nat) (v : Int)
  /-- What an output sends (R143, R152). -/
  | output (p : OutPicture)
  /-- The irregular frame of an ALIGN on a raster (R155): the whole lines of the format it holds, the length in lf of the line cut at
  A (0 none), and the blanking lines that repeat the last line's number. -/
  | irregular (raster : Nat) (whole cut extra : Int)
  /-- A picture delivered at a boundary: 1 synchroniser, 3 head, 4 canvas; element; what it shows and the stamp of the frame. -/
  | picture (where_ n : Nat) (what : Int) (stamp : Int)
  /-- The samples of the output slots at an output instant: slot and value, zeros not listed (R252, R268). -/
  | audio (instant : Int) (l : List (Nat × Int))
  /-- A frame of an AES3 transmitter (R252, R260, R269): the transmitter, the Ledger time of its first preamble at the pin, and its
  subframes A and B as words of R252. -/
  | aes (t : Nat) (at_ : Int) (a b : Nat)
  /-- A composed pixel of a canvas (R239): canvas, x, y, and Y, CB, CR at 10 bits. -/
  | pixel (canvas x y : Nat) (v : Int × Int × Int)
  /-- A pixel of the picture a serial output sends while it shows a canvas (R243): output, x, y, and Y, CB, CR at 10 bits. -/
  | outPixel (e x y : Nat) (v : Int × Int × Int)
  /-- The embedded audio of serial output `o` fades over 48 samples from the sample boundary `at_`, from one feed to another: (−1, 0)
  silence, (−2, b) the output slots from b, else a shelfmark with the SPAN of a past selection (R152, R154). -/
  | follow (o : Nat) (from_ toward : Int × Int) (at_ : Int)
  /-- An injection entry spoils the unit that leaves next (R402): its point, target and action, and the bits flipped. -/
  | injected (point target action : Nat) (bits : List Nat)
  /-- An SMBus answer: the bytes, or none for a NACK (R425). -/
  | smbus (bytes : Option (List Nat))
deriving DecidableEq, Repr

/-- A request remembered for duplicates (R44): its sequence, the tick of the first copy's arrival, the response with
the key of its tag. -/
structure SeqRec where
  seq : Nat
  at_ : Nat
  resp : Option (Option SessKey × Resp)
deriving DecidableEq, Repr

/-- A subscription (R49): object, mode, interval in lf, the value last sent, the tick time the next sample is due. -/
structure Sub where
  key : Key
  mode : Nat
  interval : Int
  last : Int
  due : Int
deriving DecidableEq, Repr

/-- An open write transfer (R47): its ID, object, size, the segments held (offset, length, data), where
the segment that marks the end ends, and the
tick time of its last segment. -/
structure Xfer where
  id : Nat
  key : Key
  size : Nat
  segs : List (Nat × Nat × Nat)
  ended : Option Nat
  lastAt : Int
deriving DecidableEq, Repr

/-- A read snapshot (R48). -/
structure Snap where
  id : Nat
  key : Key
  size : Nat
  data : Nat
  lastAt : Int
deriving DecidableEq, Repr

/-- The open session (R39 to R49). `seen` holds the last 256 requests. -/
structure Session where
  id : Nat
  key : SessKey
  salt : Nat
  seen : List SeqRec
  subs : List Sub
  xfers : List Xfer
  dead : List Nat
  snaps : List Snap
  unlentAt : Int
  lastMsg : Int
deriving DecidableEq, Repr

/-- The previous session, kept to answer NOT_LENT (R41). -/
structure OldSession where
  id : Nat
  key : SessKey
  until_ : Int
deriving DecidableEq, Repr

/-- Where the outcome of a request goes: nowhere, as of one the device makes itself (R215); to the sender of a register write command; or
as a response, prepared for success, under its key. -/
inductive Back
  | silent
  | command
  | answer (r : Resp) (key : SessKey)
deriving DecidableEq, Repr

/-- A request sent to the twin and awaiting its acknowledgement (R35). -/
structure MirrorWait where
  seq : Nat
  req : MirrorReq
  back : Back
  deadline : Int
  /-- Ledger time when execution of the request began: an ARM's ARMED_AT (R95). -/
  at_ : Nat
deriving DecidableEq, Repr

/-- The states of Table 5.1. -/
inductive SlipSt
  | empty | staged | armed | launched | retired | cancelled | superseded | failed
deriving DecidableEq, Repr

/-- A slip (R91, R117). Fields 01 to 0B of `5020` as armed; times in whole leaves where the device computes with them.
`boundary` and `check` are none while the slip waits for a GPI edge. -/
structure Slip where
  num : Nat
  st : SlipSt
  kind : Nat
  target : Nat
  launch : Nat
  late : Nat
  group : Nat
  raster : Nat
  seq : Nat
  trigger : Nat
  gpi : Nat
  offset : Int
  flags : Nat
  armedAt : Nat
  boundary : Option Int
  check : Option Int
  result : Status
  cause : Nat
  items : List (Key × Int)
  origin : Nat
  given : Nat
deriving DecidableEq, Repr

/-- A Logbook entry (Table 16.8). -/
structure LogEntry where
  seq : Nat
  at_ : Nat
  source : Nat
  severity : Nat
  flags : Nat
  detail : Nat
  repeats : Nat
deriving DecidableEq, Repr

/-- A fault raising that waits in its island while FLT restarts (R16, R334). -/
structure HeldRaise where
  source : Nat
  detail : Nat
  /-- The source is a condition that holds (R332). -/
  cond : Bool
  forced : Bool
  lt : Nat
deriving DecidableEq, Repr

/-- A commit of the standing order as the journal holds it (R319, R320): the values that changed since the commit before
it, and whether it is a full snapshot, which starts from the defaults. -/
structure CommitRec where
  values : List (Key × Int)
  full : Bool
deriving DecidableEq, Repr

/-- A record of the Almanac (Table 19.3). Lists run in island, sensor, lane and memory order. -/
structure AlmRec where
  type : Nat
  seq : Nat
  at_ : Nat
  powered : Nat
  avs : Int
  vdd : Nat
  slack : List Nat
  temp : List Int
  eye : List Nat
  mem : List Nat
  powerMean : Nat
  powerMax : Nat
  lid : Int
deriving DecidableEq, Repr


/-- An entry of the promotion store (R150): source, raster, units, frames held newest first, the stamp delivered last
(−1 none), and the outputs that use it. -/
structure Promo where
  shelf : Nat
  raster : Nat
  units : Nat
  frames : List Int
  delivered : Int
  outs : List Nat
deriving DecidableEq, Repr

/-- A reservation pattern on one lane in one direction (R172): the lane, whether it is an egress (transmit) direction,
the plane, the stream and link, phase and count on this lane's own slots, the periods it holds from and before
(none: no end), and at a centre the ingress lane that feeds it. -/
structure Pattern where
  lane : Nat
  tx : Bool
  plane : Nat
  shelf : Nat
  link : Nat
  phase : Nat
  count : Nat
  from_ : Nat
  until_ : Option Nat
  ingress : Nat
deriving DecidableEq, Repr

/-- A move of a plane to another path, make-before-break (R180): the centre asked, how many of the order have been passed, the
request number, and whether its answer is awaited. -/
structure Move where
  centre : Nat
  tried : Nat
  request : Nat
  asked : Bool
deriving DecidableEq, Repr

/-- One plane of a subscription: its state (0 none, 1 requesting, 2 granted, 3 every centre denied), its centre, where in the
order of R175 the round began and how many centres it has passed, the request number, the first period it carries, the tick time
of its last cell, the move under way, and the path left with the period whose first slot releases it (R180). -/
structure Plane where
  st : Nat
  centre : Nat
  start : Nat
  tried : Nat
  request : Nat
  from_ : Nat
  lastCell : Int
  since : Int
  move : Option Move
  old : Option (Nat × Nat)
deriving DecidableEq, Repr

/-- The cell Concordance of one link of a stream (R183): the last key released (stamp and sequence), whether it ended
its unit, and the cells held with the time each has waited from. -/
structure Merge where
  link : Nat
  any : Bool
  stamp : Int
  seq : Nat
  eou : Bool
  held : List (Cell × Int × Int)
deriving DecidableEq, Repr

/-- A fabric subscription (R175): element of `6210`, stream, class, K, links, its users, its planes, its merges, the
source's state as last carried, the delivery stamp of its last frame, and what runs. -/
structure FabSub where
  el : Nat
  shelf : Nat
  cls : Nat
  k : Nat
  links : Nat
  users : List Nat
  protect : Bool
  plane0 : Plane
  plane1 : Plane
  merges : List Merge
  /-- PRESENT, FORMAT, RATE, GROUP, LEVEL, DIVISION as last carried, `none` before the first cell (R170). -/
  src : Option (Bool × Nat × Nat × Nat × Nat × Nat)
  /-- The stamp at which that state applied (R170, R183). -/
  srcAt : Int
  stamp : Int
  /-- Tick time from which the subscription has stood on one plane; 0 none (R179). -/
  singleAt : Int
  unprotected : Bool
  /-- The period its release takes effect; 0 in use. -/
  releaseAt : Nat
deriving DecidableEq, Repr

/-- A packet held by a Concordance: its key, bytes, path, the tick time of its arrival, and its marker (R217, R223). -/
structure HeldPkt where
  t : Int
  q : Nat
  bytes : Nat
  pathB : Bool
  at_ : Int
  marker : Bool
deriving DecidableEq, Repr

/-- When the first copy of a key arrived on each path of a flow, in tick time (R220). -/
structure SkewKey where
  flow : Nat
  t : Int
  q : Nat
  a : Option Int
  b : Option Int
deriving DecidableEq, Repr

/-- The record an egress flow held before a FLOW slip took effect at B, for the frames before B (R214). -/
structure FlowTail where
  el : Nat
  before : Int
  record : Store
deriving DecidableEq, Repr

/-- An ingress flow's Concordance (R217): the packets held, the last key consumed, and whether one was. -/
structure FlowBuf where
  flow : Nat
  held : List HeldPkt
  any : Bool
  t : Int
  q : Nat
deriving DecidableEq, Repr

/-- A frame waiting at a MAC (R203): MAC, class, release time, flow number, bytes, and the packet. -/
structure TxFrame where
  mac : Nat
  cls : Nat
  release : Int
  flow : Nat
  bytes : Nat
  packet : Packet
  /-- A copy an injection entry made: eligible for no entry (R404). -/
  copy : Bool
deriving DecidableEq, Repr

/-- A unit an injection entry can hold (Table 20.2): an essence cell, a packet of a path, a packet released to a MAC; or a
unit whose content the model does not hold. -/
inductive InjUnit
  | cell (c : Cell)
  | packet (f : Nat) (pathB : Bool) (p : Rtp)
  | frame (x : TxFrame)
  | other
deriving DecidableEq, Repr

/-- A unit held by an injection entry (R402): how many eligible units must still pass (0: none, it waits for a time), and
the tick time of its release. -/
structure InjHeld where
  entry : Nat
  unit : InjUnit
  left : Nat
  due : Int
deriving DecidableEq, Repr

/-- Lines of a frame of a source that were never received: shelfmark, delivery stamp, first and last line (0: to the end) (R149,
R151). -/
structure Cut where
  shelf : Nat
  stamp : Int
  first : Nat
  last : Nat
deriving DecidableEq, Repr

/-- An entry of a recorder's index (R281): its stamp, whether it is an absence marker, whether its folio became unreadable (R288), and
the passed ancillary packets that an ESSENCE folio keeps. -/
structure RecEntry where
  stamp : Int
  marker : Bool
  bad : Bool
  anc : List AncPkt
deriving DecidableEq, Repr

/-- The index of a recorder, newest first (R281), or of a clip, oldest first (R285). -/
structure Recording where
  num : Nat
  entries : List RecEntry
deriving DecidableEq, Repr

/-- A layer store (R234): its source, and the delivery stamps of the frames held whole, newest first, at most three. -/
structure LayerStore where
  shelf : Nat
  frames : List Int
deriving DecidableEq, Repr

/-- A corrected memory error noted for the 24-hour count of its row (R289): channel, row, tick time. -/
structure MemErr where
  channel : Nat
  row : Nat
  at_ : Int
deriving DecidableEq, Repr

/-- A compiled audio program (R263): its rate, its edges (element, FROM, TO) by rising element, its buses, and its
operation count. -/
structure Prog where
  rate : Nat
  edges : List (Nat × Nat × Nat)
  buses : List Nat
  ops : Nat
deriving DecidableEq, Repr

/-- A change of a path's gain that is waiting or ramping (R266): a bus or an edge, whether it was open before, the gain it
holds and the gain it goes to, the Ledger time its ramp starts (none: waiting), and the end of its wait. -/
structure PathSt where
  bus : Bool
  num : Nat
  orig : Bool
  from_ : Int
  toward : Int
  ramp : Option Int
  deadline : Int
deriving DecidableEq, Repr

/-- The limiter of an output slot (R268): the 32 samples it holds, oldest first, each with whether it is a subframe, and
its gain in units of 2⁻³¹. -/
structure LimSt where
  slot : Nat
  line : List (Int × Bool)
  g : Nat
deriving DecidableEq, Repr

/-- A fade of input slots (R257): first slot, count, the level at its start in 1/32,768, its start, and its direction. -/
structure SlotFade where
  base : Nat
  count : Nat
  level : Int
  start : Int
  up : Bool
deriving DecidableEq, Repr

/-- What the output slots go through after a swap or a return (R264, R271): 0 crossfade, 1 change of rate, 2 ramp in; its
start, and the program before it. -/
structure AudFade where
  kind : Nat
  start : Int
  old : Prog
deriving DecidableEq, Repr
/-- What holds the device in reset. -/
inductive Held
  /-- Out of reset. -/
  | running
  /-- PORST_N is low. -/
  | porst
  /-- The internal reset of a rail monitor stands (R413). -/
  | brownout
deriving DecidableEq, Repr

/-- The whole state of the block. -/
structure State where
  /-- The commands that wait, first in first out. -/
  pending : List Instr
  /-- Every Catalogue value and internal register that differs from its default. -/
  regs : Store
  /-- What has left the device, oldest first. -/
  out : List Emit
  /-- The model's own counter of free values drawn (log entry 3). -/
  free : Nat
  held : Held
  /-- The Ledger counter in units of 2⁻³² lf (R56). -/
  ledger : Nat
  /-- t of R56: ticks since the release of PORST_N. -/
  ticks : Nat
  /-- The increments in force over the last 64 s, newest first, each with the tick it began on (Table 3.4, HOLDING). -/
  incLog : List (Nat × Nat)
  session : Option Session
  oldSession : Option OldSession
  /-- The boot measurement whose keys verified before the last exchange of the Keeper pairs, with the Ledger time its grace ends (R43). -/
  grace : Option (Nat × Int)
  /-- AUTH_FAIL answers sent: port and tick (R38, R439). -/
  authAnswers : List (Nat × Nat)
  /-- Sessionless PINGs answered: port and tick (R51, R439). -/
  pingAnswers : List (Nat × Nat)
  /-- Requests sent to the twin and awaiting its acknowledgement, in order (R35). -/
  mirrorWait : List MirrorWait
  /-- The slips not EMPTY, by rising number (R91). -/
  slips : List Slip
  /-- The Logbook, oldest first, at most 64 (R347). -/
  log : List LogEntry
  /-- The ticks at which the Logbook entries of the last second were written (R348). -/
  logTicks : List Nat
  /-- Recoveries counted: source and tick time (R340). -/
  recoveries : List (Nat × Int)
  /-- Raisings that wait for the collector (R334). -/
  heldRaises : List HeldRaise
  /-- The standing-order journal in flash, newest commit first (R316, R320). Kept through reset. -/
  journal : List CommitRec
  /-- The copy a COMMIT took, while it is being written (R319). -/
  commitCopy : Option Store
  /-- The last HEALTH of the twin. -/
  twin : Option HealthMsg
  /-- RECONCILE values received so far (R296). -/
  reconBuf : List (Key × Int)
  /-- Almanac interval records, newest first, at most 8,192 (R388). Kept through reset. -/
  almIntervals : List AlmRec
  /-- Almanac day records, newest first (R388). Kept through reset. -/
  almDays : List AlmRec
  /-- The last one-second measurements of each of the five candidates, newest first, at most ten (R76). -/
  refMeas : List (List Int)
  /-- The output frequency at each of the last 66 measurements, newest first (R82). -/
  refOut : List Int
  /-- The selected candidate's measurement at each of the last 66 measurements, newest first; none where no candidate was
  selected (R82). -/
  refSel : List (Option Int)
  /-- Raw transitions of receive lanes, newest first: lane and tick time (Table 6.6). -/
  sdiEdges : List (Nat × Int)
  /-- Raw transitions of GPI inputs, newest first: input and tick time (R432). -/
  gpiEdges : List (Nat × Int)
  /-- The signal that stands at each receive lane's pin, as its recovery last reported it (R126). -/
  sdiPins : List (Nat × SdiLink)
  /-- The passed ancillary packets of each receive lane's last nine frames, newest first, by frame stamp (R129). -/
  anc : List (Nat × Int × List AncPkt)
  /-- Lines of a source's frames that were never received, newest first (R149, R151). -/
  cuts : List Cut
  /-- The frames each synchroniser holds, by decision stamp, newest first, at most 8 (R149). -/
  syncFrames : List (Nat × List Int)
  /-- The entries of the promotion store (R150). -/
  promos : List Promo
  /-- DECISION messages held for their boundaries: kind, element, the boundary's index, value (R148, R293). -/
  decisions : List (Nat × Nat × Nat × Int)
  /-- The frame's offer table, with the tick time of each record's refresh (R171). -/
  offers : List (OfferRec × Int)
  /-- The offer records this device last sent (R171). -/
  offersSent : List OfferRec
  /-- The fabric subscriptions held (R175). -/
  fabSubs : List FabSub
  /-- The patterns of every lane, both directions, in force and in the shadow calendar (R172, R176). -/
  patterns : List Pattern
  /-- Requests a centre holds for its next cut-off: RESERVEs, and RELEASEs (R177, R180). -/
  requests : List (Bool × Resv)
  /-- The Concordances of ingress flows that have taken a packet since their accession (R217). -/
  flowBufs : List FlowBuf
  /-- Arrivals of keys in the last two seconds (R220). -/
  skews : List SkewKey
  /-- The records of egress flows whose last frame before B is still sent (R214). -/
  flowTails : List FlowTail
  /-- Changes of membership whose reports are still sent: MAC, whether joined, group, source (R216). -/
  memNews : List (Nat × Bool × Nat × Option Nat)
  /-- The last 64 TWIN_SEQUENCEs received since the link came up (R189). -/
  twinSeen : List Nat
  /-- Frames that wait at the MACs, in order of arrival (R198, R203). -/
  txQueue : List TxFrame
  /-- The layer stores (R234). -/
  layerStores : List LayerStore
  /-- The indexes of the recorders (R281). -/
  recordings : List Recording
  /-- The entries the clips hold (R285). -/
  clips : List Recording
  /-- Corrected errors of the last 24 h (R289). -/
  memErrs : List MemErr
  /-- Candidate rows with the pages they withdrew: channel, row, pages (R289). -/
  memRows : List (Nat × Nat × Nat)
  /-- The audio program in force (R264). -/
  progRun : Prog
  /-- The shadow program (R263). -/
  progShadow : Prog
  /-- The shadow handed over at the check point of a LAUNCHED AUDIO_PROGRAM slip (R264). -/
  progNext : Option Prog
  /-- Paths whose change is pending (R266). -/
  paths : List PathSt
  /-- The limiters that hold a sample or a gain below 1 (R268). -/
  limiters : List LimSt
  /-- Fades of input slots (R257). -/
  slotFades : List SlotFade
  /-- The fade of the output slots, if one runs (R264, R271). -/
  audFade : Option AudFade
  /-- The values of input slots and buses at the last instant, zeros not listed: node code and value (R266). -/
  audioPrev : List (Nat × Int)
  /-- Input slots two writers cover, as last counted (R253). -/
  overlaps : List Nat
  /-- The units injection entries hold, in the order they were held (R402). -/
  injHeld : List InjHeld
  /-- The open SVC session (R379). -/
  svc : Option SvcSession
  /-- The last request executed in SVC session 0, by its response (R379). -/
  svcPlain : Option SvcResp
  /-- The image slots of the flash (R376). Kept through reset. -/
  flash : List FlashImage
  /-- In-force RWS values received in a reconciliation that wait for their boundaries, as unnumbered slips, and the audio
  program compiled in it (R296). -/
  reconSlips : List Slip
deriving DecidableEq, Repr

/-- The block right after PORST_N is asserted: every object at its default, nothing held, no command waiting. The
board's release of PORST_N, the islands' readiness and the first step of Ledger time are commands (R310, R311). -/
def State.reset : State where
  pending := []
  regs := []
  out := []
  free := 0
  held := .porst
  ledger := 0
  ticks := 0
  incLog := []
  session := none
  oldSession := none
  grace := none
  authAnswers := []
  pingAnswers := []
  mirrorWait := []
  slips := []
  log := []
  logTicks := []
  recoveries := []
  heldRaises := []
  journal := []
  commitCopy := none
  twin := none
  reconBuf := []
  almIntervals := []
  almDays := []
  refMeas := []
  refOut := []
  refSel := []
  sdiEdges := []
  gpiEdges := []
  sdiPins := []
  anc := []
  cuts := []
  syncFrames := []
  promos := []
  decisions := []
  offers := []
  offersSent := []
  fabSubs := []
  patterns := []
  requests := []
  flowBufs := []
  skews := []
  flowTails := []
  memNews := []
  twinSeen := []
  txQueue := []
  layerStores := []
  recordings := []
  clips := []
  memErrs := []
  memRows := []
  progRun := ⟨0, [], [], 0⟩
  progShadow := ⟨0, [], [], 0⟩
  progNext := none
  paths := []
  limiters := []
  slotFades := []
  audFade := none
  audioPrev := []
  overlaps := []
  injHeld := []
  svc := none
  svcPlain := none
  flash := []
  reconSlips := []

end Sys2Proof.Machine
end

