-- ==== Sys2Proof/Machine/Wire.lean ====
section
/-! DEFINITION. The bytes of Catalogue messages: the header of Table 2.4, the payloads of Table 2.5, the session key and the tag
(02_catalogue_protocol.md, R32, R34, R38, R39). -/
namespace Sys2Proof
open Machine

/-! ### Keys and tags -/

/-- ASCII bytes. -/
def ascii (x : String) : List Nat := x.toList.map (fun c => c.toNat)

/-- The info string of the session key: 26 ASCII bytes, the token's 32-byte salt, the 4-byte session ID (R39). -/
def SessKey.info (k : SessKey) : List Nat := ascii "ERX-1536 CATALOGUE SESSION" ++ beBytes 32 k.salt ++ beBytes 4 k.sid

/-- K: 32 bytes of HKDF-SHA-384 over slot 1, the boot measurement and the info string (R39). -/
def SessKey.value (k : SessKey) : List Nat := hkdf384 (beBytes 64 k.slot1) (beBytes 48 k.measurement) k.info 32

/-- The tag of a message: the first 16 bytes of HMAC-SHA-256 under K over its header and payload (R38). -/
def SessKey.tag (k : SessKey) (bytes : List Nat) : Nat := beNat ((hmacSha256 k.value bytes).take 16)

/-! ### Requests -/

/-- The 20 bytes of a header with its opcode (Table 2.4). -/
def Header.bytes (h : Header) (opcode : Nat) : List Nat :=
  [h.version % 256, opcode % 256, h.status % 256, h.flags % 256] ++ beBytes 4 h.session ++ beBytes 4 h.sequence ++ beBytes 2 h.segment ++
    beBytes 2 h.length ++ beBytes 2 h.transfer ++ beBytes 2 h.items

/-- An address, six bytes (Table 2.1). -/
def addrBytes (l : List Nat) : List Nat := l.flatMap (fun a => beBytes 6 a)

/-- Value items with their reserved bytes (R34). -/
def itemBytes : List Nat → List Item → List Nat
  | _, [] => []
  | rs, i :: l =>
    beBytes 6 i.addr ++ [i.val.code % 256, rs.headD 0 % 256] ++ beBytes 2 i.val.len ++ beBytes i.val.len i.val.raw ++ itemBytes rs.tail l

/-- A slip's number with its reserved U16, ahead of value items (Table 2.5). -/
def slipBytes (rs : List Nat) (slip : Nat) (items : List Item) : List Nat :=
  beBytes 2 slip ++ [rs.headD 0 % 256, rs.tail.headD 0 % 256] ++ itemBytes (rs.drop 2) items

/-- Subscription items (R49). -/
def subBytes : List Nat → List SubItem → List Nat
  | _, [] => []
  | rs, i :: l => beBytes 6 i.addr ++ [i.mode % 256, rs.headD 0 % 256] ++ beBytes 8 (fromSigned 64 i.interval) ++ subBytes rs.tail l

/-- A block header (R34). -/
def blockBytes (rs : List Nat) (addr offset len : Nat) : List Nat :=
  beBytes 6 addr ++ [rs.headD 0 % 256, rs.tail.headD 0 % 256] ++ beBytes 4 offset ++ beBytes 4 len

/-- The 160 bytes of a loan token (Table 14.4). -/
def Token.bytes (t : Token) : List Nat :=
  [t.format % 256, t.side % 256, t.flags % 256, t.spare % 256] ++ beBytes 4 t.deskId ++ beBytes 8 t.epoch ++ beBytes 16 t.serial ++
    beBytes 12 t.notBefore ++ beBytes 12 t.expiry ++ beBytes 32 t.salt ++ beBytes 8 t.reserved ++ beBytes 32 t.sigR ++ beBytes 32 t.sigS

/-- A token's signature verifies under the public key of slot 0: ECDSA P-256 over the SHA-256 digest of bytes 0 to 95 (R297). -/
def Token.signedBy (t : Token) (slot0 : Nat) : Bool :=
  curve256.verify (slot0 / 2 ^ 256) (slot0 % 2 ^ 256) (sha256 (t.bytes.take 96)) t.sigR t.sigS

/-- The SOLO flag of a token (R300). -/
def Token.solo (t : Token) : Bool := t.flags % 2 == 1

/-- Whether a request's tag verifies under a key (R38). -/
def Msg.verifies (m : Msg) (k : SessKey) (opcode : Nat) (payload : List Nat) : Bool := m.tag == k.tag (m.hdr.bytes opcode ++ payload)

/-! ### The service port (R379) -/

/-- The 16 bytes of an SVC header (Table 18.11). -/
def svcHeader (version opcode status flags session seq length reserved : Nat) : List Nat :=
  [version % 256, opcode % 256, status % 256, flags % 256] ++ beBytes 4 session ++ beBytes 4 seq ++ beBytes 2 length ++ beBytes 2 reserved

/-- The 76 bytes that the keys of an SVC session come to: the client's key, the device's, and the IV base (Table 18.3). -/
def SvcKey.material (k : SvcKey) (m : Nat) : List Nat :=
  hkdf384 (beBytes 64 k.slot3) (beBytes 48 m) (ascii "ERX-1536 SVC SESSION" ++ beBytes 16 k.clientNonce ++ beBytes 16 k.deviceNonce) 76

/-- The ciphertext and tag of an SVC payload in a session: AES-256-GCM under the key of its direction, the header as additional data, the
nonce the IV base with the sequence XORed into its last 4 bytes (R379). -/
def SvcKey.seal (k : SvcKey) (m : Nat) (fromDevice : Bool) (seq : Nat) (header payload : List Nat) : List Nat × List Nat :=
  let x := k.material m
  gcmSeal ((x.drop (if fromDevice then 32 else 0)).take 32) (beBytes 12 (beNat (x.drop 64) ^^^ (seq % 2 ^ 32))) header payload

end Sys2Proof

namespace Sys2Proof.Machine

/-! ### What the device sends -/

/-- The bytes of a response's payload (Table 2.5). -/
def Body.bytes (opcode : Nat) : Body → List Nat
  | .empty => []
  | .reads l => l.flatMap (fun r => [r.status.code, r.code % 256] ++ beBytes 2 r.len ++ beBytes r.len r.raw)
  | .words l => l.flatMap (fun st => [st.code, 0, 0, 0])
  | .block addr offset len data => blockBytes [] addr offset len ++ (if opcode = 7 then beBytes len data else [])
  | .loan sid epoch expiry => beBytes 4 sid ++ beBytes 8 epoch ++ beBytes 12 expiry
  | .ping lt role state highest => beBytes 12 lt ++ [role % 256, state % 256, 0, 0] ++ beBytes 4 highest

/-- A message with its 16-byte tag; no key: all zero (R32, R38). -/
def withTag (key : Option SessKey) (bytes : List Nat) : List Nat :=
  bytes ++ beBytes 16 (match key with | none => 0 | some k => k.tag bytes)

/-- The datagram of a response: Version 1, RESPONSE set, and the length of its payload (Table 2.4). -/
def Resp.datagram (r : Resp) (key : Option SessKey) : List Nat :=
  let p := r.body.bytes r.opcode
  withTag key ((Header.mk 1 r.status.code (128 + 32 * b2n r.more) r.session r.sequence r.segment p.length r.transfer r.items).bytes r.opcode ++ p)

/-- A value item as the device sends it: an address and a value (R34). -/
def sentItem (addr : Nat) (v : Value) : List Nat := beBytes 6 addr ++ [v.code % 256, 0] ++ beBytes 2 v.len ++ beBytes v.len v.raw

/-- The datagram of a notification: opcode SUBSCRIBE with NOTIFY set, the LT of the sample, and the value items (R49). -/
def noticeDatagram (key : SessKey) (session seq lt : Nat) (items : List (Nat × Value)) : List Nat :=
  let p := beBytes 12 lt ++ items.flatMap (fun i => sentItem i.1 i.2)
  withTag (some key) ((Header.mk 1 0 64 session seq 0 p.length 0 items.length).bytes 6 ++ p)

/-- The datagram of an SVC response: in the clear with a zero tag, or sealed under the device's key (R379). -/
def SvcResp.datagram (r : SvcResp) (key : Option (SvcKey × Nat)) : List Nat :=
  let h := svcHeader 1 r.opcode r.status.code 1 r.session r.seq r.payload.length 0
  match key with
  | none => h ++ r.payload ++ List.replicate 16 0
  | some (k, m) =>
    let c := k.seal m true r.seq h r.payload
    h ++ c.1 ++ c.2

end Sys2Proof.Machine
end

