-- ==== Sys2Proof/Machine/Keys.lean ====
section
/-! DEFINITION. The names of the registers: one abbreviation for each Catalogue field (Reg), and one for each internal
register, which no address reaches (Hid). -/
namespace Sys2Proof.Machine

namespace Reg

/-- `1000:01`. -/
abbrev IDENTITY_PART : Key := ⟨0x1000, 0, 1⟩
/-- `1000:02`. -/
abbrev IDENTITY_REVISION : Key := ⟨0x1000, 0, 2⟩
/-- `1000:03`. -/
abbrev IDENTITY_SERIAL : Key := ⟨0x1000, 0, 3⟩
/-- `1000:04`. -/
abbrev IDENTITY_ROM_VERSION : Key := ⟨0x1000, 0, 4⟩
/-- `1000:05`. -/
abbrev IDENTITY_EDITION : Key := ⟨0x1000, 0, 5⟩
/-- `1000:06`. -/
abbrev IDENTITY_SLOT_ID : Key := ⟨0x1000, 0, 6⟩
/-- `1000:07`. -/
abbrev IDENTITY_SVC_EN : Key := ⟨0x1000, 0, 7⟩
/-- `1010:00`. -/
abbrev ROLE : Key := ⟨0x1010, 0, 0⟩
/-- `1100:01`. -/
abbrev MODE_MODE_L : Key := ⟨0x1100, 0, 1⟩
/-- `1100:02`. -/
abbrev MODE_MODE_R : Key := ⟨0x1100, 0, 2⟩
/-- `1101:00`. -/
abbrev MODE_ACTIVE : Key := ⟨0x1101, 0, 0⟩
/-- `1102:01`. -/
abbrev MODE_HISTORY_SINCE : Key := ⟨0x1102, 0, 1⟩
/-- `1102:02`. -/
abbrev MODE_HISTORY_PREVIOUS : Key := ⟨0x1102, 0, 2⟩
/-- `1102:03`. -/
abbrev MODE_HISTORY_CHANGES : Key := ⟨0x1102, 0, 3⟩
/-- `1102:04`. -/
abbrev MODE_HISTORY_LAST_REFUSAL : Key := ⟨0x1102, 0, 4⟩
/-- `1110:01`. -/
abbrev POWER_CAP : Key := ⟨0x1110, 0, 1⟩
/-- `1110:02`. -/
abbrev POWER_ESTIMATE : Key := ⟨0x1110, 0, 2⟩
/-- `1110:03`. -/
abbrev POWER_MEASURED : Key := ⟨0x1110, 0, 3⟩
/-- `1120:01`. -/
abbrev SUPPLY_BASE : Key := ⟨0x1120, 0, 1⟩
/-- `1120:02`. -/
abbrev SUPPLY_TARGET : Key := ⟨0x1120, 0, 2⟩
/-- `1120:03`. -/
abbrev SUPPLY_VDD : Key := ⟨0x1120, 0, 3⟩
/-- `1120:04`. -/
abbrev SUPPLY_LID : Key := ⟨0x1120, 0, 4⟩
/-- `1120:05`. -/
abbrev SUPPLY_RESET_CAUSE : Key := ⟨0x1120, 0, 5⟩
/-- `1120:06`. -/
abbrev SUPPLY_BROWNOUTS : Key := ⟨0x1120, 0, 6⟩
/-- `1200:00`. -/
abbrev READY : Key := ⟨0x1200, 0, 0⟩
/-- `1201[e]:01`. -/
abbrev READY_TIME_ELAPSED (e : Nat) : Key := ⟨0x1201, e, 1⟩
/-- `1201[e]:02`. -/
abbrev READY_TIME_AT (e : Nat) : Key := ⟨0x1201, e, 2⟩
/-- `1201[e]:03`. -/
abbrev READY_TIME_CHANGES (e : Nat) : Key := ⟨0x1201, e, 3⟩
/-- `1210[e]:01`. -/
abbrev ISLAND_NAME (e : Nat) : Key := ⟨0x1210, e, 1⟩
/-- `1210[e]:02`. -/
abbrev ISLAND_CLOCK (e : Nat) : Key := ⟨0x1210, e, 2⟩
/-- `1210[e]:03`. -/
abbrev ISLAND_STATE (e : Nat) : Key := ⟨0x1210, e, 3⟩
/-- `1210[e]:04`. -/
abbrev ISLAND_RESTARTS (e : Nat) : Key := ⟨0x1210, e, 4⟩
/-- `1210[e]:05`. -/
abbrev ISLAND_LAST_RESTART (e : Nat) : Key := ⟨0x1210, e, 5⟩
/-- `1210[e]:06`. -/
abbrev ISLAND_FLUSHED (e : Nat) : Key := ⟨0x1210, e, 6⟩
/-- `1210[e]:07`. -/
abbrev ISLAND_SATURATIONS (e : Nat) : Key := ⟨0x1210, e, 7⟩
/-- `1210[e]:08`. -/
abbrev ISLAND_RESYNCS (e : Nat) : Key := ⟨0x1210, e, 8⟩
/-- `1210[e]:09`. -/
abbrev ISLAND_CAUSE (e : Nat) : Key := ⟨0x1210, e, 9⟩
/-- `1300:01`. -/
abbrev LOAN_STATE : Key := ⟨0x1300, 0, 1⟩
/-- `1300:02`. -/
abbrev LOAN_DESK_ID : Key := ⟨0x1300, 0, 2⟩
/-- `1300:03`. -/
abbrev LOAN_NOT_BEFORE : Key := ⟨0x1300, 0, 3⟩
/-- `1300:04`. -/
abbrev LOAN_EXPIRY : Key := ⟨0x1300, 0, 4⟩
/-- `1300:05`. -/
abbrev LOAN_SOLO : Key := ⟨0x1300, 0, 5⟩
/-- `1300:06`. -/
abbrev LOAN_LAST_REFUSAL : Key := ⟨0x1300, 0, 6⟩
/-- `1300:07`. -/
abbrev LOAN_REFUSALS : Key := ⟨0x1300, 0, 7⟩
/-- `1300:08`. -/
abbrev LOAN_RELEASE : Key := ⟨0x1300, 0, 8⟩
/-- `1300:09`. -/
abbrev LOAN_TWIN_EPOCH : Key := ⟨0x1300, 0, 9⟩
/-- `1310:00`. -/
abbrev LOAN_PRESENT : Key := ⟨0x1310, 0, 0⟩
/-- `1320:01`. -/
abbrev PAIRING_STATE : Key := ⟨0x1320, 0, 1⟩
/-- `1320:02`. -/
abbrev PAIRING_SIDE : Key := ⟨0x1320, 0, 2⟩
/-- `1320:03`. -/
abbrev PAIRING_PARTNER_SLOT : Key := ⟨0x1320, 0, 3⟩
/-- `1320:04`. -/
abbrev PAIRING_RECONCILE_ITEMS : Key := ⟨0x1320, 0, 4⟩
/-- `1320:05`. -/
abbrev PAIRING_RECONCILES : Key := ⟨0x1320, 0, 5⟩
/-- `1320:06`. -/
abbrev PAIRING_MIRROR_REFUSALS : Key := ⟨0x1320, 0, 6⟩
/-- `1400:01`. -/
abbrev SESSION_SESSION_ID : Key := ⟨0x1400, 0, 1⟩
/-- `1400:02`. -/
abbrev SESSION_SESSION_STATE : Key := ⟨0x1400, 0, 2⟩
/-- `1400:03`. -/
abbrev SESSION_EPOCH : Key := ⟨0x1400, 0, 3⟩
/-- `1400:04`. -/
abbrev SESSION_EXPIRY : Key := ⟨0x1400, 0, 4⟩
/-- `1400:05`. -/
abbrev SESSION_HIGHEST_SEQ : Key := ⟨0x1400, 0, 5⟩
/-- `1400:06`. -/
abbrev SESSION_NOTIFY_SEQ : Key := ⟨0x1400, 0, 6⟩
/-- `1400:07`. -/
abbrev SESSION_MAX_PAYLOAD : Key := ⟨0x1400, 0, 7⟩
/-- `1400:08`. -/
abbrev SESSION_DUPLICATES : Key := ⟨0x1400, 0, 8⟩
/-- `1400:09`. -/
abbrev SESSION_AUTH_FAILS : Key := ⟨0x1400, 0, 9⟩
/-- `1400:0A`. -/
abbrev SESSION_SEQ_REFUSED : Key := ⟨0x1400, 0, 10⟩
/-- `1400:0B`. -/
abbrev SESSION_SUBSCRIPTIONS : Key := ⟨0x1400, 0, 11⟩
/-- `1410[e]:01`. -/
abbrev CTL_PORT_PORT_MAC (e : Nat) : Key := ⟨0x1410, e, 1⟩
/-- `1410[e]:02`. -/
abbrev CTL_PORT_PORT_ADDRESS (e : Nat) : Key := ⟨0x1410, e, 2⟩
/-- `1410[e]:03`. -/
abbrev CTL_PORT_PORT_PREFIX (e : Nat) : Key := ⟨0x1410, e, 3⟩
/-- `1410[e]:04`. -/
abbrev CTL_PORT_UDP_PORT (e : Nat) : Key := ⟨0x1410, e, 4⟩
/-- `1410[e]:05`. -/
abbrev CTL_PORT_JUMBO (e : Nat) : Key := ⟨0x1410, e, 5⟩
/-- `1410[e]:06`. -/
abbrev CTL_PORT_LINK (e : Nat) : Key := ⟨0x1410, e, 6⟩
/-- `1500:01`. -/
abbrev STANDING_COMMIT_COMMIT : Key := ⟨0x1500, 0, 1⟩
/-- `1500:02`. -/
abbrev STANDING_COMMIT_STATE : Key := ⟨0x1500, 0, 2⟩
/-- `1500:03`. -/
abbrev STANDING_COMMIT_LAST_COMMIT : Key := ⟨0x1500, 0, 3⟩
/-- `1500:04`. -/
abbrev STANDING_COMMIT_COMMITS : Key := ⟨0x1500, 0, 4⟩
/-- `1500:05`. -/
abbrev STANDING_COMMIT_RESTORED_FROM : Key := ⟨0x1500, 0, 5⟩
/-- `1500:06`. -/
abbrev STANDING_COMMIT_RASTER_START : Key := ⟨0x1500, 0, 6⟩
/-- `1500:07`. -/
abbrev STANDING_COMMIT_SKIPPED : Key := ⟨0x1500, 0, 7⟩
/-- `1500:08`. -/
abbrev STANDING_COMMIT_JOURNAL_ERASES : Key := ⟨0x1500, 0, 8⟩
/-- `1600[e]:01`. -/
abbrev GPI_POLARITY (e : Nat) : Key := ⟨0x1600, e, 1⟩
/-- `1600[e]:02`. -/
abbrev GPI_DEBOUNCE (e : Nat) : Key := ⟨0x1600, e, 2⟩
/-- `1600[e]:03`. -/
abbrev GPI_CHATTER_EDGES (e : Nat) : Key := ⟨0x1600, e, 3⟩
/-- `1600[e]:04`. -/
abbrev GPI_CHATTER_WINDOW (e : Nat) : Key := ⟨0x1600, e, 4⟩
/-- `1600[e]:05`. -/
abbrev GPI_STUCK_TIME (e : Nat) : Key := ⟨0x1600, e, 5⟩
/-- `1600[e]:06`. -/
abbrev GPI_LEVEL (e : Nat) : Key := ⟨0x1600, e, 6⟩
/-- `1600[e]:07`. -/
abbrev GPI_STATE (e : Nat) : Key := ⟨0x1600, e, 7⟩
/-- `1600[e]:08`. -/
abbrev GPI_EDGES (e : Nat) : Key := ⟨0x1600, e, 8⟩
/-- `1600[e]:09`. -/
abbrev GPI_LAST_EDGE (e : Nat) : Key := ⟨0x1600, e, 9⟩
/-- `1610[e]:01`. -/
abbrev GPO_LEVEL (e : Nat) : Key := ⟨0x1610, e, 1⟩
/-- `1610[e]:02`. -/
abbrev GPO_STRAP (e : Nat) : Key := ⟨0x1610, e, 2⟩
/-- `1700:01`. -/
abbrev GOB_GOOD : Key := ⟨0x1700, 0, 1⟩
/-- `1700:02`. -/
abbrev GOB_HOLD_BAD_L : Key := ⟨0x1700, 0, 2⟩
/-- `1700:03`. -/
abbrev GOB_HOLD_BAD_R : Key := ⟨0x1700, 0, 3⟩
/-- `1700:04`. -/
abbrev GOB_WORDS : Key := ⟨0x1700, 0, 4⟩
/-- `2000:00`. -/
abbrev TIME_NOW : Key := ⟨0x2000, 0, 0⟩
/-- `2001:00`. -/
abbrev TIME_STATE : Key := ⟨0x2001, 0, 0⟩
/-- `2010:00`. -/
abbrev TIME_INCREMENT : Key := ⟨0x2010, 0, 0⟩
/-- `2020:01`. -/
abbrev TIME_STEP_AMOUNT : Key := ⟨0x2020, 0, 1⟩
/-- `2020:02`. -/
abbrev TIME_STEP_FORCE : Key := ⟨0x2020, 0, 2⟩
/-- `2021:00`. -/
abbrev STEP_LIMIT : Key := ⟨0x2021, 0, 0⟩
/-- `2022:01`. -/
abbrev STEP_STATUS_LAST_AMOUNT : Key := ⟨0x2022, 0, 1⟩
/-- `2022:02`. -/
abbrev STEP_STATUS_RESULT : Key := ⟨0x2022, 0, 2⟩
/-- `2022:03`. -/
abbrev STEP_STATUS_AT : Key := ⟨0x2022, 0, 3⟩
/-- `2022:04`. -/
abbrev STEP_STATUS_SOURCE : Key := ⟨0x2022, 0, 4⟩
/-- `2022:05`. -/
abbrev STEP_STATUS_REFUSED_COUNT : Key := ⟨0x2022, 0, 5⟩
/-- `2022:06`. -/
abbrev STEP_STATUS_PENDING_OFFSET : Key := ⟨0x2022, 0, 6⟩
/-- `2030:01`. -/
abbrev DISCIPLINE_OWNER : Key := ⟨0x2030, 0, 1⟩
/-- `2030:02`. -/
abbrev DISCIPLINE_SERVO_STATE : Key := ⟨0x2030, 0, 2⟩
/-- `2030:03`. -/
abbrev DISCIPLINE_SLEW_THRESHOLD : Key := ⟨0x2030, 0, 3⟩
/-- `2030:04`. -/
abbrev DISCIPLINE_SELECTED_PORT : Key := ⟨0x2030, 0, 4⟩
/-- `2030:05`. -/
abbrev DISCIPLINE_OFFSET : Key := ⟨0x2030, 0, 5⟩
/-- `2030:06`. -/
abbrev DISCIPLINE_TWIN_OFFSET : Key := ⟨0x2030, 0, 6⟩
/-- `2040[e]:01`. -/
abbrev PTP_PORT_ENABLE (e : Nat) : Key := ⟨0x2040, e, 1⟩
/-- `2040[e]:02`. -/
abbrev PTP_PORT_DOMAIN (e : Nat) : Key := ⟨0x2040, e, 2⟩
/-- `2040[e]:03`. -/
abbrev PTP_PORT_STEP_MODE (e : Nat) : Key := ⟨0x2040, e, 3⟩
/-- `2040[e]:04`. -/
abbrev PTP_PORT_PORT_STATE (e : Nat) : Key := ⟨0x2040, e, 4⟩
/-- `2040[e]:05`. -/
abbrev PTP_PORT_MASTER (e : Nat) : Key := ⟨0x2040, e, 5⟩
/-- `2040[e]:06`. -/
abbrev PTP_PORT_PORT_OFFSET (e : Nat) : Key := ⟨0x2040, e, 6⟩
/-- `2040[e]:07`. -/
abbrev PTP_PORT_MEAN_PATH_DELAY (e : Nat) : Key := ⟨0x2040, e, 7⟩
/-- `2040[e]:08`. -/
abbrev PTP_PORT_ANNOUNCE_TIMEOUT (e : Nat) : Key := ⟨0x2040, e, 8⟩
/-- `2040[e]:09`. -/
abbrev PTP_PORT_ASYMMETRY (e : Nat) : Key := ⟨0x2040, e, 9⟩
/-- `2050[e]:01`. -/
abbrev TIMESTAMP_CAPTURE_EDGE (e : Nat) : Key := ⟨0x2050, e, 1⟩
/-- `2050[e]:02`. -/
abbrev TIMESTAMP_CAPTURE_LAST (e : Nat) : Key := ⟨0x2050, e, 2⟩
/-- `2050[e]:03`. -/
abbrev TIMESTAMP_CAPTURE_COUNT (e : Nat) : Key := ⟨0x2050, e, 3⟩
/-- `2100:01`. -/
abbrev REF_STATE_STATE : Key := ⟨0x2100, 0, 1⟩
/-- `2100:02`. -/
abbrev REF_STATE_SINCE : Key := ⟨0x2100, 0, 2⟩
/-- `2100:03`. -/
abbrev REF_STATE_PREVIOUS : Key := ⟨0x2100, 0, 3⟩
/-- `2100:04`. -/
abbrev REF_STATE_TRANSITIONS : Key := ⟨0x2100, 0, 4⟩
/-- `2100:05`. -/
abbrev REF_STATE_DISAGREE : Key := ⟨0x2100, 0, 5⟩
/-- `2100:06`. -/
abbrev REF_STATE_OUTPUT_OFFSET : Key := ⟨0x2100, 0, 6⟩
/-- `2100:07`. -/
abbrev REF_STATE_XO_CORRECTION : Key := ⟨0x2100, 0, 7⟩
/-- `2110[e]:01`. -/
abbrev REF_CANDIDATE_RANK (e : Nat) : Key := ⟨0x2110, e, 1⟩
/-- `2110[e]:02`. -/
abbrev REF_CANDIDATE_TOLERANCE (e : Nat) : Key := ⟨0x2110, e, 2⟩
/-- `2110[e]:03`. -/
abbrev REF_CANDIDATE_STATUS (e : Nat) : Key := ⟨0x2110, e, 3⟩
/-- `2110[e]:04`. -/
abbrev REF_CANDIDATE_OFFSET (e : Nat) : Key := ⟨0x2110, e, 4⟩
/-- `2110[e]:05`. -/
abbrev REF_CANDIDATE_QUALIFIED_SINCE (e : Nat) : Key := ⟨0x2110, e, 5⟩
/-- `2110[e]:06`. -/
abbrev REF_CANDIDATE_LOSSES (e : Nat) : Key := ⟨0x2110, e, 6⟩
/-- `2110[e]:07`. -/
abbrev REF_CANDIDATE_SET_ASIDE (e : Nat) : Key := ⟨0x2110, e, 7⟩
/-- `2120:01`. -/
abbrev REF_SELECTED_CANDIDATE : Key := ⟨0x2120, 0, 1⟩
/-- `2120:02`. -/
abbrev REF_SELECTED_LOCKED_SINCE : Key := ⟨0x2120, 0, 2⟩
/-- `2120:03`. -/
abbrev REF_SELECTED_FINE_PHASE : Key := ⟨0x2120, 0, 3⟩
/-- `2120:04`. -/
abbrev REF_SELECTED_SELECTABLE : Key := ⟨0x2120, 0, 4⟩
/-- `2130:01`. -/
abbrev HOLDOVER_TIME_LIMIT : Key := ⟨0x2130, 0, 1⟩
/-- `2130:02`. -/
abbrev HOLDOVER_PHASE_LIMIT : Key := ⟨0x2130, 0, 2⟩
/-- `2130:03`. -/
abbrev HOLDOVER_XO_CLASS : Key := ⟨0x2130, 0, 3⟩
/-- `2130:04`. -/
abbrev HOLDOVER_DRIFT : Key := ⟨0x2130, 0, 4⟩
/-- `2130:05`. -/
abbrev HOLDOVER_ELAPSED : Key := ⟨0x2130, 0, 5⟩
/-- `2130:06`. -/
abbrev HOLDOVER_RESIDUAL : Key := ⟨0x2130, 0, 6⟩
/-- `2130:07`. -/
abbrev HOLDOVER_ESTIMATED_ERROR : Key := ⟨0x2130, 0, 7⟩
/-- `2130:08`. -/
abbrev HOLDOVER_HELD_OFFSET : Key := ⟨0x2130, 0, 8⟩
/-- `2300[e]:01`. -/
abbrev RASTER_FORMAT (e : Nat) : Key := ⟨0x2300, e, 1⟩
/-- `2300[e]:02`. -/
abbrev RASTER_OFFSET (e : Nat) : Key := ⟨0x2300, e, 2⟩
/-- `2300[e]:03`. -/
abbrev RASTER_LAST_BOUNDARY (e : Nat) : Key := ⟨0x2300, e, 3⟩
/-- `2300[e]:04`. -/
abbrev RASTER_PHASE_ERROR (e : Nat) : Key := ⟨0x2300, e, 4⟩
/-- `2300[e]:05`. -/
abbrev RASTER_FRAME_INDEX (e : Nat) : Key := ⟨0x2300, e, 5⟩
/-- `2300[e]:06`. -/
abbrev RASTER_ALIGN_COUNT (e : Nat) : Key := ⟨0x2300, e, 6⟩
/-- `2300[e]:07`. -/
abbrev RASTER_IRREGULAR (e : Nat) : Key := ⟨0x2300, e, 7⟩
/-- `2310:01`. -/
abbrev ALIGN_RASTERS : Key := ⟨0x2310, 0, 1⟩
/-- `2310:02`. -/
abbrev ALIGN_ALIGN_TO : Key := ⟨0x2310, 0, 2⟩
/-- `2320[e]:01`. -/
abbrev FPULSE_RASTER (e : Nat) : Key := ⟨0x2320, e, 1⟩
/-- `2320[e]:02`. -/
abbrev FPULSE_WIDTH (e : Nat) : Key := ⟨0x2320, e, 2⟩
/-- `2320[e]:03`. -/
abbrev FPULSE_DIVIDE (e : Nat) : Key := ⟨0x2320, e, 3⟩
/-- `2320[e]:04`. -/
abbrev FPULSE_POLARITY (e : Nat) : Key := ⟨0x2320, e, 4⟩
/-- `3000[e]:01`. -/
abbrev SDI_RX_RATE_MODE (e : Nat) : Key := ⟨0x3000, e, 1⟩
/-- `3000[e]:02`. -/
abbrev SDI_RX_POLARITY (e : Nat) : Key := ⟨0x3000, e, 2⟩
/-- `3000[e]:03`. -/
abbrev SDI_RX_SIGNAL (e : Nat) : Key := ⟨0x3000, e, 3⟩
/-- `3000[e]:04`. -/
abbrev SDI_RX_RATE (e : Nat) : Key := ⟨0x3000, e, 4⟩
/-- `3000[e]:05`. -/
abbrev SDI_RX_FORMAT (e : Nat) : Key := ⟨0x3000, e, 5⟩
/-- `3000[e]:06`. -/
abbrev SDI_RX_LEVEL (e : Nat) : Key := ⟨0x3000, e, 6⟩
/-- `3000[e]:07`. -/
abbrev SDI_RX_PAYLOAD_ID (e : Nat) : Key := ⟨0x3000, e, 7⟩
/-- `3000[e]:08`. -/
abbrev SDI_RX_FRAME_STAMP (e : Nat) : Key := ⟨0x3000, e, 8⟩
/-- `3000[e]:09`. -/
abbrev SDI_RX_REF_RASTER (e : Nat) : Key := ⟨0x3000, e, 9⟩
/-- `3000[e]:0A`. -/
abbrev SDI_RX_TIMING (e : Nat) : Key := ⟨0x3000, e, 10⟩
/-- `3000[e]:0B`. -/
abbrev SDI_RX_ACQUIRE (e : Nat) : Key := ⟨0x3000, e, 11⟩
/-- `3000[e]:0C`. -/
abbrev SDI_RX_LOSS (e : Nat) : Key := ⟨0x3000, e, 12⟩
/-- `3000[e]:0D`. -/
abbrev SDI_RX_CHATTER_EDGES (e : Nat) : Key := ⟨0x3000, e, 13⟩
/-- `3000[e]:0E`. -/
abbrev SDI_RX_CHATTER_WINDOW (e : Nat) : Key := ⟨0x3000, e, 14⟩
/-- `3000[e]:0F`. -/
abbrev SDI_RX_SINCE (e : Nat) : Key := ⟨0x3000, e, 15⟩
/-- `3000[e]:10`. -/
abbrev SDI_RX_AUDIO_PRESENT (e : Nat) : Key := ⟨0x3000, e, 16⟩
/-- `3000[e]:11`. -/
abbrev SDI_RX_SKEW (e : Nat) : Key := ⟨0x3000, e, 17⟩
/-- `3000[e]:12`. -/
abbrev SDI_RX_GROUP_FORMAT (e : Nat) : Key := ⟨0x3000, e, 18⟩
/-- `3000[e]:13`. -/
abbrev SDI_RX_LINK (e : Nat) : Key := ⟨0x3000, e, 19⟩
/-- `3100[e]:01`. -/
abbrev SDI_TX_ENABLE (e : Nat) : Key := ⟨0x3100, e, 1⟩
/-- `3100[e]:02`. -/
abbrev SDI_TX_RASTER (e : Nat) : Key := ⟨0x3100, e, 2⟩
/-- `3100[e]:03`. -/
abbrev SDI_TX_RATE (e : Nat) : Key := ⟨0x3100, e, 3⟩
/-- `3100[e]:04`. -/
abbrev SDI_TX_LEVEL (e : Nat) : Key := ⟨0x3100, e, 4⟩
/-- `3100[e]:05`. -/
abbrev SDI_TX_DIVISION (e : Nat) : Key := ⟨0x3100, e, 5⟩
/-- `3100[e]:06`. -/
abbrev SDI_TX_PAYLOAD_ID (e : Nat) : Key := ⟨0x3100, e, 6⟩
/-- `3100[e]:07`. -/
abbrev SDI_TX_SWING (e : Nat) : Key := ⟨0x3100, e, 7⟩
/-- `3100[e]:08`. -/
abbrev SDI_TX_PRE_EMPHASIS (e : Nat) : Key := ⟨0x3100, e, 8⟩
/-- `3100[e]:09`. -/
abbrev SDI_TX_POLARITY (e : Nat) : Key := ⟨0x3100, e, 9⟩
/-- `3100[e]:0A`. -/
abbrev SDI_TX_STATE (e : Nat) : Key := ⟨0x3100, e, 10⟩
/-- `3100[e]:0B`. -/
abbrev SDI_TX_BASE (e : Nat) : Key := ⟨0x3100, e, 11⟩
/-- `3200[e]:01`. -/
abbrev LINK_GROUP_RX_SIZE (e : Nat) : Key := ⟨0x3200, e, 1⟩
/-- `3200[e]:02`. -/
abbrev LINK_GROUP_TX_SIZE (e : Nat) : Key := ⟨0x3200, e, 2⟩
/-- `3200[e]:03`. -/
abbrev LINK_GROUP_RX_BASE (e : Nat) : Key := ⟨0x3200, e, 3⟩
/-- `3200[e]:04`. -/
abbrev LINK_GROUP_TX_BASE (e : Nat) : Key := ⟨0x3200, e, 4⟩
/-- `3300[e]:01`. -/
abbrev SDI_STATS_FRAMES_RX (e : Nat) : Key := ⟨0x3300, e, 1⟩
/-- `3300[e]:02`. -/
abbrev SDI_STATS_CRC_Y (e : Nat) : Key := ⟨0x3300, e, 2⟩
/-- `3300[e]:03`. -/
abbrev SDI_STATS_CRC_C (e : Nat) : Key := ⟨0x3300, e, 3⟩
/-- `3300[e]:04`. -/
abbrev SDI_STATS_TRS_ERRORS (e : Nat) : Key := ⟨0x3300, e, 4⟩
/-- `3300[e]:05`. -/
abbrev SDI_STATS_LINE_NUMBER_ERRORS (e : Nat) : Key := ⟨0x3300, e, 5⟩
/-- `3300[e]:06`. -/
abbrev SDI_STATS_ANC_CHECKSUM (e : Nat) : Key := ⟨0x3300, e, 6⟩
/-- `3300[e]:07`. -/
abbrev SDI_STATS_ANC_DROPPED (e : Nat) : Key := ⟨0x3300, e, 7⟩
/-- `3300[e]:08`. -/
abbrev SDI_STATS_AUDIO_CORRECTED (e : Nat) : Key := ⟨0x3300, e, 8⟩
/-- `3300[e]:09`. -/
abbrev SDI_STATS_AUDIO_FAILED (e : Nat) : Key := ⟨0x3300, e, 9⟩
/-- `3300[e]:0A`. -/
abbrev SDI_STATS_LOSSES (e : Nat) : Key := ⟨0x3300, e, 10⟩
/-- `3300[e]:0B`. -/
abbrev SDI_STATS_CHATTER_EVENTS (e : Nat) : Key := ⟨0x3300, e, 11⟩
/-- `3300[e]:0C`. -/
abbrev SDI_STATS_FORMAT_CHANGES (e : Nat) : Key := ⟨0x3300, e, 12⟩
/-- `3300[e]:0D`. -/
abbrev SDI_STATS_PAYLOAD_ID_MISMATCH (e : Nat) : Key := ⟨0x3300, e, 13⟩
/-- `3300[e]:0E`. -/
abbrev SDI_STATS_FRAMES_TX (e : Nat) : Key := ⟨0x3300, e, 14⟩
/-- `3300[e]:0F`. -/
abbrev SDI_STATS_TX_STARTS (e : Nat) : Key := ⟨0x3300, e, 15⟩
/-- `3400[e]:01`. -/
abbrev ANC_MODE (e : Nat) : Key := ⟨0x3400, e, 1⟩
/-- `3400`, sub-indices 02 to 09. -/
abbrev ANC_RULE0 (e : Nat) (i : Nat) : Key := ⟨0x3400, e, 2 + i⟩
/-- `3400[e]:0A`. -/
abbrev ANC_LIMIT (e : Nat) : Key := ⟨0x3400, e, 10⟩
/-- `3500[e]:01`. -/
abbrev EMBED_MODE (e : Nat) : Key := ⟨0x3500, e, 1⟩
/-- `3500[e]:02`. -/
abbrev EMBED_GROUPS (e : Nat) : Key := ⟨0x3500, e, 2⟩
/-- `3500[e]:03`. -/
abbrev EMBED_SLOT_BASE (e : Nat) : Key := ⟨0x3500, e, 3⟩
/-- `3500[e]:04`. -/
abbrev EMBED_PASS_ACTIVE (e : Nat) : Key := ⟨0x3500, e, 4⟩
/-- `4000[e]:01`. -/
abbrev NET_PORT_MODE (e : Nat) : Key := ⟨0x4000, e, 1⟩
/-- `4000[e]:02`. -/
abbrev NET_PORT_MEDIA (e : Nat) : Key := ⟨0x4000, e, 2⟩
/-- `4000[e]:03`. -/
abbrev NET_PORT_AUTONEG (e : Nat) : Key := ⟨0x4000, e, 3⟩
/-- `4000[e]:04`. -/
abbrev NET_PORT_EGRESS (e : Nat) : Key := ⟨0x4000, e, 4⟩
/-- `4010[e]:01`. -/
abbrev MAC_ACTIVE (e : Nat) : Key := ⟨0x4010, e, 1⟩
/-- `4010[e]:02`. -/
abbrev MAC_LINK (e : Nat) : Key := ⟨0x4010, e, 2⟩
/-- `4010[e]:03`. -/
abbrev MAC_RATE (e : Nat) : Key := ⟨0x4010, e, 3⟩
/-- `4010[e]:04`. -/
abbrev MAC_VLAN (e : Nat) : Key := ⟨0x4010, e, 4⟩
/-- `4010[e]:05`. -/
abbrev MAC_GROUP_MODE (e : Nat) : Key := ⟨0x4010, e, 5⟩
/-- `4010[e]:06`. -/
abbrev MAC_ADMITTED (e : Nat) : Key := ⟨0x4010, e, 6⟩
/-- `4010[e]:07`. -/
abbrev MAC_BUDGET (e : Nat) : Key := ⟨0x4010, e, 7⟩
/-- `4010[e]:08`. -/
abbrev MAC_EGRESS_ACTIVE (e : Nat) : Key := ⟨0x4010, e, 8⟩
/-- `4010[e]:09`. -/
abbrev MAC_UP_SINCE (e : Nat) : Key := ⟨0x4010, e, 9⟩
/-- `4010[e]:0A`. -/
abbrev MAC_HOST_ADDRESS (e : Nat) : Key := ⟨0x4010, e, 10⟩
/-- `4010[e]:0B`. -/
abbrev MAC_HOST_PREFIX (e : Nat) : Key := ⟨0x4010, e, 11⟩
/-- `4020[e]:01`. -/
abbrev MAC_UNICAST_ADDRESS0 (e : Nat) : Key := ⟨0x4020, e, 1⟩
/-- `4020`, sub-indices 02 to 08. -/
abbrev MAC_UNICAST_ADDRESS1 (e : Nat) (i : Nat) : Key := ⟨0x4020, e, 2 + i⟩
/-- `4030[e]:01`. -/
abbrev MAC_HASH_HASH (e : Nat) : Key := ⟨0x4030, e, 1⟩
/-- `4040[e]:01`. -/
abbrev GATE_LIST_ENABLE (e : Nat) : Key := ⟨0x4040, e, 1⟩
/-- `4040[e]:02`. -/
abbrev GATE_LIST_BASE_TIME (e : Nat) : Key := ⟨0x4040, e, 2⟩
/-- `4040[e]:03`. -/
abbrev GATE_LIST_CYCLE (e : Nat) : Key := ⟨0x4040, e, 3⟩
/-- `4040[e]:04`. -/
abbrev GATE_LIST_LENGTH (e : Nat) : Key := ⟨0x4040, e, 4⟩
/-- `4040`, sub-indices 05 to 24. -/
abbrev GATE_LIST_ENTRIES_0 (e : Nat) (i : Nat) : Key := ⟨0x4040, e, 5 + i⟩
/-- `4040[e]:25`. -/
abbrev GATE_LIST_CYCLE_START (e : Nat) : Key := ⟨0x4040, e, 37⟩
/-- `4040[e]:26`. -/
abbrev GATE_LIST_SWAPS (e : Nat) : Key := ⟨0x4040, e, 38⟩
/-- `4100[e]:01`. -/
abbrev FLOW_ENABLE (e : Nat) : Key := ⟨0x4100, e, 1⟩
/-- `4100[e]:02`. -/
abbrev FLOW_STATE (e : Nat) : Key := ⟨0x4100, e, 2⟩
/-- `4100[e]:03`. -/
abbrev FLOW_TYPE (e : Nat) : Key := ⟨0x4100, e, 3⟩
/-- `4100[e]:04`. -/
abbrev FLOW_FORMAT (e : Nat) : Key := ⟨0x4100, e, 4⟩
/-- `4100[e]:05`. -/
abbrev FLOW_SCAN (e : Nat) : Key := ⟨0x4100, e, 5⟩
/-- `4100[e]:06`. -/
abbrev FLOW_SENDER (e : Nat) : Key := ⟨0x4100, e, 6⟩
/-- `4100[e]:07`. -/
abbrev FLOW_AUDIO (e : Nat) : Key := ⟨0x4100, e, 7⟩
/-- `4100[e]:08`. -/
abbrev FLOW_CHANNELS (e : Nat) : Key := ⟨0x4100, e, 8⟩
/-- `4100[e]:09`. -/
abbrev FLOW_SLOT_BASE (e : Nat) : Key := ⟨0x4100, e, 9⟩
/-- `4100[e]:0A`. -/
abbrev FLOW_RASTER (e : Nat) : Key := ⟨0x4100, e, 10⟩
/-- `4100[e]:0B`. -/
abbrev FLOW_PLAYOUT (e : Nat) : Key := ⟨0x4100, e, 11⟩
/-- `4100[e]:0C`. -/
abbrev FLOW_MAX_RATE (e : Nat) : Key := ⟨0x4100, e, 12⟩
/-- `4100[e]:0D`. -/
abbrev FLOW_CLASS (e : Nat) : Key := ⟨0x4100, e, 13⟩
/-- `4100[e]:0E`. -/
abbrev FLOW_SSRC (e : Nat) : Key := ⟨0x4100, e, 14⟩
/-- `4100[e]:0F`. -/
abbrev FLOW_PAYLOAD_TYPE (e : Nat) : Key := ⟨0x4100, e, 15⟩
/-- `4100[e]:10`. -/
abbrev FLOW_COMPANION (e : Nat) : Key := ⟨0x4100, e, 16⟩
/-- `4100[e]:11`. -/
abbrev FLOW_SOURCE (e : Nat) : Key := ⟨0x4100, e, 17⟩
/-- `4100[e]:12`. -/
abbrev FLOW_OFFER_K (e : Nat) : Key := ⟨0x4100, e, 18⟩
/-- `4100[e]:13`. -/
abbrev FLOW_WEED (e : Nat) : Key := ⟨0x4100, e, 19⟩
/-- `4100[e]:14`. -/
abbrev FLOW_ABSENT (e : Nat) : Key := ⟨0x4100, e, 20⟩
/-- `4100[e]:15`. -/
abbrev FLOW_MATTE (e : Nat) : Key := ⟨0x4100, e, 21⟩
/-- `4100[e]:16`. -/
abbrev FLOW_UNTIMED (e : Nat) : Key := ⟨0x4100, e, 22⟩
/-- `4100[e]:17`. -/
abbrev FLOW_FREEZE_LIMIT (e : Nat) : Key := ⟨0x4100, e, 23⟩
/-- `4100[e]:18`. -/
abbrev FLOW_USERS (e : Nat) : Key := ⟨0x4100, e, 24⟩
/-- `4100[e]:19`. -/
abbrev FLOW_PATH_ENABLE (e : Nat) : Key := ⟨0x4100, e, 25⟩
/-- `4100[e]:1A`. -/
abbrev FLOW_MAC (e : Nat) : Key := ⟨0x4100, e, 26⟩
/-- `4100[e]:1B`. -/
abbrev FLOW_DEST_ADDRESS (e : Nat) : Key := ⟨0x4100, e, 27⟩
/-- `4100[e]:1C`. -/
abbrev FLOW_DEST_PORT (e : Nat) : Key := ⟨0x4100, e, 28⟩
/-- `4100[e]:1D`. -/
abbrev FLOW_SOURCE_ADDRESS (e : Nat) : Key := ⟨0x4100, e, 29⟩
/-- `4100[e]:1E`. -/
abbrev FLOW_SOURCE_PORT (e : Nat) : Key := ⟨0x4100, e, 30⟩
/-- `4100[e]:1F`. -/
abbrev FLOW_DEST_MAC (e : Nat) : Key := ⟨0x4100, e, 31⟩
/-- `4100[e]:20`. -/
abbrev FLOW_DSCP (e : Nat) : Key := ⟨0x4100, e, 32⟩
/-- `4100[e]:21`. -/
abbrev FLOW_TTL (e : Nat) : Key := ⟨0x4100, e, 33⟩
/-- `4100[e]:22`. -/
abbrev FLOW_PATH_STATE (e : Nat) : Key := ⟨0x4100, e, 34⟩
/-- `4200[e]:01`. -/
abbrev CONCORDANCE_RECEIVED_A (e : Nat) : Key := ⟨0x4200, e, 1⟩
/-- `4200[e]:02`. -/
abbrev CONCORDANCE_RECEIVED_B (e : Nat) : Key := ⟨0x4200, e, 2⟩
/-- `4200[e]:03`. -/
abbrev CONCORDANCE_FIRST_A (e : Nat) : Key := ⟨0x4200, e, 3⟩
/-- `4200[e]:04`. -/
abbrev CONCORDANCE_FIRST_B (e : Nat) : Key := ⟨0x4200, e, 4⟩
/-- `4200[e]:05`. -/
abbrev CONCORDANCE_DUPLICATES (e : Nat) : Key := ⟨0x4200, e, 5⟩
/-- `4200[e]:06`. -/
abbrev CONCORDANCE_LOST (e : Nat) : Key := ⟨0x4200, e, 6⟩
/-- `4200[e]:07`. -/
abbrev CONCORDANCE_LATE (e : Nat) : Key := ⟨0x4200, e, 7⟩
/-- `4200[e]:08`. -/
abbrev CONCORDANCE_SKEW (e : Nat) : Key := ⟨0x4200, e, 8⟩
/-- `4200[e]:09`. -/
abbrev CONCORDANCE_SKEW_DISCARDS (e : Nat) : Key := ⟨0x4200, e, 9⟩
/-- `4200[e]:0A`. -/
abbrev CONCORDANCE_MALFORMED (e : Nat) : Key := ⟨0x4200, e, 10⟩
/-- `4200[e]:0B`. -/
abbrev CONCORDANCE_OVERFLOW (e : Nat) : Key := ⟨0x4200, e, 11⟩
/-- `4200[e]:0C`. -/
abbrev CONCORDANCE_SINCE (e : Nat) : Key := ⟨0x4200, e, 12⟩
/-- `4200[e]:0D`. -/
abbrev CONCORDANCE_OFFER_DROPS (e : Nat) : Key := ⟨0x4200, e, 13⟩
/-- `4210:01`. -/
abbrev MEMBERSHIP_ROBUSTNESS : Key := ⟨0x4210, 0, 1⟩
/-- `4210:02`. -/
abbrev MEMBERSHIP_INTERVAL : Key := ⟨0x4210, 0, 2⟩
/-- `4210:03`. -/
abbrev MEMBERSHIP_GROUPS : Key := ⟨0x4210, 0, 3⟩
/-- `4210:04`. -/
abbrev MEMBERSHIP_OLD_QUERIES : Key := ⟨0x4210, 0, 4⟩
/-- `4220[e]:01`. -/
abbrev FLOW_TX_RELEASED (e : Nat) : Key := ⟨0x4220, e, 1⟩
/-- `4220[e]:02`. -/
abbrev FLOW_TX_ANC_DROPPED (e : Nat) : Key := ⟨0x4220, e, 2⟩
/-- `4300[e]:01`. -/
abbrev NET_STATS_RX_FRAMES (e : Nat) : Key := ⟨0x4300, e, 1⟩
/-- `4300[e]:02`. -/
abbrev NET_STATS_RX_BYTES (e : Nat) : Key := ⟨0x4300, e, 2⟩
/-- `4300[e]:03`. -/
abbrev NET_STATS_RX_FCS_ERRORS (e : Nat) : Key := ⟨0x4300, e, 3⟩
/-- `4300[e]:04`. -/
abbrev NET_STATS_RX_LENGTH_ERRORS (e : Nat) : Key := ⟨0x4300, e, 4⟩
/-- `4300[e]:05`. -/
abbrev NET_STATS_RX_FILTERED (e : Nat) : Key := ⟨0x4300, e, 5⟩
/-- `4300[e]:06`. -/
abbrev NET_STATS_RX_UNMATCHED (e : Nat) : Key := ⟨0x4300, e, 6⟩
/-- `4300[e]:07`. -/
abbrev NET_STATS_RX_VLAN_DROPS (e : Nat) : Key := ⟨0x4300, e, 7⟩
/-- `4300[e]:08`. -/
abbrev NET_STATS_RX_PAUSE (e : Nat) : Key := ⟨0x4300, e, 8⟩
/-- `4300[e]:09`. -/
abbrev NET_STATS_FEC_CORRECTED (e : Nat) : Key := ⟨0x4300, e, 9⟩
/-- `4300[e]:0A`. -/
abbrev NET_STATS_FEC_UNCORRECTABLE (e : Nat) : Key := ⟨0x4300, e, 10⟩
/-- `4300[e]:0B`. -/
abbrev NET_STATS_TX_FRAMES (e : Nat) : Key := ⟨0x4300, e, 11⟩
/-- `4300[e]:0C`. -/
abbrev NET_STATS_TX_BYTES (e : Nat) : Key := ⟨0x4300, e, 12⟩
/-- `4300[e]:0D`. -/
abbrev NET_STATS_TX_CLASS7 (e : Nat) : Key := ⟨0x4300, e, 13⟩
/-- `4300[e]:0E`. -/
abbrev NET_STATS_TX_DISCARD_LINK (e : Nat) : Key := ⟨0x4300, e, 14⟩
/-- `4300[e]:0F`. -/
abbrev NET_STATS_TX_CLASS6_DROPS (e : Nat) : Key := ⟨0x4300, e, 15⟩
/-- `4300[e]:10`. -/
abbrev NET_STATS_LINK_DOWNS (e : Nat) : Key := ⟨0x4300, e, 16⟩
/-- `4300[e]:11`. -/
abbrev NET_STATS_TX_SIDE_DISCARD (e : Nat) : Key := ⟨0x4300, e, 17⟩
/-- `5000:01`. -/
abbrev SLIP_STAGE_ITEMS_USED : Key := ⟨0x5000, 0, 1⟩
/-- `5000:02`. -/
abbrev SLIP_STAGE_ITEMS_LIMIT : Key := ⟨0x5000, 0, 2⟩
/-- `5000:03`. -/
abbrev SLIP_STAGE_SLIP_ITEM_LIMIT : Key := ⟨0x5000, 0, 3⟩
/-- `5000:04`. -/
abbrev SLIP_STAGE_STAGED_SLIPS : Key := ⟨0x5000, 0, 4⟩
/-- `5010:01`. -/
abbrev SLIP_ARM_KIND : Key := ⟨0x5010, 0, 1⟩
/-- `5010:02`. -/
abbrev SLIP_ARM_TARGET : Key := ⟨0x5010, 0, 2⟩
/-- `5010:03`. -/
abbrev SLIP_ARM_LAUNCH : Key := ⟨0x5010, 0, 3⟩
/-- `5010:04`. -/
abbrev SLIP_ARM_LATE : Key := ⟨0x5010, 0, 4⟩
/-- `5010:05`. -/
abbrev SLIP_ARM_GROUP : Key := ⟨0x5010, 0, 5⟩
/-- `5010:06`. -/
abbrev SLIP_ARM_RASTER : Key := ⟨0x5010, 0, 6⟩
/-- `5010:07`. -/
abbrev SLIP_ARM_SEQUENCE : Key := ⟨0x5010, 0, 7⟩
/-- `5010:08`. -/
abbrev SLIP_ARM_TRIGGER : Key := ⟨0x5010, 0, 8⟩
/-- `5010:09`. -/
abbrev SLIP_ARM_GPI : Key := ⟨0x5010, 0, 9⟩
/-- `5010:0A`. -/
abbrev SLIP_ARM_OFFSET : Key := ⟨0x5010, 0, 10⟩
/-- `5010:0B`. -/
abbrev SLIP_ARM_FLAGS : Key := ⟨0x5010, 0, 11⟩
/-- `5020[e]:01`. -/
abbrev SLIP_KIND (e : Nat) : Key := ⟨0x5020, e, 1⟩
/-- `5020[e]:02`. -/
abbrev SLIP_TARGET (e : Nat) : Key := ⟨0x5020, e, 2⟩
/-- `5020[e]:03`. -/
abbrev SLIP_LAUNCH (e : Nat) : Key := ⟨0x5020, e, 3⟩
/-- `5020[e]:04`. -/
abbrev SLIP_LATE (e : Nat) : Key := ⟨0x5020, e, 4⟩
/-- `5020[e]:05`. -/
abbrev SLIP_GROUP (e : Nat) : Key := ⟨0x5020, e, 5⟩
/-- `5020[e]:06`. -/
abbrev SLIP_RASTER (e : Nat) : Key := ⟨0x5020, e, 6⟩
/-- `5020[e]:07`. -/
abbrev SLIP_SEQUENCE (e : Nat) : Key := ⟨0x5020, e, 7⟩
/-- `5020[e]:08`. -/
abbrev SLIP_TRIGGER (e : Nat) : Key := ⟨0x5020, e, 8⟩
/-- `5020[e]:09`. -/
abbrev SLIP_GPI (e : Nat) : Key := ⟨0x5020, e, 9⟩
/-- `5020[e]:0A`. -/
abbrev SLIP_OFFSET (e : Nat) : Key := ⟨0x5020, e, 10⟩
/-- `5020[e]:0B`. -/
abbrev SLIP_FLAGS (e : Nat) : Key := ⟨0x5020, e, 11⟩
/-- `5020[e]:0C`. -/
abbrev SLIP_STATE (e : Nat) : Key := ⟨0x5020, e, 12⟩
/-- `5020[e]:0D`. -/
abbrev SLIP_ARMED_AT (e : Nat) : Key := ⟨0x5020, e, 13⟩
/-- `5020[e]:0E`. -/
abbrev SLIP_BOUNDARY (e : Nat) : Key := ⟨0x5020, e, 14⟩
/-- `5020[e]:0F`. -/
abbrev SLIP_CHECK_POINT (e : Nat) : Key := ⟨0x5020, e, 15⟩
/-- `5020[e]:10`. -/
abbrev SLIP_RESULT (e : Nat) : Key := ⟨0x5020, e, 16⟩
/-- `5020[e]:11`. -/
abbrev SLIP_CAUSE (e : Nat) : Key := ⟨0x5020, e, 17⟩
/-- `5020[e]:12`. -/
abbrev SLIP_ITEMS (e : Nat) : Key := ⟨0x5020, e, 18⟩
/-- `5020[e]:13`. -/
abbrev SLIP_STAGED (e : Nat) : Key := ⟨0x5020, e, 19⟩
/-- `5020[e]:14`. -/
abbrev SLIP_ORIGIN (e : Nat) : Key := ⟨0x5020, e, 20⟩
/-- `5020[e]:15`. -/
abbrev SLIP_GIVEN_LAUNCH (e : Nat) : Key := ⟨0x5020, e, 21⟩
/-- `5030:01`. -/
abbrev SLIP_CANCEL_GROUP : Key := ⟨0x5030, 0, 1⟩
/-- `5030:02`. -/
abbrev SLIP_CANCEL_ALL : Key := ⟨0x5030, 0, 2⟩
/-- `5040:00`. -/
abbrev SLIP_GUARD : Key := ⟨0x5040, 0, 0⟩
/-- `5050:01`. -/
abbrev SLIP_COUNT_STAGED : Key := ⟨0x5050, 0, 1⟩
/-- `5050:02`. -/
abbrev SLIP_COUNT_ARMED : Key := ⟨0x5050, 0, 2⟩
/-- `5050:03`. -/
abbrev SLIP_COUNT_LAUNCHED : Key := ⟨0x5050, 0, 3⟩
/-- `5050:04`. -/
abbrev SLIP_COUNT_PEAK_SET : Key := ⟨0x5050, 0, 4⟩
/-- `5050:05`. -/
abbrev SLIP_COUNT_RETIRED : Key := ⟨0x5050, 0, 5⟩
/-- `5050:06`. -/
abbrev SLIP_COUNT_FAILED : Key := ⟨0x5050, 0, 6⟩
/-- `5050:07`. -/
abbrev SLIP_COUNT_SUPERSEDED : Key := ⟨0x5050, 0, 7⟩
/-- `5050:08`. -/
abbrev SLIP_COUNT_CANCELLED : Key := ⟨0x5050, 0, 8⟩
/-- `5050:09`. -/
abbrev SLIP_COUNT_LATE : Key := ⟨0x5050, 0, 9⟩
/-- `5050:0A`. -/
abbrev SLIP_COUNT_NEAR_EDGE : Key := ⟨0x5050, 0, 10⟩
/-- `5050:0B`. -/
abbrev SLIP_COUNT_HIGHEST_SEQUENCE : Key := ⟨0x5050, 0, 11⟩
/-- `5050:0C`. -/
abbrev SLIP_COUNT_DIVERGED : Key := ⟨0x5050, 0, 12⟩
/-- `5100[e]:01`. -/
abbrev XPT_OUT_SELECT (e : Nat) : Key := ⟨0x5100, e, 1⟩
/-- `5100[e]:02`. -/
abbrev XPT_OUT_SOURCE (e : Nat) : Key := ⟨0x5100, e, 2⟩
/-- `5100[e]:03`. -/
abbrev XPT_OUT_SPAN (e : Nat) : Key := ⟨0x5100, e, 3⟩
/-- `5100[e]:04`. -/
abbrev XPT_OUT_HEAD (e : Nat) : Key := ⟨0x5100, e, 4⟩
/-- `5100[e]:05`. -/
abbrev XPT_OUT_TILE (e : Nat) : Key := ⟨0x5100, e, 5⟩
/-- `5100[e]:06`. -/
abbrev XPT_OUT_AUDIO (e : Nat) : Key := ⟨0x5100, e, 6⟩
/-- `5100[e]:07`. -/
abbrev XPT_OUT_STATUS (e : Nat) : Key := ⟨0x5100, e, 7⟩
/-- `5100[e]:08`. -/
abbrev XPT_OUT_TIMING (e : Nat) : Key := ⟨0x5100, e, 8⟩
/-- `5100[e]:09`. -/
abbrev XPT_OUT_LAST_TAKE (e : Nat) : Key := ⟨0x5100, e, 9⟩
/-- `5100[e]:0A`. -/
abbrev XPT_OUT_LAST_REFUSAL (e : Nat) : Key := ⟨0x5100, e, 10⟩
/-- `5100[e]:0B`. -/
abbrev XPT_OUT_TAKES (e : Nat) : Key := ⟨0x5100, e, 11⟩
/-- `5100[e]:0C`. -/
abbrev XPT_OUT_UNTIMED_TAKES (e : Nat) : Key := ⟨0x5100, e, 12⟩
/-- `5100[e]:0D`. -/
abbrev XPT_OUT_ABSENT_FRAMES (e : Nat) : Key := ⟨0x5100, e, 13⟩
/-- `5200[e]:01`. -/
abbrev OUT_POLICY_ABSENT (e : Nat) : Key := ⟨0x5200, e, 1⟩
/-- `5200[e]:02`. -/
abbrev OUT_POLICY_MATTE (e : Nat) : Key := ⟨0x5200, e, 2⟩
/-- `5200[e]:03`. -/
abbrev OUT_POLICY_UNTIMED (e : Nat) : Key := ⟨0x5200, e, 3⟩
/-- `5200[e]:04`. -/
abbrev OUT_POLICY_FREEZE_LIMIT (e : Nat) : Key := ⟨0x5200, e, 4⟩
/-- `5300[e]:01`. -/
abbrev SYNC_STATE (e : Nat) : Key := ⟨0x5300, e, 1⟩
/-- `5300[e]:02`. -/
abbrev SYNC_REPEATS (e : Nat) : Key := ⟨0x5300, e, 2⟩
/-- `5300[e]:03`. -/
abbrev SYNC_DROPS (e : Nat) : Key := ⟨0x5300, e, 3⟩
/-- `5300[e]:04`. -/
abbrev SYNC_DECISION_STAMP (e : Nat) : Key := ⟨0x5300, e, 4⟩
/-- `5300[e]:05`. -/
abbrev SYNC_DECIDER (e : Nat) : Key := ⟨0x5300, e, 5⟩
/-- `5300[e]:06`. -/
abbrev SYNC_DEPTH (e : Nat) : Key := ⟨0x5300, e, 6⟩
/-- `5300[e]:07`. -/
abbrev SYNC_SOLO_DECISIONS (e : Nat) : Key := ⟨0x5300, e, 7⟩
/-- `5400:01`. -/
abbrev XPT_STORE_PROMOTE_UNITS : Key := ⟨0x5400, 0, 1⟩
/-- `5400:02`. -/
abbrev XPT_STORE_PROMOTE_USED : Key := ⟨0x5400, 0, 2⟩
/-- `5400:03`. -/
abbrev XPT_STORE_PROMOTIONS : Key := ⟨0x5400, 0, 3⟩
/-- `6000[e]:01`. -/
abbrev FAB_LANE_ENABLE (e : Nat) : Key := ⟨0x6000, e, 1⟩
/-- `6000[e]:02`. -/
abbrev FAB_LANE_STATE (e : Nat) : Key := ⟨0x6000, e, 2⟩
/-- `6000[e]:03`. -/
abbrev FAB_LANE_PEER_ROLE (e : Nat) : Key := ⟨0x6000, e, 3⟩
/-- `6000[e]:04`. -/
abbrev FAB_LANE_PEER_SLOT (e : Nat) : Key := ⟨0x6000, e, 4⟩
/-- `6000[e]:05`. -/
abbrev FAB_LANE_PEER_LANE (e : Nat) : Key := ⟨0x6000, e, 5⟩
/-- `6000[e]:06`. -/
abbrev FAB_LANE_DELAY (e : Nat) : Key := ⟨0x6000, e, 6⟩
/-- `6000[e]:07`. -/
abbrev FAB_LANE_ADVANCE (e : Nat) : Key := ⟨0x6000, e, 7⟩
/-- `6000[e]:08`. -/
abbrev FAB_LANE_ARRIVAL_OFFSET (e : Nat) : Key := ⟨0x6000, e, 8⟩
/-- `6000[e]:09`. -/
abbrev FAB_LANE_UP_SINCE (e : Nat) : Key := ⟨0x6000, e, 9⟩
/-- `6000[e]:0A`. -/
abbrev FAB_LANE_FAILURES (e : Nat) : Key := ⟨0x6000, e, 10⟩
/-- `6010:01`. -/
abbrev FAB_CONFIG_PROTECT : Key := ⟨0x6010, 0, 1⟩
/-- `6010:02`. -/
abbrev FAB_CONFIG_SUBSCRIPTIONS : Key := ⟨0x6010, 0, 2⟩
/-- `6010:03`. -/
abbrev FAB_CONFIG_OFFERS : Key := ⟨0x6010, 0, 3⟩
/-- `6100[e]:01`. -/
abbrev FAB_CALENDAR_SLOT_MASK (e : Nat) : Key := ⟨0x6100, e, 1⟩
/-- `6100[e]:02`. -/
abbrev FAB_CALENDAR_CALENDAR (e : Nat) : Key := ⟨0x6100, e, 2⟩
/-- `6100[e]:03`. -/
abbrev FAB_CALENDAR_PEER_MASK (e : Nat) : Key := ⟨0x6100, e, 3⟩
/-- `6100[e]:04`. -/
abbrev FAB_CALENDAR_ASSIGNED (e : Nat) : Key := ⟨0x6100, e, 4⟩
/-- `6200[e]:01`. -/
abbrev FAB_PATH_ADMIT (e : Nat) : Key := ⟨0x6200, e, 1⟩
/-- `6200[e]:02`. -/
abbrev FAB_PATH_DRAINED (e : Nat) : Key := ⟨0x6200, e, 2⟩
/-- `6210[e]:01`. -/
abbrev FAB_SUB_SHELF (e : Nat) : Key := ⟨0x6210, e, 1⟩
/-- `6210[e]:02`. -/
abbrev FAB_SUB_STATE (e : Nat) : Key := ⟨0x6210, e, 2⟩
/-- `6210[e]:03`. -/
abbrev FAB_SUB_CENTRE0 (e : Nat) : Key := ⟨0x6210, e, 3⟩
/-- `6210[e]:04`. -/
abbrev FAB_SUB_CENTRE1 (e : Nat) : Key := ⟨0x6210, e, 4⟩
/-- `6210[e]:05`. -/
abbrev FAB_SUB_K (e : Nat) : Key := ⟨0x6210, e, 5⟩
/-- `6210[e]:06`. -/
abbrev FAB_SUB_RESULT (e : Nat) : Key := ⟨0x6210, e, 6⟩
/-- `6210[e]:07`. -/
abbrev FAB_SUB_DUPLICATES (e : Nat) : Key := ⟨0x6210, e, 7⟩
/-- `6210[e]:08`. -/
abbrev FAB_SUB_LOST (e : Nat) : Key := ⟨0x6210, e, 8⟩
/-- `6210[e]:09`. -/
abbrev FAB_SUB_PLANE0_FIRST (e : Nat) : Key := ⟨0x6210, e, 9⟩
/-- `6210[e]:0A`. -/
abbrev FAB_SUB_PLANE1_FIRST (e : Nat) : Key := ⟨0x6210, e, 10⟩
/-- `6210[e]:0B`. -/
abbrev FAB_SUB_REPLANS (e : Nat) : Key := ⟨0x6210, e, 11⟩
/-- `6210[e]:0C`. -/
abbrev FAB_SUB_USERS (e : Nat) : Key := ⟨0x6210, e, 12⟩
/-- `6300[e]:01`. -/
abbrev FAB_STATS_CELLS_TX (e : Nat) : Key := ⟨0x6300, e, 1⟩
/-- `6300[e]:02`. -/
abbrev FAB_STATS_CELLS_RX (e : Nat) : Key := ⟨0x6300, e, 2⟩
/-- `6300[e]:03`. -/
abbrev FAB_STATS_FEC_CORRECTED (e : Nat) : Key := ⟨0x6300, e, 3⟩
/-- `6300[e]:04`. -/
abbrev FAB_STATS_CRC_ERRORS (e : Nat) : Key := ⟨0x6300, e, 4⟩
/-- `6300[e]:05`. -/
abbrev FAB_STATS_FEC_UNCORRECTABLE (e : Nat) : Key := ⟨0x6300, e, 5⟩
/-- `6300[e]:06`. -/
abbrev FAB_STATS_STRAY (e : Nat) : Key := ⟨0x6300, e, 6⟩
/-- `6300[e]:07`. -/
abbrev FAB_STATS_MISMATCH (e : Nat) : Key := ⟨0x6300, e, 7⟩
/-- `6300[e]:08`. -/
abbrev FAB_STATS_BAD_KIND (e : Nat) : Key := ⟨0x6300, e, 8⟩
/-- `6400:01`. -/
abbrev TWIN_LINK_STATE : Key := ⟨0x6400, 0, 1⟩
/-- `6400:02`. -/
abbrev TWIN_LINK_LANES : Key := ⟨0x6400, 0, 2⟩
/-- `6400:03`. -/
abbrev TWIN_LINK_DELAY : Key := ⟨0x6400, 0, 3⟩
/-- `6400:04`. -/
abbrev TWIN_LINK_MESSAGES_TX : Key := ⟨0x6400, 0, 4⟩
/-- `6400:05`. -/
abbrev TWIN_LINK_MESSAGES_RX : Key := ⟨0x6400, 0, 5⟩
/-- `6400:06`. -/
abbrev TWIN_LINK_DUPLICATES : Key := ⟨0x6400, 0, 6⟩
/-- `6400:07`. -/
abbrev TWIN_LINK_DOWN_EVENTS : Key := ⟨0x6400, 0, 7⟩
/-- `6400:08`. -/
abbrev TWIN_LINK_TAG_FAILURES : Key := ⟨0x6400, 0, 8⟩
/-- `7000[e]:01`. -/
abbrev CANVAS_ENABLE (e : Nat) : Key := ⟨0x7000, e, 1⟩
/-- `7000[e]:02`. -/
abbrev CANVAS_RASTER (e : Nat) : Key := ⟨0x7000, e, 2⟩
/-- `7000[e]:03`. -/
abbrev CANVAS_WIDTH (e : Nat) : Key := ⟨0x7000, e, 3⟩
/-- `7000[e]:04`. -/
abbrev CANVAS_HEIGHT (e : Nat) : Key := ⟨0x7000, e, 4⟩
/-- `7000[e]:05`. -/
abbrev CANVAS_BACKGROUND (e : Nat) : Key := ⟨0x7000, e, 5⟩
/-- `7000[e]:06`. -/
abbrev CANVAS_SLICES (e : Nat) : Key := ⟨0x7000, e, 6⟩
/-- `7000[e]:07`. -/
abbrev CANVAS_STATE (e : Nat) : Key := ⟨0x7000, e, 7⟩
/-- `7000[e]:08`. -/
abbrev CANVAS_LAYERS (e : Nat) : Key := ⟨0x7000, e, 8⟩
/-- `7000[e]:09`. -/
abbrev CANVAS_FETCH (e : Nat) : Key := ⟨0x7000, e, 9⟩
/-- `7000[e]:0A`. -/
abbrev CANVAS_COMPOSED (e : Nat) : Key := ⟨0x7000, e, 10⟩
/-- `7000[e]:0B`. -/
abbrev CANVAS_LAST_BOUNDARY (e : Nat) : Key := ⟨0x7000, e, 11⟩
/-- `7000[e]:0C`. -/
abbrev CANVAS_FRAMES (e : Nat) : Key := ⟨0x7000, e, 12⟩
/-- `7010[e]:01`. -/
abbrev SLICE_FETCH_LOAD (e : Nat) : Key := ⟨0x7010, e, 1⟩
/-- `7010[e]:02`. -/
abbrev SLICE_OUTPUT_LOAD (e : Nat) : Key := ⟨0x7010, e, 2⟩
/-- `7010[e]:03`. -/
abbrev SLICE_FETCH_LIMIT (e : Nat) : Key := ⟨0x7010, e, 3⟩
/-- `7010[e]:04`. -/
abbrev SLICE_OUTPUT_LIMIT (e : Nat) : Key := ⟨0x7010, e, 4⟩
/-- `7100[e]:01`. -/
abbrev LAYER_CANVAS (e : Nat) : Key := ⟨0x7100, e, 1⟩
/-- `7100[e]:02`. -/
abbrev LAYER_Z (e : Nat) : Key := ⟨0x7100, e, 2⟩
/-- `7100[e]:03`. -/
abbrev LAYER_ENABLE (e : Nat) : Key := ⟨0x7100, e, 3⟩
/-- `7100[e]:04`. -/
abbrev LAYER_SOURCE (e : Nat) : Key := ⟨0x7100, e, 4⟩
/-- `7100[e]:05`. -/
abbrev LAYER_SRC_X (e : Nat) : Key := ⟨0x7100, e, 5⟩
/-- `7100[e]:06`. -/
abbrev LAYER_SRC_Y (e : Nat) : Key := ⟨0x7100, e, 6⟩
/-- `7100[e]:07`. -/
abbrev LAYER_SRC_W (e : Nat) : Key := ⟨0x7100, e, 7⟩
/-- `7100[e]:08`. -/
abbrev LAYER_SRC_H (e : Nat) : Key := ⟨0x7100, e, 8⟩
/-- `7100[e]:09`. -/
abbrev LAYER_DST_X (e : Nat) : Key := ⟨0x7100, e, 9⟩
/-- `7100[e]:0A`. -/
abbrev LAYER_DST_Y (e : Nat) : Key := ⟨0x7100, e, 10⟩
/-- `7100[e]:0B`. -/
abbrev LAYER_DST_W (e : Nat) : Key := ⟨0x7100, e, 11⟩
/-- `7100[e]:0C`. -/
abbrev LAYER_DST_H (e : Nat) : Key := ⟨0x7100, e, 12⟩
/-- `7100[e]:0D`. -/
abbrev LAYER_BLEND (e : Nat) : Key := ⟨0x7100, e, 13⟩
/-- `7100[e]:0E`. -/
abbrev LAYER_ALPHA (e : Nat) : Key := ⟨0x7100, e, 14⟩
/-- `7100[e]:0F`. -/
abbrev LAYER_NOT_READY (e : Nat) : Key := ⟨0x7100, e, 15⟩
/-- `7100[e]:10`. -/
abbrev LAYER_MATTE (e : Nat) : Key := ⟨0x7100, e, 16⟩
/-- `7100[e]:11`. -/
abbrev LAYER_FILTER (e : Nat) : Key := ⟨0x7100, e, 17⟩
/-- `7100[e]:12`. -/
abbrev LAYER_STATUS (e : Nat) : Key := ⟨0x7100, e, 18⟩
/-- `7100[e]:13`. -/
abbrev LAYER_TIMING (e : Nat) : Key := ⟨0x7100, e, 19⟩
/-- `7100[e]:14`. -/
abbrev LAYER_NOT_READY_FRAMES (e : Nat) : Key := ⟨0x7100, e, 20⟩
/-- `7100[e]:15`. -/
abbrev LAYER_REPEATS (e : Nat) : Key := ⟨0x7100, e, 21⟩
/-- `7100[e]:16`. -/
abbrev LAYER_DROPS (e : Nat) : Key := ⟨0x7100, e, 22⟩
/-- `7100[e]:17`. -/
abbrev LAYER_FETCH (e : Nat) : Key := ⟨0x7100, e, 23⟩
/-- `7100[e]:18`. -/
abbrev LAYER_SOLO_DECISIONS (e : Nat) : Key := ⟨0x7100, e, 24⟩
/-- `7200`, sub-indices 01 to 09. -/
abbrev MATRIX_C11 (e : Nat) (i : Nat) : Key := ⟨0x7200, e, 1 + i⟩
/-- `7200`, sub-indices 0A to 0C. -/
abbrev MATRIX_OFFSET_Y (e : Nat) (i : Nat) : Key := ⟨0x7200, e, 10 + i⟩
/-- `7300[e]:01`. -/
abbrev LUT_COMPONENTS (e : Nat) : Key := ⟨0x7300, e, 1⟩
/-- `7300`, sub-indices 02 to 41. -/
abbrev LUT_ENTRIES_0 (e : Nat) (i : Nat) : Key := ⟨0x7300, e, 2 + i⟩
/-- `7400[e]:01`. -/
abbrev TILE_CANVAS (e : Nat) : Key := ⟨0x7400, e, 1⟩
/-- `7400[e]:02`. -/
abbrev TILE_X (e : Nat) : Key := ⟨0x7400, e, 2⟩
/-- `7400[e]:03`. -/
abbrev TILE_Y (e : Nat) : Key := ⟨0x7400, e, 3⟩
/-- `7400[e]:04`. -/
abbrev TILE_WIDTH (e : Nat) : Key := ⟨0x7400, e, 4⟩
/-- `7400[e]:05`. -/
abbrev TILE_HEIGHT (e : Nat) : Key := ⟨0x7400, e, 5⟩
/-- `7400[e]:06`. -/
abbrev TILE_OUT_X (e : Nat) : Key := ⟨0x7400, e, 6⟩
/-- `7400[e]:07`. -/
abbrev TILE_OUT_Y (e : Nat) : Key := ⟨0x7400, e, 7⟩
/-- `7400[e]:08`. -/
abbrev TILE_OFFER (e : Nat) : Key := ⟨0x7400, e, 8⟩
/-- `7400[e]:09`. -/
abbrev TILE_OFFER_RATE (e : Nat) : Key := ⟨0x7400, e, 9⟩
/-- `7400[e]:0A`. -/
abbrev TILE_OFFER_GROUP (e : Nat) : Key := ⟨0x7400, e, 10⟩
/-- `7400[e]:0B`. -/
abbrev TILE_OFFER_LEVEL (e : Nat) : Key := ⟨0x7400, e, 11⟩
/-- `7400[e]:0C`. -/
abbrev TILE_OFFER_DIVISION (e : Nat) : Key := ⟨0x7400, e, 12⟩
/-- `7400[e]:0D`. -/
abbrev TILE_USERS (e : Nat) : Key := ⟨0x7400, e, 13⟩
/-- `8000[e]:01`. -/
abbrev AES_RX_ENABLE (e : Nat) : Key := ⟨0x8000, e, 1⟩
/-- `8000[e]:02`. -/
abbrev AES_RX_MODE (e : Nat) : Key := ⟨0x8000, e, 2⟩
/-- `8000[e]:03`. -/
abbrev AES_RX_STATE (e : Nat) : Key := ⟨0x8000, e, 3⟩
/-- `8000[e]:04`. -/
abbrev AES_RX_RATE (e : Nat) : Key := ⟨0x8000, e, 4⟩
/-- `8000[e]:05`. -/
abbrev AES_RX_RATIO_OFFSET (e : Nat) : Key := ⟨0x8000, e, 5⟩
/-- `8000[e]:06`. -/
abbrev AES_RX_FILL (e : Nat) : Key := ⟨0x8000, e, 6⟩
/-- `8000[e]:07`. -/
abbrev AES_RX_CHANNEL_STATUS (e : Nat) : Key := ⟨0x8000, e, 7⟩
/-- `8000[e]:08`. -/
abbrev AES_RX_SLOT (e : Nat) : Key := ⟨0x8000, e, 8⟩
/-- `8100[e]:01`. -/
abbrev AES_TX_ENABLE (e : Nat) : Key := ⟨0x8100, e, 1⟩
/-- `8100[e]:02`. -/
abbrev AES_TX_CLOCK (e : Nat) : Key := ⟨0x8100, e, 2⟩
/-- `8100[e]:03`. -/
abbrev AES_TX_DARS (e : Nat) : Key := ⟨0x8100, e, 3⟩
/-- `8100[e]:04`. -/
abbrev AES_TX_RATE (e : Nat) : Key := ⟨0x8100, e, 4⟩
/-- `8100[e]:05`. -/
abbrev AES_TX_STATE (e : Nat) : Key := ⟨0x8100, e, 5⟩
/-- `8100[e]:06`. -/
abbrev AES_TX_SLOT (e : Nat) : Key := ⟨0x8100, e, 6⟩
/-- `8200[e]:01`. -/
abbrev AUDIO_NODE_USED (e : Nat) : Key := ⟨0x8200, e, 1⟩
/-- `8200[e]:02`. -/
abbrev AUDIO_NODE_GAIN (e : Nat) : Key := ⟨0x8200, e, 2⟩
/-- `8200[e]:03`. -/
abbrev AUDIO_NODE_MUTE (e : Nat) : Key := ⟨0x8200, e, 3⟩
/-- `8300[e]:01`. -/
abbrev AUDIO_EDGE_FROM (e : Nat) : Key := ⟨0x8300, e, 1⟩
/-- `8300[e]:02`. -/
abbrev AUDIO_EDGE_TO (e : Nat) : Key := ⟨0x8300, e, 2⟩
/-- `8300[e]:03`. -/
abbrev AUDIO_EDGE_GAIN (e : Nat) : Key := ⟨0x8300, e, 3⟩
/-- `8300[e]:04`. -/
abbrev AUDIO_EDGE_ON (e : Nat) : Key := ⟨0x8300, e, 4⟩
/-- `8300[e]:05`. -/
abbrev AUDIO_EDGE_STATE (e : Nat) : Key := ⟨0x8300, e, 5⟩
/-- `8400:01`. -/
abbrev AUDIO_COMPILE_COMPILE : Key := ⟨0x8400, 0, 1⟩
/-- `8400:02`. -/
abbrev AUDIO_COMPILE_DRAFT_RATE : Key := ⟨0x8400, 0, 2⟩
/-- `8400:03`. -/
abbrev AUDIO_COMPILE_STATE : Key := ⟨0x8400, 0, 3⟩
/-- `8400:04`. -/
abbrev AUDIO_COMPILE_RESULT : Key := ⟨0x8400, 0, 4⟩
/-- `8400:05`. -/
abbrev AUDIO_COMPILE_FAULT_ITEM : Key := ⟨0x8400, 0, 5⟩
/-- `8400:06`. -/
abbrev AUDIO_COMPILE_OPERATIONS : Key := ⟨0x8400, 0, 6⟩
/-- `8400:07`. -/
abbrev AUDIO_COMPILE_PROGRAM_ID : Key := ⟨0x8400, 0, 7⟩
/-- `8400:08`. -/
abbrev AUDIO_COMPILE_RUNNING_ID : Key := ⟨0x8400, 0, 8⟩
/-- `8400:09`. -/
abbrev AUDIO_COMPILE_RUNNING_RATE : Key := ⟨0x8400, 0, 9⟩
/-- `8400:0A`. -/
abbrev AUDIO_COMPILE_RUNNING_OPERATIONS : Key := ⟨0x8400, 0, 10⟩
/-- `8400:0B`. -/
abbrev AUDIO_COMPILE_ZC_TIMEOUT : Key := ⟨0x8400, 0, 11⟩
/-- `8500[e]:01`. -/
abbrev SIDETONE_ENABLE (e : Nat) : Key := ⟨0x8500, e, 1⟩
/-- `8500[e]:02`. -/
abbrev SIDETONE_INPUT (e : Nat) : Key := ⟨0x8500, e, 2⟩
/-- `8500[e]:03`. -/
abbrev SIDETONE_OUTPUT (e : Nat) : Key := ⟨0x8500, e, 3⟩
/-- `8500[e]:04`. -/
abbrev SIDETONE_GAIN (e : Nat) : Key := ⟨0x8500, e, 4⟩
/-- `8500[e]:05`. -/
abbrev SIDETONE_STATE (e : Nat) : Key := ⟨0x8500, e, 5⟩
/-- `8600[e]:01`. -/
abbrev LIMITER_THRESHOLD (e : Nat) : Key := ⟨0x8600, e, 1⟩
/-- `8600[e]:02`. -/
abbrev LIMITER_RELEASE (e : Nat) : Key := ⟨0x8600, e, 2⟩
/-- `8600[e]:03`. -/
abbrev LIMITER_ACTIVE (e : Nat) : Key := ⟨0x8600, e, 3⟩
/-- `8600[e]:04`. -/
abbrev LIMITER_REDUCTION (e : Nat) : Key := ⟨0x8600, e, 4⟩
/-- `8700[e]:01`. -/
abbrev AUDIO_STATS_UNDERRUNS (e : Nat) : Key := ⟨0x8700, e, 1⟩
/-- `8700[e]:02`. -/
abbrev AUDIO_STATS_OVERRUNS (e : Nat) : Key := ⟨0x8700, e, 2⟩
/-- `8700[e]:03`. -/
abbrev AUDIO_STATS_PARITY (e : Nat) : Key := ⟨0x8700, e, 3⟩
/-- `8700[e]:04`. -/
abbrev AUDIO_STATS_VALIDITY (e : Nat) : Key := ⟨0x8700, e, 4⟩
/-- `8700[e]:05`. -/
abbrev AUDIO_STATS_TRANSPARENT_SLIPS (e : Nat) : Key := ⟨0x8700, e, 5⟩
/-- `8700[e]:06`. -/
abbrev AUDIO_STATS_LOSSES (e : Nat) : Key := ⟨0x8700, e, 6⟩
/-- `8710:01`. -/
abbrev ENGINE_STATS_SATURATIONS : Key := ⟨0x8710, 0, 1⟩
/-- `8710:02`. -/
abbrev ENGINE_STATS_ZC_TIMEOUTS : Key := ⟨0x8710, 0, 2⟩
/-- `8710:03`. -/
abbrev ENGINE_STATS_SWAPS : Key := ⟨0x8710, 0, 3⟩
/-- `8710:04`. -/
abbrev ENGINE_STATS_EMBED_RESYNCS : Key := ⟨0x8710, 0, 4⟩
/-- `8710:05`. -/
abbrev ENGINE_STATS_OVERLAPS : Key := ⟨0x8710, 0, 5⟩
/-- `8710:06`. -/
abbrev ENGINE_STATS_BUNDLE_MISSING : Key := ⟨0x8710, 0, 6⟩
/-- `8800[e]:01`. -/
abbrev BUNDLE_OUT_ENABLE (e : Nat) : Key := ⟨0x8800, e, 1⟩
/-- `8800[e]:02`. -/
abbrev BUNDLE_OUT_SLOT_BASE (e : Nat) : Key := ⟨0x8800, e, 2⟩
/-- `8800[e]:03`. -/
abbrev BUNDLE_OUT_CHANNELS (e : Nat) : Key := ⟨0x8800, e, 3⟩
/-- `8810[e]:01`. -/
abbrev BUNDLE_IN_ENABLE (e : Nat) : Key := ⟨0x8810, e, 1⟩
/-- `8810[e]:02`. -/
abbrev BUNDLE_IN_SOURCE (e : Nat) : Key := ⟨0x8810, e, 2⟩
/-- `8810[e]:03`. -/
abbrev BUNDLE_IN_SLOT_BASE (e : Nat) : Key := ⟨0x8810, e, 3⟩
/-- `8810[e]:04`. -/
abbrev BUNDLE_IN_CHANNELS (e : Nat) : Key := ⟨0x8810, e, 4⟩
/-- `8810[e]:05`. -/
abbrev BUNDLE_IN_STATE (e : Nat) : Key := ⟨0x8810, e, 5⟩
/-- `8810[e]:06`. -/
abbrev BUNDLE_IN_RATE (e : Nat) : Key := ⟨0x8810, e, 6⟩
/-- `9000:01`. -/
abbrev STACKS_POPULATED : Key := ⟨0x9000, 0, 1⟩
/-- `9000:02`. -/
abbrev STACKS_RATE : Key := ⟨0x9000, 0, 2⟩
/-- `9000:03`. -/
abbrev STACKS_PAGES : Key := ⟨0x9000, 0, 3⟩
/-- `9000:04`. -/
abbrev STACKS_SPARES : Key := ⟨0x9000, 0, 4⟩
/-- `9000:05`. -/
abbrev STACKS_FREE : Key := ⟨0x9000, 0, 5⟩
/-- `9000:06`. -/
abbrev STACKS_CLIPS : Key := ⟨0x9000, 0, 6⟩
/-- `9100[e]:01`. -/
abbrev RECORDER_ENABLE (e : Nat) : Key := ⟨0x9100, e, 1⟩
/-- `9100[e]:02`. -/
abbrev RECORDER_SOURCE (e : Nat) : Key := ⟨0x9100, e, 2⟩
/-- `9100[e]:03`. -/
abbrev RECORDER_RASTER (e : Nat) : Key := ⟨0x9100, e, 3⟩
/-- `9100[e]:04`. -/
abbrev RECORDER_DEPTH (e : Nat) : Key := ⟨0x9100, e, 4⟩
/-- `9100[e]:05`. -/
abbrev RECORDER_CONTENT (e : Nat) : Key := ⟨0x9100, e, 5⟩
/-- `9100[e]:06`. -/
abbrev RECORDER_HOME (e : Nat) : Key := ⟨0x9100, e, 6⟩
/-- `9100[e]:07`. -/
abbrev RECORDER_STATE (e : Nat) : Key := ⟨0x9100, e, 7⟩
/-- `9100[e]:08`. -/
abbrev RECORDER_HOME_IN_FORCE (e : Nat) : Key := ⟨0x9100, e, 8⟩
/-- `9100[e]:09`. -/
abbrev RECORDER_FOLIOS (e : Nat) : Key := ⟨0x9100, e, 9⟩
/-- `9100[e]:0A`. -/
abbrev RECORDER_FOLIO_PAGES (e : Nat) : Key := ⟨0x9100, e, 10⟩
/-- `9100[e]:0B`. -/
abbrev RECORDER_OLDEST (e : Nat) : Key := ⟨0x9100, e, 11⟩
/-- `9100[e]:0C`. -/
abbrev RECORDER_NEWEST (e : Nat) : Key := ⟨0x9100, e, 12⟩
/-- `9100[e]:0D`. -/
abbrev RECORDER_HELD (e : Nat) : Key := ⟨0x9100, e, 13⟩
/-- `9100[e]:0E`. -/
abbrev RECORDER_FRAMES (e : Nat) : Key := ⟨0x9100, e, 14⟩
/-- `9100[e]:0F`. -/
abbrev RECORDER_MARKERS (e : Nat) : Key := ⟨0x9100, e, 15⟩
/-- `9100[e]:10`. -/
abbrev RECORDER_UNREADABLE (e : Nat) : Key := ⟨0x9100, e, 16⟩
/-- `9200[e]:01`. -/
abbrev HEAD_MODE (e : Nat) : Key := ⟨0x9200, e, 1⟩
/-- `9200[e]:02`. -/
abbrev HEAD_RASTER (e : Nat) : Key := ⟨0x9200, e, 2⟩
/-- `9200[e]:03`. -/
abbrev HEAD_SOURCE (e : Nat) : Key := ⟨0x9200, e, 3⟩
/-- `9200[e]:04`. -/
abbrev HEAD_SPAN (e : Nat) : Key := ⟨0x9200, e, 4⟩
/-- `9200[e]:05`. -/
abbrev HEAD_CLIP (e : Nat) : Key := ⟨0x9200, e, 5⟩
/-- `9200[e]:06`. -/
abbrev HEAD_IN (e : Nat) : Key := ⟨0x9200, e, 6⟩
/-- `9200[e]:07`. -/
abbrev HEAD_LOOP (e : Nat) : Key := ⟨0x9200, e, 7⟩
/-- `9200[e]:08`. -/
abbrev HEAD_STATE (e : Nat) : Key := ⟨0x9200, e, 8⟩
/-- `9200[e]:09`. -/
abbrev HEAD_OUTPUT (e : Nat) : Key := ⟨0x9200, e, 9⟩
/-- `9200[e]:0A`. -/
abbrev HEAD_POSITION (e : Nat) : Key := ⟨0x9200, e, 10⟩
/-- `9200[e]:0B`. -/
abbrev HEAD_REPEATS (e : Nat) : Key := ⟨0x9200, e, 11⟩
/-- `9200[e]:0C`. -/
abbrev HEAD_ABSENT_FRAMES (e : Nat) : Key := ⟨0x9200, e, 12⟩
/-- `9300[e]:01`. -/
abbrev CLIP_NAME (e : Nat) : Key := ⟨0x9300, e, 1⟩
/-- `9300[e]:02`. -/
abbrev CLIP_RECORDER (e : Nat) : Key := ⟨0x9300, e, 2⟩
/-- `9300[e]:03`. -/
abbrev CLIP_IN (e : Nat) : Key := ⟨0x9300, e, 3⟩
/-- `9300[e]:04`. -/
abbrev CLIP_OUT (e : Nat) : Key := ⟨0x9300, e, 4⟩
/-- `9300[e]:05`. -/
abbrev CLIP_CAPTURE (e : Nat) : Key := ⟨0x9300, e, 5⟩
/-- `9300[e]:06`. -/
abbrev CLIP_DELETE (e : Nat) : Key := ⟨0x9300, e, 6⟩
/-- `9300[e]:07`. -/
abbrev CLIP_STATE (e : Nat) : Key := ⟨0x9300, e, 7⟩
/-- `9300[e]:08`. -/
abbrev CLIP_FRAMES (e : Nat) : Key := ⟨0x9300, e, 8⟩
/-- `9300[e]:09`. -/
abbrev CLIP_PAGES (e : Nat) : Key := ⟨0x9300, e, 9⟩
/-- `9300[e]:0A`. -/
abbrev CLIP_FORMAT (e : Nat) : Key := ⟨0x9300, e, 10⟩
/-- `9300[e]:0B`. -/
abbrev CLIP_CONTROLLER (e : Nat) : Key := ⟨0x9300, e, 11⟩
/-- `9300[e]:0C`. -/
abbrev CLIP_FIRST (e : Nat) : Key := ⟨0x9300, e, 12⟩
/-- `9400:01`. -/
abbrev ADMISSION_HBM_BUDGET : Key := ⟨0x9400, 0, 1⟩
/-- `9400:02`. -/
abbrev ADMISSION_HBM_ADMITTED : Key := ⟨0x9400, 0, 2⟩
/-- `9400:03`. -/
abbrev ADMISSION_HBM_SYNC : Key := ⟨0x9400, 0, 3⟩
/-- `9400:04`. -/
abbrev ADMISSION_HBM_COMPOSITOR : Key := ⟨0x9400, 0, 4⟩
/-- `9400:05`. -/
abbrev ADMISSION_HBM_OUTPUT : Key := ⟨0x9400, 0, 5⟩
/-- `9400:06`. -/
abbrev ADMISSION_HBM_PAGES : Key := ⟨0x9400, 0, 6⟩
/-- `9400:07`. -/
abbrev ADMISSION_HBM_PAGES_ADMITTED : Key := ⟨0x9400, 0, 7⟩
/-- `9400:08`. -/
abbrev ADMISSION_REFUSALS : Key := ⟨0x9400, 0, 8⟩
/-- `9410[e]:01`. -/
abbrev DDR_ADMISSION_BUDGET (e : Nat) : Key := ⟨0x9410, e, 1⟩
/-- `9410[e]:02`. -/
abbrev DDR_ADMISSION_ADMITTED (e : Nat) : Key := ⟨0x9410, e, 2⟩
/-- `9410[e]:03`. -/
abbrev DDR_ADMISSION_PAGES (e : Nat) : Key := ⟨0x9410, e, 3⟩
/-- `9410[e]:04`. -/
abbrev DDR_ADMISSION_PAGES_ADMITTED (e : Nat) : Key := ⟨0x9410, e, 4⟩
/-- `9500[e]:01`. -/
abbrev MEM_STATS_CORRECTED (e : Nat) : Key := ⟨0x9500, e, 1⟩
/-- `9500[e]:02`. -/
abbrev MEM_STATS_UNCORRECTABLE (e : Nat) : Key := ⟨0x9500, e, 2⟩
/-- `9500[e]:03`. -/
abbrev MEM_STATS_SCRUB_PASSES (e : Nat) : Key := ⟨0x9500, e, 3⟩
/-- `9500[e]:04`. -/
abbrev MEM_STATS_CANDIDATE_ROWS (e : Nat) : Key := ⟨0x9500, e, 4⟩
/-- `9500[e]:05`. -/
abbrev MEM_STATS_REPAIRED_ROWS (e : Nat) : Key := ⟨0x9500, e, 5⟩
/-- `9500[e]:06`. -/
abbrev MEM_STATS_SPARES (e : Nat) : Key := ⟨0x9500, e, 6⟩
/-- `9500[e]:07`. -/
abbrev MEM_STATS_CAPACITY (e : Nat) : Key := ⟨0x9500, e, 7⟩
/-- `9500[e]:08`. -/
abbrev MEM_STATS_STATE (e : Nat) : Key := ⟨0x9500, e, 8⟩
/-- `A000[e]:01`. -/
abbrev FAULT_SOURCE_NAME (e : Nat) : Key := ⟨0xA000, e, 1⟩
/-- `A000[e]:02`. -/
abbrev FAULT_SOURCE_DEFAULT (e : Nat) : Key := ⟨0xA000, e, 2⟩
/-- `A000[e]:03`. -/
abbrev FAULT_SOURCE_SEVERITY (e : Nat) : Key := ⟨0xA000, e, 3⟩
/-- `A000[e]:04`. -/
abbrev FAULT_SOURCE_FIXED (e : Nat) : Key := ⟨0xA000, e, 4⟩
/-- `A000[e]:05`. -/
abbrev FAULT_SOURCE_ISLAND (e : Nat) : Key := ⟨0xA000, e, 5⟩
/-- `A000[e]:06`. -/
abbrev FAULT_SOURCE_STATE (e : Nat) : Key := ⟨0xA000, e, 6⟩
/-- `A000[e]:07`. -/
abbrev FAULT_SOURCE_IN_FORCE (e : Nat) : Key := ⟨0xA000, e, 7⟩
/-- `A000[e]:08`. -/
abbrev FAULT_SOURCE_LAST_RAISED (e : Nat) : Key := ⟨0xA000, e, 8⟩
/-- `A000[e]:09`. -/
abbrev FAULT_SOURCE_LAST_DETAIL (e : Nat) : Key := ⟨0xA000, e, 9⟩
/-- `A000[e]:0A`. -/
abbrev FAULT_SOURCE_RAISES (e : Nat) : Key := ⟨0xA000, e, 10⟩
/-- `A000[e]:0B`. -/
abbrev FAULT_SOURCE_RECOVERIES (e : Nat) : Key := ⟨0xA000, e, 11⟩
/-- `A000[e]:0C`. -/
abbrev FAULT_SOURCE_RECENT (e : Nat) : Key := ⟨0xA000, e, 12⟩
/-- `A100:01`. -/
abbrev LOGBOOK_ENTRIES : Key := ⟨0xA100, 0, 1⟩
/-- `A100:02`. -/
abbrev LOGBOOK_COUNT : Key := ⟨0xA100, 0, 2⟩
/-- `A100:03`. -/
abbrev LOGBOOK_NEXT : Key := ⟨0xA100, 0, 3⟩
/-- `A100:04`. -/
abbrev LOGBOOK_DROPPED : Key := ⟨0xA100, 0, 4⟩
/-- `A200:01`. -/
abbrev QUIET_QUIET : Key := ⟨0xA200, 0, 1⟩
/-- `A200:02`. -/
abbrev QUIET_SAFE_QUIET : Key := ⟨0xA200, 0, 2⟩
/-- `A300:01`. -/
abbrev RECOVERY_LIMIT : Key := ⟨0xA300, 0, 1⟩
/-- `A300:02`. -/
abbrev RECOVERY_WINDOW : Key := ⟨0xA300, 0, 2⟩
/-- `A300:03`. -/
abbrev RECOVERY_LATCHED : Key := ⟨0xA300, 0, 3⟩
/-- `A300:04`. -/
abbrev RECOVERY_TOTAL : Key := ⟨0xA300, 0, 4⟩
/-- `A400:01`. -/
abbrev SAFE_REACTION : Key := ⟨0xA400, 0, 1⟩
/-- `A400:02`. -/
abbrev SAFE_SINCE : Key := ⟨0xA400, 0, 2⟩
/-- `A400:03`. -/
abbrev SAFE_CAUSE : Key := ⟨0xA400, 0, 3⟩
/-- `A400:04`. -/
abbrev SAFE_LATCHED : Key := ⟨0xA400, 0, 4⟩
/-- `A400:05`. -/
abbrev SAFE_ISOLATED : Key := ⟨0xA400, 0, 5⟩
/-- `A410:01`. -/
abbrev ALERT_LEVEL : Key := ⟨0xA410, 0, 1⟩
/-- `A410:02`. -/
abbrev ALERT_ASSERTED : Key := ⟨0xA410, 0, 2⟩
/-- `B000[e]:01`. -/
abbrev KEY_SLOT_KEY (e : Nat) : Key := ⟨0xB000, e, 1⟩
/-- `B100[e]:01`. -/
abbrev KEY_STATUS_STATE (e : Nat) : Key := ⟨0xB100, e, 1⟩
/-- `B100[e]:02`. -/
abbrev KEY_STATUS_GENERATION (e : Nat) : Key := ⟨0xB100, e, 2⟩
/-- `B100[e]:03`. -/
abbrev KEY_STATUS_BANK (e : Nat) : Key := ⟨0xB100, e, 3⟩
/-- `B100[e]:04`. -/
abbrev KEY_STATUS_CHECK (e : Nat) : Key := ⟨0xB100, e, 4⟩
/-- `B110:01`. -/
abbrev OWNER_ANSWER_SLOT : Key := ⟨0xB110, 0, 1⟩
/-- `B110:02`. -/
abbrev OWNER_ANSWER_CHALLENGE : Key := ⟨0xB110, 0, 2⟩
/-- `B110:03`. -/
abbrev OWNER_ANSWER_ANSWER : Key := ⟨0xB110, 0, 3⟩
/-- `B200:01`. -/
abbrev COLOPHON_NONCE : Key := ⟨0xB200, 0, 1⟩
/-- `B200:02`. -/
abbrev COLOPHON_STATEMENT : Key := ⟨0xB200, 0, 2⟩
/-- `B200:03`. -/
abbrev COLOPHON_CERTIFICATE : Key := ⟨0xB200, 0, 3⟩
/-- `B200:04`. -/
abbrev COLOPHON_MEASUREMENT : Key := ⟨0xB200, 0, 4⟩
/-- `B300:01`. -/
abbrev TAMPER_COUNT : Key := ⟨0xB300, 0, 1⟩
/-- `B300:02`. -/
abbrev TAMPER_LAST_CAUSE : Key := ⟨0xB300, 0, 2⟩
/-- `B300:03`. -/
abbrev TAMPER_LAST_AT : Key := ⟨0xB300, 0, 3⟩
/-- `B300:04`. -/
abbrev TAMPER_TAMPER_N : Key := ⟨0xB300, 0, 4⟩
/-- `B300:05`. -/
abbrev TAMPER_VBAT : Key := ⟨0xB300, 0, 5⟩
/-- `C000:01`. -/
abbrev UPDATE_BOOT_IDLE : Key := ⟨0xC000, 0, 1⟩
/-- `C000:02`. -/
abbrev UPDATE_ACTIVE_SLOT : Key := ⟨0xC000, 0, 2⟩
/-- `C000:03`. -/
abbrev UPDATE_IDLE_STATE : Key := ⟨0xC000, 0, 3⟩
/-- `C000:04`. -/
abbrev UPDATE_IDLE_RESULT : Key := ⟨0xC000, 0, 4⟩
/-- `C000:05`. -/
abbrev UPDATE_IDLE_SLOT : Key := ⟨0xC000, 0, 5⟩
/-- `C000:06`. -/
abbrev UPDATE_IDLE_MEASUREMENT : Key := ⟨0xC000, 0, 6⟩
/-- `C000:07`. -/
abbrev UPDATE_IDLE_EDITION : Key := ⟨0xC000, 0, 7⟩
/-- `C000:08`. -/
abbrev UPDATE_HANDOVERS : Key := ⟨0xC000, 0, 8⟩
/-- `C000:09`. -/
abbrev UPDATE_ACTIVE_PAIR : Key := ⟨0xC000, 0, 9⟩
/-- `C100[e]:01`. -/
abbrev IMAGE_WINDOW_STATE (e : Nat) : Key := ⟨0xC100, e, 1⟩
/-- `C100[e]:02`. -/
abbrev IMAGE_WINDOW_EDITION (e : Nat) : Key := ⟨0xC100, e, 2⟩
/-- `C100[e]:03`. -/
abbrev IMAGE_WINDOW_LENGTH (e : Nat) : Key := ⟨0xC100, e, 3⟩
/-- `C100[e]:04`. -/
abbrev IMAGE_WINDOW_MEASUREMENT (e : Nat) : Key := ⟨0xC100, e, 4⟩
/-- `C100[e]:05`. -/
abbrev IMAGE_WINDOW_RESULT (e : Nat) : Key := ⟨0xC100, e, 5⟩
/-- `C100[e]:06`. -/
abbrev IMAGE_WINDOW_WRITTEN_AT (e : Nat) : Key := ⟨0xC100, e, 6⟩
/-- `C200:01`. -/
abbrev HEALTH_CONFIRM_CONFIRM : Key := ⟨0xC200, 0, 1⟩
/-- `C200:02`. -/
abbrev HEALTH_CONFIRM_REQUIRE_CONTROLLER : Key := ⟨0xC200, 0, 2⟩
/-- `C200:03`. -/
abbrev HEALTH_CONFIRM_REJECT : Key := ⟨0xC200, 0, 3⟩
/-- `C200:04`. -/
abbrev HEALTH_CONFIRM_PROBATION : Key := ⟨0xC200, 0, 4⟩
/-- `C200:05`. -/
abbrev HEALTH_CONFIRM_STATE : Key := ⟨0xC200, 0, 5⟩
/-- `C200:06`. -/
abbrev HEALTH_CONFIRM_DEADLINE : Key := ⟨0xC200, 0, 6⟩
/-- `C200:07`. -/
abbrev HEALTH_CONFIRM_SELF_CHECK : Key := ⟨0xC200, 0, 7⟩
/-- `C300:01`. -/
abbrev ROLLBACK_FLOOR_FLOOR : Key := ⟨0xC300, 0, 1⟩
/-- `C300:02`. -/
abbrev ROLLBACK_FLOOR_RECORDS_LEFT : Key := ⟨0xC300, 0, 2⟩
/-- `D000:01`. -/
abbrev ALMANAC_INTERVALS : Key := ⟨0xD000, 0, 1⟩
/-- `D000:02`. -/
abbrev ALMANAC_DAYS : Key := ⟨0xD000, 0, 2⟩
/-- `D000:03`. -/
abbrev ALMANAC_LAST : Key := ⟨0xD000, 0, 3⟩
/-- `D000:04`. -/
abbrev ALMANAC_EXTRACT_TYPE : Key := ⟨0xD000, 0, 4⟩
/-- `D000:05`. -/
abbrev ALMANAC_EXTRACT_FROM : Key := ⟨0xD000, 0, 5⟩
/-- `D000:06`. -/
abbrev ALMANAC_EXTRACT : Key := ⟨0xD000, 0, 6⟩
/-- `D000:07`. -/
abbrev ALMANAC_POWERED : Key := ⟨0xD000, 0, 7⟩
/-- `D010[e]:01`. -/
abbrev WEAR_ISLAND (e : Nat) : Key := ⟨0xD010, e, 1⟩
/-- `D010[e]:02`. -/
abbrev WEAR_SLACK (e : Nat) : Key := ⟨0xD010, e, 2⟩
/-- `D010[e]:03`. -/
abbrev WEAR_SHIFT (e : Nat) : Key := ⟨0xD010, e, 3⟩
/-- `D020[e]:01`. -/
abbrev THERMAL_ISLAND (e : Nat) : Key := ⟨0xD020, e, 1⟩
/-- `D020[e]:02`. -/
abbrev THERMAL_NOW (e : Nat) : Key := ⟨0xD020, e, 2⟩
/-- `D020[e]:03`. -/
abbrev THERMAL_MAX (e : Nat) : Key := ⟨0xD020, e, 3⟩
/-- `D030[e]:01`. -/
abbrev EYE_H_MARGIN (e : Nat) : Key := ⟨0xD030, e, 1⟩
/-- `D030[e]:02`. -/
abbrev EYE_V_MARGIN (e : Nat) : Key := ⟨0xD030, e, 2⟩
/-- `D030[e]:03`. -/
abbrev EYE_SCAN_AT (e : Nat) : Key := ⟨0xD030, e, 3⟩
/-- `D030[e]:04`. -/
abbrev EYE_SCAN_H (e : Nat) : Key := ⟨0xD030, e, 4⟩
/-- `D030[e]:05`. -/
abbrev EYE_SCAN_V (e : Nat) : Key := ⟨0xD030, e, 5⟩
/-- `D030[e]:06`. -/
abbrev EYE_ADAPT_LIMIT (e : Nat) : Key := ⟨0xD030, e, 6⟩
/-- `D100[e]:01`. -/
abbrev MARGIN_PLAN_SLACK (e : Nat) : Key := ⟨0xD100, e, 1⟩
/-- `D100[e]:02`. -/
abbrev MARGIN_PLAN_YEARS (e : Nat) : Key := ⟨0xD100, e, 2⟩
/-- `D100[e]:03`. -/
abbrev MARGIN_PLAN_PROPOSAL (e : Nat) : Key := ⟨0xD100, e, 3⟩
/-- `D110:01`. -/
abbrev MARGIN_CONTROL_AVS_OFFSET : Key := ⟨0xD110, 0, 1⟩
/-- `D110:02`. -/
abbrev MARGIN_CONTROL_STEPS : Key := ⟨0xD110, 0, 2⟩
/-- `D110:03`. -/
abbrev MARGIN_CONTROL_LAST_STEP : Key := ⟨0xD110, 0, 3⟩
/-- `D110:04`. -/
abbrev MARGIN_CONTROL_BIN : Key := ⟨0xD110, 0, 4⟩
/-- `D110:05`. -/
abbrev MARGIN_CONTROL_PROPOSED_BIN : Key := ⟨0xD110, 0, 5⟩
/-- `D110:06`. -/
abbrev MARGIN_CONTROL_THRESHOLD : Key := ⟨0xD110, 0, 6⟩
/-- `D110:07`. -/
abbrev MARGIN_CONTROL_SILENT : Key := ⟨0xD110, 0, 7⟩
/-- `D200[e]:01`. -/
abbrev BOOKING_KIND (e : Nat) : Key := ⟨0xD200, e, 1⟩
/-- `D200[e]:02`. -/
abbrev BOOKING_SIDE (e : Nat) : Key := ⟨0xD200, e, 2⟩
/-- `D200[e]:03`. -/
abbrev BOOKING_ISLANDS (e : Nat) : Key := ⟨0xD200, e, 3⟩
/-- `D200[e]:04`. -/
abbrev BOOKING_SERIAL (e : Nat) : Key := ⟨0xD200, e, 4⟩
/-- `D200[e]:05`. -/
abbrev BOOKING_FABRIC (e : Nat) : Key := ⟨0xD200, e, 5⟩
/-- `D200[e]:06`. -/
abbrev BOOKING_PORTS (e : Nat) : Key := ⟨0xD200, e, 6⟩
/-- `D200[e]:07`. -/
abbrev BOOKING_MEMORY (e : Nat) : Key := ⟨0xD200, e, 7⟩
/-- `D200[e]:08`. -/
abbrev BOOKING_AES (e : Nat) : Key := ⟨0xD200, e, 8⟩
/-- `D200[e]:09`. -/
abbrev BOOKING_START (e : Nat) : Key := ⟨0xD200, e, 9⟩
/-- `D200[e]:0A`. -/
abbrev BOOKING_DURATION (e : Nat) : Key := ⟨0xD200, e, 10⟩
/-- `D200[e]:0B`. -/
abbrev BOOKING_FLAGS (e : Nat) : Key := ⟨0xD200, e, 11⟩
/-- `D200[e]:0C`. -/
abbrev BOOKING_SUBMIT (e : Nat) : Key := ⟨0xD200, e, 12⟩
/-- `D200[e]:0D`. -/
abbrev BOOKING_CANCEL (e : Nat) : Key := ⟨0xD200, e, 13⟩
/-- `D200[e]:0E`. -/
abbrev BOOKING_STATE (e : Nat) : Key := ⟨0xD200, e, 14⟩
/-- `D200[e]:0F`. -/
abbrev BOOKING_RESULT (e : Nat) : Key := ⟨0xD200, e, 15⟩
/-- `D200[e]:10`. -/
abbrev BOOKING_CLASS (e : Nat) : Key := ⟨0xD200, e, 16⟩
/-- `E000[e]:01`. -/
abbrev INJECT_ENABLE (e : Nat) : Key := ⟨0xE000, e, 1⟩
/-- `E000[e]:02`. -/
abbrev INJECT_POINT (e : Nat) : Key := ⟨0xE000, e, 2⟩
/-- `E000[e]:03`. -/
abbrev INJECT_TARGET (e : Nat) : Key := ⟨0xE000, e, 3⟩
/-- `E000[e]:04`. -/
abbrev INJECT_PLANE (e : Nat) : Key := ⟨0xE000, e, 4⟩
/-- `E000[e]:05`. -/
abbrev INJECT_ACTION (e : Nat) : Key := ⟨0xE000, e, 5⟩
/-- `E000[e]:06`. -/
abbrev INJECT_PATTERN (e : Nat) : Key := ⟨0xE000, e, 6⟩
/-- `E000[e]:07`. -/
abbrev INJECT_N (e : Nat) : Key := ⟨0xE000, e, 7⟩
/-- `E000[e]:08`. -/
abbrev INJECT_LENGTH (e : Nat) : Key := ⟨0xE000, e, 8⟩
/-- `E000[e]:09`. -/
abbrev INJECT_SEED (e : Nat) : Key := ⟨0xE000, e, 9⟩
/-- `E000[e]:0A`. -/
abbrev INJECT_PROBABILITY (e : Nat) : Key := ⟨0xE000, e, 10⟩
/-- `E000[e]:0B`. -/
abbrev INJECT_COUNT (e : Nat) : Key := ⟨0xE000, e, 11⟩
/-- `E000[e]:0C`. -/
abbrev INJECT_DELAY (e : Nat) : Key := ⟨0xE000, e, 12⟩
/-- `E000[e]:0D`. -/
abbrev INJECT_STATE (e : Nat) : Key := ⟨0xE000, e, 13⟩
/-- `E000[e]:0E`. -/
abbrev INJECT_SEEN (e : Nat) : Key := ⟨0xE000, e, 14⟩
/-- `E000[e]:0F`. -/
abbrev INJECT_UNITS (e : Nat) : Key := ⟨0xE000, e, 15⟩
/-- `E000[e]:10`. -/
abbrev INJECT_OVERFLOW (e : Nat) : Key := ⟨0xE000, e, 16⟩
/-- `E100[e]:01`. -/
abbrev FAULT_FORCE_FORCE (e : Nat) : Key := ⟨0xE100, e, 1⟩
/-- `E200[e]:01`. -/
abbrev TEST_GEN_ENABLE (e : Nat) : Key := ⟨0xE200, e, 1⟩
/-- `E200[e]:02`. -/
abbrev TEST_GEN_RASTER (e : Nat) : Key := ⟨0xE200, e, 2⟩
/-- `E200[e]:03`. -/
abbrev TEST_GEN_RATE (e : Nat) : Key := ⟨0xE200, e, 3⟩
/-- `E200[e]:04`. -/
abbrev TEST_GEN_GROUP (e : Nat) : Key := ⟨0xE200, e, 4⟩
/-- `E200[e]:05`. -/
abbrev TEST_GEN_LEVEL (e : Nat) : Key := ⟨0xE200, e, 5⟩
/-- `E200[e]:06`. -/
abbrev TEST_GEN_DIVISION (e : Nat) : Key := ⟨0xE200, e, 6⟩
/-- `E200[e]:07`. -/
abbrev TEST_GEN_PATTERN (e : Nat) : Key := ⟨0xE200, e, 7⟩
/-- `E200[e]:08`. -/
abbrev TEST_GEN_MATTE (e : Nat) : Key := ⟨0xE200, e, 8⟩
/-- `E200[e]:09`. -/
abbrev TEST_GEN_TONE (e : Nat) : Key := ⟨0xE200, e, 9⟩
/-- `E200[e]:0A`. -/
abbrev TEST_GEN_STATE (e : Nat) : Key := ⟨0xE200, e, 10⟩

end Reg

namespace Hid

/-- 1 while island e restarts (R363). -/
abbrev restarting (e : Nat) : Key := ⟨0x10000, e, 0⟩
/-- Consecutive late attempts of island e (R312). -/
abbrev lateCount (e : Nat) : Key := ⟨0x10001, e, 0⟩
/-- 1 while island e is held in reset: 1 by a latch (R340), 2 by R312, 3 by R274. -/
abbrev heldReset (e : Nat) : Key := ⟨0x10002, e, 0⟩
/-- 1 when the restart in progress of island e releases its latches (R341). -/
abbrev latchRelease (e : Nat) : Key := ⟨0x10003, e, 0⟩
/-- Tick time from which the quiet period of source e counts (R332, R340). -/
abbrev quietFrom (e : Nat) : Key := ⟨0x10004, e, 0⟩
/-- The quiet period of source e, as it stood when the period began (R351). -/
abbrev quietLen (e : Nat) : Key := ⟨0x10005, e, 0⟩
/-- 1 while the condition of source e holds (R332). -/
abbrev condOn (e : Nat) : Key := ⟨0x10006, e, 0⟩
/-- 1 once COLLECTOR_SELF stands (R343). -/
abbrev collectorSelf : Key := ⟨0x10008, 0, 0⟩
/-- Tick time of the last service of the watchdog or of KEEP's return (R344). -/
abbrev watchdogFrom : Key := ⟨0x10009, 0, 0⟩
/-- Twin's Ledger time minus this device's at the last TIME message, in lf (R60). -/
abbrev twinStamp : Key := ⟨0x1000B, 0, 0⟩
/-- 1 once a TIME message has arrived since the link came up. -/
abbrev twinStampNew : Key := ⟨0x1000C, 0, 0⟩
/-- Tick time since which the twin offset has exceeded 100 ns; 0 none (R60). -/
abbrev twinOver : Key := ⟨0x1000D, 0, 0⟩
/-- Sync intervals measured since the master was selected (R65). -/
abbrev syncCount : Key := ⟨0x1000E, 0, 0⟩
/-- t1 of port e, in 1/4,096 lf (R71). -/
abbrev ptpT1 (e : Nat) : Key := ⟨0x1000F, e, 0⟩
/-- t2 of port e, in 1/4,096 lf (R71). -/
abbrev ptpT2 (e : Nat) : Key := ⟨0x10010, e, 0⟩
/-- t3 of port e, in 1/4,096 lf (R71). -/
abbrev ptpT3 (e : Nat) : Key := ⟨0x10011, e, 0⟩
/-- Sequence of the last Sync of port e. -/
abbrev ptpSeq (e : Nat) : Key := ⟨0x10012, e, 0⟩
/-- Sequence of the last Delay_Req of port e. -/
abbrev ptpReqSeq (e : Nat) : Key := ⟨0x10013, e, 0⟩
/-- The grandmaster the servo last followed. -/
abbrev lastClockId : Key := ⟨0x10014, 0, 0⟩
/-- The increment the servo held before the new master (Table 3.4, REFUSED). -/
abbrev holdInc : Key := ⟨0x10015, 0, 0⟩
/-- Tick time at which the reconciliation in progress began (R296). -/
abbrev reconAt : Key := ⟨0x10018, 0, 0⟩
/-- Tick time at which a timed-out reconciliation starts again; 0 none (R296). -/
abbrev reconRestart : Key := ⟨0x10019, 0, 0⟩
/-- 1 while output e must report bad after a reconciliation (R296). -/
abbrev reconHold (e : Nat) : Key := ⟨0x1001A, e, 0⟩
/-- Tick time at which the last accepted COMMIT began (R319). -/
abbrev commitAt : Key := ⟨0x1001B, 0, 0⟩
/-- 1 once a COMMIT has been accepted. -/
abbrev commitSeen : Key := ⟨0x1001C, 0, 0⟩
/-- Words sent on the good-output bus, modulo 256 (R304). -/
abbrev gobCount : Key := ⟨0x1001D, 0, 0⟩
/-- 1 while SAFE mutes egress (R338). -/
abbrev egressMuted : Key := ⟨0x1001F, 0, 0⟩
/-- Ledger time of the entry to SAFE (R338). -/
abbrev safeAt : Key := ⟨0x10021, 0, 0⟩
/-- Ledger time of the end of SAFE; 0 none (R339). -/
abbrev safeExitAt : Key := ⟨0x10022, 0, 0⟩
/-- 1 while raster e produces boundaries. -/
abbrev rasterRun (e : Nat) : Key := ⟨0x10023, e, 0⟩
/-- 1 while raster e waits for TIME_STATE to become SET (R318). -/
abbrev rasterWait (e : Nat) : Key := ⟨0x10024, e, 0⟩
/-- The outcome this device sent for slip e, state + 16 × index, plus 1; 0 none (R112). -/
abbrev slipOutcome (e : Nat) : Key := ⟨0x10025, e, 0⟩
/-- The outcome the twin sent for slip e, as slipOutcome. -/
abbrev twinOutcome (e : Nat) : Key := ⟨0x10026, e, 0⟩
/-- The rasters on which ALIGN slip e has taken effect (R88). -/
abbrev alignMask (e : Nat) : Key := ⟨0x10027, e, 0⟩
/-- 1 while receive lane e is raw present (R125). -/
abbrev sdiRaw (e : Nat) : Key := ⟨0x10029, e, 0⟩
/-- Tick time of the last raw transition of receive lane e. -/
abbrev sdiRawAt (e : Nat) : Key := ⟨0x1002A, e, 0⟩
/-- A decided SIGNAL of lane e awaiting publication, plus 1; 0 none (R131). -/
abbrev sdiDecided (e : Nat) : Key := ⟨0x1002B, e, 0⟩
/-- Ts of booking e (R392). -/
abbrev bookTs (e : Nat) : Key := ⟨0x1002D, e, 0⟩
/-- Tick time since which the twin's booking states have differed; 0 none (R399). -/
abbrev bookDiffAt : Key := ⟨0x1002F, 0, 0⟩
/-- Tick time since which the hottest sensor has read 100.0 °C or more; 0 none (R387). -/
abbrev thermFrom : Key := ⟨0x10030, 0, 0⟩
/-- The sensor that raised THERMAL_WARN, plus 1 (R387). -/
abbrev thermHot : Key := ⟨0x10031, 0, 0⟩
/-- Tick time since which the lowest SLACK has been below 3.00 %; 0 none (R390). -/
abbrev slackLowFrom : Key := ⟨0x10032, 0, 0⟩
/-- Tick time since which the lowest SLACK has been above 6.00 %; 0 none (R390). -/
abbrev slackHighFrom : Key := ⟨0x10033, 0, 0⟩
/-- Tick time of the last silent step, plus 1 (R390). -/
abbrev avsStep1 : Key := ⟨0x10034, 0, 0⟩
/-- Tick time of the step before it, plus 1 (R390). -/
abbrev avsStep2 : Key := ⟨0x10035, 0, 0⟩
/-- Tick time since which VDD has been off target by over 10 mV; 0 none (R417). -/
abbrev avsOffFrom : Key := ⟨0x10036, 0, 0⟩
/-- Tick time since which MEASURED has been above CAP; 0 none (R324). -/
abbrev overCapFrom : Key := ⟨0x10037, 0, 0⟩
/-- Worst SLACK of island e in the running interval, 0.1 %, plus 1; 0 none (R388). -/
abbrev perSlack (e : Nat) : Key := ⟨0x10038, e, 0⟩
/-- Maximum of sensor e in the running interval, 0.1 °C plus 10,000; 0 none. -/
abbrev perTemp (e : Nat) : Key := ⟨0x10039, e, 0⟩
/-- Worst H_MARGIN of lane e in the running interval, plus 1; 0 none. -/
abbrev perEye (e : Nat) : Key := ⟨0x1003A, e, 0⟩
/-- Corrected errors of memory e in the running interval. -/
abbrev perMem (e : Nat) : Key := ⟨0x1003B, e, 0⟩
/-- Sum of the power readings of the running interval, W. -/
abbrev powSum : Key := ⟨0x1003C, 0, 0⟩
/-- Power readings of the running interval. -/
abbrev powN : Key := ⟨0x1003D, 0, 0⟩
/-- Largest power reading of the running interval, W. -/
abbrev powMax : Key := ⟨0x1003E, 0, 0⟩
/-- The tick up to which POWERED has been counted. -/
abbrev poweredTick : Key := ⟨0x1003F, 0, 0⟩
/-- 1 while channel e refreshes at twice the normal rate (R390). -/
abbrev memFast (e : Nat) : Key := ⟨0x10040, e, 0⟩
/-- Eligible-unit index k of injection entry e (R401). -/
abbrev injIndex (e : Nat) : Key := ⟨0x10042, e, 0⟩
/-- Register of injection entry e (R403). -/
abbrev injReg (e : Nat) : Key := ⟨0x10043, e, 0⟩
/-- Links of fabric subscription e (R175). -/
abbrev subLinks (e : Nat) : Key := ⟨0x10045, e, 0⟩
/-- 1 while the frame synchroniser of lane e runs (R149). -/
abbrev syncOn (e : Nat) : Key := ⟨0x10046, e, 0⟩
/-- 1 while output e holds an output store (R143). -/
abbrev storeOn (e : Nat) : Key := ⟨0x10047, e, 0⟩
/-- 1 while the device runs in image recovery (R381). -/
abbrev imageRecovery : Key := ⟨0x10049, 0, 0⟩
/-- Tick time at which the last HEALTH arrived. -/
abbrev healthAt : Key := ⟨0x1004A, 0, 0⟩
/-- Seconds for which the loss conditions of candidate e have been clear (R77). -/
abbrev refClear (e : Nat) : Key := ⟨0x1004B, e, 0⟩
/-- One-second measurements within tolerance in the window of candidate e (R77). -/
abbrev refQual (e : Nat) : Key := ⟨0x1004C, e, 0⟩
/-- Candidate pair 5 a + b, a < b: 0 agreeing, else 1 + seconds back within the threshold (R79). -/
abbrev pairDis (e : Nat) : Key := ⟨0x1004D, e, 0⟩
/-- The state ACQUIRING falls back to when nothing is selectable (Table 4.4). -/
abbrev refFrom : Key := ⟨0x1004E, 0, 0⟩
/-- 1 once the lock criteria held at the last measurement (Table 4.4). -/
abbrev lockOk : Key := ⟨0x1004F, 0, 0⟩
/-- Tick time at which the unit last left LOCKED (R82). -/
abbrev leftLocked : Key := ⟨0x10050, 0, 0⟩
/-- 1 once the unit has been LOCKED since reset (R82). -/
abbrev everLocked : Key := ⟨0x10051, 0, 0⟩
/-- Sum of the selected candidate's measurements since LOCKED (R76). -/
abbrev lockSum : Key := ⟨0x10052, 0, 0⟩
/-- Measurements since LOCKED (R76). -/
abbrev lockN : Key := ⟨0x10053, 0, 0⟩
/-- Tick time at which the restart that REF has yet to return from began, plus 1; 0 none (R84). -/
abbrev refRestartAt : Key := ⟨0x10054, 0, 0⟩
/-- The FX lane, plus 1; 0 none (R74). -/
abbrev fxLane : Key := ⟨0x10055, 0, 0⟩
/-- Ledger time of the last frame pulse of HA (0) or HB (1), plus 1; 0 none reported (R88). -/
abbrev pulseStamp (e : Nat) : Key := ⟨0x10056, e, 0⟩
/-- The next boundary of raster e where it is not LAST_BOUNDARY plus a frame; 0 none (R87, R88). -/
abbrev rasterNext (e : Nat) : Key := ⟨0x10057, e, 0⟩
/-- 1 while PHASE_ERROR of raster e exceeds 10 µs (R86). -/
abbrev driftOn (e : Nat) : Key := ⟨0x10058, e, 0⟩
/-- The decided SIGNAL of lane e itself (R131). -/
abbrev sdiLane (e : Nat) : Key := ⟨0x10059, e, 0⟩
/-- The published SIGNAL of lane e itself, group or not (R122). -/
abbrev sdiSig (e : Nat) : Key := ⟨0x1005A, e, 0⟩
/-- The millisecond boundary at which lane e publishes; 0 none (R131). -/
abbrev sdiPubAt (e : Nat) : Key := ⟨0x1005B, e, 0⟩
/-- Tick time at which the running ACQUIRE or LOSS of lane e elapses; 0 none (R131). -/
abbrev sdiDue (e : Nat) : Key := ⟨0x1005C, e, 0⟩
/-- Tick time at which the CHATTER_WINDOW of lane e ends with no transition (R131). -/
abbrev sdiQuiet (e : Nat) : Key := ⟨0x1005D, e, 0⟩
/-- FRAME_STAMP of lane e itself, in lf (R127). -/
abbrev sdiStamp (e : Nat) : Key := ⟨0x1005E, e, 0⟩
/-- Detected quad division of lane e. -/
abbrev sdiDiv (e : Nat) : Key := ⟨0x1005F, e, 0⟩
/-- Link number of the ST 352 payload ID of lane e; 0 none (R122). -/
abbrev sdiLinkNo (e : Nat) : Key := ⟨0x10060, e, 0⟩
/-- 1 while lane e carries something else R120 does not support. -/
abbrev sdiBadFmt (e : Nat) : Key := ⟨0x10061, e, 0⟩
/-- The stamp plus 1 of the last complete frame output e carried; 0 none (R152). -/
abbrev outWhole (e : Nat) : Key := ⟨0x10062, e, 0⟩
/-- 1 while the skew of the group of base lane e lies beyond the limit (R122). -/
abbrev skewBad (e : Nat) : Key := ⟨0x10063, e, 0⟩
/-- State of twin lane e, as Table 8.1. -/
abbrev twinLane (e : Nat) : Key := ⟨0x10065, e, 0⟩
/-- Tick time of lane e's last entry to its state (64, 65: twin lanes). -/
abbrev laneAt (e : Nat) : Key := ⟨0x10066, e, 0⟩
/-- Consecutive calendar periods for which lane e's arrival offset has lain within 300 lf (R161). -/
abbrev alignRun (e : Nat) : Key := ⟨0x10067, e, 0⟩
/-- ADMIT last declared by the far end of lane e. -/
abbrev peerAdmit (e : Nat) : Key := ⟨0x10068, e, 0⟩
/-- The mask the far end of lane e has declared for a later period (R173, R188). -/
abbrev peerNew (e : Nat) : Key := ⟨0x10069, e, 0⟩
/-- The period at which full masks were last sent (R188). -/
abbrev maskSent : Key := ⟨0x1006A, 0, 0⟩
/-- The last calendar period begun. -/
abbrev calPeriod : Key := ⟨0x1006B, 0, 0⟩
/-- Request number of the last RESERVE sent. -/
abbrev reqNo : Key := ⟨0x1006C, 0, 0⟩
/-- Decision stamp of the frame synchroniser e delivered last; 0 none (R149). -/
abbrev syncLast (e : Nat) : Key := ⟨0x1006E, e, 0⟩
/-- Raster code detected on lane e itself, group or not (R126). -/
abbrev sdiFmt (e : Nat) : Key := ⟨0x10070, e, 0⟩
/-- The period from which the far end's declared mask holds on lane e, plus 1; 0 none (R173). -/
abbrev peerNewAt (e : Nat) : Key := ⟨0x10071, e, 0⟩
/-- Tick time until which MAC e's wire is busy (R200). -/
abbrev macBusy (e : Nat) : Key := ⟨0x10073, e, 0⟩
/-- The gate entry in force on MAC e (R199). -/
abbrev gateIndex (e : Nat) : Key := ⟨0x10074, e, 0⟩
/-- Unsolicited reports still to send on MAC e (R216). -/
abbrev reports (e : Nat) : Key := ⟨0x10075, e, 0⟩
/-- Tick time of the last report on MAC e. -/
abbrev reportAt (e : Nat) : Key := ⟨0x10076, e, 0⟩
/-- Tick time of the last packet of ingress flow e on path A, plus 1; 0 none (R220). -/
abbrev flowLastA (e : Nat) : Key := ⟨0x10077, e, 0⟩
/-- Tick time of the last packet of ingress flow e on path B, plus 1; 0 none (R220). -/
abbrev flowLastB (e : Nat) : Key := ⟨0x10078, e, 0⟩
/-- The millisecond boundary at which ingress flow e publishes, plus 1; 0 none (R221). -/
abbrev flowPubAt (e : Nat) : Key := ⟨0x10079, e, 0⟩
/-- Delivery stamp of ingress flow e's last frame (R219). -/
abbrev flowStamp (e : Nat) : Key := ⟨0x1007A, e, 0⟩
/-- 1 plus the last count released of egress flow e; 0 none (R225). -/
abbrev pacerC (e : Nat) : Key := ⟨0x1007B, e, 0⟩
/-- The millisecond boundary at which the egress MACs change, plus 1; 0 none (R205). -/
abbrev egressAt : Key := ⟨0x1007C, 0, 0⟩
/-- Cells ingress flow e has forwarded in the period in force (R224). -/
abbrev offerCells (e : Nat) : Key := ⟨0x1007D, e, 0⟩
/-- The period those cells belong to (R224). -/
abbrev offerPeriod (e : Nat) : Key := ⟨0x1007E, e, 0⟩
/-- Stamp of the last complete picture output e carried, plus 1; 0 none (R152). -/
abbrev outLast (e : Nat) : Key := ⟨0x1007F, e, 0⟩
/-- Frame boundary at which output e's absent policy took over, plus 1; 0 none (R151). -/
abbrev outSince (e : Nat) : Key := ⟨0x10080, e, 0⟩
/-- 1 while output e's source is found untimed (R150). -/
abbrev outUntimed (e : Nat) : Key := ⟨0x10081, e, 0⟩
/-- What output e shows: 0 black, 1 its source, 2 the frozen frame, 3 MATTE (Table 7.9). -/
abbrev outShow (e : Nat) : Key := ⟨0x10082, e, 0⟩
/-- Delivery stamp from which recorder e writes (R281). -/
abbrev recFrom (e : Nat) : Key := ⟨0x10085, e, 0⟩
/-- Structure recorder e's source has: rate + 8 links + 64 level + 512 division. -/
abbrev recStruct (e : Nat) : Key := ⟨0x10086, e, 0⟩
/-- 1 while recorder e owes a marker after a mode change or restart of its controller (R281). -/
abbrev recResume (e : Nat) : Key := ⟨0x10087, e, 0⟩
/-- 1 once recorder e wrote a frame since its last boundary (R281). -/
abbrev recWrote (e : Nat) : Key := ⟨0x10088, e, 0⟩
/-- 1 while head e delivers absent (R283). -/
abbrev headAbsent (e : Nat) : Key := ⟨0x10089, e, 0⟩
/-- The clip frame head e delivers at its next boundary (R283). -/
abbrev headPos (e : Nat) : Key := ⟨0x1008A, e, 0⟩
/-- 1 until head e delivers its first frame of a slip (R283). -/
abbrev headFresh (e : Nat) : Key := ⟨0x1008B, e, 0⟩
/-- Structure of clip e's frames, as recStruct. -/
abbrev clipStruct (e : Nat) : Key := ⟨0x1008C, e, 0⟩
/-- Recorder clip e is captured from, plus 1. -/
abbrev clipRec (e : Nat) : Key := ⟨0x1008D, e, 0⟩
/-- MT/s of controller e as trained; 0 not trained (R274). -/
abbrev ddrRate (e : Nat) : Key := ⟨0x1008E, e, 0⟩
/-- Pages of channel e lost to the pool (R289). -/
abbrev memLost (e : Nat) : Key := ⟨0x1008F, e, 0⟩
/-- Stamp of the frame layer e showed last, plus 1; 0 none (R235). -/
abbrev layerShown (e : Nat) : Key := ⟨0x10090, e, 0⟩
/-- Structure of the frames head e reads, as recStruct. -/
abbrev headStruct (e : Nat) : Key := ⟨0x10093, e, 0⟩
/-- 1 while AES3 transmitter e sends zero samples after an entry to SAFE (R338, R339). -/
abbrev aesHush (e : Nat) : Key := ⟨0x10094, e, 0⟩
/-- 1 while SAFE stops the cells of a centre (R338). -/
abbrev safeCut : Key := ⟨0x10095, 0, 0⟩
/-- Running instant J of receive lane e, plus 1; 0 none (R255). -/
abbrev embedJ (e : Nat) : Key := ⟨0x10097, e, 0⟩
/-- Tick time since which receiver e has been TRACKING (R260). -/
abbrev aesTrackAt (e : Nat) : Key := ⟨0x10098, e, 0⟩
/-- The rate transmitter e took at its last block start (R260). -/
abbrev aesTxRate (e : Nat) : Key := ⟨0x10099, e, 0⟩
/-- The second of the last accumulator saturation, plus 1 (Table 12.5). -/
abbrev satSecond : Key := ⟨0x1009A, 0, 0⟩
/-- 1 once the draft has been compiled and put in force after reset (R271). -/
abbrev audLoaded : Key := ⟨0x1009B, 0, 0⟩
/-- The gain side-tone path e ramps from (R269). -/
abbrev sideFrom (e : Nat) : Key := ⟨0x1009C, e, 0⟩
/-- Received frames since side-tone path e's last change of gain, up to 48 (R269). -/
abbrev sideN (e : Nat) : Key := ⟨0x1009D, e, 0⟩
/-- The last sample instant of the engine, plus 1. -/
abbrev audInstant : Key := ⟨0x1009E, 0, 0⟩
/-- Tick time since which the twin's program differs; 0 none (R270). -/
abbrev progDiffAt : Key := ⟨0x1009F, 0, 0⟩
/-- 1 once AUDIO_PROGRAM_DIVERGED has been raised for the difference that stands. -/
abbrev progDiff : Key := ⟨0x100A0, 0, 0⟩
/-- 1 while receive lane e's embedded audio is placed (R255). -/
abbrev embedOn (e : Nat) : Key := ⟨0x100A1, e, 0⟩
/-- Key of bank i of key slot e (R369). Kept through reset. -/
abbrev bankKey (e i : Nat) : Key := ⟨0x100A2, e, i⟩
/-- Generation of bank i of key slot e (R369). Kept through reset. -/
abbrev bankGen (e i : Nat) : Key := ⟨0x100A3, e, i⟩
/-- CRC of bank i of key slot e (R369). Kept through reset. -/
abbrev bankCrc (e i : Nat) : Key := ⟨0x100A4, e, i⟩
/-- A tamper cause whose record waits for the core rails; 0 none (R373). Kept through reset. -/
abbrev tamperCause : Key := ⟨0x100A5, 0, 0⟩
/-- Ledger time of that zeroisation as an LT; 0 when TIME was not running. -/
abbrev tamperAt : Key := ⟨0x100A6, 0, 0⟩
/-- The directory's ACTIVE slot, plus 1; 0 none (R376). Kept through reset. -/
abbrev dirActive : Key := ⟨0x100A7, 0, 0⟩
/-- The directory's PREVIOUS slot, plus 1; 0 none (R376). Kept through reset. -/
abbrev dirPrevious : Key := ⟨0x100A8, 0, 0⟩
/-- 1 once the model holds what image slot e of the flash holds. Kept through reset. -/
abbrev flashSeen (e : Nat) : Key := ⟨0x100A9, e, 0⟩
/-- The slot an IMAGE_OPEN left open, plus 1; 0 none. -/
abbrev imgOpen : Key := ⟨0x100AA, 0, 0⟩
/-- The cause of a fallback the next boot records: 2 KEEPER, 5 RESET; 0 none (R385). Kept through reset. -/
abbrev fallCause : Key := ⟨0x100AB, 0, 0⟩
/-- The slot whose image is in probation, plus 1; 0 none. Kept through reset. -/
abbrev probSlot : Key := ⟨0x100AC, 0, 0⟩
/-- READY at the HANDOVER boundary (Table 18.13, bit 1). -/
abbrev probReady : Key := ⟨0x100AD, 0, 0⟩
/-- Tick time from which SELF_CHECK bits 0 to 3 have held, plus 1; 0 they do not hold (R384). -/
abbrev probFrom : Key := ⟨0x100AE, 0, 0⟩
/-- 1 once CONFIRM has been accepted in the probation (R384). -/
abbrev probConfirm : Key := ⟨0x100AF, 0, 0⟩
/-- 1 while the image's own tests fail (Table 18.13, bit 3). -/
abbrev probTests : Key := ⟨0x100B0, 0, 0⟩
/-- PROBATION as slip e was armed (after Table 18.14). -/
abbrev probLen (e : Nat) : Key := ⟨0x100B1, e, 0⟩
/-- Ledger time of an accepted REJECT, plus 1; 0 none (R385). -/
abbrev rejectAt : Key := ⟨0x100B2, 0, 0⟩
/-- 1 while the twin link re-keys (R375). -/
abbrev rekeying : Key := ⟨0x100B3, 0, 0⟩
/-- The twin's measurement as its last re-key message carried it (R375). -/
abbrev twinM : Key := ⟨0x100B4, 0, 0⟩
/-- 1 once LAUNCHED slip e has taken effect (R105, R106). -/
abbrev slipApplied (e : Nat) : Key := ⟨0x100B5, e, 0⟩
/-- Raw level of GPI input e as its last transition left it (R432). -/
abbrev gpiRaw (e : Nat) : Key := ⟨0x100B6, e, 0⟩
/-- Tick time at which the level of GPI input e will have held for DEBOUNCE, plus 1; 0 none (R432). -/
abbrev gpiDue (e : Nat) : Key := ⟨0x100B7, e, 0⟩
/-- Stamp of the raw transition that began the held level of GPI input e, as an LT (R432). -/
abbrev gpiStamp (e : Nat) : Key := ⟨0x100B8, e, 0⟩
/-- Tick time at which a CHATTER_WINDOW without a transition of GPI input e ends (R432). -/
abbrev gpiQuiet (e : Nat) : Key := ⟨0x100B9, e, 0⟩
/-- Tick time of the last qualification of GPI input e (R432). -/
abbrev gpiFrom (e : Nat) : Key := ⟨0x100BA, e, 0⟩
/-- STUCK_TIME of GPI input e as its last raw transition found it (R432). -/
abbrev gpiStuck (e : Nat) : Key := ⟨0x100BB, e, 0⟩
/-- 1 while the qualification GPI input e waits for is that of a POLARITY write, which makes no event (R432). -/
abbrev gpiSilent (e : Nat) : Key := ⟨0x100BC, e, 0⟩
/-- The TAP instruction selected, as its code less 1 modulo 256; 0 is IDCODE (R408). Kept through reset. -/
abbrev tapSel : Key := ⟨0x100BD, 0, 0⟩
/-- The boundary cells as last preloaded (R408, R409). Kept through reset. -/
abbrev tapCells : Key := ⟨0x100BE, 0, 0⟩
/-- Sequence of the last MIRROR sent (R35). -/
abbrev mirrorSeq : Key := ⟨0x100BF, 0, 0⟩
/-- 1 while the crossing of islands i < j, element 64 i + j, runs: tokens have been exchanged (R360, R361). -/
abbrev crossUp (e : Nat) : Key := ⟨0x100C0, e, 0⟩
/-- 1 once the standing order has been restored after the release (R316). -/
abbrev restored : Key := ⟨0x100C1, 0, 0⟩
/-- What generator e runs with: 1 + raster + 32 rate + 256 links + 2,048 level + 8,192 division; 0 not running (R407). -/
abbrev genNow (e : Nat) : Key := ⟨0x100C2, e, 0⟩
/-- What the RTP header of the COMPRESSED packet being put together on fabric subscription e says: 1 + 2 (timestamp + 2^32 sequence + 2^48 marker); 0 none (R223). -/
abbrev cprHead (e : Nat) : Key := ⟨0x100C3, e, 0⟩
/-- Bytes of that packet so far (R223). -/
abbrev cprBytes (e : Nat) : Key := ⟨0x100C4, e, 0⟩
/-- COMPRESSED packets put together on fabric subscription e and not yet sent on (R223). -/
abbrev cprN (e : Nat) : Key := ⟨0x100C5, e, 0⟩
/-- Packet i of those: its header as above, with 2^50 times its bytes (R223). -/
abbrev cprPacket (e i : Nat) : Key := ⟨0x100C6, e, i⟩

/-- The increment that matches the rate the servo has measured of its master (R65). -/
abbrev rateMeas : Key := ⟨0x100C8, 0, 0⟩
/-- t2 of the last two-step Sync of port e, until its Follow_Up comes, in 1/4,096 lf (R71). -/
abbrev ptpT2New (e : Nat) : Key := ⟨0x100C9, e, 0⟩
/-- correctionField of that Sync, in 1/4,096 lf (R71). -/
abbrev ptpCorr (e : Nat) : Key := ⟨0x100CA, e, 0⟩
/-- 1 while the last two-step Sync of port e waits for its Follow_Up (R71). -/
abbrev ptpWait (e : Nat) : Key := ⟨0x100CB, e, 0⟩
/-- Transport of the last PTP message of port e: 0 UDP/IPv4, 1 UDP/IPv6, 2 IEEE 802.3 (R70). -/
abbrev ptpVia (e : Nat) : Key := ⟨0x100CC, e, 0⟩
/-- Qualification window of the reference block in force, s; 0: the default 10 (Table 4.2). -/
abbrev refWindow : Key := ⟨0x100CD, 0, 0⟩
/-- Disagreement threshold of the reference block in force, parts in 10¹²; 0: the default 50,000 (Table 4.2). -/
abbrev refThreshold : Key := ⟨0x100CE, 0, 0⟩
/-- Frequency slew limit of the reference block in force, parts in 10¹² per s; 0: the default 100,000 (Table 4.2). -/
abbrev refSlew : Key := ⟨0x100CF, 0, 0⟩
/-- Clean-up loop bandwidth of the reference block in force, 0.01 Hz; 0: the default 10 (Table 4.2). -/
abbrev refBandwidth : Key := ⟨0x100D0, 0, 0⟩
/-- Clock family declared for HA (0) or HB (1), plus 1: 1 148.5 MHz, 2 148.5/1.001 MHz; 0: the default 2 (Table 4.2). -/
abbrev houseFamily (e : Nat) : Key := ⟨0x100D1, e, 0⟩
/-- Code of Table 4.7 whose frame period is declared for HA (0) or HB (1); 0: the default 6 (Table 4.2). -/
abbrev houseFormat (e : Nat) : Key := ⟨0x100D2, e, 0⟩
/-- 1 until the fine phase is first measured against a new target (R81). -/
abbrev finePending : Key := ⟨0x100D3, 0, 0⟩
/-- The slot, counted from the epoch, from which the next control cell of lane e may ride (R172). -/
abbrev txNext (e : Nat) : Key := ⟨0x100D4, e, 0⟩
/-- The slot, counted from the epoch, from which the next essence cell of stream e (8 × index + 2 × link + plane) may leave on lane i. -/
abbrev essNext (e i : Nat) : Key := ⟨0x100D5, e, i⟩
/-- The calendar period, plus 1, in which lane e last corrected its advance (R161). -/
abbrev advanceAt (e : Nat) : Key := ⟨0x100D6, e, 0⟩
/-- The last TWIN_SEQUENCE sent (R189). -/
abbrev twinSeq : Key := ⟨0x100D7, 0, 0⟩
/-- Entries to FAILED of twin lane e. -/
abbrev twinFailures (e : Nat) : Key := ⟨0x100D8, e, 0⟩
/-- Tick time of the last entry to UP of MAC e (R193). -/
abbrev macUpAt (e : Nat) : Key := ⟨0x100D9, e, 0⟩
/-- The boundary B from which egress flow e sends (R214). -/
abbrev flowFrom (e : Nat) : Key := ⟨0x100DA, e, 0⟩
/-- Local source e was present at the last calendar period, plus 1 (R170). -/
abbrev srcWas (e : Nat) : Key := ⟨0x100DB, e, 0⟩
/-- Ledger time at which local source e last published a change of presence (R170). -/
abbrev srcSince (e : Nat) : Key := ⟨0x100DC, e, 0⟩
/-- Offer records sent in the Ledger second of `offerSec` (R171). -/
abbrev offerDone : Key := ⟨0x100DD, 0, 0⟩
/-- The Ledger second, plus 1, whose resending of offers is under way (R171). -/
abbrev offerSec : Key := ⟨0x100DE, 0, 0⟩
/-- Bit i: island i holds the target of the LAUNCHED slip e (R106). -/
abbrev slipIsles (e : Nat) : Key := ⟨0x100DF, e, 0⟩
/-- Slip e failed as its island restarted, and the twin is yet to be told (R106, R112). -/
abbrev slipFell (e : Nat) : Key := ⟨0x100E0, e, 0⟩
/-- The target rasters of ALIGN slip e as they stood at its check point (R88). -/
abbrev alignSet (e : Nat) : Key := ⟨0x100E1, e, 0⟩
/-- The boundary at which the gate list of MAC m came into force, in 1/4,096 lf (R201). -/
abbrev gateFrom (m : Nat) : Key := ⟨0x100E2, m, 0⟩
/-- The stamp plus 1 of the frame output e carries from its first line on; 0 none (R152). -/
abbrev outFrame (e : Nat) : Key := ⟨0x100E3, e, 0⟩
/-- The timing found for the selection of the LAUNCHED TAKE on output e at the frame of the switch: 1 untimed, 2 timed; 0 none (R143, R148). -/
abbrev takeTimed (e : Nat) : Key := ⟨0x100E4, e, 0⟩
/-- The timing of a TAKE on output e at its check point: 1 untimed, 2 timed; 0 none (R144, R148). -/
abbrev takeAtC (e : Nat) : Key := ⟨0x100E5, e, 0⟩
/-- The level GPO[g] drives, held through a restart of KEEP (R325). -/
abbrev gpoPin (g : Nat) : Key := ⟨0x100E6, g, 0⟩
/-- 1: REF has been ready since the release, so the FPULSE pins are driven (Table 15.7). -/
abbrev fpulseOn : Key := ⟨0x100E7, 0, 0⟩
/-- Sum of the core voltage over the readings of the current interval, 0.1 mV (R388) -/
abbrev vddSum : Key := ⟨0x100E8, 0, 0⟩
/-- Readings of the core voltage in the current interval -/
abbrev vddN : Key := ⟨0x100E9, 0, 0⟩
/-- Channel e has read above a limit of R390 in the current interval -/
abbrev memOver (e : Nat) : Key := ⟨0x100EA, e, 0⟩
/-- 1 once wear monitor e has been sampled since the release of PORST_N (R386). -/
abbrev wearSeen (e : Nat) : Key := ⟨0x100EB, e, 0⟩
/-- The ten-minute period whose record was written last, plus 1 (R388). -/
abbrev almIndex : Key := ⟨0x100EC, 0, 0⟩
/-- The sample period that times AUDIO_SET slip e, fixed at its ARM; 0 none (R265). -/
abbrev setGrid (e : Nat) : Key := ⟨0x100ED, e, 0⟩
/-- The next frame of transmitter e within its channel-status block, while a receiver clocks it (R260, R269). -/
abbrev aesTxN (e : Nat) : Key := ⟨0x100EE, e, 0⟩
/-- The last sample of receiver e div 2, subframe e mod 2, without a parity error (R256). -/
abbrev aesLast (e : Nat) : Key := ⟨0x100EF, e, 0⟩
/-- When the reset of island e was last asserted (R363). -/
abbrev restartAt (e : Nat) : Key := ⟨0x100F0, e, 0⟩
end Hid
end Sys2Proof.Machine
end

