-- ==== Sys2Proof/Machine/Ops.lean ====
section
/-! DEFINITION. The named operations over the registers and over Ledger time that every meaning uses. -/
namespace Sys2Proof.Machine

/-- Leaves in one second (R54). -/
def lfSec : Int := 52920000000
/-- Leaves in one millisecond (Table 3.1). -/
def lfMs : Int := 52920000

/-- The raw 96-bit LT of a whole leaf count (Table 0.4, R54). -/
def ltOfLf (n : Int) : Int := (n / lfSec) * 2 ^ 48 + (n % lfSec) * 2 ^ 12

/-- The whole leaf count of a raw LT; its Fraction is dropped (R54). -/
def lfOfLt (r : Int) : Int := (r / 2 ^ 48) * lfSec + (r / 2 ^ 12) % 2 ^ 36

/-- A raw LT whose Leaves field is below one second and that fits 96 bits (R6). -/
def ltValid (r : Int) : Bool := decide (0 ≤ r) && decide (r < 2 ^ 96) && decide ((r / 2 ^ 12) % 2 ^ 36 < lfSec)

/-- LT plus SPAN: Seconds carry or borrow, Fraction is unchanged (R7). -/
def ltAddSpan (r d : Int) : Int := ltOfLf (lfOfLt r + d) + r % 2 ^ 12

/-- A raw LT in 1/4,096 lf, Fraction included, and back. -/
def fineOfLt (r : Int) : Int := (r / 2 ^ 48) * (lfSec * 4096) + r % 2 ^ 48
def ltOfFine (n : Int) : Int := (n / (lfSec * 4096)) * 2 ^ 48 + n % (lfSec * 4096)

/-- The value of a register. -/
def State.get (s : State) (k : Key) : Int := storeGet s.regs k
/-- The value of a register as a natural number. -/
def State.getN (s : State) (k : Key) : Nat := (s.get k).toNat
/-- The state in which a register has a value. -/
def State.put (s : State) (k : Key) (v : Int) : State := { s with regs := storePut s.regs k v }
/-- The elements of an object whose sub-index holds a value other than its default: read from what the store lists. -/
def State.elsWith (s : State) (idx sub : Nat) (v : Int) : List Nat :=
  s.regs.filterMap (fun p => if p.1.idx = idx ∧ p.1.sub = sub ∧ p.2 = v then some p.1.el else none)
/-- The elements of an object whose sub-index differs from its default. -/
def State.elsListed (s : State) (idx sub : Nat) : List Nat :=
  s.regs.filterMap (fun p => if p.1.idx = idx ∧ p.1.sub = sub then some p.1.el else none)
/-- The state that has sent one thing more. -/
def State.send (s : State) (e : Emit) : State := { s with out := s.out ++ [e] }

/-- The largest value of an unsigned type. -/
def tyMax (t : Ty) : Int :=
  match t with
  | .u8 => 2 ^ 8 - 1 | .u16 => 2 ^ 16 - 1 | .u32 => 2 ^ 32 - 1 | _ => 2 ^ 64 - 1

/-- The largest count a counter register holds: its type's maximum (R139, R208, R229, R273, R290, R368). -/
def counterMax (k : Key) : Int := ((Cat.fieldOf k).map (fun f => tyMax f.ty)).getD (2 ^ 64 - 1)

/-- A counter raised by n, saturating. -/
def State.bumpBy (s : State) (k : Key) (n : Int) : State := s.put k (min (s.get k + n) (counterMax k))
/-- A counter raised by 1, saturating. -/
def State.bump (s : State) (k : Key) : State := s.bumpBy k 1

/-- Ledger time in whole leaves (R54, R56). -/
def State.now (s : State) : Int := (s.ledger / 2 ^ 32 : Nat)
/-- Ledger time as an LT, the fraction truncated to 12 bits (R57). -/
def State.nowLT (s : State) : Int := ltOfLf s.now + (s.ledger / 2 ^ 20 % 2 ^ 12 : Nat)
/-- Ledger time in 1/4,096 lf. -/
def State.nowFine (s : State) : Int := (s.ledger / 2 ^ 20 : Nat)

/-- The tick count behind ELAPSED in whole leaves, 52.92 lf each (R314, R439): tick time. The length of a wait is counted in it, so
that a step of Ledger time neither ends nor stretches one (DEDUCED, log entry 68). -/
def State.tickLf (s : State) : Int := (s.ticks * 5292 / 100 : Nat)

/-- A free value, and the state that has drawn it (log entry 3). -/
def State.freeVal (s : State) : Nat := Config.freeValue s.free
def State.drawn (s : State) : State := { s with free := s.free + 1 }

/-- The sampled role is the edge role (R2). -/
def State.edge (s : State) : Bool := s.get Reg.ROLE == 0
/-- READY bit b reads 1 (R13, R313). -/
def State.ready (s : State) (b : Nat) : Bool := bitOf (s.getN Reg.READY) b
/-- The READY bit of island i reads 1. -/
def State.up (s : State) (i : Nat) : Bool := s.ready (islandBit i)
/-- TIME_STATE reads SET (R62). -/
def State.timeSet (s : State) : Bool := s.get Reg.TIME_STATE == 1
/-- The device is lent (R301). -/
def State.lent (s : State) : Bool := s.get Reg.LOAN_STATE == 1
/-- The pairing state counts as paired (R291). -/
def State.paired (s : State) : Bool := decide (1 ≤ s.get Reg.PAIRING_STATE) && decide (s.get Reg.PAIRING_STATE ≤ 4)
/-- The pairing state counts as solo (R291). -/
def State.solo (s : State) : Bool := !s.paired
/-- The twin link is up (R189). -/
def State.twinUp (s : State) : Bool := s.get Reg.TWIN_LINK_STATE == 1
/-- This is the left twin (`1320:02`). -/
def State.left (s : State) : Bool := s.get Reg.PAIRING_SIDE == 0
/-- This device's slot (R17). -/
def State.slot (s : State) : Nat := s.getN Reg.IDENTITY_SLOT_ID

/-- The device is out of reset. -/
def State.alive (s : State) : Bool := decide (s.held = .running)

/-- An island of the centre role that R21 holds in reset. -/
def centreHeld (i : Nat) : Bool :=
  i == 6 || (decide (7 ≤ i) && decide (i ≤ 22)) || decide (31 ≤ i)

/-- The islands a mode runs (Table 1.6, R26), bookings of SERVICE apart. -/
def modeRuns (edge : Bool) (mode i : Nat) : Bool :=
  if i ≤ 4 then true
  else if i = 31 then edge
  else if !edge then (mode == 1 || mode == 6) && (i == 5 || (decide (23 ≤ i) && decide (i ≤ 30)))
  else if i ≤ 30 ∨ i = 46 then decide (1 ≤ mode) && decide (mode ≤ 6)
  else if i ≤ 33 then decide (2 ≤ mode) && decide (mode ≤ 6)
  else if i ≤ 37 then mode == 4 || mode == 5 || mode == 6
  else mode == 3 || mode == 5 || mode == 6

/-- A mode is carrying: ROUTE to MARGIN (15_bringup_and_modes.md, Operating modes). -/
def modeCarries (m : Nat) : Bool := decide (1 ≤ m) && decide (m ≤ 6)

/-- An operation on every element of a list, in order. -/
def State.each {α : Type} (s : State) (l : List α) (f : State → α → State) : State := l.foldl f s

/-- A condition decides which of two changes is made. -/
def State.when (s : State) (b : Bool) (f : State → State) : State := if b then f s else s

/-- The control ports responses and notifications leave on: those whose READY bit reads 1 (R45). -/
def State.ctlPorts (s : State) : List Nat :=
  (if s.ready 51 then [0] else []) ++ (if s.ready 52 then [1] else [])

/-- How many of the noted ticks of one port lie in the second ending now (R439). -/
def inSecond (l : List (Nat × Nat)) (port tick : Nat) : Nat :=
  (l.filter (fun p => p.1 == port && decide (tick < p.2 + 1000000000))).length

/-- The bytes an 802.1Q tag adds to a frame of MAC m (R198). -/
def State.tagBytes (s : State) (m : Nat) : Nat := if s.get (Reg.MAC_VLAN m) = 0 then 0 else 4

/-- The bytes of a frame from destination address to FCS, with the tag its MAC sends, at least 64 (R194). -/
def State.frameBytes (s : State) (m bytes : Nat) : Nat := max 64 (bytes + s.tagBytes m)

/-- The head of a frame of class `cls` that leaves a port: 0 to 15 the MACs, 16 CTLA, 17 CTLB, 18 SVC. A MAC sends ADDRESS0 as its
source, and with a VLAN the 802.1Q tag whose PCP is the class (Tables 9.4 and 9.5, R198); the control ports send untagged, and SVC
has the third address of the part's block (R437). -/
def State.frameHead (s : State) (port cls : Nat) : FrameHead :=
  if port < 16 then
    ⟨cls, s.getN (Reg.MAC_UNICAST_ADDRESS0 port),
      if s.get (Reg.MAC_VLAN port) = 0 then none else some (s.getN (Reg.MAC_VLAN port), cls)⟩
  else if port < 18 then ⟨cls, s.getN (Reg.CTL_PORT_PORT_MAC (port - 16)), none⟩
  else ⟨cls, macBase + 2, none⟩

/-- The state that has sent a frame of a class on a port. -/
def State.sendFrame (s : State) (port cls : Nat) (p : Packet) : State := s.send (.packet port (s.frameHead port cls) p)

end Sys2Proof.Machine
end

