-- ==== Sys2Proof/Machine/Cells.lean ====
section
/-! DEFINITION. The bits of a fabric cell and of its slot: header, payload, CRC and trailer (08_fabric.md, R163 to R168, Tables 8.2 to
8.9), and the cells of a frame of one link. -/
namespace Sys2Proof.Machine

/-! ### The cell envelope (R163 to R165) -/

/-- The 128-bit header of Table 8.3. -/
def cellHeader (c : Cell) : Nat :=
  c.kind % 16 * 2 ^ 124 + c.plane % 2 * 2 ^ 123 + c.shelf % 2 ^ 20 * 2 ^ 103 + c.seq % 2 ^ 24 * 2 ^ 79 + c.stamp % 2 ^ 40 * 2 ^ 39 +
    c.length % 256 * 2 ^ 31 + b2n c.sou * 2 ^ 30 + b2n c.eou * 2 ^ 29 + b2n c.present * 2 ^ 28 + c.link % 4 * 2 ^ 26 +
    c.format % 256 * 2 ^ 18 + c.rate % 8 * 2 ^ 15 + c.group % 4 * 2 ^ 13 + c.level % 2 * 2 ^ 12 + c.division % 2 * 2 ^ 11

/-- A pattern of Table 8.6. -/
def patBytes (p : Pat) : List Nat := [p.lane % 256, p.link % 256] ++ beBytes 2 p.phase ++ beBytes 2 p.count

/-- The payload of RESERVE, GRANT, DENY, ASSIGN and RELEASE (Table 8.6). -/
def resvBytes (r : Resv) : List Nat :=
  beBytes 4 r.period ++ beBytes 2 r.request ++ [r.subscriber % 256, r.origin % 256, r.cls % 256, r.plane % 256, r.reason % 256,
    (r.patterns.take 8).length] ++ beBytes 2 r.k ++ [r.links % 256, 0] ++ ((r.patterns.take 8).map patBytes).flatten

/-- The payload of OFFER (Table 8.8). -/
def offerBytes (l : List OfferRec) : List Nat :=
  [(l.take 19).length, 0, 0, 0] ++ ((l.take 19).map (fun r => beBytes 4 (r.shelf % 2 ^ 20) ++ beBytes 2 r.k ++
    [r.cls % 256, r.links % 256, r.format % 256, r.rate % 256, r.state % 256, 0])).flatten

/-- The payload of LANE_STATUS (Table 8.9). -/
def statusBytes (x : LaneStatus) : List Nat :=
  [x.part % 256, x.role % 256, x.slot % 256, x.lane % 256] ++ beBytes 4 x.period ++ beBytes 2 (fromSigned 16 x.arrival) ++
    [x.admitting % 256, 0] ++ beBytes 224 x.mask

/-- The payload bytes of a cell, before the zero fill (R164): essence is LENGTH units of 16 bits. -/
def bodyBytes (c : Cell) : List Nat :=
  match c.body with
  | .none => []
  | .words v => beBytes (2 * c.length) v
  | .resv r => resvBytes r
  | .offers l => offerBytes l
  | .status x => statusBytes x

/-- A byte string cut or filled with zeros to n bytes. -/
def fillTo (n : Nat) (l : List Nat) : List Nat := l.take n ++ List.replicate (n - l.length) 0

/-- The bytes of a cell that its CRC covers: all 256, or the first 252 of a cell with EOU (R165). -/
def cellCovered (c : Cell) : List Nat := beBytes 16 (cellHeader c) ++ fillTo (if c.eou then 236 else 240) (bodyBytes c)

/-- The 256 bytes of a cell: with EOU the CRC-32C stands in the last four, most significant byte first (R164, R165). -/
def cellBytes (c : Cell) : List Nat := if c.eou then cellCovered c ++ beBytes 4 (crc32c (cellCovered c)) else cellCovered c

/-- CELL_CRC: the CRC-32C of a cell without EOU, else 0 (R165). -/
def cellCrc (c : Cell) : Nat := if c.eou then 0 else crc32c (cellCovered c)

/-- The 64-bit slot trailer of Table 8.2. -/
def trailerBits (t : Trailer) : Nat := t.crc % 2 ^ 32 * 2 ^ 32 + t.slot % 2 ^ 13 * 2 ^ 19 + t.period % 8 * 2 ^ 16

/-- The 264 bytes a slot carries (R163). -/
def envelopeBytes (c : Cell) (t : Trailer) : List Nat := cellBytes c ++ beBytes 8 (trailerBits t)

/-- What a slot with nothing to carry holds (R163, Table 8.4). It counts as a control cell: SOU and EOU are set, and its STAMP is the
start of its slot (log entry 85). -/
def idleCell (at_ : Int) : Cell := ⟨0, 0, 0, 0, (at_ % 2 ^ 40).toNat, 0, true, true, false, 0, 0, 0, 0, 0, 0, .none⟩

/-! ### Slots (R163) -/

/-- One calendar period in leaves (R163). -/
def calLf : Int := 5292000
/-- The calendar period number (R163). -/
def State.period (s : State) : Nat := (s.now / calLf).toNat
/-- A period number carried in 32 bits, restored to the nearest count (Tables 8.6 and 8.9). -/
def State.fullPeriod (s : State) (p : Nat) : Nat :=
  let a := (s.period + 2 ^ 31 - p % 2 ^ 32) / 2 ^ 32 * 2 ^ 32 + p % 2 ^ 32
  a

/-- The first slot that starts at or after an instant, counted from the epoch, 4,410 to the period (R163). -/
def slotFrom (at_ : Int) : Nat := ((at_ + 1199) / 1200).toNat

/-- What slot k (counted from the epoch) of lane l carries: the cell sent in it, else an IDLE cell (R163). -/
def State.slotCell (s : State) (l k : Nat) : Cell :=
  (s.out.findSome? (fun e =>
    match e with
    | .cell n c t => if n = l ∧ t.slot = k % 4410 ∧ t.period = k / 4410 then some c else none
    | _ => none)).getD (idleCell (1200 * (k : Int)))

/-! ### The cells of a frame (R168, R169) -/

/-- Q: the link words of a full cell (R168). -/
def cellQ (rate : Nat) : Nat := if rate = 1 then 5 else if rate = 2 then 24 else if rate = 3 then 48 else if rate = 4 then 96 else 192

/-- The 10-bit words of one link in one frame of period p: 27 million a second at SD, 148.5, 297, 594 and 1,188 million above it, each
slower by 1.001 in that family (Tables 4.7 and 6.1, R168). -/
def linkWords (rate : Nat) (p : Int) : Nat :=
  let half : Int := if rate = 1 then 2 else if rate = 2 then 11 else if rate = 3 then 22 else if rate = 4 then 44 else 88
  ((if p % 1001 = 0 then half * (p / 1001 * 1000) else half * p) / 3920).toNat

/-- The words of cell i of a unit, 10 bits each, msb first, filled to whole 16-bit units; what they carry is free (log entry 3). -/
def wordsBody (draw i n : Nat) : CellBody :=
  .words ((List.range n).foldl (fun a w => a * 1024 + Config.freeWord draw (i * 192 + w) % 1024) 0 * 2 ^ ((10 * n + 15) / 16 * 16 - 10 * n))

/-- The cells of W words with Q to a cell: for each its index, LENGTH, EOU, and how many words it holds. The last cell holds r words,
1 ≤ r ≤ Q, with EOU; where they exceed 236 bytes they go without it, and a cell of LENGTH 0 follows (R168). -/
def unitCells (q w : Nat) : List (Nat × Nat × Bool × Nat) :=
  let n := (w - 1) / q
  let r := w - n * q
  let units (k : Nat) : Nat := (10 * k + 15) / 16
  (List.range n).map (fun i => (i, units q, false, q)) ++
    (if 236 < 2 * units r then [(n, units r, false, r), (n + 1, 0, true, 0)] else [(n, units r, true, r)])

/-! ### The cells of a message to the twin (R189, Table 8.12) -/

/-- The code of a message's type (Table 8.11). -/
def twinType (m : TwinMsg) : Nat :=
  match m with
  | .time _ => 1 | .decision _ _ _ _ => 2 | .gpiResolve _ _ _ => 3 | .slipOutcome _ _ _ => 4 | .mirrorAck _ _ => 5
  | .mirror _ _ => 6 | .health _ => 7 | .reconcile _ _ _ _ => 8 | .measurement _ => 8

/-- How many items a message carries. -/
def twinItems (m : TwinMsg) : Nat :=
  match m with
  | .mirror _ (.write l) => l.length | .mirror _ (.stage _ l) => l.length | .mirror _ (.arm _ l _) => l.length
  | .mirror _ (.cancel l) => l.length | .reconcile _ v w _ => v.length + w.length | _ => 1

/-- The DATA bytes of a message. HEALTH has 228 (Table 14.9), TIME an LT; the others' layout is not given (log entry 86). -/
def twinBytes (m : TwinMsg) : Nat :=
  match m with
  | .health _ => 228
  | .time _ => 12
  | m => Config.twinBytes (twinType m) (twinItems m)

/-- The cells of n DATA bytes, 228 to a cell: FRAGMENT, SOU, EOU, bytes. -/
def twinCells (n : Nat) : List TwinCell :=
  let k := max 1 ((n + 227) / 228)
  (List.range k).map (fun i => ⟨i, i == 0, i + 1 == k, if i + 1 = k then n - 228 * i else 228⟩)

end Sys2Proof.Machine
end

