-- ==== Sys2Proof/Machine/SlipTable.lean ====
section
/-! DEFINITION. The slip table: its records, and what a failure and a repetition make of one (05_slips.md, R91, R92, R106, R109). -/
namespace Sys2Proof.Machine

/-! ### The table -/

/-- The state code of Table 5.1. -/
def SlipSt.code : SlipSt → Nat
  | .empty => 0 | .staged => 1 | .armed => 2 | .launched => 3 | .retired => 4 | .cancelled => 5 | .superseded => 6 | .failed => 7

/-- An EMPTY slip, every field at its default (Tables 5.6 and 5.7). -/
def emptySlip (n : Nat) : Slip := ⟨n, .empty, 0, 0, 0, 0, 0, 255, 0, 0, 0, 0, 0, 0, none, none, .ok, 0xFFFF, [], 0, 0⟩

/-- A slip of the table. -/
def State.slip (s : State) (n : Nat) : Slip := (s.slips.find? (fun x => x.num == n)).getD (emptySlip n)

/-- A slip put at its place, by rising number; an EMPTY one is not listed. -/
def putSlip (x : Slip) : List Slip → List Slip
  | [] => if x.st = .empty then [] else [x]
  | y :: l =>
    if x.num < y.num then (if x.st = .empty then y :: l else x :: y :: l)
    else if x.num = y.num then (if x.st = .empty then l else x :: l)
    else y :: putSlip x l

/-- The table with one slip changed. -/
def State.setSlip (s : State) (x : Slip) : State := { s with slips := putSlip x s.slips }

/-- ARMED or LAUNCHED: the slip is held (R92). -/
def Slip.held (x : Slip) : Bool := decide (x.st = .armed) || decide (x.st = .launched)

/-- A final state (Table 5.1). -/
def Slip.final (x : Slip) : Bool :=
  decide (x.st = .retired) || decide (x.st = .cancelled) || decide (x.st = .superseded) || decide (x.st = .failed)

/-- The record as a STAGE or an ARM finds it: a final state is cleared first (R92). -/
def Slip.cleared (x : Slip) : Slip := if x.final then emptySlip x.num else x

/-- Staged items of every slip (`5000:01`), and the slips in a state (`5050:01` to `:03`). -/
def State.itemsUsed (s : State) : Nat := (s.slips.map (fun x => x.items.length)).foldl (· + ·) 0
def State.slipsIn (s : State) (st : SlipSt) : Nat := (s.slips.filter (fun x => decide (x.st = st))).length

/-- A GPI-triggered slip with REPEAT goes back to ARMED under a new sequence: it keeps its fields and its staged items, and waits for
its next edge with no boundary (R109). -/
def State.rearm (s : State) (n : Nat) (items : List (Key × Int)) : State :=
  let x := s.slip n
  if x.trigger ≠ 0 ∧ x.flags % 2 = 1 ∧ (x.st = .retired ∨ x.st = .failed) then
    let q := s.getN Reg.SLIP_COUNT_HIGHEST_SEQUENCE + 1
    (((((s.setSlip { x with st := .armed, items := items, seq := q, boundary := none, check := none }).put
      Reg.SLIP_COUNT_HIGHEST_SEQUENCE q).put (Hid.slipApplied n) 0).put (Hid.alignMask n) 0).put (Hid.slipIsles n) 0)
  else s

/-- A slip becomes FAILED: its record holds the status and the cause, its staged items are freed, and it counts; a MODE slip's status is
kept in `1102:04` (R92, R104, Table 15.5). -/
def State.failRecord (s : State) (n : Nat) (st : Status) (cause : Nat) : State :=
  ((s.setSlip { s.slip n with st := .failed, result := st, cause := cause, items := [] }).bump Reg.SLIP_COUNT_FAILED).when
    ((s.slip n).kind == 12) (fun t => t.put Reg.MODE_HISTORY_LAST_REFUSAL (st.code : Nat))

end Sys2Proof.Machine
end

