-- ==== Sys2Proof/Machine/Islands.lean ====
section
/-! DEFINITION. Readiness, restarts of islands, the end of the loan, and the fault collector
(15_bringup_and_modes.md, 16_faults.md, 17_islands_and_crossings.md). -/
namespace Sys2Proof.Machine

/-- SELF_CHECK bits 1 to 3 hold (Table 18.13). -/
def State.probHolds (s : State) : Bool :=
  decide (s.getN Hid.probReady &&& s.getN Reg.READY = s.getN Hid.probReady) && decide (s.get Reg.SAFE_REACTION < 4) &&
    s.get Hid.probTests == 0

/-- The time for which SELF_CHECK has held starts, goes on, or ends (R384). -/
def State.probTouch (s : State) : State :=
  if s.get Reg.HEALTH_CONFIRM_STATE ≠ 1 then s
  else if s.probHolds = false then s.put Hid.probFrom 0
  else if s.get Hid.probFrom = 0 then s.put Hid.probFrom (s.tickLf + 1)
  else s

/-- One READY bit takes a level; a change is recorded in `1201` (R313, R314). -/
def State.setReady (s : State) (b : Nat) (v : Bool) : State :=
  if s.ready b = v then s else
  ((((s.put Reg.READY (setBit (s.getN Reg.READY) b v : Nat)).put (Reg.READY_TIME_ELAPSED b) s.tickLf).put
    (Reg.READY_TIME_AT b) s.nowLT).bump (Reg.READY_TIME_CHANGES b)).probTouch

/-- The function bits that fall with a bit (Table 15.2, R313). -/
def dependents (b : Nat) : List Nat :=
  if b = 0 then [1, 51, 52, 53, 54, 55, 56] else if b = 2 then [7] else if b = 47 then [48]
  else if 35 ≤ b ∧ b ≤ 38 then [49] else []

/-- A READY bit falls, with the function bits that depend on it (R14, R313). -/
def State.dropReady (s : State) (b : Nat) : State :=
  (s.setReady b false).each (dependents b) (fun t d => t.setReady d false)

/-- The loan ends: the device is unlent and the session stays open but unlent (R42, R301). -/
def State.releaseLoan (s : State) : State :=
  if s.lent then
    let t := (s.put Reg.LOAN_STATE 2).put Reg.LOAN_PRESENT 0
    match t.session with
    | none => t
    | some x => { (t.put Reg.SESSION_SESSION_STATE 2) with session := some { x with unlentAt := s.tickLf } }
  else s

/-- The session closes; its subscriptions and transfers end (R41, R42, R49). `1400` goes on describing it (R50). -/
def State.closeSession (s : State) : State :=
  match s.session with
  | none => s
  | some _ =>
    { ((s.put Reg.SESSION_SESSION_STATE 0).put Reg.SESSION_SUBSCRIPTIONS 0) with session := none }

/-- The first millisecond boundary at or after an instant (R131, R189, R205). -/
def msCeil (n : Int) : Int := (n + lfMs - 1) / lfMs * lfMs

/-- A change of lane n's SIGNAL is decided now; it is published at the first millisecond boundary at or after this
instant, decisions of one millisecond in turn (R131). The queue holds decided states plus 1 in base 8. -/
def State.sdiDecide (s : State) (n : Nat) (st : Nat) : State :=
  let t := (s.put (Hid.sdiLane n) st).put (Hid.sdiDecided n) (s.get (Hid.sdiDecided n) * 8 + st + 1)
  t.when (s.get (Hid.sdiPubAt n) == 0) (fun u => u.put (Hid.sdiPubAt n) (msCeil s.now + 1))

/-- Lane n passes through ABSENT at once, with no LOSS debounce (R132). -/
def State.sdiDrop (s : State) (n : Nat) : State :=
  (s.put (Hid.sdiDue n) 0).when (s.get (Hid.sdiLane n) != 0) (fun t => t.sdiDecide n 0)

/-! ### Raisings that wait, and the ends of conditions -/

/-- The quiet period of a source (R332, R351). -/
def State.startQuiet (s : State) (n : Nat) : State :=
  let len := if s.get (Reg.FAULT_SOURCE_IN_FORCE n) = 5 then s.get Reg.QUIET_SAFE_QUIET else s.get Reg.QUIET_QUIET
  (s.put (Hid.quietFrom n) s.tickLf).put (Hid.quietLen n) len

/-- A condition ends: its source waits out its quiet period (R332); a raising of it that still waits for the collector is of a
condition no more. -/
def State.endCond (s : State) (n : Nat) : State :=
  let s : State := { s with heldRaises := s.heldRaises.map (fun (h : HeldRaise) => if h.source = n then { h with cond := false } else h) }
  if s.get (Hid.condOn n) = 1 then
    let t := s.put (Hid.condOn n) 0
    if s.get (Reg.FAULT_SOURCE_STATE n) = 1 then (t.put (Reg.FAULT_SOURCE_STATE n) 2).startQuiet n else t
  else s

/-- A raising joins those that wait for the collector (R332, R334). What a restart or a lost link brings about is raised so, and the
collector settles it as soon as the effects of the restart stand (`State.settleQueue`). -/
def State.queueRaise (s : State) (n cause context : Nat) (cond : Bool := false) : State :=
  if srcReserved n then s
  else { s with heldRaises := s.heldRaises ++ [⟨n, cause * 2 ^ 24 + context % 2 ^ 24, cond, false, s.nowLT.toNat⟩] }

/-! ### What a restart takes down -/

/-- The LAUNCHED slips whose target lies in island i and that have not taken effect fail with NOT_READY as it restarts: SLIP_FAILED is
raised, the twin is told once the command is done, and a repeating slip waits for its next edge (R104, R106, R109, R112). The islands
were noted at the launch. -/
def State.failLaunched (s : State) (i : Nat) : State :=
  let hit := s.slips.filter (fun x => decide (x.st = .launched) && s.get (Hid.slipApplied x.num) == 0 && bitOf (s.getN (Hid.slipIsles x.num)) i)
  s.each hit (fun t x => ((((t.failRecord x.num .notReady 0xFFFF).queueRaise 15 0 x.num).put (Hid.slipFell x.num) 1).rearm x.num x.items))

/-- A change of pairing state changes the egress MACs at the first millisecond boundary at or after it (R205). -/
def State.egressDue (s : State) : State := s.put Hid.egressAt (msCeil s.now + 1)

/-- The pairing state moves; the egress MACs follow a change between paired and solo (R205), and a receiver's good bits are
held bad (R296). -/
def State.setPairing (s : State) (v : Int) : State :=
  let t := s.put Reg.PAIRING_STATE v
  let t := t.when (t.paired != s.paired) (fun u => u.egressDue)
  if v = 3 then t.each (List.range 96) (fun u o => u.put (Hid.reconHold o) 1) else t

/-- The twin link is down from now on (R60, R189, R291): TWIN_TIME_OFFSET ends, TWIN_LINK_DOWN is raised, a reconciliation is broken
off, and the twins are PAIRED_DOWN. -/
def State.linkFalls (s : State) : State :=
  if s.twinUp = false then s
  else
    let t := (((((s.put Reg.TWIN_LINK_STATE 0).bump Reg.TWIN_LINK_DOWN_EVENTS).put Hid.rekeying 0).put
      Hid.twinStampNew 0).put Hid.twinOver 0).endCond 7
    let t := ({ t.queueRaise 6 0 0 with reconBuf := [], reconSlips := [], twinSeen := [] } : State)
    let t := (t.put Hid.reconAt 0).put Hid.reconRestart 0
    if 2 ≤ t.get Reg.PAIRING_STATE ∧ t.get Reg.PAIRING_STATE ≤ 4 then t.setPairing 1 else t

/-- A network MAC returns to DOWN from another state: counted, and NET_LINK_DOWN raised (R193, log entry 83). Packets of classes 0 to
5 that wait at it are discarded and counted, for none is sent late (R193). -/
def State.macFalls (s : State) (m : Nat) : State :=
  if s.get (Reg.MAC_LINK m) = 0 then s
  else
    let gone := s.txQueue.filter (fun x => x.mac == m && decide (x.cls ≤ 5))
    let t := (((s.put (Reg.MAC_LINK m) 0).bump (Reg.NET_STATS_LINK_DOWNS m)).bumpBy (Reg.NET_STATS_TX_DISCARD_LINK m)
      (gone.length : Nat)).queueRaise (562 + m) 1 m
    { t with txQueue := t.txQueue.filter (fun x => !(x.mac == m && decide (x.cls ≤ 5))) }

/-- The transmitter of serial lane n goes idle: its pin is in electrical idle (R138). -/
def State.txIdle (s : State) (n : Nat) : State :=
  if s.get (Reg.SDI_TX_STATE n) = 0 then s else (s.put (Reg.SDI_TX_STATE n) 0).send (.pin 5 n 0)

/-- What the P island loses: every Concordance, with the keys it has consumed (R11, R213, log entry 84); no path receives, which is
published at the next millisecond boundary (R221); and what its pacers hold of old records. -/
def State.flowsLost (s : State) : State :=
  ({ s with flowBufs := [], skews := [], flowTails := [] } : State).each
    (s.regs.filterMap (fun p => if p.1.idx = 0x4100 ∧ p.1.sub = 0x22 ∧ p.1.el < 32768 ∧ 2 ≤ p.2 then some p.1.el else none))
    (fun t e => (t.put (Reg.FLOW_PATH_STATE e) 1).when (t.get (Hid.flowPubAt (e % 16384)) == 0)
      (fun u => u.put (Hid.flowPubAt (e % 16384)) (msCeil u.now + 1)))

/-- KEEP and FLT restart together: with the other of them down the Logbook is lost, and NEXT keeps counting (R347). -/
def State.logLost (s : State) (other : Nat) : State := if s.up other then s else { s with log := [] }

/-- What KEEP loses as it enters reset: the session and its loan; a commit that is not durable yet fails (R319); the service
session ends with KEEP. -/
def State.keepLoses (s : State) : State :=
  let t := { s.releaseLoan.closeSession with commitCopy := none, svc := none, svcPlain := none, mirrorWait := [] }
  t.when (t.get Reg.STANDING_COMMIT_STATE == 1) (fun u => u.put Reg.STANDING_COMMIT_STATE 3)

/-- What an island loses or drops as it enters reset, in the registers that report it: serial transmitters idle and
receive lanes absent (R132, R138), every transmitter idle with X (R16, R138), MACs down with all that waits at them (R11, R193), the
flows with P, fabric lanes OFF (R159), the twin lanes OFF and the link down with TW (R16, R189), canvases suspended (R249), recorders
suspended (R286), AES3 ports stopped (R271). -/
def State.islandLoses (s : State) (i : Nat) : State :=
  if 7 ≤ i ∧ i ≤ 18 then
    s.each (List.range 8) (fun t j =>
      let n := 8 * (i - 7) + j
      (({ t.txIdle n with sdiPins := (t.txIdle n).sdiPins.filter (fun p => p.1 != n) }).put (Hid.sdiRaw n) 0).sdiDrop n)
  else if i = 5 then
    -- a centre returns with empty calendars (R187); the promotion store lies in X (R150)
    (({ s with patterns := if s.edge then s.patterns else [], promos := [] }).put Reg.XPT_STORE_PROMOTE_USED 0).each (List.range 96) (fun t n => t.txIdle n)
  else if 19 ≤ i ∧ i ≤ 22 then
    let t := s.each (List.range 4) (fun t j => (t.macFalls (4 * (i - 19) + j)).put (Hid.macBusy (4 * (i - 19) + j)) 0)
    { t with txQueue := t.txQueue.filter (fun x => x.mac / 4 != i - 19) }
  else if i = 6 then s.flowsLost
  else if 23 ≤ i ∧ i ≤ 30 then
    s.each (List.range 8) (fun t j => t.put (Reg.FAB_LANE_STATE (8 * (i - 23) + j)) 0)
  else if i = 31 then
    (((s.put (Hid.twinLane 0) 0).put (Hid.twinLane 1) 0).put Reg.TWIN_LINK_LANES 0).linkFalls
  else if i = 32 ∨ i = 33 then
    -- synchronisers, layer stores and flow buffers of that stack are emptied (R286)
    let h := i - 32
    let lost := (s.syncFrames.map (·.1)).filter (fun n => n / 48 == h)
    let t : State := { s with syncFrames := s.syncFrames.filter (fun e => e.1 / 48 != h)
                              layerStores := s.layerStores.filter (fun x => x.shelf % 2 != h)
                              flowBufs := s.flowBufs.filter (fun b => b.flow % 2 != h) }
    let t := t.each lost (fun t n => (t.put (Hid.syncLast n) 0).put (Reg.SYNC_STATE n) 1)
    t.each (t.elsListed 0x5100 7) (fun t o => t.when ((if o < 96 then o / 48 else o % 2) == h) (fun u => u.put (Hid.outWhole o) 0))
  else if 34 ≤ i ∧ i ≤ 37 then
    s.each (List.range 256) (fun t r =>
      t.when (t.get (Reg.RECORDER_HOME_IN_FORCE r) == (i : Int) - 34 && t.get (Reg.RECORDER_STATE r) != 0)
        (fun u => u.put (Reg.RECORDER_STATE r) 3))
  else if 38 ≤ i ∧ i ≤ 45 then
    s.each (List.range 256) (fun t k =>
      t.when (bitOf (t.getN (Reg.CANVAS_SLICES k)) (i - 38) && t.get (Reg.CANVAS_STATE k) == 1)
        (fun u => u.put (Reg.CANVAS_STATE k) 2))
  else if i = 46 then
    s.each (List.range 32) (fun t r => (t.put (Reg.AES_RX_STATE r) 0).put (Reg.AES_TX_STATE r) 0)
  else if i = 2 then s.put Hid.refRestartAt (s.tickLf + 1)
  else if i = 4 then s.logLost 0
  else if i = 0 then s.keepLoses.logLost 4
  else s

/-! ### Crossings (R353, R360 to R362) -/

/-- Islands i < j share stream or hand-off crossings beyond the status levels: KEEP reaches every island through the island
gateway; the others as the signal paths of Table 1.3 and Table 17.4 join them (log entry 49). -/
def crossPair (i j : Nat) : Bool :=
  i == 0 || (i == 5 && (j == 6 || (decide (7 ≤ j) && decide (j ≤ 18)) || decide (23 ≤ j))) ||
    (i == 6 && ((decide (7 ≤ j) && decide (j ≤ 22)) || j == 32 || j == 33 || j == 46)) ||
    (decide (7 ≤ i) && decide (i ≤ 18) && j == 46) || ((i == 32 || i == 33) && decide (38 ≤ j) && decide (j ≤ 45))

/-- The islands that share a crossing with island i. -/
def crossPartners (i : Nat) : List Nat :=
  (List.range 47).filter (fun j => (decide (i < j) && crossPair i j) || (decide (j < i) && crossPair j i))

/-- The register of the crossing of two islands. -/
def crossKey (i j : Nat) : Key := Hid.crossUp (64 * min i j + max i j)

/-- Island i signals down: each running partner flushes its half, counts what it discards in its own FLUSHED, and holds its
half idle (R360). What lay in a crossing is not held by the model, so the count is a free value (log entry 49). -/
def State.flushPartners (s : State) (i : Nat) : State :=
  s.each (crossPartners i) (fun t j =>
    if t.up j = true ∧ t.get (crossKey i j) = 1 then ((t.bumpBy (Reg.ISLAND_FLUSHED j) t.freeVal).drawn).put (crossKey i j) 0
    else t.put (crossKey i j) 0)

/-- The rank of a restart's cause (R363): ISOLATE, WARM, BOOKING, BRINGUP_LATE. -/
def causeRank (c : Int) : Nat := if c = 2 then 4 else if c = 4 then 3 else if c = 3 then 2 else if c = 1 then 1 else 0

/-- A restart of island i is ordered: its bit falls, it signals down on its crossings, and what it carried is lost. An
order during a restart merges with it (R360, R363, R16). -/
def State.restartIsland (s : State) (i : Nat) (cause : Nat) : State :=
  if s.get (Hid.restarting i) = 1 then
    s.when (decide (causeRank (s.get (Reg.ISLAND_CAUSE i)) < causeRank cause)) (fun t => t.put (Reg.ISLAND_CAUSE i) cause)
  else
    (((((((((s.flushPartners i).failLaunched i).islandLoses i).dropReady (islandBit i)).put (Hid.restarting i) 1).put
      (Reg.ISLAND_STATE i) 2).put (Reg.ISLAND_CAUSE i) cause).put (Reg.ISLAND_LAST_RESTART i) s.nowLT).bump (Reg.ISLAND_RESTARTS i)).put (Hid.restartAt i) s.tickLf

/-! ### The Logbook -/

/-- An entry is merged into the newest, written, or dropped (R347, R348). -/
def State.addLog (s : State) (src sev flags detail lt : Nat) : State :=
  let merged : Option (List LogEntry) :=
    match s.log.reverse with
    | [] => none
    | e :: r =>
      if e.source = src ∧ e.detail = detail ∧ e.severity = sev ∧ e.flags = flags ∧ flags < 2 then
        some ((({ e with repeats := min (e.repeats + 1) (2 ^ 32 - 1) } : LogEntry) :: r).reverse)
      else none
  match merged with
  | some l => { s with log := l }
  | none =>
    let recent := s.logTicks.filter (fun t => decide (s.ticks < t + 1000000000))
    if 256 ≤ recent.length then s.bump Reg.LOGBOOK_DROPPED
    else
      let e : LogEntry := ⟨s.getN Reg.LOGBOOK_NEXT, lt, src, sev, flags, detail, 0⟩
      let l := s.log ++ [e]
      { (s.put Reg.LOGBOOK_NEXT ((s.get Reg.LOGBOOK_NEXT + 1) % 2 ^ 32)) with
        log := l.drop (l.length - 64), logTicks := s.ticks :: recent }

/-! ### The collector -/

/-- The sources of an island that the centre role holds in reset are fixed at IGNORE: its four of Table 16.3, those of its lanes, ports and
channels, and the device-wide ones it owns (R21, R328, R330, R342). -/
def State.ignored (s : State) (n : Nat) : Bool := !s.edge && decide (srcOwner n < 47) && centreHeld (srcOwner n)

/-- SEVERITY as it acts (R21, R342). -/
def State.severityOf (s : State) (n : Nat) : Int := if s.ignored n then 0 else s.get (Reg.FAULT_SOURCE_SEVERITY n)

/-- FIXED as it reads (R342). -/
def State.fixedOf (s : State) (n : Nat) : Bool := srcFixed n || s.ignored n

/-- The island an ISOLATE of a source restarts: its owner, or the one its detail names (R328, R336). -/
def ownerOf (n detail : Nat) : Option Nat :=
  if srcOwner n = 0xFE then bitIsland (detail % 2 ^ 24) else if srcOwner n = 0xFF then none else some (srcOwner n)

/-- The sources not CLEAR. -/
def State.raised (s : State) : List Nat :=
  s.regs.filterMap (fun p => if p.1.idx = 0xA000 ∧ p.1.sub = 6 then some p.1.el else none)

/-- STATE of a source as it reads: an event reads ACTIVE for the FLT tick of 105.84 lf on which it is settled (R332). -/
def State.sourceState (s : State) (n : Nat) : Int :=
  let age := s.nowFine - fineOfLt (s.get (Reg.FAULT_SOURCE_LAST_RAISED n))
  if s.get (Reg.FAULT_SOURCE_STATE n) = 2 ∧ s.get (Reg.FAULT_SOURCE_RAISES n) ≠ 0 ∧ 0 ≤ age ∧ age * 25 < 10838016 then 1
  else s.get (Reg.FAULT_SOURCE_STATE n)

/-- What a source contributes to the device reaction (R334, R335, R340). -/
def State.levelOf (s : State) (n : Nat) : Int :=
  let f := s.get (Reg.FAULT_SOURCE_IN_FORCE n)
  if s.get (Reg.FAULT_SOURCE_STATE n) = 0 then 0
  else if f = 3 then
    (match ownerOf n (s.getN (Reg.FAULT_SOURCE_LAST_DETAIL n)) with
     | none => 2
     | some i => if i = 0 ∧ s.get (Reg.FAULT_SOURCE_STATE n) = 3 then 4 else 0)
  else if f = 2 ∨ f = 4 ∨ f = 5 then f else 0

/-- ALERT_N follows: low while any source's reaction is at or above LEVEL (R349). -/
def State.driveAlert (s : State) : State :=
  let alert := s.raised.any (fun r => decide (s.get Reg.ALERT_LEVEL ≤ s.get (Reg.FAULT_SOURCE_IN_FORCE r)))
  if s.get Reg.ALERT_ASSERTED = b2i alert then s
  else (s.put Reg.ALERT_ASSERTED (b2i alert)).send (.pin 0 0 (b2i (!alert)))

/-- The collector settles the device reaction, its cause and ALERT_N; `n` is the source just settled (R334, R349). -/
def State.settleReaction (s : State) (n : Nat) : State :=
  let rs := s.raised
  let level := rs.foldl (fun a r => max a (s.levelOf r)) 0
  let holders := rs.filter (fun r => s.levelOf r == level)
  let low : Int := (holders.foldl (fun a r => min a r) 0xFFFF : Nat)
  let old := s.get Reg.SAFE_REACTION
  let cause : Int :=
    if level = 0 then 0xFFFF
    else if old < level then (n : Int)
    else if level < old then low
    else if holders.contains (s.getN Reg.SAFE_CAUSE) then s.get Reg.SAFE_CAUSE else low
  let latched := holders.any (fun r => s.get (Reg.FAULT_SOURCE_STATE r) == 3) && decide (level ≠ 0)
  let t := if level = old then s else ((s.put Reg.SAFE_REACTION level).put Reg.SAFE_SINCE s.nowLT).probTouch
  let t := if old = 5 ∧ level < 5 then t.put Hid.safeExitAt s.now else t
  ((t.put Reg.SAFE_CAUSE cause).put Reg.SAFE_LATCHED (b2i latched)).driveAlert

/-- RUN_ON and SAFE: the loan is released and the session closes (R337). -/
def State.runOn (s : State) : State := s.releaseLoan.closeSession

/-- Entry to SAFE in the edge role: egress and AES3 are muted; good bits and pictures follow at their own boundaries
(R338). -/
def State.safeEntry (s : State) : State :=
  ((s.put Hid.safeAt s.now).when s.edge (fun t =>
    (t.put Hid.egressMuted 1).each (List.range 32) (fun u i => u.put (Hid.aesHush i) 1))).put Hid.safeExitAt 0

/-- The action of a severity at a raising (Table 16.6, R336, R337, R338, R344). -/
def State.react (s : State) (n detail : Nat) : State :=
  let f := s.get (Reg.FAULT_SOURCE_IN_FORCE n)
  if s.get Hid.collectorSelf = 1 ∧ n ≠ 0 then s
  else if n = 1 ∨ n = 2 then s.runOn.restartIsland 0 4
  else if f = 3 then
    (match ownerOf n detail with
     | none => s
     | some i => s.restartIsland i 2)
  else if f = 4 then s.runOn
  else if f = 5 then s.runOn.safeEntry
  else s

/-- The collector settles one raising (R332 to R335, R347). `cond`: the source is a condition that now holds. -/
def State.settleRaise (s : State) (n detail : Nat) (cond forced : Bool) (lt : Nat) : State :=
  if srcReserved n then s else
  let st := s.get (Reg.FAULT_SOURCE_STATE n)
  let sev := if st = 0 then s.severityOf n else s.get (Reg.FAULT_SOURCE_IN_FORCE n)
  let logIt := decide (1 ≤ sev) &&
    (st == 0 || st == 2 || (st == 1 && s.get (Reg.FAULT_SOURCE_LAST_DETAIL n) != (detail : Int)))
  let t := (((s.bump (Reg.FAULT_SOURCE_RAISES n)).put (Reg.FAULT_SOURCE_LAST_RAISED n) lt).put
    (Reg.FAULT_SOURCE_LAST_DETAIL n) detail).put (Reg.FAULT_SOURCE_IN_FORCE n) sev
  let t := if st = 3 then t
    else if cond || n == 0 then (t.put (Reg.FAULT_SOURCE_STATE n) 1).put (Hid.condOn n) 1
    else ((t.put (Reg.FAULT_SOURCE_STATE n) (if s.get (Hid.condOn n) = 1 then 1 else 2))).when
      (!(s.get (Hid.restarting ((ownerOf n detail).getD 99)) == 1 && (sev == 3 || n == 1 || n == 2)))
      (fun u => u.startQuiet n)
  let t := if logIt then t.addLog n sev.toNat (b2n forced) detail lt else t
  let t := if n = 0 then t.put Hid.collectorSelf 1 else t
  (t.react n detail).settleReaction n

/-- The raisings that waited are settled in ascending source number, each with its own stamp (R334). -/
def State.settleHeld (s : State) : State :=
  let ins (l : List HeldRaise) (h : HeldRaise) : List HeldRaise :=
    (l.filter (fun x => decide (x.source ≤ h.source))) ++ [h] ++ l.filter (fun x => decide (h.source < x.source))
  let l := s.heldRaises.foldl ins []
  ({ s with heldRaises := [] }).each l (fun t h => t.settleRaise h.source h.detail h.cond h.forced h.lt)

/-- The collector settles what restarts have brought about, until nothing waits; each round that leaves something has restarted
another island, so a round for each island is enough. -/
def State.settleRounds : Nat → State → State
  | 0, s => s
  | n + 1, s => if s.ready 5 && s.heldRaises != [] then State.settleRounds n s.settleHeld else s

/-- Raisings that a restart or a lost link queued are settled, while the collector runs (R332, R334). -/
def State.settleQueue (s : State) : State := State.settleRounds 47 s

/-- A source is raised; while the collector is not ready the raising waits in its island (R332, R334). -/
def State.raiseAs (s : State) (n detail : Nat) (cond forced : Bool) : State :=
  if srcReserved n then s
  else if s.ready 5 then (s.settleRaise n detail cond forced s.nowLT.toNat).settleQueue
  else { s with heldRaises := s.heldRaises ++ [⟨n, detail, cond, forced, s.nowLT.toNat⟩] }

/-- An event raises a source; `cause` and `context` make its detail word (R331). -/
def State.raise (s : State) (n : Nat) (cause context : Nat := 0) : State :=
  s.raiseAs n (cause * 2 ^ 24 + context % 2 ^ 24) false false

/-- A condition begins to hold (R332). -/
def State.raiseCond (s : State) (n : Nat) (context : Nat := 0) : State :=
  if s.get (Hid.condOn n) = 1 ∧ s.get (Reg.FAULT_SOURCE_STATE n) = 1 then s
  else s.raiseAs n (context % 2 ^ 24) true false

/-- Recoveries of a source within the window that ends now (R340, `A000[s]:0C`). -/
def State.recent (s : State) (n : Nat) : Nat :=
  (s.recoveries.filter (fun p => p.1 == n && decide (s.tickLf ≤ p.2 + s.get Reg.RECOVERY_WINDOW))).length

/-- A latch of ISOLATE holds its island in reset (R340). -/
def State.holdIsland (s : State) (i : Nat) : State :=
  if i = 0 then s else
  ((((s.dropReady (islandBit i)).put (Hid.heldReset i) 1).put (Hid.restarting i) 0).put (Reg.ISLAND_STATE i) 5).put
    Reg.SAFE_ISOLATED (setBit (s.getN Reg.SAFE_ISOLATED) (islandBit i) true : Nat)

/-- A recovery is counted, entered in the Logbook, and latches the source when it is the third within the window
(R340). -/
def State.countRecovery (s : State) (n : Nat) : State :=
  let d := s.getN (Reg.FAULT_SOURCE_LAST_DETAIL n)
  let f := s.getN (Reg.FAULT_SOURCE_IN_FORCE n)
  let t := { ((s.bump (Reg.FAULT_SOURCE_RECOVERIES n)).bump Reg.RECOVERY_TOTAL) with
    recoveries := (n, s.tickLf) :: s.recoveries.filter (fun p => decide (s.tickLf ≤ p.2 + s.get Reg.RECOVERY_WINDOW)) }
  let t := t.addLog n f 2 d s.nowLT.toNat
  if s.get Reg.RECOVERY_LIMIT ≤ (t.recent n : Nat) then
    let t := ((t.put (Reg.FAULT_SOURCE_STATE n) 3).bump Reg.RECOVERY_LATCHED).addLog n f 4 d s.nowLT.toNat
    if f = 3 then (match ownerOf n d with | none => t | some i => t.holdIsland i) else t
  else t

/-- A source at ISOLATE, or one of the Keeper sources (R340). -/
def State.restartsOwner (s : State) (n i : Nat) : Bool :=
  ((s.get (Reg.FAULT_SOURCE_IN_FORCE n) == 3 && ownerOf n (s.getN (Reg.FAULT_SOURCE_LAST_DETAIL n)) == some i) ||
    ((n == 1 || n == 2) && i == 0)) && s.get (Reg.FAULT_SOURCE_STATE n) != 0

/-- The island's bit has risen again: its ISOLATE and Keeper sources count a recovery and begin their quiet periods,
and a restart under a booking releases its latches (R340, R341). -/
def State.islandReturned (s : State) (i : Nat) : State :=
  let rs := s.raised.filter (fun n => s.restartsOwner n i && s.get (Reg.FAULT_SOURCE_STATE n) != 3 && s.get Hid.collectorSelf == 0)
  let t := s.each rs (fun t n => (t.startQuiet n).countRecovery n)
  if s.get (Hid.latchRelease i) = 1 ∧ i ≠ 0 then
    let ls := t.raised.filter (fun n => t.get (Reg.FAULT_SOURCE_STATE n) == 3 &&
      ownerOf n (t.getN (Reg.FAULT_SOURCE_LAST_DETAIL n)) == some i)
    let u := t.each ls (fun u n => ((u.put (Reg.FAULT_SOURCE_STATE n) 0).put (Reg.FAULT_SOURCE_IN_FORCE n) 0).put
      Reg.RECOVERY_LATCHED (u.get Reg.RECOVERY_LATCHED - 1))
    ((u.put (Hid.latchRelease i) 0).put Reg.SAFE_ISOLATED (setBit (u.getN Reg.SAFE_ISOLATED) (islandBit i) false : Nat)).settleReaction 0
  else t.settleReaction 0

/-- The quiet period of a source ends (R332, R340): at DEGRADE, RUN_ON and SAFE it recovers, at ISOLATE and for the Keeper
sources, which counted at the return, the reaction ends, below that it is CLEAR. COLLECTOR_SELF ends nothing (R343). -/
def State.quietExpiry (s : State) (n : Nat) : State :=
  let f := s.get (Reg.FAULT_SOURCE_IN_FORCE n)
  let own := if n = 1 ∨ n = 2 then some 0 else if f = 3 then ownerOf n (s.getN (Reg.FAULT_SOURCE_LAST_DETAIL n)) else none
  if s.ready 5 = false ∨ s.get (Reg.FAULT_SOURCE_STATE n) ≠ 2 ∨ s.get Hid.collectorSelf = 1 ∨
      s.tickLf < s.get (Hid.quietFrom n) + s.get (Hid.quietLen n) ∨
      (own.isSome = true ∧ s.get (Hid.restarting (own.getD 0)) = 1) then s
  else
    let t := if own.isSome = true ∨ f ≤ 1 then s else s.countRecovery n
    if t.get (Reg.FAULT_SOURCE_STATE n) = 3 then t.settleReaction n
    else (((t.put (Reg.FAULT_SOURCE_STATE n) 0).put (Reg.FAULT_SOURCE_IN_FORCE n) 0)).settleReaction n

end Sys2Proof.Machine
end

