-- ==== Sys2Proof/Machine/Real.lean ====
section
/-! DEFINITION. Real functions that the rules name, in fixed point of 2⁻¹⁶⁰: exponentials, logarithms, sines and fourth roots (R236, R268,
R391, R418). Each result lies within 2⁻¹⁴⁰ of the real number, far closer than any rounding that follows asks for (DEDUCED, log entry 27). -/
namespace Sys2Proof.Machine

/-- One. -/
def realOne : Nat := 2 ^ 160
/-- The natural logarithms of 2 and 10, and π. -/
def realLn2 : Nat := 0xB17217F7D1CF79ABC9E3B39803F2F6AF40F34326
def realLn10 : Nat := 0x24D763776AAA2B05BA95B58AE0B4C28A38A3FB3E7
def realPi : Nat := 0x3243F6A8885A308D313198A2E03707344A4093822

/-- The sum of an alternating series: `t` is the term, which the i-th step multiplies by x / d i. -/
def alternate (x : Nat) (d : Nat → Nat) : Nat → Nat → Int → Int → Int
  | 0, _, _, acc => acc
  | n + 1, i, t, acc => alternate x d n (i + 1) (-(t * x / (realOne * d i))) (acc + t)

/-- e^−x of a fixed-point x. -/
def realExpNeg (x : Nat) : Nat := (alternate (x % realLn2) (fun i => i + 1) 50 0 realOne 0).toNat / 2 ^ (x / realLn2)

/-- The steps that halve a fixed-point number of at least 1 below 2: the number left and how many. -/
def realHalve : Nat → Nat → Nat × Nat
  | 0, x => (x, 0)
  | n + 1, x => if x < 2 * realOne then (x, 0) else let r := realHalve n (x / 2); (r.1, r.2 + 1)

/-- The natural logarithm of a fixed-point number of at least 1: of its power of 2, and of the rest m by 2 artanh ((m − 1) / (m + 1)). -/
def realLn (x : Nat) : Nat :=
  let h := realHalve 200 x
  let z := (h.1 - realOne) * realOne / (h.1 + realOne)
  let s := (List.range 60).foldl (fun (a : Nat × Nat) i => (a.1 + a.2 / (2 * i + 1), a.2 * z / realOne * z / realOne)) (0, z)
  h.2 * realLn2 + 2 * s.1

/-- sin (π n / d), exact at whole n / d. -/
def realSinPi (n : Int) (d : Nat) : Int :=
  let r := (n % (2 * d : Nat)).toNat
  let m := r % d
  let a := if d < 2 * m then d - m else m
  let x := realPi * a / d
  let v := alternate (x * x / realOne) (fun i => (2 * i + 2) * (2 * i + 3)) 40 0 x 0
  if d ≤ r then -v else v

/-- sin (π x) / (π x) of x = n / d; 1 at 0. -/
def realSinc (n : Int) (d : Nat) : Int :=
  if n = 0 then realOne else realSinPi n d * (realOne : Int) * d / (realPi * n)

/-- The fourth root of a whole number. -/
def realRoot4 (n : Nat) : Nat := Nat.sqrt (Nat.sqrt (n * 2 ^ 640))

end Sys2Proof.Machine
end

