-- ==== Sys2Proof/Machine/Power.lean ====
section
/-! DEFINITION. The VDD target and the power estimate (21_electrical_and_package.md, R415, R418). -/
namespace Sys2Proof.Machine

/-- An island runs: its bit reads 1 and the mode in force lists it (R26). -/
def State.runs (s : State) (i : Nat) : Bool := s.up i && s.get (Reg.ISLAND_STATE i) != 1

/-- The VDD target in 0.1 mV (R415). -/
def State.vddTarget (s : State) : Int :=
  clampInt 6500 8500 (s.get Reg.SUPPLY_BASE + 100 * s.get Reg.MARGIN_CONTROL_BIN + s.get Reg.MARGIN_CONTROL_AVS_OFFSET)

/-- TARGET is refreshed (R415). -/
def State.refreshTarget (s : State) : State := s.put Reg.SUPPLY_TARGET s.vddTarget

/-- L of R418 in units of 2⁻³², for a lid temperature in 0.1 °C: 2 to the whole part and one more, less what the rest of 25 °C leaves. -/
def leakFactor (lid : Int) : Nat :=
  let q := (lid - 850) / 250
  let r := ((lid - 850) % 250).toNat
  let m := realExpNeg (realLn2 * (250 - r) / 250)
  if r = 0 then (if 0 ≤ q then 2 ^ (32 + q.toNat) else 2 ^ 32 / 2 ^ (-q).toNat)
  else if 0 ≤ q + 1 then divNearestEven (m * 2 ^ (33 + q).toNat) realOne
  else divNearestEven (m * 2 ^ 32) (realOne * 2 ^ (-q - 1).toNat)

/-- A sum over the elements 0 to n − 1. -/
def sumTo (n : Nat) (f : Nat → Nat) : Nat := (List.range n).foldl (fun a i => a + f i) 0

/-- One row's cost in µW: the fixed part under leakage, the per-unit part, and on VDD the square of the target over
0.75 V (R418). -/
def rowCost (leak vdd : Nat) (onVdd : Bool) (fixed unit : Nat) : Nat :=
  let c := fixed * leak / 2 ^ 32 + unit
  if onVdd then c * vdd * vdd / (7500 * 7500) else c

/-- The rows of Table 21.4 in µW over the islands the mode in force runs (R418). -/
def State.estimateUw (s : State) : Nat :=
  let leak := leakFactor (s.get Reg.SUPPLY_LID)
  let vdd := (s.get Reg.SUPPLY_TARGET).toNat
  let row := rowCost leak vdd
  let g := sumTo 96 (fun n => b2n (s.runs (7 + n / 8)) + b2n (s.get (Reg.SDI_TX_STATE n) == 1))
  let pam := sumTo 16 (fun m => if s.get (Reg.MAC_LINK m) = 0 then 0 else s.getN (Reg.MAC_RATE m) / 100)
    + sumTo 64 (fun l => b2n (s.get (Reg.FAB_LANE_STATE l) != 0)) + sumTo 2 (fun k => b2n (s.get (Hid.twinLane k) != 0))
  let hbm := b2n (s.runs 32) + b2n (s.runs 33)
  let ddr := popCount 16 (s.getN Reg.STACKS_POPULATED) * b2n (s.runs 34 || s.runs 35 || s.runs 36 || s.runs 37)
  let ddrBw := sumTo 4 (fun d => s.getN (Reg.DDR_ADMISSION_ADMITTED d))
  let subs := (s.fabSubs.map (fun x =>
    let planes := b2n (s.get (Reg.FAB_SUB_CENTRE0 x.el) != 255) + b2n (s.get (Reg.FAB_SUB_CENTRE1 x.el) != 255)
    s.getN (Reg.FAB_SUB_K x.el) * s.getN (Hid.subLinks x.el) * planes)).foldl (· + ·) 0
  let syncs := sumTo 96 (fun n => s.getN (Hid.syncOn n) + s.getN (Hid.storeOn n)) + s.getN Reg.XPT_STORE_PROMOTE_USED
  let slices := sumTo 8 (fun c => b2n (s.runs (38 + c)))
  let fetch := sumTo 8 (fun c => s.getN (Reg.SLICE_FETCH_LOAD c))
  let comp := sumTo 8 (fun c => s.getN (Reg.SLICE_OUTPUT_LOAD c))
  let ingress := ((s.elsWith 0x4100 1 1).map (fun f => if f < 16384 then s.getN (Reg.FLOW_MAX_RATE f) else 0)).foldl
    (· + ·) 0
  let egress := sumTo 16 (fun m => s.getN (Reg.MAC_ADMITTED m))
  let limit := if s.get Reg.AUDIO_COMPILE_RUNNING_RATE = 0 then 65536 else 32768
  row false 0 (90000 * g) + row false 0 (450000 * pam)
    + row false (6000000 * hbm) (s.getN Reg.ADMISSION_HBM_ADMITTED / 100000)
    + row false (500000 * ddr) (ddrBw * 18 / 1000000)
    + (if s.runs 5 then row true 12000000 (subs * 19200000 * 4 / 1000000) else 0)
    + (if s.runs 5 then row true 6000000 (80000 * syncs) else 0)
    + row true (1200000 * slices) (fetch * 75 / 1000000 + comp * 875 / 10000000)
    + (if s.runs 6 then row true 4000000 ((ingress + egress) * 75 / 10000000) else 0)
    + (if s.runs 46 then row true 1500000 (2500000 * s.getN Reg.AUDIO_COMPILE_RUNNING_OPERATIONS / limit) else 0)
    + row true 10000000 0 + row false 2000000 0

/-- ESTIMATE in W, to the nearest (`1110:02`, log entry 12). -/
def State.estimateW (s : State) : Nat := (2 * s.estimateUw + 1000000) / 2000000

/-- The cap check of R324, and while THERMAL_LIMIT is raised the refusal of every rise (R387): the change from `s` to
the candidate `c` is refused. -/
def powerRefuses (s c : State) : Bool :=
  (decide (s.estimateUw < c.estimateUw)) &&
    (decide (s.getN Reg.POWER_CAP * 1000000 < c.estimateUw) || s.get (Reg.FAULT_SOURCE_STATE 29) == 1)

end Sys2Proof.Machine
end

