-- ==== Sys2Proof/Machine/Wear.lean ====
section
/-! DEFINITION. Monitors, the Almanac, silent corrections, and the reading room's bookings
(19_ageing_and_maintenance.md, R386 to R399; R417 and POWER_OVER_CAP of 21_electrical_and_package.md). -/
namespace Sys2Proof.Machine

/-! ### Bookings -/

/-- A booking acts on this device: its SIDE names the own side or BOTH; a solo device acts on every booking (R393). -/
def State.bookingActs (s : State) (b : Nat) : Bool :=
  s.solo || s.get (Reg.BOOKING_SIDE b) == 2 || s.get (Reg.BOOKING_SIDE b) == s.get Reg.PAIRING_SIDE

/-- The resources a booking can name or cover (R394). -/
inductive Res
  | island (i : Nat) | serial (n : Nat) | fabric (l : Nat) | mac (m : Nat) | twinLane (k : Nat)
  | ddr (c : Nat) | hbm (h : Nat) | aes (x : Nat)
deriving DecidableEq, Repr

/-- The island that holds a resource (Table 1.1). -/
def resIsland : Res → Nat
  | .island i => i
  | .serial n => 7 + n / 8
  | .fabric l => 23 + l / 8
  | .mac m => 19 + m / 4
  | .twinLane _ => 31
  | .ddr c => 34 + c / 4
  | .hbm h => 32 + h
  | .aes _ => 46

/-- A booking's own fields name a resource. -/
def State.bookingNames (s : State) (b : Nat) : Res → Bool
  | .island i => bitOf (s.getN (Reg.BOOKING_ISLANDS b)) (islandBit i)
  | .serial n => bitOf (s.getN (Reg.BOOKING_SERIAL b)) n
  | .fabric l => bitOf (s.getN (Reg.BOOKING_FABRIC b)) l
  | .mac m => bitOf (s.getN (Reg.BOOKING_PORTS b)) m
  | .twinLane k => bitOf (s.getN (Reg.BOOKING_PORTS b)) (16 + k)
  | .ddr c => bitOf (s.getN (Reg.BOOKING_MEMORY b)) c
  | .hbm h => bitOf (s.getN (Reg.BOOKING_MEMORY b)) (16 + h)
  | .aes x => bitOf (s.getN (Reg.BOOKING_AES b)) x

/-- A booking would cover a resource: it names it, or names the island that holds it (R394). -/
def State.bookingReaches (s : State) (b : Nat) (r : Res) : Bool :=
  s.bookingNames b r || s.bookingNames b (.island (resIsland r))

/-- A RUNNING booking on this device covers a resource (R394). -/
def State.covers (s : State) (r : Res) : Bool :=
  (List.range 32).any (fun b => s.get (Reg.BOOKING_STATE b) == 2 && s.bookingActs b && s.bookingReaches b r)

/-- Every resource there is. -/
def allRes : List Res :=
  (List.range 47).map .island ++ (List.range 96).map .serial ++ (List.range 64).map .fabric ++ (List.range 16).map .mac
    ++ (List.range 2).map .twinLane ++ (List.range 16).map .ddr ++ (List.range 2).map .hbm ++ (List.range 64).map .aes

/-- The resources a kind may name (Table 19.8, R400). -/
def kindMayName (kind : Int) (r : Res) : Bool :=
  match r with
  | .island i => kind == 1 || kind == 2 || kind == 3 || kind == 4 || (kind == 9 && (i == 5 || i == 6))
  | .serial _ => kind == 1 || kind == 5 || kind == 6 || kind == 9
  | .fabric _ => kind == 1 || kind == 5 || kind == 6 || kind == 9
  | .mac _ => kind == 1 || kind == 5 || kind == 6 || kind == 9
  | .twinLane _ => kind == 1 || kind == 5 || kind == 6 || kind == 9
  | .ddr _ => kind == 1 || kind == 5 || kind == 7
  | .hbm _ => kind == 1 || kind == 5 || kind == 7
  | .aes x => kind == 1 || (kind == 9 && decide (32 ≤ x))

/-- CLASS of a booking (Table 19.9, R395): 0 NONE, 1 EGRESS, 2 ALL. -/
def State.bookingClass (s : State) (b : Nat) : Int :=
  let kind := s.get (Reg.BOOKING_KIND b)
  let named := allRes.filter (fun r => s.bookingNames b r)
  let mild (r : Res) : Bool :=
    match r with
    | .island i => i == 0 || i == 2 || i == 3 || i == 4 || i == 31 || (decide (23 ≤ i) && decide (i ≤ 30))
    | .fabric _ => true
    | .twinLane _ => !(s.bookingNames b (.twinLane 0) && s.bookingNames b (.twinLane 1))
    | _ => false
  let eg (r : Res) : Bool :=
    match r with
    | .island i => decide (19 ≤ i) && decide (i ≤ 22)
    | .mac _ => true
    | _ => false
  if !s.edge then 0
  else if kind = 1 ∨ kind = 6 ∨ kind = 9 then 0
  else if kind = 8 then 2
  else if named.all mild then 0
  else if named.all eg then 1 else 2

/-- The drain rule of R395, judged by the device the booking acts on, which alone knows its lanes: every fabric lane covered reads DRAINED,
and in the centre role those of X too (log entry 96). -/
def State.drainOk (s : State) (b : Nat) : Bool :=
  !s.bookingActs b || (List.range 64).all (fun l =>
    !(s.bookingReaches b (.fabric l) || (!s.edge && s.bookingNames b (.island 5))) || s.get (Reg.FAB_PATH_DRAINED l) == 1)

/-- The partner's HEALTH, if one arrived within 1 ms (R396). The device notes its arrival time. -/
def State.freshTwin (s : State) : Option HealthMsg :=
  if s.tickLf ≤ s.get Hid.healthAt + lfMs then s.twin else none

/-- The partner is lent, under neither SAFE nor RUN_ON, and in a carrying mode, by a HEALTH within 1 ms (R396, R405). -/
def State.partnerCarries (s : State) : Bool :=
  match s.freshTwin with
  | none => false
  | some h => h.loan == 1 && !h.safe && !h.runOn && modeCarries h.mode

/-- A booking names TW or both twin lanes (R396). -/
def State.namesTwinLink (s : State) (b : Nat) : Bool :=
  s.bookingNames b (.island 31) || (s.bookingNames b (.twinLane 0) && s.bookingNames b (.twinLane 1))

/-- HELD or RUNNING. -/
def State.bookingLive (s : State) (b : Nat) : Bool :=
  s.get (Reg.BOOKING_STATE b) == 1 || s.get (Reg.BOOKING_STATE b) == 2

/-- Two windows overlap, each from Ts to Ts + DURATION. -/
def windowsMeet (t d u e : Int) : Bool := decide (t < u + e) && decide (u < t + d)

/-- Ts: the first millisecond boundary at or after START, or at or after the acceptance (R392). -/
def State.bookingStartAt (s : State) (b : Nat) : Int :=
  let from_ := if s.get (Reg.BOOKING_START b) = 0 then s.nowFine else fineOfLt (s.get (Reg.BOOKING_START b))
  (from_ + lfMs * 4096 - 1) / (lfMs * 4096) * lfMs

/-- A booking that the condition of R396 needs and that fails it on this table: with windows as they stand, booking
`b` with start `ts`. -/
def State.bookingConflict (s : State) (b : Nat) (ts : Int) : Bool :=
  let d := s.get (Reg.BOOKING_DURATION b)
  let cls := s.bookingClass b
  (List.range 32).any (fun o =>
    o != b && s.bookingLive o && windowsMeet ts d (s.get (Hid.bookTs o)) (s.get (Reg.BOOKING_DURATION o)) &&
      (((s.get (Reg.BOOKING_SIDE o) == s.get (Reg.BOOKING_SIDE b) || s.get (Reg.BOOKING_SIDE o) == 2
          || s.get (Reg.BOOKING_SIDE b) == 2)
        && allRes.any (fun r => s.bookingReaches o r && s.bookingReaches b r))
      || (cls != 0 && s.get (Reg.BOOKING_CLASS o) != 0)
      || (cls != 0 && s.namesTwinLink o) || (s.get (Reg.BOOKING_CLASS o) != 0 && s.namesTwinLink b)))

/-- The health condition of a booking of CLASS other than NONE (R396): solo with OUTAGE set, or for each side it names the device of that
side PAIRED and its partner lent, carrying, and under neither SAFE nor RUN_ON, by a HEALTH within 1 ms. -/
def State.bookingHealthy (s : State) (b : Nat) : Bool :=
  if s.get (Reg.BOOKING_CLASS b) = 0 then true
  else if s.solo then bitOf (s.getN (Reg.BOOKING_FLAGS b)) 0
  else
    let side := s.get (Reg.BOOKING_SIDE b)
    (side == 1 - s.get Reg.PAIRING_SIDE || (s.get Reg.PAIRING_STATE == 4 && s.partnerCarries)) &&
      (side == s.get Reg.PAIRING_SIDE ||
        (s.lent && s.get Reg.SAFE_REACTION != 5 && s.get Reg.SAFE_REACTION != 4 && modeCarries (s.getN Reg.MODE_ACTIVE) &&
          (match s.freshTwin with
           | none => false
           | some h => h.pairing == 4)))

/-- The checks of SUBMIT in order (R392, R395, R396). -/
def State.submitStatus (s : State) (b : Nat) : Status :=
  let named := allRes.filter (fun r => s.bookingNames b r)
  let kind := s.get (Reg.BOOKING_KIND b)
  let st := s.get (Reg.BOOKING_START b)
  let d := s.get (Reg.BOOKING_DURATION b)
  let t := s.put (Reg.BOOKING_CLASS b) (s.bookingClass b)
  if s.bookingLive b then .busy
  else if kind = 0 ∨ (kind ≠ 8 ∧ named = []) ∨ named.any (fun r => !kindMayName kind r)
    ∨ d < lfSec ∨ 86400 * lfSec < d
    ∨ (st ≠ 0 ∧ (fineOfLt st < s.nowFine ∨ s.nowFine + 604800 * lfSec * 4096 < fineOfLt st))
    ∨ (bitOf (s.getN (Reg.BOOKING_FLAGS b)) 0 = true ∧ s.paired = true) then .range
  else if t.bookingConflict b (s.bookingStartAt b) || !t.drainOk b || !t.bookingHealthy b then .maintConflict
  else .ok

/-- SUBMIT accepted: HELD with its CLASS and window (R392). -/
def State.submit (s : State) (b : Nat) : State :=
  (((s.put (Reg.BOOKING_CLASS b) (s.bookingClass b)).put (Reg.BOOKING_STATE b) 1).put (Reg.BOOKING_RESULT b) 0).put
    (Hid.bookTs b) (s.bookingStartAt b)

/-- An injection entry's resource, by its point (Table 20.2). -/
def injResource (point : Int) (target : Nat) : Res :=
  if point = 1 then .fabric target else if point = 2 then .twinLane target else if point = 3 then .mac target
  else if point = 4 then .serial target else if point = 5 then .aes (32 + target)
  else if point = 6 then .island 5 else .island 6

/-- A RUNNING INJECT booking on the own side names a resource (R401). -/
def State.injectNamed (s : State) (r : Res) : Bool :=
  (List.range 32).any (fun b =>
    s.get (Reg.BOOKING_STATE b) == 2 && s.get (Reg.BOOKING_KIND b) == 9 && s.bookingActs b && s.bookingNames b r)

/-- The condition of R405: the partner carries, or the device is solo under a booking with OUTAGE. -/
def State.injectSafe (s : State) : Bool :=
  s.partnerCarries || (s.solo && (List.range 32).any (fun b =>
    s.get (Reg.BOOKING_STATE b) == 2 && s.get (Reg.BOOKING_KIND b) == 9 && bitOf (s.getN (Reg.BOOKING_FLAGS b)) 0))

/-- The state an injection entry reads: OFF, ARMED, ACTIVE or WAITING_TWIN (R401, R405). -/
def State.injectStateOf (s : State) (j : Nat) : Int :=
  let p := s.get (Reg.INJECT_POINT j)
  if s.get (Reg.INJECT_ENABLE j) = 0 then 0
  else if !s.injectNamed (injResource p (s.getN (Reg.INJECT_TARGET j))) then 1
  else if (p = 3 ∨ p = 4 ∨ p = 5 ∨ p = 8) ∧ s.injectSafe = false then 3
  else 2

/-- Injection entries follow their conditions: on entry to ACTIVE the index restarts and the register is loaded with
SEED (R401). -/
def State.refreshInject (s : State) : State :=
  s.each (List.range 64) (fun t j =>
    let n := t.injectStateOf j
    if t.get (Reg.INJECT_STATE j) = n then t
    else if n = 2 then
      ((t.put (Reg.INJECT_STATE j) 2).put (Hid.injIndex j) 0).put (Hid.injReg j) (t.get (Reg.INJECT_SEED j))
    else t.put (Reg.INJECT_STATE j) n)

/-- A RUNNING booking stops as at the end of its window, with a result (R393, R398). -/
def State.endBooking (s : State) (b : Nat) (st : Int) (r : Status) : State :=
  ((s.put (Reg.BOOKING_STATE b) st).put (Reg.BOOKING_RESULT b) (r.code : Nat)).refreshInject

/-- CANCEL: a HELD or RUNNING booking ends with RESULT OK (R393). -/
def State.cancelBooking (s : State) (b : Nat) : State :=
  if s.bookingLive b then s.endBooking b 5 .ok else s

/-- The RUNNING bookings whose condition fails stop with NOT_READY (R398). -/
def State.checkBookings (s : State) : State :=
  s.each (List.range 32) (fun t b =>
    if t.get (Reg.BOOKING_STATE b) = 2 ∧ t.bookingActs b = true ∧
        (t.bookingHealthy b = false ∨ t.drainOk b = false ∨ t.get Reg.SAFE_REACTION = 4 ∨ t.get Reg.SAFE_REACTION = 5)
    then t.endBooking b 5 .notReady else t)

/-- An ISOLATE restart of a covered island since Ts cut its activity short (R398). -/
def State.bookingCut (s : State) (b : Nat) : Bool :=
  (List.range 47).any (fun i => s.bookingReaches b (.island i) && s.get (Reg.ISLAND_CAUSE i) == 2 &&
    decide (s.get (Hid.bookTs b) ≤ lfOfLt (s.get (Reg.ISLAND_LAST_RESTART i))))

/-- Lane k of the eye monitors, as a resource a booking names (Table 19.1); none for CTLA, CTLB and SVC. -/
def eyeRes (k : Nat) : Option Res :=
  if k < 96 then some (.serial k) else if k < 112 then some (.mac (k - 96)) else if k < 176 then some (.fabric (k - 112))
  else if k < 178 then some (.twinLane (k - 176)) else none

/-- A RUNNING booking's activity completes (R393, R398, R289); `eyes` are the openings an EYE_SCAN found on the lanes it names. -/
def State.bookingDone (s : State) (b : Nat) (eyes : List (Nat × Nat × Nat)) : State :=
  let kind := s.get (Reg.BOOKING_KIND b)
  if s.get (Reg.BOOKING_STATE b) ≠ 2 ∨ s.bookingActs b = false ∨ kind = 1 ∨ kind = 9 then s
  else
    let t := if kind = 6 then
        s.each (eyes.filter (fun e => ((eyeRes e.1).map (s.bookingNames b)).getD false)) (fun t e =>
          ((t.put (Reg.EYE_SCAN_AT e.1) t.nowLT).put (Reg.EYE_SCAN_H e.1) e.2.1).put (Reg.EYE_SCAN_V e.1) e.2.2)
      else if kind = 7 then
        s.each ((List.range 18).filter (fun c => s.bookingNames b (if c < 16 then .ddr c else .hbm (c - 16))))
          (fun t c =>
            -- the repaired pages return to the spares (R289)
            let back : Nat := ((t.memRows.filter (fun r => r.1 == c)).map (fun r => r.2.2)).foldl (· + ·) 0
            let t := { t with memRows := t.memRows.filter (fun (r : Nat × Nat × Nat) => r.1 != c) }
            let t := t.put (Reg.MEM_STATS_SPARES c) (t.get (Reg.MEM_STATS_SPARES c) + back)
            (t.bumpBy (Reg.MEM_STATS_REPAIRED_ROWS c) (t.get (Reg.MEM_STATS_CANDIDATE_ROWS c))).put
              (Reg.MEM_STATS_CANDIDATE_ROWS c) 0)
      else s
    if t.bookingCut b then t.endBooking b 5 .notReady
    else t.endBooking b 3 .ok

/-- The end of a booking's window (R393). -/
def State.bookingWindowEnd (s : State) (b : Nat) : State :=
  let kind := s.get (Reg.BOOKING_KIND b)
  if s.get (Reg.BOOKING_STATE b) ≠ 2 ∨ s.bookingActs b = false ∨ s.now < s.get (Hid.bookTs b) + s.get (Reg.BOOKING_DURATION b) then s
  else if kind = 1 ∨ kind = 9 then s.endBooking b 3 .ok
  else s.endBooking b 5 .busy

/-- The bookings of the other side alone follow its own report of them: STATE from HEALTH, and RESULT, which HEALTH does not carry, OK for
DONE and a free value else (R399, log entry 96). -/
def State.adoptBookings (s : State) (h : HealthMsg) : State :=
  s.each (List.range 32) (fun t b =>
    let st := (h.states[b]?).getD 0
    if t.bookingActs b = false ∧ t.bookingLive b = true ∧ t.get (Reg.BOOKING_STATE b) < st ∧ st ≤ 5 then
      if st = 2 then t.put (Reg.BOOKING_STATE b) 2
      else ((t.drawn.put (Reg.BOOKING_STATE b) st).put (Reg.BOOKING_RESULT b) (if st = 3 then 0 else t.freeVal % 256 : Nat)).refreshInject
    else t)

/-! ### Monitors -/

/-- The island of a wear monitor (`D010[w]:01`). -/
def State.wearIsland (s : State) (w : Nat) : Nat := s.getN (Reg.WEAR_ISLAND w)

/-- Worst SLACK of island i over its monitors that have reported. -/
def State.worstSlack (s : State) (i : Nat) : Option Int :=
  (List.range 256).foldl (fun a w =>
    if s.wearIsland w = i ∧ s.get (Hid.wearSeen w) = 1 then
      (match a with
       | none => some (s.get (Reg.WEAR_SLACK w))
       | some v => some (min v (s.get (Reg.WEAR_SLACK w))))
    else a) none

/-- The lowest SLACK of any running island (R390). -/
def State.lowestSlack (s : State) : Option Int :=
  (List.range 47).foldl (fun a i =>
    if s.runs i then
      (match a, s.worstSlack i with
       | none, v => v
       | some v, none => some v
       | some v, some w => some (min v w))
    else a) none

/-- A timer that runs from the first instant a condition holds: its start in tick time, or 0 (never started at tick time 0). -/
def State.timeCond (s : State) (k : Key) (c : Bool) : State :=
  if c then (if s.get k = 0 then s.put k (max s.tickLf 1) else s) else s.put k 0

/-- A condition timed by `k` has held for `d`. -/
def State.heldFor (s : State) (k : Key) (d : Int) : Bool := s.get k != 0 && decide (s.get k + d ≤ s.tickLf)

/-- Wear monitors report; those of islands in reset or gated are not sampled (R386, `D100[i]:01`). -/
def State.wearSample (s : State) (readings : List (Nat × Nat × Int)) : State :=
  let t := s.each readings (fun t r =>
    if t.runs (t.wearIsland r.1) then ((t.put (Reg.WEAR_SLACK r.1) r.2.1).put (Reg.WEAR_SHIFT r.1) r.2.2).put (Hid.wearSeen r.1) 1 else t)
  let t := t.each (List.range 47) (fun t i =>
    match t.worstSlack i with
    | none => t
    | some v =>
      let p := v / 10 + 1
      (t.put (Reg.MARGIN_PLAN_SLACK i) v).put (Hid.perSlack i)
        (if t.get (Hid.perSlack i) = 0 then p else min p (t.get (Hid.perSlack i))))
  match t.lowestSlack with
  | none => t
  | some v => (t.timeCond Hid.slackLowFrom (decide (v < 300))).timeCond Hid.slackHighFrom (decide (600 < v))

/-- The mean of the 64 sensors less 0.05 °C/W × MEASURED, in 0.1 °C, rounded down (R420, log entry 94). -/
def State.lidOf (s : State) : Int :=
  ((List.range 64).foldl (fun a i => a + s.get (Reg.THERMAL_NOW i)) 0 - 32 * s.get Reg.POWER_MEASURED) / 64

/-- The island of a memory channel: D0 to D3 for the 16 DDR channels, H0 and H1 for the stacks. -/
def memIsland (k : Nat) : Nat := if k < 16 then 34 + k / 4 else 16 + k

/-- A channel has passed one of its limits in this interval: it refreshes at twice the normal rate (R390). -/
def State.memHot (s : State) (k : Nat) : State := (s.put (Hid.memOver k) 1).put (Hid.memFast k) 1

/-- Every channel whose island holds a sensor above 85 °C (R390, log entry 94). -/
def State.memTemps (s : State) : State :=
  s.each ((List.range 18).filter (fun k => (List.range 64).any (fun i =>
    s.getN (Reg.THERMAL_ISLAND i) == memIsland k && decide (850 < s.get (Reg.THERMAL_NOW i))))) (fun t k => t.memHot k)

/-- The thermal sensors of running islands are read; THERMAL_WARN and THERMAL_LIMIT are judged over all (R386, R387, R390, R420). -/
def State.thermalSample (s : State) (temps : List Int) : State :=
  let t := s.each (indexed 0 temps) (fun t p =>
    if t.runs (t.getN (Reg.THERMAL_ISLAND p.1)) then
      ((t.put (Reg.THERMAL_NOW p.1) p.2).put (Reg.THERMAL_MAX p.1) (max p.2 (t.get (Reg.THERMAL_MAX p.1)))).put
        (Hid.perTemp p.1) (max (p.2 + 10000) (t.get (Hid.perTemp p.1)))
    else t)
  let t := (t.put Reg.SUPPLY_LID t.lidOf).memTemps
  let now := (List.range 64).map (fun i => t.get (Reg.THERMAL_NOW i))
  let hot := now.foldl max (-10000)
  let t := t.timeCond Hid.thermFrom (decide (1000 ≤ hot))
  let t := if t.get Hid.thermHot = 0 then
      (if t.heldFor Hid.thermFrom lfSec then
        let i := (indexed 0 now).foldl (fun a p => if p.2 = hot ∧ a = 64 then p.1 else a) 64
        (t.put Hid.thermHot (i + 1 : Nat)).raiseCond 28
       else t)
    else if t.get (Reg.THERMAL_NOW (t.getN Hid.thermHot - 1)) < 970 then (t.put Hid.thermHot 0).endCond 28 else t
  if 1050 ≤ hot then t.raiseCond 29 else t.endCond 29

/-- The island of an eye monitor (Table 19.1). -/
def eyeIsland (k : Nat) : Nat :=
  if k < 96 then 7 + k / 8 else if k < 112 then 19 + (k - 96) / 4 else if k < 176 then 23 + (k - 112) / 8
  else if k < 178 then 31 else 0

/-- Eye monitors of running islands report each lane's margin; ADAPT_LIMIT reads the end of the trained range (R386, R390). -/
def State.eyeSample (s : State) (readings : List (Nat × Nat × Nat × Bool)) : State :=
  s.each (readings.filter (fun r => s.runs (eyeIsland r.1))) (fun t r =>
    let h : Int := r.2.1 + 1
    (((t.put (Reg.EYE_H_MARGIN r.1) r.2.1).put (Reg.EYE_V_MARGIN r.1) r.2.2.1).put (Reg.EYE_ADAPT_LIMIT r.1)
      (b2i r.2.2.2)).put (Hid.perEye r.1) (if t.get (Hid.perEye r.1) = 0 then h else min h (t.get (Hid.perEye r.1))))

/-! ### The Almanac -/

/-- POWERED as it stands (`D000:07`). -/
def State.powered (s : State) : Nat := s.getN Reg.ALMANAC_POWERED + (s.ticks - s.getN Hid.poweredTick) / 1000000000

/-- The interval record that ends now; a monitor not sampled in it counts with the value it holds (Table 19.3, R386, R388). -/
def State.intervalRec (s : State) : AlmRec :=
  { type := 1, seq := ((s.almIntervals.head?).map (fun r => (r.seq + 1) % 2 ^ 32)).getD 0
    at_ := if s.timeSet then s.nowLT.toNat else 0
    powered := s.powered
    avs := s.get Reg.MARGIN_CONTROL_AVS_OFFSET
    vdd := if s.get Hid.vddN = 0 then s.getN Reg.SUPPLY_VDD / 10 else s.getN Hid.vddSum / (10 * s.getN Hid.vddN)
    slack := (List.range 47).map (fun i =>
      min 255 (if s.get (Hid.perSlack i) = 0 then s.getN (Reg.MARGIN_PLAN_SLACK i) / 10 else s.getN (Hid.perSlack i) - 1))
    temp := (List.range 64).map (fun i => if s.get (Hid.perTemp i) = 0 then s.get (Reg.THERMAL_NOW i) else s.get (Hid.perTemp i) - 10000)
    eye := (List.range 181).map (fun k => if s.get (Hid.perEye k) = 0 then s.getN (Reg.EYE_H_MARGIN k) else s.getN (Hid.perEye k) - 1)
    mem := (List.range 18).map (fun k => min (2 ^ 32 - 1) (s.getN (Hid.perMem k)))
    powerMean := s.getN Hid.powSum / max 1 (s.getN Hid.powN)
    powerMax := s.getN Hid.powMax
    lid := s.get Reg.SUPPLY_LID }

/-- Element-wise combination of two lists. -/
def zipMin (a b : List Nat) : List Nat := List.zipWith min a b

/-- The day record of the newest 144 intervals: worst or summed values, and means where Table 19.3 names a mean. -/
def dayRec (seq : Nat) (l : List AlmRec) : Option AlmRec :=
  match l with
  | [] => none
  | r :: t =>
    let n := l.length
    some { r with
      type := 2, seq := seq
      vdd := (l.foldl (fun a x => a + x.vdd) 0) / n
      slack := t.foldl (fun a x => zipMin a x.slack) r.slack
      temp := t.foldl (fun a x => List.zipWith max a x.temp) r.temp
      eye := t.foldl (fun a x => zipMin a x.eye) r.eye
      mem := (t.foldl (fun a x => List.zipWith (· + ·) a x.mem) r.mem).map (fun v => min v (2 ^ 32 - 1))
      powerMean := (l.foldl (fun a x => a + x.powerMean) 0) / n
      powerMax := t.foldl (fun a x => max a x.powerMax) r.powerMax
      lid := t.foldl (fun a x => max a x.lid) r.lid }

/-- The time in 0.1 year until a slack fitted by least squares against the fourth root of the powered time falls to 3.00 % with `gain` more,
in 0.01 %: day records with slack in 0.1 % and powered-on seconds; a year is 31,557,600 s (R391, log entry 94). -/
def yearsFit (l : List (Nat × Nat)) (powered : Nat) (gain : Int) : Nat :=
  let n : Int := l.length
  let p : List (Int × Int) := l.map (fun r => ((realRoot4 r.2 : Nat), 10 * r.1))
  let sum (g : Int × Int → Int) : Int := p.foldl (fun a r => a + g r) 0
  let su := sum (fun r => r.1)
  let sy := sum (fun r => r.2)
  let d := n * sum (fun r => r.1 * r.1) - su * su
  let m := n * sum (fun r => r.1 * r.2) - su * sy
  let c := 300 - gain
  if sy * d - m * su + n * m * (realRoot4 powered : Nat) ≤ c * n * d then 0
  else if 0 ≤ m then 0xFFFF
  else
    let a := (sy * d - m * su - c * n * d) ^ 4
    let b := (n * -m) ^ 4 * 2 ^ 640
    let y := ((a - powered * b) * 10 / (31557600 * b)).toNat
    if 0xFFFE ≤ y then 0xFFFF else y

/-- YEARS of island i from the last 365 day records (R391): 0xFFFE with fewer than 30. The slack rises with the core voltage that is left
to give: AVS_OFFSET at +20 mV in bin 4. -/
def State.yearsOf (s : State) (i : Nat) : Int :=
  let l := (s.almDays.take 365).map (fun r => ((r.slack[i]?).getD 0, r.powered))
  if l.length < 30 then 0xFFFE
  else (yearsFit l s.powered
    (Config.slackGain i (200 - s.get Reg.MARGIN_CONTROL_AVS_OFFSET + 100 * (4 - s.get Reg.MARGIN_CONTROL_BIN))) : Nat)

/-- A memory channel, or a lane, of an island has work to propose (Table 19.5). -/
def State.hasRows (s : State) (i : Nat) : Bool :=
  (List.range 18).any (fun c => memIsland c == i && s.get (Reg.MEM_STATS_CANDIDATE_ROWS c) != 0)

/-- The proposal for island i: the first entry of Table 19.5 that applies (R391). -/
def State.proposalOf (s : State) (i : Nat) : Int :=
  let y := s.get (Reg.MARGIN_PLAN_YEARS i)
  let known := y != 0xFFFE
  let bin := s.get Reg.MARGIN_CONTROL_BIN
  if known && decide (y < 5) && bin == 4 then 6
  else if known && decide (y < s.get Reg.MARGIN_CONTROL_THRESHOLD) && bin == 4 then 5
  else if s.get Reg.MARGIN_CONTROL_AVS_OFFSET == 200 && s.heldFor Hid.slackLowFrom (600 * lfSec) && decide (bin < 4) then 4
  else if s.hasRows i then 3
  else if (List.range 181).any (fun k => eyeIsland k == i && s.get (Reg.EYE_ADAPT_LIMIT k) == 1) then 2
  else 0

/-- MARGIN_LOW holds while any island's YEARS lies below THRESHOLD (R391). -/
def State.marginJudge (s : State) : State :=
  let low := (List.range 47).filter (fun i =>
    s.get (Reg.MARGIN_PLAN_YEARS i) != 0xFFFE && decide (s.get (Reg.MARGIN_PLAN_YEARS i) < s.get Reg.MARGIN_CONTROL_THRESHOLD))
  match low with
  | [] => s.endCond 30
  | i :: _ => s.raiseCond 30 i

/-- The projection is refitted; MARGIN_LOW holds while any island's YEARS lies below THRESHOLD (R391). -/
def State.refit (s : State) : State :=
  (s.each (List.range 47) (fun t i => t.put (Reg.MARGIN_PLAN_YEARS i) (t.yearsOf i))).marginJudge

/-- The ten-minute period that begins now, if none has begun at this boundary: in Ledger time, or while it is UNSET in tick time from the
release of PORST_N (R388). -/
def State.almDue (s : State) : Option Int :=
  let x := if s.timeSet then s.now else s.tickLf
  let n := x / 31752000000000
  if x % 31752000000000 < 53 ∧ n ≠ 0 ∧ s.get Hid.almIndex ≠ n + 1 then some n else none

/-- An interval record is written, and after every 144th a day record; past 8,064 day records the oldest but the first 365 gives way (R388,
R390, R391). -/
def State.almanacInterval (s : State) : State :=
  let r := s.intervalRec
  let iv := (r :: s.almIntervals).take 8192
  let t := { s with almIntervals := iv }
  let t := (((t.put Reg.ALMANAC_INTERVALS (iv.length : Nat)).put Reg.ALMANAC_LAST r.at_).put Reg.ALMANAC_POWERED
    (s.powered : Nat)).put Hid.poweredTick ((s.getN Hid.poweredTick + (s.powered - s.getN Reg.ALMANAC_POWERED) * 1000000000 : Nat))
  let t := t.each (List.range 18) (fun t k =>
    ((t.put (Hid.memFast k) (t.get (Hid.memOver k))).put (Hid.memOver k) 0).put (Hid.perMem k) 0)
  let t := t.each (List.range 47) (fun t i => t.put (Hid.perSlack i) 0)
  let t := t.each (List.range 64) (fun t i => t.put (Hid.perTemp i) 0)
  let t := t.each (List.range 181) (fun t i => t.put (Hid.perEye i) 0)
  let t := ((((t.memTemps.put Hid.powSum 0).put Hid.powN 0).put Hid.powMax 0).put Hid.vddSum 0).put Hid.vddN 0
  if (r.seq + 1) % 144 = 0 then
    let seq := ((t.almDays.head?).map (fun d => d.seq + 1)).getD 0
    match dayRec seq (iv.take 144) with
    | none => t
    | some d =>
      let l := d :: t.almDays
      let l := if 8064 < l.length then l.take 7699 ++ l.drop 7700 else l
      ((({ t with almDays := l }).put Reg.ALMANAC_DAYS (l.length : Nat)).put Reg.ALMANAC_LAST r.at_).refit
  else t

/-- The ten-minute boundary (R388). -/
def State.almanacBoundary (s : State) : State :=
  match s.almDue with
  | none => s
  | some n => (s.put Hid.almIndex (n + 1)).almanacInterval

/-- The 512 bytes of a record (Table 19.3). -/
def almBytes (r : AlmRec) : List Nat :=
  let i16 (v : Int) : List Nat := beBytes 2 (fromSigned 16 v)
  let b := [r.type, 0, 0, 0] ++ beBytes 4 r.seq ++ beBytes 12 r.at_ ++ beBytes 8 r.powered ++ i16 r.avs
    ++ beBytes 2 r.vdd ++ r.slack.map (fun v => min v 255) ++ [0] ++ (r.temp.map i16).flatten ++ r.eye
    ++ [0, 0, 0, 0, 0] ++ (r.mem.map (beBytes 4)).flatten ++ beBytes 2 r.powerMean ++ beBytes 2 r.powerMax
    ++ i16 r.lid ++ List.replicate 36 0
  b ++ beBytes 4 (crc32c b)

/-- `D000:06` EXTRACT: 2,048 records of EXTRACT_TYPE from EXTRACT_FROM; those not held read as zero (R389). -/
def State.extract (s : State) : Nat :=
  let l := if s.get Reg.ALMANAC_EXTRACT_TYPE = 1 then s.almIntervals else s.almDays
  let f := s.getN Reg.ALMANAC_EXTRACT_FROM
  (List.range 2048).foldl (fun a i =>
    let r := (l.find? (fun r => r.seq == f + i)).map (fun r => beNat (almBytes r))
    a * 2 ^ 4096 + r.getD 0) 0

/-! ### Silent corrections and limits -/

/-- One silent voltage step of 2.5 mV, up or down, if R390 allows one now; a further one waits for its condition anew. Where the offset is
spent and a CLOCK_BIN is proposed, PROPOSED_BIN is the next bin (R391, log entry 94). -/
def State.avsStep (s : State) : State :=
  let up := s.heldFor Hid.slackLowFrom (600 * lfSec)
  let down := s.heldFor Hid.slackHighFrom (86400 * lfSec)
  let o := s.get Reg.MARGIN_CONTROL_AVS_OFFSET
  let bar := s.get (Hid.condOn 29) == 1 || s.get (Hid.condOn 31) == 1
    || s.get Reg.MARGIN_CONTROL_SILENT == 0
    || (List.range 32).any (fun b => s.get (Reg.BOOKING_STATE b) == 2 && s.get (Reg.BOOKING_KIND b) == 8)
    || (s.get Hid.avsStep2 != 0 && decide (s.tickLf < s.get Hid.avsStep2 - 1 + 3600 * lfSec))
  let d : Int := if up then 25 else if down then -25 else 0
  let t := s.put Reg.MARGIN_CONTROL_AVS_OFFSET (o + d)
  let v := s.get Reg.SUPPLY_BASE + 100 * s.get Reg.MARGIN_CONTROL_BIN + o + d
  if up = true ∧ o = 200 ∧ s.get Reg.MARGIN_CONTROL_BIN < 4 then
    s.put Reg.MARGIN_CONTROL_PROPOSED_BIN (s.get Reg.MARGIN_CONTROL_BIN + 1)
  else if bar ∨ d = 0 ∨ o + d < -200 ∨ 200 < o + d ∨ v < 6500 ∨ 8500 < v then s
  else
    ((((t.refreshTarget.bump Reg.MARGIN_CONTROL_STEPS).put Reg.MARGIN_CONTROL_LAST_STEP s.nowLT).put Hid.avsStep2
      (s.get Hid.avsStep1)).put Hid.avsStep1 (s.tickLf + 1)).put (if up then Hid.slackLowFrom else Hid.slackHighFrom) 0

/-- Measured VDD, the mean of the last second, is judged (R415, R417). -/
def State.avsJudge (s : State) (vdd : Nat) : State :=
  let t := ((s.put Reg.SUPPLY_VDD vdd).bumpBy Hid.vddSum vdd).bumpBy Hid.vddN 1
  let off := decide ((vdd : Int) < s.get Reg.SUPPLY_TARGET - 100) || decide (s.get Reg.SUPPLY_TARGET + 100 < vdd)
  let t := t.timeCond Hid.avsOffFrom off
  if t.heldFor Hid.avsOffFrom lfSec || decide (vdd < 6500) || decide (8500 < vdd) then t.raiseCond 31 else t.endCond 31

/-- MEASURED is judged against CAP (R324, R418). -/
def State.powerJudge (s : State) (watts : Nat) : State :=
  let t := (((s.put Reg.POWER_MEASURED watts).bumpBy Hid.powSum watts).bumpBy Hid.powN 1).put Hid.powMax
    (max (watts : Int) (s.get Hid.powMax))
  let t := t.timeCond Hid.overCapFrom (decide (s.get Reg.POWER_CAP < watts))
  if t.heldFor Hid.overCapFrom lfSec then t.raiseCond 32 else t.endCond 32

end Sys2Proof.Machine
end

