-- ==== Sys2Proof/Machine/Time.lean ====
section
/-! DEFINITION. Ledger time: the counter, its steps, the servo, conversions, stamps (03_ledger_time.md, R54 to R72). -/
namespace Sys2Proof.Machine

/-! ### The counter -/

/-- Tick t carries the residue unit: t mod 25 is 3, 6, 9, 12, 15, 18, 21 or 24 (R56). -/
def residue (t : Nat) : Nat := if 8 * t / 25 < 8 * (t + 1) / 25 then 1 else 0

/-- One tick of the counter: I × 2⁻³² lf and the residue (R56), with a step of `amount` leaves added on it (R63). -/
def State.tickWith (s : State) (amount : Int) : State :=
  { s with
    ledger := ((s.ledger : Int) + s.get Reg.TIME_INCREMENT + residue s.ticks + amount * 2 ^ 32).toNat
    ticks := s.ticks + 1 }

/-- The largest whole leaf count an LT can hold: the Seconds field is 48 bits (Table 0.4). -/
def lfLimit : Int := 2 ^ 48 * lfSec

/-- A step whose result lies within the range of an LT (R63). -/
def State.stepFits (s : State) (amount : Int) : Bool :=
  decide (0 ≤ (s.ledger : Int) + amount * 2 ^ 32) && decide ((s.ledger : Int) + amount * 2 ^ 32 < lfLimit * 2 ^ 32)

/-- SLIP reads 1 while TIME reads 1 and TIME_STATE reads SET (Table 15.2). -/
def State.refreshSlipBit (s : State) : State := s.setReady 7 (s.ready 2 && s.timeSet)

/-- The record of a request in `2022` (R63). LAST_AMOUNT is a SPAN, so an exempt first step beyond the range of a SPAN is recorded as
the nearest value in it; the spec states no other (DESIGN CHOICE, log entry 75). -/
def State.recordStep (s : State) (amount result source : Int) : State :=
  (((s.put Reg.STEP_STATUS_LAST_AMOUNT (clampInt (-2 ^ 63) (2 ^ 63 - 1) amount)).put Reg.STEP_STATUS_RESULT result).put
    Reg.STEP_STATUS_AT s.nowLT).put Reg.STEP_STATUS_SOURCE source

/-- A step is applied on the tick that follows: recorded after the step, TIME_STEPPED raised (R63). The exempt first step sets
TIME_STATE (R62); a mirrored AMOUNT that reaches a twin still UNSET is applied as any other and leaves it UNSET (DEDUCED, log
entry 76). -/
def State.applyStep (s : State) (amount result source : Int) : State :=
  (((s.tickWith amount).recordStep amount result source).put Reg.TIME_STATE
    (if result = 4 then 1 else s.get Reg.TIME_STATE)).refreshSlipBit.raise 9

/-- A step is refused: recorded, counted, TIME_STEP_REFUSED raised (R63). -/
def State.refuseStep (s : State) (amount source : Int) : State :=
  ((s.recordStep amount 2 source).bump Reg.STEP_STATUS_REFUSED_COUNT).raise 8

/-- The status a write of AMOUNT meets (R63): RANGE outside the LT, STEP_REFUSED over the limit, LOCKED_OUT for a
forced step over the limit without a booking on TIME. -/
def State.stepStatus (s : State) (amount : Int) (force : Bool) : Status :=
  let beyond := decide (s.get Reg.STEP_LIMIT < amount.natAbs)
  if beyond && force && !s.covers (.island 1) then .lockedOut
  else if !s.stepFits amount then .range
  else if beyond && !force then .stepRefused
  else .ok

/-- A write of AMOUNT that passes the earlier checks takes effect, or is refused and recorded (R63). -/
def State.stepWrite (s : State) (amount : Int) (force : Bool) : State :=
  match s.stepStatus amount force with
  | .ok => s.applyStep amount (if s.get Reg.STEP_LIMIT < amount.natAbs then 3 else 1) 1
  | .stepRefused => s.refuseStep amount 1
  | _ => s

/-- A change of increment is noted for the mean of HOLDING (Table 3.4). -/
def State.setIncrement (s : State) (v : Int) : State :=
  { (s.put Reg.TIME_INCREMENT v) with
    incLog := (s.ticks, s.getN Reg.TIME_INCREMENT) :: s.incLog.filter (fun p => decide (s.ticks < p.1 + 64000000000)) }

/-! ### The servo -/

/-- The servo runs: TIME stamps for it and the Keeper, which holds it, is up (R16, R65). -/
def State.servoUp (s : State) : Bool := s.up 1 && s.up 0

/-- A port of `2040` takes part in PTP: ENABLE reads 1 and, for a network MAC, the port mode in force lists it (R65, R190). -/
def State.ptpOn (s : State) (n : Nat) : Bool :=
  s.get (Reg.PTP_PORT_ENABLE n) == 1 && (decide (n < 3) || s.get (Reg.MAC_ACTIVE (n - 3)) == 1)

/-- The link of a port of `2040` is up. -/
def State.ptpLink (s : State) (n : Nat) : Bool :=
  if n < 3 then s.ready (51 + n) else s.get (Reg.MAC_LINK (n - 3)) == 2

/-- PORT_STATE as it reads: DISABLED where the port takes no part (R190), FAULTY while its link is down, else what the best master
clock algorithm has made of it, LISTENING before it has (DEDUCED, log entry 77). -/
def State.portState (s : State) (n : Nat) : Int :=
  if s.ptpOn n = false then 0
  else if s.ptpLink n = false then 5
  else if s.get (Reg.PTP_PORT_PORT_STATE n) = 0 then 1 else s.get (Reg.PTP_PORT_PORT_STATE n)

/-- The servo's own step (R62, R65): exempt while UNSET, refused over the limit or outside the LT range. -/
def State.servoStep (s : State) (offset : Int) : State :=
  if !s.stepFits offset then
    ((s.refuseStep offset 0).put Reg.STEP_STATUS_PENDING_OFFSET offset).put Reg.DISCIPLINE_SERVO_STATE 4
  else if !s.timeSet then (s.applyStep offset 4 0).put Reg.DISCIPLINE_SERVO_STATE 2
  else if s.get Reg.STEP_LIMIT < offset.natAbs then
    ((s.refuseStep offset 0).put Reg.STEP_STATUS_PENDING_OFFSET offset).put Reg.DISCIPLINE_SERVO_STATE 4
  else (s.applyStep offset 1 0).put Reg.DISCIPLINE_SERVO_STATE 2

/-- The servo begins on a master: ACQUIRING, with 8 Sync intervals to measure (R65). -/
def State.acquire (s : State) : State :=
  ((s.put Reg.DISCIPLINE_SERVO_STATE 1).put Hid.syncCount 0).put Hid.holdInc (s.get Reg.TIME_INCREMENT)

/-- The best master clock algorithm has a new master on a port that takes part: SELECTED_PORT and MASTER change, the servo acquires
(R65). The port selected before, if another, has lost to a better clock: PASSIVE (log entry 77). -/
def State.masterSelected (s : State) (port clockId : Nat) : State :=
  if s.ptpOn port = false then s
  else
    let old := s.get Reg.DISCIPLINE_SELECTED_PORT
    let fresh := old != (port : Int) || s.get Hid.lastClockId != (clockId : Int)
    let t := s.when (old != 255 && old != (port : Int)) (fun t => t.put (Reg.PTP_PORT_PORT_STATE old.toNat) 4)
    let t := (((t.put Reg.DISCIPLINE_SELECTED_PORT port).put (Reg.PTP_PORT_MASTER port) clockId).put Hid.lastClockId
      clockId).when fresh (fun t => t.put (Reg.PTP_PORT_PORT_STATE port) 2)
    if fresh && s.get Reg.DISCIPLINE_OWNER == 0 then t.acquire else t

/-- After 8 Sync intervals the servo acts by its offset (Table 3.4, ACQUIRING). -/
def State.servoDecide (s : State) : State :=
  let o := s.get Reg.DISCIPLINE_OFFSET
  if s.get Reg.DISCIPLINE_OWNER ≠ 0 ∨ s.get Reg.DISCIPLINE_SERVO_STATE ≠ 1 ∨ s.get Hid.syncCount < 8 then s
  else
    let t := s.put (Reg.PTP_PORT_PORT_STATE (s.getN Reg.DISCIPLINE_SELECTED_PORT)) 3
    if s.timeSet ∧ o.natAbs ≤ s.get Reg.DISCIPLINE_SLEW_THRESHOLD then t.put Reg.DISCIPLINE_SERVO_STATE 2
    else
      let u := t.servoStep o
      if u.get Reg.DISCIPLINE_SERVO_STATE = 4 then u.setIncrement (s.get Hid.holdInc) else u

/-- The mean increment over the last 64 s: each increment weighted by the ticks it was in force (Table 3.4,
HOLDING), to the nearest unit. -/
def State.meanIncrement (s : State) : Int :=
  let start := s.ticks - min s.ticks 64000000000
  let step (a : Nat × Nat × Nat) (p : Nat × Nat) : Nat × Nat × Nat :=
    -- a: (the later bound, the sum, the increment in force before that bound is p's)
    let lo := max start p.1
    (min a.1 lo, a.2.1 + a.2.2 * (a.1 - lo), p.2)
  let r := s.incLog.foldl step (s.ticks, 0, s.getN Reg.TIME_INCREMENT)
  let sum := r.2.1 + r.2.2 * (r.1 - start)
  let n := s.ticks - start
  if n = 0 then s.get Reg.TIME_INCREMENT else ((2 * sum + n) / (2 * n) : Nat)

/-- Announce receipt timeout on the selected port with no other master qualified: no port is selected any more, and a servo that
follows a master goes to HOLDING (Table 3.4). SELECTED_PORT reads none and the clockIdentity is forgotten, so the same master on its
return counts as new (DEDUCED, log entry 78). -/
def State.announceTimeout (s : State) : State :=
  let p := s.get Reg.DISCIPLINE_SELECTED_PORT
  if p = 255 then s
  else
    let t := ((s.put (Reg.PTP_PORT_PORT_STATE p.toNat) 1).put Reg.DISCIPLINE_SELECTED_PORT 255).put Hid.lastClockId 0
    if s.get Reg.DISCIPLINE_OWNER = 0 then (t.setIncrement s.meanIncrement).put Reg.DISCIPLINE_SERVO_STATE 3 else t

/-- OWNER changes: the increment stays; CONTROLLER idles the servo; SERVO takes the selected master as new (R59, R65). -/
def State.ownerWrite (s : State) (v : Int) : State :=
  let t := s.put Reg.DISCIPLINE_OWNER v
  if v = 1 then t.put Reg.DISCIPLINE_SERVO_STATE 0
  else if s.get Reg.DISCIPLINE_OWNER = v then t
  else if s.get Reg.DISCIPLINE_SELECTED_PORT ≠ 255 then t.acquire
  else t.put Reg.DISCIPLINE_SERVO_STATE 0

/-! ### Conversions (R66 to R69) -/

/-- Nanoseconds to leaves: q in 2⁻¹⁶ ns to u in 1/4,096 lf, to the nearest, ties to even (R66). -/
def nsToLf (q : Nat) : Nat := divNearestEven (q * 1323) 400
/-- Leaves to nanoseconds: u in 1/4,096 lf to q in 2⁻¹⁶ ns (R67). -/
def lfToNs (u : Nat) : Nat := divNearestEven (u * 400) 1323
/-- A signed interval: its magnitude is rounded and its sign kept (R66). -/
def nsToLfSigned (q : Int) : Int := if 0 ≤ q then (nsToLf q.natAbs : Int) else -(nsToLf q.natAbs : Int)

/-- The time a PTP message carries, in 1/4,096 lf since the epoch (R66). -/
def ptpTime (m : PtpMsg) : Int :=
  (m.secs : Int) * lfSec * 4096 + nsToLf (m.nanos * 65536) + nsToLfSigned m.correction

/-- The seconds, whole nanoseconds and the remainder in 2⁻¹⁶ ns of a time in 1/4,096 lf (R67, R68), with the carry of
Table 3.5. -/
def ptpFields (u : Nat) : Nat × Nat × Nat :=
  let sec := u / (52920000000 * 4096)
  let q := lfToNs (u % (52920000000 * 4096))
  if 1000000000 ≤ q / 65536 then (sec + 1, 0, 0) else (sec, q / 65536, q % 65536)

/-- A truncated stamp of k bits restored to the nearest full count, of two equally near the earlier (R69). -/
def restoreStamp (k : Nat) (st now : Int) : Int :=
  let m : Int := 2 ^ k
  let a := now - (now - st) % m            -- the latest candidate not after now
  if (now - st) % m * 2 ≤ m then a else a + m

/-! ### Stamps and PTP -/



/-- The stamp a port takes now: Ledger time with the port's ASYMMETRY added (R70). -/
def State.portStamp (s : State) (n : Nat) : Int := s.nowFine + s.get (Reg.PTP_PORT_ASYMMETRY n) * 4096

/-- The message is the Follow_Up of the two-step Sync that waits on the port (R71). -/
def State.ptpFollows (s : State) (n : Nat) (m : PtpMsg) : Bool :=
  m.kind == 2 && s.get (Hid.ptpWait n) == 1 && s.get (Hid.ptpSeq n) == (m.seq : Int)

/-- A PTP message takes part in a servo's measurement: t1 and t2 from Sync and its Follow_Up, t4 from Delay_Resp; the mean path delay
follows end to end (R70, R71). correctionFields enter as IEEE 1588-2019 has them: those of a Sync and its Follow_Up are added to t1,
that of a Delay_Resp is taken from t4 (PRESUMED, log entry 79). A Follow_Up that matches no Sync, and a Delay_Resp that answers no
request, are no measurement. -/
def State.ptpMeasure (s : State) (n : Nat) (m : PtpMsg) : State :=
  if m.kind = 0 then
    (((s.put (Hid.ptpT1 n) (ptpTime m)).put (Hid.ptpT2 n) (s.portStamp n)).put (Hid.ptpSeq n) m.seq).put (Hid.ptpWait n) 0
  else if m.kind = 1 then
    (((s.put (Hid.ptpT2New n) (s.portStamp n)).put (Hid.ptpCorr n) (nsToLfSigned m.correction)).put (Hid.ptpSeq n) m.seq).put
      (Hid.ptpWait n) 1
  else if m.kind = 2 then
    (if s.ptpFollows n m then
      ((s.put (Hid.ptpT1 n) (ptpTime m + s.get (Hid.ptpCorr n))).put (Hid.ptpT2 n) (s.get (Hid.ptpT2New n))).put (Hid.ptpWait n) 0
     else s)
  else if s.get (Hid.ptpReqSeq n) = m.seq then
    let t4 := ptpTime m - 2 * nsToLfSigned m.correction
    let d := (s.get (Hid.ptpT2 n) - s.get (Hid.ptpT1 n) + (t4 - s.get (Hid.ptpT3 n))) / 2
    s.put (Reg.PTP_PORT_MEAN_PATH_DELAY n) (d / 4096)
  else s

/-- Slave minus master on a port, in whole leaves: t2 − t1 − mean path delay. -/
def State.portOffset (s : State) (n : Nat) : Int :=
  (s.get (Hid.ptpT2 n) - s.get (Hid.ptpT1 n)) / 4096 - s.get (Reg.PTP_PORT_MEAN_PATH_DELAY n)

/-- The range of TIME_INCREMENT (R58). -/
def incLo : Int := 0x34E4BF0996
def incHi : Int := 0x34F24B33DA

/-- 10 ppm of the nominal rate, 0.000529 2 lf per tick, in units of the increment (Table 3.4, TRACKING). -/
def closeLimit : Int := 2272896

/-- The servo has measured its master's rate: the increment that matches it, within the range of R58. The filter is Osviop's, so the
value is free (log entry 6). -/
def State.rateMeasured (s : State) : State := (s.put Hid.rateMeas (incLo + (s.freeVal : Int) % (incHi - incLo + 1))).drawn

/-- The increment a tracking servo steers to: the measured rate, and at most 10 ppm more towards closing the offset, in which `draw` is
free (Table 3.4, log entry 6); never outside the range of R58. -/
def steered (rate offset : Int) (draw : Nat) : Int :=
  let close : Int := (draw : Int) % (closeLimit + 1)
  clampInt incLo incHi (if 0 < offset then rate + close else if offset < 0 then rate - close else rate)

/-- A measured offset reaches the servo: it counts Sync intervals while ACQUIRING, steers while TRACKING, and leaves
REFUSED when the offset falls within the limit (Table 3.4). PENDING_OFFSET keeps its last value once the servo has left REFUSED
(DEDUCED, log entry 80). -/
def State.servoFeed (s : State) : State :=
  let o := s.get Reg.DISCIPLINE_OFFSET
  let st := s.get Reg.DISCIPLINE_SERVO_STATE
  if st = 1 then s.put Hid.syncCount (s.get Hid.syncCount + 1)
  else if st = 2 then
    (if s.get Reg.DISCIPLINE_SLEW_THRESHOLD < o.natAbs then s.acquire
     else
      let t := s.rateMeasured
      (t.setIncrement (steered (t.get Hid.rateMeas) o t.freeVal)).drawn)
  else if st = 4 then
    (if o.natAbs ≤ s.get Reg.STEP_LIMIT ∧ s.stepFits o then s.acquire
     else s.put Reg.STEP_STATUS_PENDING_OFFSET o)
  else s

/-- A PTP event message of the port's domain is received, stamped and fed to the servo (R65, R70, R71). Its offset is measured at a
one-step Sync and at the Follow_Up of a two-step one. -/
def State.ptpRx (s : State) (n : Nat) (m : PtpMsg) : State :=
  if s.ptpOn n = false ∨ s.up 1 = false ∨ s.get (Reg.PTP_PORT_DOMAIN n) ≠ m.domain then s
  else
    let t := (s.ptpMeasure n m).put (Hid.ptpVia n) m.via
    if m.kind ≠ 0 ∧ s.ptpFollows n m = false then t
    else
      let t := t.put (Reg.PTP_PORT_PORT_OFFSET n) (t.portOffset n)
      if t.get Reg.DISCIPLINE_SELECTED_PORT = n ∧ t.get Reg.DISCIPLINE_OWNER = 0 ∧ t.up 0 then
        (t.put Reg.DISCIPLINE_OFFSET (-(t.portOffset n))).servoFeed
      else t

/-- What becomes of the UDP checksum of a Delay_Req (R71). -/
def udpSum (oneStep : Bool) (via : Nat) : UdpSum :=
  if via = 2 then .absent else if !oneStep then .plain else if via = 1 then .corrected else .zero

/-- The Delay_Req of sequence `seq` as it leaves port n now: ONE_STEP carries the transmit time rounded down to nanoseconds, with the
remainder in correctionField, TWO_STEP zero (R68, R71). -/
def State.delayReqFrame (s : State) (n seq : Nat) : Packet :=
  let one := s.get (Reg.PTP_PORT_STEP_MODE n) == 1
  let f := if one then ptpFields (s.portStamp n).toNat else (0, 0, 0)
  .delayReq seq f.1 f.2.1 f.2.2 (s.getN (Reg.PTP_PORT_DOMAIN n)) (s.getN (Hid.ptpVia n)) (udpSum one (s.getN (Hid.ptpVia n)))

/-- The bytes of a Delay_Req from destination address to FCS, without a tag: 44 of PTP, and 2 appended over IPv6, with their headers
(IEEE 1588-2019; PRESUMED, log entry 79). -/
def delayReqBytes (via : Nat) : Nat := if via = 2 then 62 else if via = 1 then 112 else 90

/-- The servo sends a Delay_Req, and the stamp of R70 is kept as t3 (R71). A control port sends at once; a network MAC sends it in
class 7, in its turn at the MAC (R198, R203), and is stamped there. -/
def State.delayReq (s : State) (n : Nat) : State :=
  if s.ptpOn n = false ∨ s.servoUp = false ∨ s.ptpLink n = false then s
  else
    let seq := (s.getN (Hid.ptpReqSeq n) + 1) % 65536
    let t := s.put (Hid.ptpReqSeq n) seq
    if n < 3 then (t.put (Hid.ptpT3 n) (s.portStamp n)).sendFrame (16 + n) 7 (t.delayReqFrame n seq)
    else
      { t with txQueue := t.txQueue ++ [⟨n - 3, 7, s.now, 0, s.frameBytes (n - 3) (delayReqBytes (s.getN (Hid.ptpVia n))), t.delayReqFrame n seq, false⟩] }

/-! ### The twin's time, captures -/

/-- A TIME message: the twin's Ledger time, with the lane delay measured in training subtracted, against this device's (R60, R189). -/
def State.timeMessage (s : State) (lt : Nat) : State :=
  (s.put Hid.twinStamp (lfOfLt lt - s.get Reg.TWIN_LINK_DELAY - s.now)).put Hid.twinStampNew 1

/-- Every 1 ms the two Ledger times are compared; TWIN_TIME_OFFSET holds from the end of a second over 100 ns and ends
at a comparison within it (R60). -/
def State.twinCompare (s : State) : State :=
  if s.twinUp = false ∨ s.get Hid.twinStampNew = 0 then s
  else
    let d := s.get Hid.twinStamp
    let t := (s.put Reg.DISCIPLINE_TWIN_OFFSET d).timeCond Hid.twinOver (decide (5292 < d.natAbs))
    if t.heldFor Hid.twinOver lfSec then t.raiseCond 7 else if d.natAbs ≤ 5292 then t.endCond 7 else t

/-- An edge on a capture input is stamped into LAST and counted when EDGE names its direction (R72). -/
def State.capture (s : State) (n : Nat) (rising : Bool) (stamp : Int) : State :=
  let e := s.get (Reg.TIMESTAMP_CAPTURE_EDGE n)
  if s.up 1 && (e == 3 || (e == 1 && rising) || (e == 2 && !rising)) then
    (s.put (Reg.TIMESTAMP_CAPTURE_LAST n) stamp).bump (Reg.TIMESTAMP_CAPTURE_COUNT n)
  else s

/-- The stamp of a frame pulse of HA or HB, taken at the rising edge of HSA_F or HSB_F whatever EDGE says (R72, R88; log entry 54). -/
def State.pulseSeen (s : State) (n : Nat) (rising : Bool) : State :=
  if rising && s.up 1 && (n == 1 || n == 2) then s.put (Hid.pulseStamp (n - 1)) (s.now + 1) else s

/-- TIME_SET of the service port: the exempt first step, while Ledger time is UNSET (R62, R438). -/
def State.timeSetStep (s : State) (amount : Int) : State := s.applyStep amount 4 2

end Sys2Proof.Machine
end

