-- ==== Sys2Proof/Machine/Ref.lean ====
section
/-! DEFINITION. Reference selection, holdover and rasters (04_reference_unit.md, R73 to R90). -/
namespace Sys2Proof.Machine

/-! ### The unit -/

/-- The parameters of the reference block in force that no object of the Catalogue shows; before a Keeper has booted an image, the
defaults of Table 4.2 (R75, log entry 7). -/
def State.refPar (s : State) (k : Key) (dflt : Int) : Int := if s.get k = 0 then dflt else s.get k

/-- Seconds of the qualification window (Table 4.2). -/
def State.qualWindow (s : State) : Int := s.refPar Hid.refWindow 10
/-- The disagreement threshold in parts in 10¹² (Table 4.2). -/
def State.disThreshold (s : State) : Int := s.refPar Hid.refThreshold 50000
/-- The frequency slew limit in parts in 10¹² per second (Table 4.2). -/
def State.slewLimit (s : State) : Int := s.refPar Hid.refSlew 100000

/-- The FX lane: the lowest fabric lane that is trained and whose F island is ready, plus 1; 0 none (R74). -/
def State.fxLaneOf (s : State) : Nat :=
  match (List.range 64).find? (fun l =>
    s.up (23 + l / 8) && (s.get (Reg.FAB_LANE_STATE l) == 2 || s.get (Reg.FAB_LANE_STATE l) == 3)) with
  | none => 0
  | some l => l + 1

/-- LX is present under a TRACKING servo; FX while an FX lane exists and has not changed (R74). -/
def State.candidatePossible (s : State) (c : Nat) : Bool :=
  if c = 3 then s.get Reg.DISCIPLINE_OWNER == 0 && s.get Reg.DISCIPLINE_SERVO_STATE == 2
  else if c = 4 then s.fxLaneOf != 0 && s.get Hid.fxLane == (s.fxLaneOf : Int)
  else true

/-- A candidate becomes ABSENT: counted, its measurements dropped (R73, R77). -/
def State.refAbsent (s : State) (c : Nat) : State :=
  let st := s.get (Reg.REF_CANDIDATE_STATUS c)
  if st = 0 ∨ st = 1 then s.put (Hid.refClear c) 0
  else
    { ((((s.put (Reg.REF_CANDIDATE_STATUS c) 1).bump (Reg.REF_CANDIDATE_LOSSES c)).put (Hid.refClear c) 0).put
      (Hid.refQual c) 0) with
      refMeas := (indexed 0 s.refMeas).map (fun (p : Nat × List Int) => if p.1 = c then [] else p.2) }

/-- The mean of a list of measurements, rounded down to whole parts in 10¹² (R76; the rounding is the model's, DESIGN CHOICE, log
entry 81). -/
def meanInt (l : List Int) : Int := if l = [] then 0 else l.foldl (· + ·) 0 / (l.length : Int)

/-- The measurements held for a candidate. -/
def State.measOf (s : State) (c : Nat) : List Int := (s.refMeas[c]?).getD []

/-- One candidate's measurement is noted: OFFSET is the mean of the last ten (R76). -/
def State.noteMeas (s : State) (c : Nat) (v : Int) : State :=
  let base := if s.refMeas.length < 5 then s.refMeas ++ List.replicate (5 - s.refMeas.length) [] else s.refMeas
  let l := (v :: (base[c]?).getD []).take 10
  ({ s with refMeas := (indexed 0 base).map (fun (p : Nat × List Int) => if p.1 = c then l else p.2) }).put
    (Reg.REF_CANDIDATE_OFFSET c) (meanInt l)

/-- A candidate's status follows its measurement (Table 4.3, R77). -/
def State.refStatus (s : State) (c : Nat) (clear : Bool) (v : Int) : State :=
  let st := s.get (Reg.REF_CANDIDATE_STATUS c)
  let tol := s.get (Reg.REF_CANDIDATE_TOLERANCE c)
  if s.get (Reg.REF_CANDIDATE_RANK c) = 0 then s.put (Reg.REF_CANDIDATE_STATUS c) 0
  else if !(clear && s.candidatePossible c) then s.refAbsent c
  else if st = 1 then
    (if s.get (Hid.refClear c) = 0 then s.put (Hid.refClear c) 1
     else ((s.put (Reg.REF_CANDIDATE_STATUS c) 2).put (Hid.refClear c) 0).put (Hid.refQual c) 0)
  else
    let t := s.noteMeas c v
    let off := t.get (Reg.REF_CANDIDATE_OFFSET c)
    if st = 2 then
      (if v.natAbs ≤ tol then
        (if s.qualWindow ≤ s.get (Hid.refQual c) + 1 then
          ((t.put (Reg.REF_CANDIDATE_STATUS c) 3).put (Reg.REF_CANDIDATE_QUALIFIED_SINCE c) t.nowLT).put (Hid.refQual c) 0
         else t.put (Hid.refQual c) (s.get (Hid.refQual c) + 1))
       else t.put (Hid.refQual c) 0)
    else if st = 3 then
      (if 2 * tol < v.natAbs then t.refAbsent c
       else if tol < off.natAbs then (t.put (Reg.REF_CANDIDATE_STATUS c) 4).raise 10 0 c
       else t)
    else if off.natAbs ≤ tol then (t.put (Reg.REF_CANDIDATE_STATUS c) 2).put (Hid.refQual c) 0
    else t

/-- The pairs a < b of the five candidates. -/
def refPairs : List (Nat × Nat) :=
  [(0, 1), (0, 2), (0, 3), (0, 4), (1, 2), (1, 3), (1, 4), (2, 3), (2, 4), (3, 4)]

/-- QUALIFIED. -/
def State.refQualified (s : State) (c : Nat) : Bool := s.get (Reg.REF_CANDIDATE_STATUS c) == 3

/-- Two QUALIFIED candidates of equal rank whose OFFSETs differ by more than the threshold (R79). -/
def State.refApart (s : State) (a b : Nat) : Bool :=
  decide (s.disThreshold < (s.get (Reg.REF_CANDIDATE_OFFSET a) - s.get (Reg.REF_CANDIDATE_OFFSET b)).natAbs)

/-- The disagreement of each pair, with its whole window to agree again; DISAGREE and its fault (R79). -/
def State.refDisagree (s : State) (measured : Bool) : State :=
  let t := s.each refPairs (fun t p =>
    let k := Hid.pairDis (5 * p.1 + p.2)
    let same := t.refQualified p.1 && t.refQualified p.2 &&
      t.get (Reg.REF_CANDIDATE_RANK p.1) == t.get (Reg.REF_CANDIDATE_RANK p.2)
    if !same then t.put k 0
    else if t.refApart p.1 p.2 then t.put k 1
    else if t.get k = 0 then t
    else if !measured then t
    else if t.qualWindow ≤ t.get k then t.put k 0
    else t.put k (t.get k + 1))
  let any := refPairs.any (fun p => t.get (Hid.pairDis (5 * p.1 + p.2)) != 0)
  let t := t.put Reg.REF_STATE_DISAGREE (b2i any)
  if any then t.raiseCond 11 else t.endCond 11

/-- The candidates a disagreeing pair sets aside: none with an incumbent; with an arbiter that agrees with exactly one of them the
other; else both (R79). Where several third candidates arbitrate and do not name the same one, both are set aside (DEDUCED, log entry
82). -/
def State.setAside (s : State) (p : Nat × Nat) : List Nat :=
  let sel := s.get Reg.REF_SELECTED_CANDIDATE
  if s.get (Hid.pairDis (5 * p.1 + p.2)) = 0 ∨ sel = p.1 ∨ sel = p.2 then []
  else
    let verdict := (List.range 5).filterMap (fun c =>
      if c = p.1 ∨ c = p.2 ∨ s.refQualified c = false then none
      else
        let x := !s.refApart c p.1
        let y := !s.refApart c p.2
        if x && !y then some p.2 else if y && !x then some p.1 else none)
    match verdict with
    | [] => [p.1, p.2]
    | v :: vs => if vs.all (· == v) then [v] else [p.1, p.2]

/-- SET_ASIDE and SELECTABLE (R78, R79). -/
def State.refSelectables (s : State) : State :=
  let aside := (refPairs.map (fun p => s.setAside p)).flatten
  let t := s.each (List.range 5) (fun t c => t.put (Reg.REF_CANDIDATE_SET_ASIDE c) (b2i (aside.contains c)))
  t.put Reg.REF_SELECTED_SELECTABLE
    ((List.range 5).foldl (fun a c => a + (if s.refQualified c && !aside.contains c then 2 ^ c else 0)) 0 : Nat)

/-- The candidate to select: best rank, the incumbent among equals, else the lowest code (R78). -/
def State.refPick (s : State) : Option Nat :=
  let ok := (List.range 5).filter (fun c => bitOf (s.getN Reg.REF_SELECTED_SELECTABLE) c)
  let best := ok.foldl (fun a c => min a (s.getN (Reg.REF_CANDIDATE_RANK c))) 99
  let top := ok.filter (fun c => s.getN (Reg.REF_CANDIDATE_RANK c) == best)
  if top.any (fun c => s.get Reg.REF_SELECTED_CANDIDATE == (c : Int)) then some (s.getN Reg.REF_SELECTED_CANDIDATE)
  else top.head?

/-- The unit enters a state (`2100:01` to `:04`); HOLDOVER and LOST raise their faults (R80, R83, R90). -/
def State.refEnter (s : State) (st : Int) : State :=
  let old := s.get Reg.REF_STATE_STATE
  if st = old then s
  else
    let t := (((s.put Reg.REF_STATE_PREVIOUS old).put Reg.REF_STATE_STATE st).put Reg.REF_STATE_SINCE s.nowLT).bump
      Reg.REF_STATE_TRANSITIONS
    let t := if old = 2 then (t.put Hid.leftLocked (s.tickLf + 1)) else t
    if st = 3 then t.raise 12 else if st = 4 then t.raise 13 else t

/-- Half the spread of the highest and lowest measurements, rounded down (R82, log entry 81). -/
def halfSpread (l : List Int) : Int :=
  match l with
  | [] => 0
  | v :: t => (t.foldl max v - t.foldl min v) / 2

/-- Entry to HOLDOVER: the mean output frequency over the 64 s that ended 1 s before, and Δf₀ (R82). -/
def State.enterHoldover (s : State) : State :=
  let held := if s.get Hid.everLocked = 1 then meanInt ((s.refOut.drop 1).take 64) else s.get Reg.REF_STATE_OUTPUT_OFFSET
  ((s.put Reg.HOLDOVER_HELD_OFFSET held).put Reg.HOLDOVER_RESIDUAL (halfSpread (((s.refSel.drop 1).take 64).filterMap id))).refEnter 3

/-- Selection and state follow the selectable set (Table 4.4, R78, R80). `lock`: whether the lock criteria hold at a measurement; none
where none was made. -/
def State.refMove (s : State) (lock : Option Bool) : State :=
  let st := s.get Reg.REF_STATE_STATE
  let pick := s.refPick
  let old := s.get Reg.REF_SELECTED_CANDIDATE
  let t := s.put Reg.REF_SELECTED_CANDIDATE (match pick with | none => 255 | some c => (c : Int))
  match pick with
  | none =>
    if st = 2 then t.enterHoldover
    else if st = 1 then (if s.get Hid.refFrom = 3 then t.enterHoldover else t.refEnter (s.get Hid.refFrom))
    else t
  | some c =>
    if st = 0 ∨ st = 3 ∨ st = 4 then (((t.put Hid.refFrom st).put Hid.lockOk 0).put Hid.finePending 1).refEnter 1
    else if old = c then
      (if st ≠ 1 ∨ lock = none then t
       else if lock = some false then t.put Hid.lockOk 0
       else if s.get Hid.lockOk = 1 then
        (((((t.put Reg.REF_SELECTED_LOCKED_SINCE s.nowLT).put Hid.everLocked 1).put Hid.lockSum 0).put Hid.lockN 0).put
          Hid.leftLocked 0).refEnter 2
       else t.put Hid.lockOk 1)
    else if st = 2 then (((t.put Hid.refFrom 3).put Hid.lockOk 0).put Hid.finePending 1).refEnter 1
    else (t.put Hid.lockOk 0).put Hid.finePending 1

/-- One period of the clock of candidate c, in whole leaves: an HSx_CK period for HA and HB, 100 ns for XP, 1 ns for LX and FX (R81;
rounded down, log entry 81). -/
def finePeriod (c : Nat) : Int := if c ≤ 1 then 356 else if c = 2 then 5292 else 52

/-- A phase taken within one period (R81). -/
def wrapPhase (p v : Int) : Int := (v + p / 2) % p - p / 2

/-- The frequency the output makes for: the held frequency, nominal (R82, R83), or the candidate selected (Table 4.4). -/
def State.refTarget (s : State) : Int :=
  let st := s.get Reg.REF_STATE_STATE
  if st = 1 ∨ st = 2 then s.get (Reg.REF_CANDIDATE_OFFSET (s.getN Reg.REF_SELECTED_CANDIDATE))
  else if st = 3 then s.get Reg.HOLDOVER_HELD_OFFSET else 0

/-- A value moved towards another by at most a limit. -/
def slewTo (limit from_ toward : Int) : Int := from_ + clampInt (-limit) limit (toward - from_)

/-- The output frequency at the end of a second: it has moved by at most the slew limit, in LOCKED after what the clean-up loop reads,
else to its target (R80, R81, R83). -/
def State.refOutput (s : State) (loop : Int) : Int :=
  slewTo s.slewLimit (s.get Reg.REF_STATE_OUTPUT_OFFSET) (if s.get Reg.REF_STATE_STATE = 2 then loop else s.refTarget)

/-- The fine phase at the end of a second, `out` being the output frequency (R81): against a new target, and while the frequencies
differ, what the detector reads within one period; once they match within 0.01 ppm it is closed by at most 1 ns. With no candidate
selected it keeps its value (DEDUCED, log entry 81). -/
def State.refFine (s : State) (out reading : Int) : Int :=
  let st := s.get Reg.REF_STATE_STATE
  let seen := wrapPhase (finePeriod (s.getN Reg.REF_SELECTED_CANDIDATE)) reading
  if st ≠ 1 ∧ st ≠ 2 then s.get Reg.REF_SELECTED_FINE_PHASE
  else if s.get Hid.finePending = 1 ∨ 10000 < (out - s.refTarget).natAbs then seen
  else slewTo 52 (s.get Reg.REF_SELECTED_FINE_PHASE) (if st = 2 then seen else 0)

/-- LX and FX come and go with the servo and the fabric lanes (R74): one that is gone is ABSENT at once, handled as any loss; a change of
FX lane is one. -/
def State.refPresence (s : State) : State :=
  if s.up 2 = false then s
  else
    let gone := [3, 4].filter (fun c => !s.candidatePossible c)
    let lost := gone.filter (fun c => decide (2 ≤ s.get (Reg.REF_CANDIDATE_STATUS c)))
    let t := (s.put Hid.fxLane (s.fxLaneOf : Nat)).each gone (fun t c => t.refAbsent c)
    if lost = [] then t else ((t.refDisagree false).refSelectables).refMove none

/-- The end of a one-second measurement: statuses, then disagreement, then the selectable set, then selection and state
(R76, R78). `readings`: for each candidate whether its loss conditions are clear and its one-second measurement; `loop` and `fine`:
what the clean-up loop and the phase detector read (R81). -/
def State.refMeasurement (s : State) (readings : List (Bool × Int)) (loop fine : Int) : State :=
  if s.up 2 = false then s else
  let s1 := s.refPresence.each (indexed 0 readings) (fun t p => t.refStatus p.1 p.2.1 p.2.2)
  let out := s1.refOutput loop
  let sel := s.getN Reg.REF_SELECTED_CANDIDATE
  let selV := (readings[sel]?).map (·.2)
  let s3 := ((({ s1 with refOut := (out :: s.refOut).take 66, refSel := (selV :: s.refSel).take 66 }).put
    Reg.REF_STATE_OUTPUT_OFFSET out).put Reg.REF_SELECTED_FINE_PHASE (s1.refFine out fine)).put Hid.finePending 0
  let s4 := if s.get Reg.REF_STATE_STATE = 2 then
      (s3.put Hid.lockSum (s.get Hid.lockSum + selV.getD 0)).put Hid.lockN (s.get Hid.lockN + 1) else s3
  let s5 := (s4.refDisagree true).refSelectables
  s5.refMove (some (decide ((out - s1.refTarget).natAbs ≤ 10000) && decide ((s3.get Reg.REF_SELECTED_FINE_PHASE).natAbs ≤ 52)))

/-- A loss condition of a candidate: ABSENT at once, handled by the same steps (R73, R78). -/
def State.candidateLoss (s : State) (c : Nat) : State :=
  if s.up 2 = false ∨ s.get (Reg.REF_CANDIDATE_STATUS c) = 0 then s
  else (((s.refAbsent c).refDisagree false).refSelectables).refMove none

/-- e(t) in leaves: |Δf₀| t + ½ D t², Δf₀ in parts in 10¹² and D in 10⁻¹⁸ /s (R82). -/
def phaseEstimate (residual drift : Int) (t : Int) : Int :=
  (residual.natAbs : Int) * t * 52920000000 / 10 ^ 12 + drift * t * t * 52920000000 / (2 * 10 ^ 18)

/-- The holdover timer: it starts when the unit last left LOCKED and runs on through any ACQUIRING that does not end in LOCKED
(R82). -/
def State.holdTimer (s : State) : Int := if s.get Hid.leftLocked = 0 then 0 else s.tickLf - (s.get Hid.leftLocked - 1)

/-- The once-per-second evaluation in HOLDOVER; LOST at either limit (R82, R83). -/
def State.holdoverEval (s : State) : State :=
  if s.get Reg.REF_STATE_STATE ≠ 3 then s
  else
    let el := s.holdTimer
    let e := phaseEstimate (s.get Reg.HOLDOVER_RESIDUAL) (s.get Reg.HOLDOVER_DRIFT) (el / lfSec)
    let t := s.put Reg.HOLDOVER_ESTIMATED_ERROR e
    if s.get Reg.HOLDOVER_TIME_LIMIT ≤ el ∨ s.get Reg.HOLDOVER_PHASE_LIMIT ≤ e then t.refEnter 4 else t

/-- After an hour LOCKED the selected candidate's mean offset over it, rounded down (log entry 81), becomes the XO correction (R76). -/
def State.xoCorrect (s : State) : State :=
  if s.get Reg.REF_STATE_STATE = 2 ∧ 3600 ≤ s.get Hid.lockN then
    ((s.put Reg.REF_STATE_XO_CORRECTION (s.get Hid.lockSum / s.get Hid.lockN)).put Hid.lockSum 0).put Hid.lockN 0
  else s

/-- REF's return: every candidate starts ABSENT, none is an incumbent, and the state is HOLDOVER with the frequency in
force and the timer from the start of the restart, or as it was (R84). -/
def State.refReturn (s : State) : State :=
  if s.up 2 = false ∨ s.get Hid.refRestartAt = 0 then s else
  let st := s.get Reg.REF_STATE_STATE
  let t := s.each (List.range 5) (fun t c => t.refAbsent c)
  let t := ((({ t with refMeas := [] }).put Reg.REF_SELECTED_CANDIDATE 255).refDisagree false).refSelectables
  if st = 1 ∨ st = 2 ∨ st = 3 then
    let u := (t.put Reg.HOLDOVER_HELD_OFFSET (s.get Reg.REF_STATE_OUTPUT_OFFSET)).refEnter 3
    (u.put Hid.leftLocked (s.get Hid.refRestartAt)).put Hid.refRestartAt 0
  else t.put Hid.refRestartAt 0

/-! ### The reference block of the boot image (R75) -/

/-- A parameter of an image's reference block, in the range Table 4.2 gives it. -/
def refParam (image i : Nat) (lo hi : Int) : Int := lo + (Config.refBlock image i : Int) % (hi - lo + 1)

/-- The statuses agree with the ranks: rank 0 is DISABLED, whatever the status was (R77). -/
def State.refRanks (s : State) : State :=
  let t := s.each (List.range 5) (fun t c =>
    if t.get (Reg.REF_CANDIDATE_RANK c) = 0 then (t.refAbsent c).put (Reg.REF_CANDIDATE_STATUS c) 0
    else if t.get (Reg.REF_CANDIDATE_STATUS c) = 0 then t.put (Reg.REF_CANDIDATE_STATUS c) 1 else t)
  if t.up 2 then ((t.refDisagree false).refSelectables).refMove none else t

/-- The reference block of an image goes into force, at a boot of the Keeper or at a HANDOVER (R75, Table 4.2): a candidate of rank 0 is
DISABLED, and one that was is ABSENT now; selection follows. -/
def State.loadRefBlock (s : State) (image : Nat) : State :=
  let t := s.each (List.range 5) (fun t c =>
    (t.put (Reg.REF_CANDIDATE_RANK c) (refParam image c 0 5)).put (Reg.REF_CANDIDATE_TOLERANCE c)
      (refParam image (5 + c) 100000 10000000))
  let t := ((t.put Hid.refWindow (refParam image 10 1 60)).put Hid.refThreshold (refParam image 11 10000 1000000)).put Hid.refSlew
    (refParam image 12 10000 1000000)
  let t := ((t.put Hid.refBandwidth (refParam image 13 1 100)).put Reg.HOLDOVER_TIME_LIMIT (refParam image 14 0 4572288000000000)).put
    Reg.HOLDOVER_PHASE_LIMIT (refParam image 15 5292 5292000)
  let t := (t.put Reg.HOLDOVER_XO_CLASS (refParam image 16 0 1)).put Reg.HOLDOVER_DRIFT (refParam image 17 1 1000000000)
  let t := t.each (List.range 2) (fun t h =>
    (t.put (Hid.houseFamily h) (refParam image (18 + h) 1 2)).put (Hid.houseFormat h) (refParam image (20 + h) 1 16))
  t.refRanks

/-! ### Rasters -/

/-- A row of Table 4.7: frame, lines, line period in leaves. -/
structure RasterFormat where
  frame : Int
  lines : Int
  line : Int
deriving DecidableEq, Repr

/-- Table 4.7, codes 1 to 16 (R85). -/
def rasterFormats : List RasterFormat := [
  ⟨1765764000, 525, 3363360⟩, ⟨2116800000, 625, 3386880⟩, ⟨2207205000, 1125, 1961960⟩, ⟨2205000000, 1125, 1960000⟩,
  ⟨2116800000, 1125, 1881600⟩, ⟨1765764000, 1125, 1569568⟩, ⟨1764000000, 1125, 1568000⟩, ⟨1058400000, 1125, 940800⟩,
  ⟨882882000, 1125, 784784⟩, ⟨882000000, 1125, 784000⟩, ⟨1058400000, 750, 1411200⟩, ⟨882882000, 750, 1177176⟩,
  ⟨882000000, 750, 1176000⟩, ⟨1058400000, 2250, 470400⟩, ⟨882882000, 2250, 392392⟩, ⟨882000000, 2250, 392000⟩]

/-- The frame period of a format code; 0 for OFF (Table 4.7). -/
def framePeriod (code : Int) : Int :=
  if code = 0 then 0 else ((rasterFormats[(code - 1).toNat]?).map (·.frame)).getD 0
/-- The line period of a format code; 0 for OFF. -/
def linePeriod (code : Int) : Int :=
  if code = 0 then 0 else ((rasterFormats[(code - 1).toNat]?).map (·.line)).getD 0

/-- The frame period of raster r as its FORMAT stands; 0 while OFF or no raster. -/
def State.rasterPeriod (s : State) (r : Nat) : Int := if r < 32 then framePeriod (s.get (Reg.RASTER_FORMAT r)) else 0

/-- A nominal point's index: the nearest to N, of two equally near the earlier (R86). -/
def nominalIndex (n o p : Int) : Int := if p = 0 then 0 else -((p / 2 - (n - o)) / p)

/-- The first nominal point at or after N (R86). -/
def nominalFrom (n o p : Int) : Int := if p = 0 then n else o + (-((o - n) / p)) * p

/-- The next boundary raster r is due to produce: the one a RASTER or ALIGN slip placed, else a frame after the last. -/
def State.rasterDue (s : State) (r : Nat) : Int :=
  if s.get (Hid.rasterNext r) ≠ 0 then s.get (Hid.rasterNext r)
  else lfOfLt (s.get (Reg.RASTER_LAST_BOUNDARY r)) + s.rasterPeriod r

/-- FPULSE[n] at rest: its pin at the inactive level (R89). -/
def State.fpulseIdle (s : State) (n : Nat) : State := s.send (.pin 3 n (s.get (Reg.FPULSE_POLARITY n)))

/-- FPULSE[n] at a boundary of its raster: active on the frames chosen, for WIDTH lines (R89). -/
def State.fpulse (s : State) (r : Nat) : State :=
  s.each (List.range 4) (fun t n =>
    if t.get (Reg.FPULSE_RASTER n) = r ∧ t.get (Reg.RASTER_FRAME_INDEX r) % t.get (Reg.FPULSE_DIVIDE n) = 0 then
      t.send (.pin 3 n (t.get (Reg.FPULSE_WIDTH n) * 2 + (1 - t.get (Reg.FPULSE_POLARITY n))))
    else t)

/-- The pulse outputs of a raster that goes OFF are held inactive (R89). -/
def State.fpulseOff (s : State) (r : Nat) : State :=
  s.each ((List.range 4).filter (fun n => s.get (Reg.FPULSE_RASTER n) == (r : Int))) (fun t n => t.fpulseIdle n)

/-- A write of `2320` takes effect at the next boundary of the raster it names; with no raster named, or one that is OFF, the pin is held
inactive (R89). -/
def State.fpulseWrite (s : State) (n sub : Nat) (v : Int) : State :=
  let t := s.put ⟨0x2320, n, sub⟩ v
  t.when (t.rasterPeriod (t.getN (Reg.FPULSE_RASTER n)) == 0) (fun t => t.fpulseIdle n)

/-- RASTER_DRIFT is a condition of any raster beyond 10 µs: each raster that leaves the bound raises it with its own number, and it
ends once none is beyond (R86, R331; DEDUCED, log entry 71). A raster that goes OFF has no PHASE_ERROR that could return within the
bound: it counts as beyond no longer (DEDUCED, log entry 71). -/
def State.rasterDrift (s : State) (r : Nat) (beyond : Bool) : State :=
  let t := s.put (Hid.driftOn r) (b2i beyond)
  if beyond then (if s.get (Hid.driftOn r) = 1 then t.raiseCond 14 r else t.raiseAs 14 r true false)
  else if (List.range 32).any (fun i => t.get (Hid.driftOn i) == 1) then t else t.endCond 14

/-- Raster r produces a boundary now: stamped by TIME, PHASE_ERROR and FRAME_INDEX updated, FPULSE driven (R86, R89). -/
def State.rasterTick (s : State) (r : Nat) : State :=
  let p := s.rasterPeriod r
  let o := s.get (Reg.RASTER_OFFSET r)
  let k := nominalIndex s.now o p
  let e := s.now - (o + k * p)
  let t := ((((s.put (Reg.RASTER_LAST_BOUNDARY r) s.nowLT).put (Reg.RASTER_PHASE_ERROR r) e).put
    (Reg.RASTER_FRAME_INDEX r) k).put (Hid.rasterNext r) 0).put (Hid.rasterRun r) 1
  (t.rasterDrift r (decide (529200 < e.natAbs))).fpulse r

/-- A RASTER slip's values go into force at its boundary B, stamped `stamp` (R87). A raster that goes OFF is beyond 10 µs no longer (R86,
log entry 71) and its pulse outputs rest (R89). -/
def State.applyRaster (s : State) (r : Nat) (b : Int) (was : Int) : State :=
  let p := s.rasterPeriod r
  if p = 0 then
    (let t := ((s.put (Hid.rasterRun r) 0).put (Hid.rasterNext r) 0).fpulseOff r
     t.when (s.get (Hid.driftOn r) == 1) (fun t => t.rasterDrift r false))
  else if was = 0 then ((s.put (Hid.rasterRun r) 1).put (Reg.RASTER_LAST_BOUNDARY r) (ltOfLf b)).put (Hid.rasterNext r) 0
  else s.put (Hid.rasterNext r) (nominalFrom (b + (p + 1) / 2) (s.get (Reg.RASTER_OFFSET r)) p)

/-- The frame period declared for HA (0) or HB (1) in the reference block in force; before one, Table 4.2's default (R75, R88). -/
def State.housePeriod (s : State) (h : Nat) : Int := framePeriod (s.refPar (Hid.houseFormat h) 6)

/-- The aligned point of an ALIGN on raster r after boundary B: at least half a frame on (R88). The pulses of a candidate of which
no edge was reported lie at a free time (log entry 54). -/
def State.alignPoint (s : State) (r : Nat) (b : Int) : Int :=
  let p := s.rasterPeriod r
  let o := s.get (Reg.RASTER_OFFSET r)
  if s.get Reg.ALIGN_ALIGN_TO = 0 then nominalFrom (b + (p + 1) / 2) o p
  else
    let q := s.get (Hid.pulseStamp (s.getN Reg.REF_SELECTED_CANDIDATE))
    nominalFrom (b + (p + 1) / 2) ((if q = 0 then (s.freeVal : Int) else q - 1) + o) p

/-- An ALIGN takes effect on one raster at its boundary B (R88); a frame that is irregular keeps whole lines up to A, is cut there, and where
it is long repeats the number of its last line over blanking (R155). -/
def State.applyAlign (s : State) (r : Nat) (b : Int) : State :=
  let p := s.rasterPeriod r
  let a := s.alignPoint r b
  let l := max 1 (linePeriod (s.get (Reg.RASTER_FORMAT r)))
  let d := a - b
  let t := s.drawn.bump (Reg.RASTER_ALIGN_COUNT r)
  if (d - p).natAbs ≤ 52 then (t.put (Hid.rasterNext r) 0).put (Reg.RASTER_IRREGULAR r) p
  else
    ((t.put (Hid.rasterNext r) a).put (Reg.RASTER_IRREGULAR r) d).send
      (if d ≤ p then .irregular r (d / l) (d % l) 0 else .irregular r (p / l) ((d - p) % l) ((d - p) / l))

/-- The check of a staged OFFSET against its FORMAT (R87). -/
def offsetOk (format offset : Int) : Bool :=
  if format = 0 then offset == 0 else decide (0 ≤ offset) && decide (offset < framePeriod format)

end Sys2Proof.Machine
end

