-- ==== Sys2Proof/Machine/Serial.lean ====
section
/-! DEFINITION. Serial receive and transmit lanes (06_serial_video.md, R118 to R139). -/
namespace Sys2Proof.Machine

/-! ### Mappings and groups -/

/-- The row of Table 6.2 that a lane count, link rate, level and picture code form; 0 none. Levels count at 3G only
(R119, R133). -/
def sdiRow (size rate level format : Nat) : Nat :=
  if size = 1 ∧ rate = 1 ∧ (format = 1 ∨ format = 2) then 1
  else if size = 1 ∧ rate = 2 ∧ ((3 ≤ format ∧ format ≤ 7) ∨ (11 ≤ format ∧ format ≤ 13)) then 2
  else if size = 2 ∧ rate = 2 ∧ 8 ≤ format ∧ format ≤ 10 then 3
  else if size = 1 ∧ rate = 3 ∧ level = 1 ∧ 8 ≤ format ∧ format ≤ 10 then 4
  else if size = 1 ∧ rate = 3 ∧ level = 2 ∧ 8 ≤ format ∧ format ≤ 10 then 5
  else if size = 1 ∧ rate = 4 ∧ 8 ≤ format ∧ format ≤ 10 then 6
  else if size = 1 ∧ rate = 5 ∧ 14 ≤ format ∧ format ≤ 16 then 7
  else if size = 4 ∧ rate = 3 ∧ (level = 1 ∨ level = 2) ∧ 14 ≤ format ∧ format ≤ 16 then 8
  else if size = 4 ∧ rate = 5 ∧ 14 ≤ format ∧ format ≤ 16 then 9
  else 0

/-- The raster code that times a group whose links each carry the structure of code `format` (Table 6.2, R119): a dual
HD link carries half the frame rate, a quad 3G link a quarter picture, a quad 12G link the 2,250-line structure. -/
def groupFormat (size rate format : Nat) : Nat :=
  if size = 1 then format
  else if size = 2 ∧ rate = 2 ∧ 5 ≤ format ∧ format ≤ 7 then format + 3
  else if size = 4 ∧ rate = 3 ∧ 8 ≤ format ∧ format ≤ 10 then format + 6
  else if size = 4 ∧ rate = 5 ∧ 14 ≤ format ∧ format ≤ 16 then format
  else 0

/-- GROUP_FORMAT of a group (`3000:12`): 0 NONE, 1 DUAL_HD, 2 QUAD_3G, 3 QUAD_12G. -/
def groupFormatCode (size rate : Nat) : Nat :=
  if size = 2 then 1 else if size = 4 ∧ rate = 3 then 2 else if size = 4 ∧ rate = 5 then 3 else 0

/-- The lanes of the group of base lane b and size n. -/
def groupLanes (b size : Nat) : List Nat := (List.range size).map (fun i => b + i)

/-- The signal detected on lane n is supported in its receive group (R119, R120). -/
def State.sdiSupported (s : State) (n : Nat) : Bool :=
  let size := s.getN (Reg.LINK_GROUP_RX_SIZE n)
  let rate := s.getN (Reg.SDI_RX_RATE n)
  let gf := groupFormat size rate (s.getN (Hid.sdiFmt n))
  s.get (Hid.sdiBadFmt n) == 0 && sdiRow size rate (s.getN (Reg.SDI_RX_LEVEL n)) gf != 0 &&
    !(size == 4 && rate == 5 && s.get (Hid.sdiDiv n) == 1)

/-! ### Presence -/

/-- The receiver of lane n runs: edge role, its G island up and run by the mode (Table 6.11). -/
def State.sdiListens (s : State) (n : Nat) : Bool := s.edge && s.runs (7 + n / 8)

/-- What recovery and detection report of a signal (R125, R126). -/
def State.sdiDetect (s : State) (n : Nat) (d : SdiLink) : State :=
  ((((((((s.put (Reg.SDI_RX_RATE n) d.rate).put (Reg.SDI_RX_FORMAT n) d.format).put (Hid.sdiFmt n) d.format).put
    (Reg.SDI_RX_LEVEL n) d.level).put (Reg.SDI_RX_PAYLOAD_ID n) d.payload).put (Hid.sdiDiv n) d.division).put
      (Hid.sdiLinkNo n) d.link).put (Hid.sdiBadFmt n) (b2i d.unsupported)).put (Reg.SDI_RX_GROUP_FORMAT n) 0

/-- The ST 352 payload ID of a signal whose structure stands (R125). -/
def State.sdiPayload (s : State) (n : Nat) (d : SdiLink) : State :=
  (s.put (Reg.SDI_RX_PAYLOAD_ID n) d.payload).put (Hid.sdiLinkNo n) d.link

/-- The raw transitions of lane n within its CHATTER_WINDOW, this one included (Table 6.6). -/
def State.sdiNote (s : State) (n : Nat) : State :=
  { s with sdiEdges := (n, s.tickLf) ::
      s.sdiEdges.filter (fun e => e.1 != n || decide (s.tickLf < e.2 + s.get (Reg.SDI_RX_CHATTER_WINDOW n))) }

/-- How many raw transitions of lane n are noted. -/
def State.sdiEdgeCount (s : State) (n : Nat) : Nat := (s.sdiEdges.filter (fun e => e.1 == n)).length

/-- A raw transition of lane n (R125, R131, Table 6.6). Timers take the lengths in force as they begin. -/
def State.sdiRawEdge (s : State) (n : Nat) (present : Bool) : State :=
  let t := ((s.put (Hid.sdiRaw n) (b2i present)).put (Hid.sdiRawAt n) s.tickLf).sdiNote n
  let quiet := s.tickLf + s.get (Reg.SDI_RX_CHATTER_WINDOW n)
  let st := s.get (Hid.sdiLane n)
  if st = 3 then t.put (Hid.sdiQuiet n) quiet
  else if s.get (Reg.SDI_RX_CHATTER_EDGES n) ≤ (t.sdiEdgeCount n : Nat) then
    ((t.sdiDecide n 3).put (Hid.sdiQuiet n) quiet).put (Hid.sdiDue n) 0
  else if present ∧ st = 0 then t.put (Hid.sdiDue n) (s.tickLf + s.get (Reg.SDI_RX_ACQUIRE n))
  else if present = false ∧ (st = 1 ∨ st = 2) then t.put (Hid.sdiDue n) (s.tickLf + s.get (Reg.SDI_RX_LOSS n))
  else t.put (Hid.sdiDue n) 0

/-- Lane n passes through ABSENT without waiting for LOSS, and ACQUIRE starts at once where a signal stands (R126, Table 6.6). -/
def State.sdiReacquire (s : State) (n : Nat) : State :=
  let st := s.get (Hid.sdiLane n)
  let t := if st = 1 ∨ st = 2 then s.sdiDecide n 0 else s
  if s.get (Hid.sdiRaw n) = 1 ∧ st ≠ 3 then t.put (Hid.sdiDue n) (s.tickLf + s.get (Reg.SDI_RX_ACQUIRE n))
  else t.put (Hid.sdiDue n) 0

/-- The detected rate or structure changes: ABSENT without waiting for LOSS, and ACQUIRE starts at once (Table 6.6). -/
def State.sdiRestructure (s : State) (n : Nat) : State := (s.bump (Reg.SDI_STATS_FORMAT_CHANGES n)).sdiReacquire n

/-- A signal at the pin is recovered: RATE_MODE is AUTO or names its rate (R126). -/
def State.sdiLocks (s : State) (n : Nat) (d : SdiLink) : Bool :=
  s.get (Reg.SDI_RX_RATE_MODE n) == 0 || s.get (Reg.SDI_RX_RATE_MODE n) == (d.rate : Int)

/-- The structure registers of lane n hold what a signal shows. -/
def State.sdiSame (s : State) (n : Nat) (d : SdiLink) : Bool :=
  s.get (Reg.SDI_RX_RATE n) == d.rate && s.get (Hid.sdiFmt n) == d.format &&
    s.get (Reg.SDI_RX_LEVEL n) == d.level && s.get (Hid.sdiDiv n) == d.division &&
    s.get (Hid.sdiBadFmt n) == b2i d.unsupported

/-- The signal at the pin of lane n, as its recovery last reported it. -/
def State.pinSignal (s : State) (n : Nat) : Option SdiLink := (s.sdiPins.find? (fun p => p.1 == n)).map (·.2)

/-- What recovery reports at a pin. -/
def State.setPinSignal (s : State) (n : Nat) (d : Option SdiLink) : State :=
  { s with sdiPins := (d.map (fun x => (n, x))).toList ++ s.sdiPins.filter (fun p => p.1 != n) }

/-- The line of lane n that is crossing the pin, counted from the EAV of line 1 of its last frame; none once that frame is over. -/
def State.sdiLineNow (s : State) (n : Nat) : Option Nat :=
  let fmt := s.get (Hid.sdiFmt n)
  let l := linePeriod fmt
  let d := s.now - s.get (Hid.sdiStamp n)
  if l ≤ 0 ∨ s.get (Hid.sdiStamp n) = 0 ∨ d < 0 ∨ framePeriod fmt ≤ d then none else some ((d / l).toNat + 1)

/-- Lines of a source's frame were never received: at most eight entries are kept for one source (R149, R151). -/
def State.cut (s : State) (c : Cut) : State :=
  { s with cuts := c :: ((s.cuts.filter (fun d => d.shelf == c.shelf)).take 7 ++ s.cuts.filter (fun d => d.shelf != c.shelf)) }

/-- Lane n stops, or starts again, to deliver lines within a frame of its group's source (R149, R151). -/
def State.sdiCut (s : State) (n : Nat) (present : Bool) : State :=
  let b := s.getN (Reg.LINK_GROUP_RX_BASE n)
  let m := s.slot * 32768 + b
  let at_ := lfOfLt (s.get (Reg.SDI_RX_FRAME_STAMP b))
  match s.sdiLineNow n with
  | none => s
  | some k =>
    if present then { s with cuts := s.cuts.map (fun c => if c.shelf = m ∧ c.stamp = at_ ∧ c.last = 0 then { c with last := k } else c) }
    else s.cut ⟨m, at_, k, 0⟩

/-- A signal is recovered on lane n where none was: one whose rate or structure differs from the last detected is a change, and takes a
lane that LOSS still holds to ABSENT at once (R131, `3300:0C`, Table 6.6). -/
def State.sdiArrive (s : State) (n : Nat) (d : SdiLink) : State :=
  let differs := s.get (Reg.SDI_RX_RATE n) != 0 && !s.sdiSame n d
  let t := (s.sdiDetect n d).when differs (fun u =>
    (u.bump (Reg.SDI_STATS_FORMAT_CHANGES n)).when (u.get (Hid.sdiLane n) == 1 || u.get (Hid.sdiLane n) == 2) (fun v => v.sdiDecide n 0))
  (t.sdiCut n true).sdiRawEdge n true

/-- Recovery of lane n is lost. -/
def State.sdiVanish (s : State) (n : Nat) : State := (s.sdiCut n false).sdiRawEdge n false

/-- Lane n's recovery reports a signal, or none (R125, R126, R131). -/
def State.sdiRawTransition (s : State) (n : Nat) (d : Option SdiLink) : State :=
  if !s.sdiListens n then s
  else
    let was := s.get (Hid.sdiRaw n) == 1
    let t := s.setPinSignal n d
    match d with
    | none => t.when was (fun u => u.sdiVanish n)
    | some x =>
      if !s.sdiLocks n x then t.when was (fun u => u.sdiVanish n)
      else if !was then t.sdiArrive n x
      else if s.sdiSame n x then t.sdiPayload n x
      else (t.sdiDetect n x).sdiRestructure n

/-- ACQUIRE has held on lane n: PRESENT or UNSUPPORTED is decided (Table 6.6). -/
def State.sdiAcquired (s : State) (n : Nat) : State :=
  if s.get (Hid.sdiRaw n) = 1 ∧ s.get (Hid.sdiLane n) = 0 ∧ s.get (Hid.sdiDue n) ≠ 0 ∧ s.get (Hid.sdiDue n) ≤ s.tickLf then
    (s.sdiDecide n (if s.sdiSupported n then 1 else 2)).put (Hid.sdiDue n) 0
  else s

/-- LOSS has held on lane n: ABSENT is decided (Table 6.6). -/
def State.sdiLost (s : State) (n : Nat) : State :=
  if s.get (Hid.sdiRaw n) = 0 ∧ (s.get (Hid.sdiLane n) = 1 ∨ s.get (Hid.sdiLane n) = 2) ∧ s.get (Hid.sdiDue n) ≠ 0 ∧
      s.get (Hid.sdiDue n) ≤ s.tickLf then
    (s.sdiDecide n 0).put (Hid.sdiDue n) 0
  else s

/-- One whole CHATTER_WINDOW without a transition: ABSENT; with the lane raw present ACQUIRE counts from the last
transition (Table 6.6). -/
def State.sdiChatterEnd (s : State) (n : Nat) : State :=
  if s.get (Hid.sdiLane n) = 3 ∧ s.get (Hid.sdiQuiet n) ≤ s.tickLf then
    (s.sdiDecide n 0).put (Hid.sdiDue n)
      (if s.get (Hid.sdiRaw n) = 1 then s.get (Hid.sdiRawAt n) + s.get (Reg.SDI_RX_ACQUIRE n) else 0)
  else s

/-- `3000:03` and `:0F` take a published state. -/
def State.sdiShow (s : State) (n : Nat) (st : Int) : State :=
  if s.get (Reg.SDI_RX_SIGNAL n) = st then s
  else ((s.put (Reg.SDI_RX_SIGNAL n) st).put (Reg.SDI_RX_SINCE n) s.nowLT).when (st != 1)
    (fun t => t.put (Reg.SDI_RX_AUDIO_PRESENT n) 0)

/-- Lane n's own state is published: losses and chatter count and raise (R131, log entry 20). -/
def State.sdiPublishLane (s : State) (n : Nat) (st : Int) : State :=
  let old := s.get (Hid.sdiSig n)
  if old = st then s
  else
    let t := s.put (Hid.sdiSig n) st
    let t := if s.get (Reg.LINK_GROUP_RX_SIZE n) = 1 ∨ s.get (Reg.LINK_GROUP_RX_BASE n) ≠ n then t.sdiShow n st else t
    if old = 1 ∧ st = 0 then (t.bump (Reg.SDI_STATS_LOSSES n)).raise (256 + n) 1 n
    else if st = 3 then (t.bump (Reg.SDI_STATS_CHATTER_EVENTS n)).raise (256 + n) 2 n
    else t

/-- The link numbers of a group's lanes as placed: by ST 352 where every link carries a number, else in lane order
(R122). -/
def State.groupLinks (s : State) (b size : Nat) : List Nat :=
  let ls := (groupLanes b size).map (fun n => s.getN (Hid.sdiLinkNo n))
  if ls.any (· == 0) then (List.range size).map (· + 1) else ls

/-- A group's links show one mapping of Table 6.2 and every link number once (R122). -/
def State.groupFits (s : State) (b size : Nat) : Bool :=
  let ls := s.groupLinks b size
  (List.range size).all (fun i => ls.contains (i + 1)) &&
    (groupLanes b size).all (fun n =>
      s.sdiSupported n && s.get (Reg.SDI_RX_RATE n) == s.get (Reg.SDI_RX_RATE b) &&
        s.get (Reg.SDI_RX_LEVEL n) == s.get (Reg.SDI_RX_LEVEL b) && s.get (Hid.sdiDiv n) == s.get (Hid.sdiDiv b) &&
        s.get (Hid.sdiFmt n) == s.get (Hid.sdiFmt b))

/-- The presence of a group at its base lane (R122): PRESENT only with every link PRESENT, one mapping, and the skew
within the limit. -/
def State.groupState (s : State) (b size : Nat) : Int :=
  let sig (n : Nat) : Int := s.get (Hid.sdiSig n)
  if sig b = 3 then 3
  else if (groupLanes b size).any (fun n => sig n == 0 || sig n == 3) then 0
  else if (groupLanes b size).any (fun n => sig n == 2) then 2
  else if !s.groupFits b size then 2
  else if s.get (Hid.skewBad b) = 1 then 0 else 1

/-- The group of base lane b settles at a publication (R122, `3000:05`, `:11` to `:13`). -/
def State.groupSettle (s : State) (b : Nat) : State :=
  let size := s.getN (Reg.LINK_GROUP_RX_SIZE b)
  if size = 1 then s
  else
    let st := s.groupState b size
    let t := s.sdiShow b st
    let t := s.groupLinks b size |>.zip (groupLanes b size) |>.foldl (fun t p => t.put (Reg.SDI_RX_LINK p.2) p.1) t
    if st = 1 then
      (t.put (Reg.SDI_RX_GROUP_FORMAT b) (groupFormatCode size (s.getN (Reg.SDI_RX_RATE b)) : Nat)).put
        (Reg.SDI_RX_FORMAT b) (groupFormat size (s.getN (Reg.SDI_RX_RATE b)) (s.getN (Hid.sdiFmt b)) : Nat)
    else t

/-- The decided states of a lane's queue, oldest first. -/
def sdiQueue : Nat → Nat → List Nat
  | 0, _ => []
  | fuel + 1, q => if q = 0 then [] else sdiQueue fuel (q / 8) ++ [q % 8 - 1]

/-- Decided changes of lane n are published in turn at their millisecond boundary (R131). -/
def State.sdiPublish (s : State) (n : Nat) : State :=
  if s.get (Hid.sdiPubAt n) = 0 ∨ s.now < s.get (Hid.sdiPubAt n) - 1 then s
  else
    let t := (s.put (Hid.sdiDecided n) 0).put (Hid.sdiPubAt n) 0
    let t := (sdiQueue 64 (s.getN (Hid.sdiDecided n))).foldl (fun t st => t.sdiPublishLane n st) t
    t.groupSettle (s.getN (Reg.LINK_GROUP_RX_BASE n))

/-! ### Input frames -/

/-- The verdict of a FILTER on a packet: the first enabled rule that matches decides; none drops (Table 6.5, R129). -/
def ancRule (rule : Nat) (p : AncPkt) : Option Bool :=
  if bitOf rule 31 && bitsOf rule 16 8 == p.did && (bitOf rule 29 || bitsOf rule 8 8 == p.sdid) then
    some (bitOf rule 30)
  else none

/-- A governed packet passes `3400` of lane n (R129). -/
def State.ancPasses (s : State) (n : Nat) (p : AncPkt) : Bool :=
  let m := s.get (Reg.ANC_MODE n)
  if m = 1 then true
  else if m = 0 then false
  else ((List.range 8).findSome? (fun i => ancRule (s.getN (Reg.ANC_RULE0 n i)) p)).getD false

/-- The packets kept within the limit of words per frame, and how many were dropped whole (R129). -/
def ancLimit (limit : Nat) : Nat → List AncPkt → List AncPkt × Nat
  | _, [] => ([], 0)
  | used, p :: ps =>
    if used + p.words ≤ limit then
      let r := ancLimit limit (used + p.words) ps
      (p :: r.1, r.2)
    else
      let r := ancLimit limit used ps
      (r.1, r.2 + 1)

/-- The packets that `3400` does not govern: ST 352 payload IDs at every rate, and from HD up the audio data and audio control packets of
ST 299-1 and ST 299-2 (R129). Their DIDs are PRESUMED from those standards (log entry 90). -/
def ancApart (hd : Bool) (p : AncPkt) : Bool :=
  (p.did == 0x41 && p.sdid == 1) ||
    (hd && ((decide (0xE0 ≤ p.did) && decide (p.did ≤ 0xE7)) || (decide (0xA0 ≤ p.did) && decide (p.did ≤ 0xA7))))

/-- A frame's ancillary packets are captured (R129). -/
def State.ancFrame (s : State) (n : Nat) (l : List AncPkt) : State :=
  let good := l.filter (fun p => !p.bad)
  let governed := good.filter (fun p => !ancApart (decide (2 ≤ s.getN (Reg.SDI_RX_RATE n))) p)
  let r := ancLimit (s.getN (Reg.ANC_LIMIT n)) 0 (governed.filter (fun p => s.ancPasses n p))
  let t := (s.bumpBy (Reg.SDI_STATS_ANC_CHECKSUM n) (l.length - good.length : Nat)).bumpBy (Reg.SDI_STATS_ANC_DROPPED n) r.2
  { t with anc := (n, s.now, r.1) :: ((t.anc.filter (fun e => e.1 == n)).take 8 ++ t.anc.filter (fun e => e.1 != n)) }

/-- The passed packets of a frame of the source at base lane b: those of each of its links' frames that the stamp ends (R129). -/
def State.passedOf (s : State) (b : Nat) (stamp : Int) : List AncPkt :=
  let half := framePeriod (s.get (Hid.sdiFmt b)) / 2
  (groupLanes b (s.getN (Reg.LINK_GROUP_RX_SIZE b))).flatMap (fun k =>
    ((s.anc.find? (fun a => a.1 == k && decide (stamp - half < a.2.1) && decide (a.2.1 ≤ stamp))).map (·.2.2)).getD [])

/-- A stamp's distance from the nearest boundary of raster r, of two equally near the earlier (R127). -/
def State.fromBoundary (s : State) (r : Nat) (stamp : Int) : Int :=
  let p := s.rasterPeriod r
  let d := stamp - lfOfLt (s.get (Reg.RASTER_LAST_BOUNDARY r))
  if p = 0 then 0 else if 2 * (d % p) ≤ p then d % p else d % p - p

/-- The stamp of the frame of lane n's group that stands whole: the latest link's, once the stamps of all its links belong to one frame,
less than half a frame apart (R122, R127). -/
def State.groupDone (s : State) (n : Nat) : Option Int :=
  let b := s.getN (Reg.LINK_GROUP_RX_BASE n)
  let ls := (groupLanes b (s.getN (Reg.LINK_GROUP_RX_SIZE n))).map (fun k => s.get (Hid.sdiStamp k))
  let top := ls.foldl max (s.get (Hid.sdiStamp n))
  let low := ls.foldl min top
  if s.getN (Reg.LINK_GROUP_RX_SIZE n) ≠ 1 ∧ framePeriod (s.get (Hid.sdiFmt n)) ≤ 2 * (top - low) then none else some top

/-- The skew of a group whose links have delivered one frame, and its fault (R122). -/
def State.groupSkew (s : State) (b size : Nat) : State :=
  let ls := (groupLanes b size).map (fun k => s.get (Hid.sdiStamp k))
  let top := ls.foldl max 0
  let skew := top - ls.foldl min top
  let bad := decide (1058400 < skew)
  let t := s.put (Reg.SDI_RX_SKEW b) skew
  if size = 1 then s
  else if b2i bad = s.get (Hid.skewBad b) then t
  else
    let t := (t.put (Hid.skewBad b) (b2i bad)).when (s.get (Hid.sdiPubAt b) == 0)
      (fun u => u.put (Hid.sdiPubAt b) (msCeil s.now + 1))
    t.when bad (fun u => u.raise (352 + b / 2) 1 b)

/-- TIMING against the raster REF_RASTER names, while it is not OFF (R127). -/
def State.sdiTiming (s : State) (n : Nat) : State :=
  let r := s.getN (Reg.SDI_RX_REF_RASTER n)
  if s.rasterPeriod r = 0 then s
  else s.put (Reg.SDI_RX_TIMING n) (s.fromBoundary r (lfOfLt (s.get (Reg.SDI_RX_FRAME_STAMP n))))

/-- A frame joins the synchroniser's store with its decision stamp, at most 8 held (R149). -/
def State.syncWrite (s : State) (n : Nat) (f : Int) : State :=
  if s.get (Hid.syncOn n) = 0 ∨ s.runs (32 + n / 48) = false then s
  else
    let l := ((s.syncFrames.find? (fun e => e.1 == n)).map (·.2)).getD []
    { (s.put (Reg.SYNC_DECISION_STAMP n) (ltOfLf f)) with
      syncFrames := (n, (f :: l).take 8) :: s.syncFrames.filter (fun e => e.1 != n) }

/-- FRAME_STAMP and TIMING after lane n's frame: the latest link's stamp at the base lane of a group once that frame stands whole, its own
at a lane that is none (R127). -/
def State.frameStamps (s : State) (n : Nat) : State :=
  let b := s.getN (Reg.LINK_GROUP_RX_BASE n)
  let t := s.when (b != n) (fun u => (u.put (Reg.SDI_RX_FRAME_STAMP n) (ltOfLf s.now)).sdiTiming n)
  match s.groupDone n with
  | none => t
  | some top => (((t.groupSkew b (s.getN (Reg.LINK_GROUP_RX_SIZE n))).put (Reg.SDI_RX_FRAME_STAMP b) (ltOfLf top)).sdiTiming b).syncWrite b top

/-- An input frame is received and stamped at the EAV of line 1 (R127 to R130, Table 6.12). -/
def State.sdiInputFrame (s : State) (n : Nat) (f : SdiFrame) : State :=
  if !s.sdiListens n || s.get (Hid.sdiRaw n) != 1 then s
  else
    let rate := s.getN (Reg.SDI_RX_RATE n)
    let hd := decide (2 ≤ rate)
    let t := (s.put (Hid.sdiStamp n) s.now).frameStamps n
    let t := t.when (s.get (Hid.sdiSig n) == 1) (fun u => u.bump (Reg.SDI_STATS_FRAMES_RX n))
    let t := t.bumpBy (Reg.SDI_STATS_TRS_ERRORS n) f.trs
    let t := t.when hd (fun u =>
      ((((u.bumpBy (Reg.SDI_STATS_CRC_Y n) f.crcY).bumpBy (Reg.SDI_STATS_CRC_C n) f.crcC).bumpBy
        (Reg.SDI_STATS_LINE_NUMBER_ERRORS n) f.lineNo).bumpBy (Reg.SDI_STATS_AUDIO_CORRECTED n) f.corrected).bumpBy
        (Reg.SDI_STATS_AUDIO_FAILED n) f.failed)
    let t := t.when f.mismatch (fun u => u.bump (Reg.SDI_STATS_PAYLOAD_ID_MISMATCH n))
    let t := t.put (Reg.SDI_RX_AUDIO_PRESENT n)
      (if !hd || s.get (Hid.sdiSig n) != 1 then 0 else if rate = 2 then (f.audio % 2 ^ 16 : Nat) else (f.audio % 2 ^ 32 : Nat))
    t.ancFrame n f.anc

/-! ### Settings -/

/-- A write of RATE_MODE or POLARITY takes effect; a change of RATE_MODE passes the lane through ABSENT as a change of
rate does (R126; after Table 6.7). -/
def State.rateModeApply (s : State) (n sub : Nat) (v : Int) : State :=
  if sub = 2 then s.put (Reg.SDI_RX_POLARITY n) v
  else if s.get (Reg.SDI_RX_RATE_MODE n) = v then s
  else
    let t := s.put (Reg.SDI_RX_RATE_MODE n) v
    match s.pinSignal n with
    | none => t.sdiReacquire n
    | some x =>
      let u := t.sdiReacquire n
      if s.get (Hid.sdiRaw n) = 1 then (if t.sdiLocks n x then u else u.sdiVanish n)
      else if t.sdiLocks n x && t.sdiListens n then u.sdiArrive n x else u

/-- The lanes of every old group that a group of the given base and size overlaps, and its own (R121). -/
def State.groupTouches (s : State) (tx : Bool) (n size : Nat) : List Nat :=
  let base (k : Nat) : Nat := s.getN (if tx then Reg.LINK_GROUP_TX_BASE k else Reg.LINK_GROUP_RX_BASE k)
  let mine := groupLanes n size
  (List.range 96).filter (fun k => mine.contains k || mine.any (fun m => base m == base k))

/-- The group stands already. -/
def State.groupIs (s : State) (tx : Bool) (n size : Nat) : Bool :=
  if tx then s.get (Reg.LINK_GROUP_TX_BASE n) == n && s.get (Reg.LINK_GROUP_TX_SIZE n) == size
  else s.get (Reg.LINK_GROUP_RX_BASE n) == n && s.get (Reg.LINK_GROUP_RX_SIZE n) == size

/-- The check of a group write (R121, R124). -/
def State.groupStatus (s : State) (tx : Bool) (n size : Nat) : Status :=
  let held (k : Nat) : Bool :=
    s.get (Reg.SDI_TX_ENABLE (s.getN (Reg.LINK_GROUP_TX_BASE k))) == 1 ||
      s.slips.any (fun x => decide (x.st = .launched) && (x.kind == 1 || x.kind == 2) && x.target == k)
  if n % max 1 size ≠ 0 then .range
  else if tx ∧ s.groupIs tx n size = false ∧ (s.groupTouches tx n size).any held = true then .range
  else .ok

/-- A group write takes effect (R121, R124): old groups split, the new one stands; lanes whose receive grouping changes
pass through ABSENT at once (R132). -/
def State.groupApply (s : State) (tx : Bool) (n size : Nat) : State :=
  if s.groupIs tx n size then s
  else
    let touched := s.groupTouches tx n size
    let mine := groupLanes n size
    if tx then
      s.each touched (fun t k =>
        let inIt := mine.contains k
        ((t.put (Reg.LINK_GROUP_TX_SIZE k) (if inIt then (size : Int) else 1)).put (Reg.LINK_GROUP_TX_BASE k)
          (if inIt then (n : Int) else (k : Int))).put (Reg.SDI_TX_BASE k) (if inIt then (n : Int) else (k : Int)))
    else
      s.each touched (fun t k =>
        let inIt := mine.contains k
        let t := (((t.put (Reg.LINK_GROUP_RX_SIZE k) (if inIt then (size : Int) else 1)).put (Reg.LINK_GROUP_RX_BASE k)
          (if inIt then (n : Int) else (k : Int))).put (Reg.SDI_RX_GROUP_FORMAT k) 0).put (Reg.SDI_RX_LINK k) 0
        let t := (t.put (Hid.skewBad k) 0).sdiDrop k
        t.when (t.get (Hid.sdiRaw k) == 1 && t.get (Hid.sdiLane k) != 3)
          (fun u => u.put (Hid.sdiDue k) (u.tickLf + u.get (Reg.SDI_RX_ACQUIRE k))))

/-- A drive setting lies on its steps (R137): SWING 400 to 1,000 mV by 25, PRE_EMPHASIS 0 to 7 dB by 1. -/
def driveOk (sub : Nat) (v : Int) : Bool :=
  if sub = 7 then decide (400 ≤ v) && decide (v ≤ 1000) && v % 25 == 0
  else if sub = 8 then decide (0 ≤ v) && decide (v ≤ 7) else true

/-! ### Transmitters -/

/-- The base lane whose record is in force on output o (R123). -/
def State.txBase (s : State) (o : Nat) : Nat := s.getN (Reg.LINK_GROUP_TX_BASE o)
/-- The raster of serial output o. -/
def State.txRaster (s : State) (o : Nat) : Nat := s.getN (Reg.SDI_TX_RASTER (s.txBase o))

/-- The conditions of the last row of Table 6.11: enabled, the raster running, G and X out of reset and run by the
mode (R138). -/
def State.txWant (s : State) (o : Nat) : Bool :=
  s.edge && s.get (Reg.SDI_TX_ENABLE (s.txBase o)) == 1 && decide (s.txRaster o < 32) &&
    s.get (Hid.rasterRun (s.txRaster o)) == 1 && s.runs (7 + o / 8) && s.runs 5

/-- A transmitter takes a state; leaving idle counts in TX_STARTS (`3100:0A`, `3300:0F`). -/
def State.txSet (s : State) (o : Nat) (v : Bool) : State :=
  if s.get (Reg.SDI_TX_STATE o) = b2i v then s
  else ((s.put (Reg.SDI_TX_STATE o) (b2i v)).when v (fun t => t.bump (Reg.SDI_STATS_TX_STARTS o))).send (.pin 5 o (b2i v))

/-- A transmitter falls idle at once when its conditions fail; it leaves idle only at an EAV (R138). -/
def State.txDrop (s : State) (o : Nat) : State := s.when (!s.txWant o) (fun t => t.txSet o false)

/-- The transmitters of output o's group start or stop at the B of an OUTPUT slip (R123, R135). -/
def State.txApply (s : State) (o : Nat) : State :=
  s.each (groupLanes o (s.getN (Reg.LINK_GROUP_TX_SIZE o))) (fun t k => t.txSet k (t.txWant k))

/-- The checks of an OUTPUT slip at its check point, against the configuration at B (R123, R133, R136). -/
def State.outputCheck (s : State) (o : Nat) : Status :=
  let rate := s.getN (Reg.SDI_TX_RATE o)
  let size := s.getN (Reg.LINK_GROUP_TX_SIZE o)
  let fmt := s.getN (Reg.RASTER_FORMAT (s.getN (Reg.SDI_TX_RASTER o)))
  let groups := s.getN (Reg.EMBED_GROUPS o)
  if s.txBase o ≠ o then .range
  else if s.get (Reg.SDI_TX_ENABLE o) = 1 ∧
    (32 ≤ s.getN (Reg.SDI_TX_RASTER o) ∨ s.rasterPeriod (s.getN (Reg.SDI_TX_RASTER o)) = 0 ∨
      sdiRow size rate (s.getN (Reg.SDI_TX_LEVEL o)) fmt = 0 ∨
      (size = 4 ∧ rate = 5 ∧ s.get (Reg.SDI_TX_DIVISION o) ≠ 0)) then .range
  else if (rate = 2 ∧ 15 < groups) ∨ (rate = 1 ∧ groups ≠ 0) then .range
  else .ok

end Sys2Proof.Machine
end

