-- ==== Sys2Proof/Machine/Inject.lean ====
section
/-! DEFINITION. The injection entries at work: which units they act on and what becomes of them
(20_fault_injection_and_test.md, R401 to R404). -/
namespace Sys2Proof.Machine

/-- One advance of an injection register (R403). -/
def lfsrStep (n : Nat) : Nat := if n % 2 = 1 then (n / 2) ^^^ 0x80200003 else n / 2

/-- Positions of `n` bit flips in a unit of `len` bits, and the register after them (R403). -/
def flipBits (len : Nat) : Nat → Nat → List Nat × Nat
  | 0, reg => ([], reg)
  | n + 1, reg =>
    let r := lfsrStep reg
    let q := flipBits len n r
    (r % max len 1 :: q.1, q.2)

/-- Entry j meets eligible unit k: whether it acts, and its register after the draw (R403). -/
def State.injectActs (s : State) (j : Nat) : Bool × Nat :=
  let k := s.getN (Hid.injIndex j)
  let n := max 1 (s.getN (Reg.INJECT_N j))
  let reg := s.getN (Hid.injReg j)
  if s.get (Reg.INJECT_PATTERN j) = 0 then (k % n == n - 1, reg)
  else if s.get (Reg.INJECT_PATTERN j) = 1 then (decide (k % n < s.getN (Reg.INJECT_LENGTH j)), reg)
  else (decide (lfsrStep reg < s.getN (Reg.INJECT_PROBABILITY j)), lfsrStep reg)

/-- A unit on its way past the entries: the unit, whether it is still eligible, whether it was spoiled, the positions of the bits flipped in
it, and how often its check field was inverted (R402, R404). -/
structure InjPass where
  unit : InjUnit
  eligible : Bool
  bad : Bool
  flips : List Nat := []
  inverted : Nat := 0
deriving DecidableEq, Repr

/-- The units entry j holds. -/
def State.injectHeld (s : State) (j : Nat) : List InjHeld := s.injHeld.filter (fun h => h.entry == j)

/-- Entry j holds a unit, unless it holds 4,096 (R402). -/
def State.injectHold (s : State) (j : Nat) (u : InjUnit) (left : Nat) (due : Int) : State :=
  if 4096 ≤ (s.injectHeld j).length then s.bump (Reg.INJECT_OVERFLOW j)
  else { s with injHeld := s.injHeld ++ [⟨j, u, left, due⟩] }

/-- An eligible unit passes the units entry j holds past a count: those whose count ends are released (R402). -/
def State.injectPassed (s : State) (j : Nat) : State × List InjPass :=
  let counts (h : InjHeld) : Bool := h.entry == j && decide (0 < h.left)
  let out := (s.injHeld.filter (fun h => counts h && h.left == 1)).map (fun (h : InjHeld) => ({ unit := h.unit, eligible := false, bad := false } : InjPass))
  let kept : List InjHeld := s.injHeld.filterMap (fun (h : InjHeld) =>
    if counts h then (if h.left = 1 then none else some { h with left := h.left - 1 }) else some h)
  ({ s with injHeld := kept }, out)

/-- Entry j meets one eligible unit of `len` bits (R402, R403): the units that go on in its place. -/
def State.injectOne (s : State) (j : Nat) (u : InjPass) (len : Nat) : State × List InjPass :=
  let act := s.injectActs j
  let t := ((s.bump (Reg.INJECT_SEEN j)).put (Hid.injIndex j) (s.get (Hid.injIndex j) + 1)).put (Hid.injReg j) act.2
  let p := t.injectPassed j
  let t := p.1
  if !act.1 then (t, u :: p.2)
  else
    let t := t.bump (Reg.INJECT_UNITS j)
    let a := t.get (Reg.INJECT_ACTION j)
    if a = 1 then (t, p.2)
    else if a = 2 ∨ a = 3 then
      let f := if a = 2 then flipBits len (t.getN (Reg.INJECT_COUNT j)) act.2 else ([], act.2)
      ((t.put (Hid.injReg j) f.2).send
        (.injected (t.getN (Reg.INJECT_POINT j)) (t.getN (Reg.INJECT_TARGET j)) a.toNat f.1),
        { u with bad := true, flips := u.flips ++ f.1, inverted := u.inverted + b2n (a == 3) } :: p.2)
    else if a = 4 then (t.injectHold j u.unit 1 0, p.2)
    else if a = 5 then (t.injectHold j u.unit (t.getN (Reg.INJECT_COUNT j)) 0, p.2)
    else if a = 6 then (t, u :: { u with eligible := false } :: p.2)
    else (t.injectHold j u.unit 0 (t.tickLf + t.get (Reg.INJECT_DELAY j)), p.2)

/-- The ACTIVE entries on a point and target, in ascending number (R404). Entries of CELL_RX name a plane or both. -/
def State.injectOn (s : State) (point target plane : Nat) : List Nat :=
  (s.elsWith 0xE000 2 point).filter (fun j => s.get (Reg.INJECT_STATE j) == 2 && s.getN (Reg.INJECT_TARGET j) == target &&
    (point != 6 || s.getN (Reg.INJECT_PLANE j) == 2 || s.getN (Reg.INJECT_PLANE j) == plane))

/-- A unit meets every entry on its point and target: the units that go on (R402 to R404). -/
def State.inject (s : State) (point target plane : Nat) (u : InjUnit) (len : Nat) : State × List InjPass :=
  (s.injectOn point target plane).foldl (fun (a : State × List InjPass) j =>
    a.2.foldl (fun (b : State × List InjPass) x =>
      if x.eligible then
        let r := b.1.injectOne j x len
        (r.1, b.2 ++ r.2)
      else (b.1, b.2 ++ [x])) (a.1, [])) (s, [{ unit := u, eligible := true, bad := false }])

/-- Units that leave with no content the model holds: an AES3 frame, a line (Table 20.2). -/
def State.injectBare (s : State) (point target len n : Nat) : State :=
  if s.injectOn point target 0 = [] then s else Nat.repeat (fun t => (t.inject point target 0 .other len).1) n s

/-- The held units of entry j whose time has come, or all of them once it is not ACTIVE (R402, R404), and the rest. -/
def State.injectDue (s : State) (j : Nat) : State × List InjUnit :=
  let due (h : InjHeld) : Bool :=
    h.entry == j && (s.get (Reg.INJECT_STATE j) != 2 || (h.left == 0 && decide (h.due ≤ s.tickLf)))
  ({ s with injHeld := s.injHeld.filter (fun h => !due h) }, (s.injHeld.filter due).map (fun (h : InjHeld) => h.unit))

/-- The check of a write of ENABLE = 1 (R401, R402, Table 20.2). -/
def State.injectOk (s : State) (j : Nat) : Bool :=
  let p := s.get (Reg.INJECT_POINT j)
  let a := s.get (Reg.INJECT_ACTION j)
  let t := s.get (Reg.INJECT_TARGET j)
  let d := s.get (Reg.INJECT_DELAY j)
  let allowed := if p = 3 then a = 1 ∨ a = 2 ∨ a = 3 ∨ a = 6
    else if 6 ≤ p then a = 1 ∨ 4 ≤ a else a ≤ 3
  let range : Bool :=
    if p = 1 then decide (t < 64) else if p = 2 then decide (t < 2) else if p = 3 then decide (t < 16)
    else if p = 4 then decide (t < 96) && s.get (Reg.LINK_GROUP_TX_BASE t.toNat) == t
    else if p = 5 then decide (t < 32)
    else if p = 6 then decide (t < 2 ^ 20) else if p = 7 then decide (t < 32768)
    else if p = 8 then decide (32768 ≤ t) && decide (t < 65536) else false
  let delay : Bool := a != 7 || (if p = 6 then decide (1200 ≤ d) && decide (d ≤ 10584000)
    else decide (52920 ≤ d) && decide (d ≤ 7938000000))
  (s.edge || p == 1) && decide allowed && range && delay && !(s.get (Reg.INJECT_PATTERN j) == 2 && s.get (Reg.INJECT_SEED j) == 0) &&
    !(s.get (Reg.INJECT_PATTERN j) == 1 && decide (s.get (Reg.INJECT_N j) < s.get (Reg.INJECT_LENGTH j)))

end Sys2Proof.Machine
end

