-- ==== Sys2Proof/Machine/Fabric.lean ====
section
/-! DEFINITION. The cell fabric: lanes, calendars, offers, subscriptions, the cell Concordance, the centre's settlement
(08_fabric.md, R158 to R189). Lanes 64 and 65 are the twin lanes 0 and 1. -/
namespace Sys2Proof.Machine

/-! ### Lanes -/

/-- The island of a lane. -/
def laneIsland (l : Nat) : Nat := if l < 64 then 23 + l / 8 else 31
/-- The register that holds a lane's state. -/
def laneKey (l : Nat) : Key := if l < 64 then Reg.FAB_LANE_STATE l else Hid.twinLane (l - 64)
/-- A lane's state (Table 8.1). -/
def State.laneState (s : State) (l : Nat) : Int := s.get (laneKey l)
/-- UP. -/
def State.laneUp (s : State) (l : Nat) : Bool := s.laneState l == 3

/-- LANES of the twin link (`6400:02`); with no lane UP the link is down (R189). -/
def State.refreshTwinLanes (s : State) : State :=
  let t := s.put Reg.TWIN_LINK_LANES (b2i (s.laneUp 64) + 2 * b2i (s.laneUp 65))
  if t.get Reg.TWIN_LINK_LANES = 0 then t.linkFalls.settleQueue else t

/-- A lane enters a state (`6000:02`, `:09`, `:0A`); a lane on which the FX candidate stands shows at once (R74). -/
def State.laneEnter (s : State) (l : Nat) (st : Int) : State :=
  let t := (s.put (laneKey l) st).put (Hid.laneAt l) s.tickLf
  if 64 ≤ l then (t.when (st == 4) (fun u => u.bump (Hid.twinFailures (l - 64)))).refreshTwinLanes
  else (if st = 3 then t.put (Reg.FAB_LANE_UP_SINCE l) s.nowLT
    else if st = 4 then t.bump (Reg.FAB_LANE_FAILURES l) else t).refPresence

/-- A lane may leave OFF: its island runs and ENABLE is 1; a twin lane needs the edge role and a state other than
STRAP_SOLO (Table 8.1, R189). -/
def State.laneAllowed (s : State) (l : Nat) : Bool :=
  s.runs (laneIsland l) &&
    (if l < 64 then s.get (Reg.FAB_LANE_ENABLE l) == 1 else s.edge && s.get Reg.PAIRING_STATE != 0)

/-- OFF to TRAINING (Table 8.1). -/
def State.trainStart (s : State) (l : Nat) : State :=
  if s.laneState l = 0 ∧ s.laneAllowed l = true then (s.laneEnter l 1).put (Hid.alignRun l) 0 else s

/-- The identity a far end must declare (R23, R160, R189): the other role, slot l div 2, lane 2 s + (l mod 2); on a twin
lane an edge device of the paired slot and the other side. -/
def State.identityOk (s : State) (l role slot lane side : Nat) : Bool :=
  if l < 64 then
    role == (if s.edge then 1 else 0) && slot == l / 2 && lane == 2 * s.slot + l % 2
  else role == 0 && slot == (s.slot ^^^ 1) && lane == l - 64 && (side : Int) == 1 - s.get Reg.PAIRING_SIDE

/-- Training completes: the identity and delay checks decide between ALIGNING and FAILED (R159, R160, R189). A twin lane
has no calendar to align to and enters UP. -/
def State.trainDone (s : State) (l role slot lane side delay : Nat) : State :=
  if s.laneState l ≠ 1 then s
  else
    let t := if l < 64 then
        (((s.put (Reg.FAB_LANE_PEER_ROLE l) role).put (Reg.FAB_LANE_PEER_SLOT l) slot).put (Reg.FAB_LANE_PEER_LANE l)
          lane).put (Reg.FAB_LANE_DELAY l) delay
      else (s.put Reg.TWIN_LINK_DELAY delay).put Reg.PAIRING_PARTNER_SLOT slot
    if !s.identityOk l role slot lane side then
      (if l < 64 then (t.laneEnter l 4).raise (496 + l) 2 l else (t.laneEnter l 4).raise (496 + l) 1 (l - 64))
    else if 3600 < delay then t.laneEnter l 4
    else if l < 64 then t.laneEnter l 2 else t.laneEnter l 3

/-- Training not complete within 500 ms (R159). -/
def State.trainTimeout (s : State) (l : Nat) : State :=
  if s.laneState l = 1 ∧ s.get (Hid.laneAt l) + 26460000000 ≤ s.tickLf then s.laneEnter l 4 else s

/-- The arrival offset has lain within 300 lf for 10 consecutive periods (R159, R161). -/
def State.aligned (s : State) (l : Nat) : State :=
  if l < 64 ∧ s.laneState l = 2 ∧ 10 ≤ s.get (Hid.alignRun l) then s.laneEnter l 3 else s

/-- A failure condition of R162 on an UP lane. -/
def State.laneFail (s : State) (l : Nat) : State :=
  if s.laneState l ≠ 3 then s
  else if l < 64 then (s.laneEnter l 4).raise (496 + l) 1 l else s.laneEnter l 4

/-- 100 ms after its entry to FAILED a lane trains again (R159). -/
def State.laneRetry (s : State) (l : Nat) : State :=
  if s.laneState l = 4 ∧ s.get (Hid.laneAt l) + 5292000000 ≤ s.tickLf then
    (if s.laneAllowed l then (s.laneEnter l 1).put (Hid.alignRun l) 0 else s.laneEnter l 0)
  else s

/-- A write of ENABLE: 0 holds the lane OFF (R159). -/
def State.laneEnable (s : State) (l : Nat) (v : Int) : State :=
  let t := s.put (Reg.FAB_LANE_ENABLE l) v
  if v = 0 then t.laneEnter l 0 else t

/-- A cell leaves on a lane in slot k, counted from the epoch, past the injection entries, and counts (R163, R402, `6300:01`). -/
def State.sendCell (s : State) (l : Nat) (c : Cell) (k : Nat) : State :=
  let r := s.inject 1 l 0 (.cell c) 2048
  (r.1.bump (Reg.FAB_STATS_CELLS_TX l)).each r.2 (fun t u =>
    match u.unit with
    | .cell d => t.send (.cell l d ⟨cellCrc d, k % 4410, k / 4410⟩)
    | _ => t)

/-- A cell that arrives is counted; a bad CRC or a reserved kind discards it (R165, Table 8.4). -/
def State.cellIn (s : State) (l : Nat) (crcOk : Bool) (kind : Nat) : State × Bool :=
  if !s.laneUp l then (s, false)
  else if !crcOk then (s.bump (Reg.FAB_STATS_CRC_ERRORS l), false)
  else if 3 ≤ kind ∧ kind ≤ 7 then ((s.bump (Reg.FAB_STATS_CELLS_RX l)).bump (Reg.FAB_STATS_BAD_KIND l), false)
  else if kind = 0 then (s, false)
  else (s.bump (Reg.FAB_STATS_CELLS_RX l), true)

/-! ### Calendars -/

/-- The slots of a pattern (R172). -/
def patSlots (phase count : Nat) : List Nat := (List.range count).map (fun j => (phase + j * 4410 / count) % 4410)

/-- A pattern holds in period n. -/
def Pattern.holds (p : Pattern) (n : Nat) : Bool :=
  decide (p.from_ ≤ n) && (match p.until_ with | none => true | some u => decide (n < u))
/-- A pattern occupies its slots in or after period n. -/
def Pattern.occupies (p : Pattern) (n : Nat) : Bool :=
  match p.until_ with | none => true | some u => decide (n < u)

/-- A control cell of a kind, sent now (Table 8.3: SOU and EOU set, no plane, no sequence). -/
def State.controlCell (s : State) (kind shelf : Nat) (b : CellBody) : Cell :=
  ⟨kind, 0, shelf, 0, (s.now % 2 ^ 40).toNat, 118, true, true, false, 0, 0, 0, 0, 0, 0, b⟩

/-- The pattern that holds slot k, counted from the epoch, in the transmit direction of lane l. -/
def State.slotPattern (s : State) (l k : Nat) : Option Pattern :=
  s.patterns.find? (fun p => p.lane == l && p.tx && p.holds (k / 4410) && (patSlots p.phase p.count).contains (k % 4410))

/-- The slot the next control cell of a lane rides in: the first from now on that holds no assigned cell (R172); while its patterns
leave none within a period, none is skipped. -/
def State.controlSlot (s : State) (l : Nat) : Nat :=
  let k := max (slotFrom s.now) (s.getN (Hid.txNext l))
  ((List.range 4410).find? (fun i => (s.slotPattern l (k + i)).isNone)).elim k (fun i => k + i)

/-- A control cell leaves on a lane in the next slot that holds no assigned cell (R172). -/
def State.sendControl (s : State) (l : Nat) (c : Cell) : State :=
  let k := s.controlSlot l
  (s.sendCell l c k).put (Hid.txNext l) (k + 1 : Nat)

/-- The slots taken on a lane in one direction for period n and after. -/
def State.slotsTaken (s : State) (l : Nat) (tx : Bool) (n : Nat) : List Nat :=
  ((s.patterns.filter (fun p => p.lane == l && p.tx == tx && p.occupies n)).map (fun p => patSlots p.phase p.count)).flatten

/-- Bit t of a mask as `6100:01` holds it: msb of byte 0 is slot 0. -/
def maskBit (m : Nat) (t : Nat) : Bool := bitOf m (4415 - t)

/-- The masks a lane's slots must pass: its own and the far end's, each with the one that waits for its period (R173). -/
def State.laneMasks (s : State) (l : Nat) : List Nat :=
  let own := s.getN (Reg.FAB_CALENDAR_SLOT_MASK l)
  let staged := s.slips.filterMap (fun x =>
    if x.st = .launched ∧ x.kind = 6 ∧ x.target = l then
      (x.items.find? (fun i => i.1 == Reg.FAB_CALENDAR_SLOT_MASK l)).map (fun i => i.2.toNat) else none)
  let peer := s.getN (Reg.FAB_CALENDAR_PEER_MASK l)
  own :: peer :: staged ++ (if s.get (Hid.peerNewAt l) = 0 then [] else [s.getN (Hid.peerNew l)])

/-- Slots of a candidate pattern are free on a lane: unassigned, unmasked at both ends, and 49 slots stay unassigned
(R172, R173). -/
def State.slotsFree (s : State) (l : Nat) (tx : Bool) (n : Nat) (slots : List Nat) : Bool :=
  let taken := s.slotsTaken l tx n
  let masks := s.laneMasks l
  decide (taken.length + slots.length ≤ 4361) &&
    slots.all (fun t => !taken.contains t && masks.all (fun m => maskBit m t))

/-- A lane accepts new patterns: UP with ADMIT OPEN at both ends (R174). -/
def State.laneOpen (s : State) (l : Nat) : Bool :=
  s.laneUp l && s.get (Reg.FAB_PATH_ADMIT l) == 0 && s.get (Hid.peerAdmit l) == 0

/-- A path through slot c of the other role is usable (R174). -/
def State.pathUsable (s : State) (c : Nat) : Bool := s.laneOpen (2 * c) || s.laneOpen (2 * c + 1)

/-- ASSIGNED and DRAINED of every lane for period n (`6100:04`, `6200:02`). -/
def State.refreshCalendars (s : State) (n : Nat) : State :=
  s.each (List.range 64) (fun t l =>
    let own := t.patterns.filter (fun p => p.lane == l && p.occupies n)
    let sent := own.filter (fun p => p.tx && p.holds n)
    (t.put (Reg.FAB_CALENDAR_ASSIGNED l) (sent.foldl (fun a p => a + p.count) 0 : Nat)).put (Reg.FAB_PATH_DRAINED l)
      (b2i (own == [] && t.get (Reg.FAB_PATH_ADMIT l) != 0)))

/-- The entry of slot t of lane l's CALENDAR (Table 8.5b). -/
def State.calendarEntry (s : State) (l t : Nat) : Nat :=
  match s.patterns.find? (fun p => p.lane == l && p.tx && p.holds s.period && (patSlots p.phase p.count).contains t) with
  | none => 0
  | some p => 2 ^ 31 + p.plane * 2 ^ 30 + p.ingress * 2 ^ 20 + p.shelf

/-- `6100[l]:02` CALENDAR, 17,640 bytes. -/
def State.calendarValue (s : State) (l : Nat) : Nat :=
  (List.range 4410).foldl (fun a t => a * 2 ^ 32 + s.calendarEntry l t) 0

/-! ### Subscriptions -/

/-- The edge slot of a shelfmark and its local index (R17). -/
def shelfSlot (m : Nat) : Nat := m / 32768
def shelfIndex (m : Nat) : Nat := m % 32768

/-- A local index lies in a range of Table 8.5 (R166). -/
def indexValid (i : Nat) : Bool :=
  decide (i ≤ 0x5F) || (decide (0x100 ≤ i) && decide (i ≤ 0x43FF)) || (decide (0x7F00 ≤ i) && decide (i ≤ 0x7FFF))

/-- PROMPT by its local index (Table 8.5). -/
def indexPrompt (i : Nat) : Bool :=
  decide (i ≤ 0x5F) || (decide (0x4200 ≤ i) && decide (i ≤ 0x42FF)) || decide (0x7F00 ≤ i)

/-- The offer of a shelfmark in the frame's table with STATE 1 or 2 (R171). -/
def State.offerOf (s : State) (m : Nat) : Option OfferRec :=
  (s.offers.find? (fun o => o.1.shelf == m && o.1.state != 0)).map (·.1)

/-- The subscription to a shelfmark. -/
def State.subOf (s : State) (m : Nat) : Option FabSub := s.fabSubs.find? (fun x => x.shelf == m && x.releaseAt == 0)

/-- A subscription replaced by its changed record, or added. -/
def State.setSub (s : State) (x : FabSub) : State :=
  { s with fabSubs := s.fabSubs.map (fun y => if y.el = x.el then x else y) }

/-- One plane of a subscription. -/
def FabSub.plane (x : FabSub) (p : Nat) : Plane := if p = 0 then x.plane0 else x.plane1
def FabSub.withPlane (x : FabSub) (p : Nat) (q : Plane) : FabSub :=
  if p = 0 then { x with plane0 := q } else { x with plane1 := q }

/-- STATE, RESULT and centres of a subscription as its planes stand (Table 8.14). -/
def State.showSub (s : State) (x : FabSub) : State :=
  let g0 := x.plane0.st == 2
  let g1 := x.plane1.st == 2
  let asked := x.plane0.st == 1 || x.plane1.st == 1
  let st : Int := if x.releaseAt ≠ 0 then 5 else if g0 && g1 then 2 else if g0 || g1 then 3 else if asked then 1 else 4
  let bad := x.plane0.st == 3 || x.plane1.st == 3
  ((((((s.put (Reg.FAB_SUB_SHELF x.el) x.shelf).put (Reg.FAB_SUB_STATE x.el) st).put (Reg.FAB_SUB_CENTRE0 x.el)
    (if g0 then (x.plane0.centre : Int) else 255)).put (Reg.FAB_SUB_CENTRE1 x.el)
    (if g1 then (x.plane1.centre : Int) else 255)).put (Reg.FAB_SUB_K x.el) x.k).put (Reg.FAB_SUB_RESULT x.el)
    (if bad then (Status.capacity.code : Nat) else 0)).put (Reg.FAB_SUB_USERS x.el) x.users.length
    |>.put (Hid.subLinks x.el) x.links

/-- SUBSCRIPTIONS and OFFERS (`6010:02`, `:03`). -/
def State.refreshFabCounts (s : State) : State :=
  (s.put Reg.FAB_CONFIG_SUBSCRIPTIONS s.fabSubs.length).put Reg.FAB_CONFIG_OFFERS s.offers.length

/-- The centre tried first for a plane of a shelfmark (R175). -/
def firstCentre (m plane : Nat) : Nat := (shelfIndex m + 3 * shelfSlot m + 16 * plane) % 32

/-- The next centre of the order that is usable, not in the F island of the other plane's centre, not the one to avoid, and not yet
tried in this round, which began `start` into the order and has passed `tried` centres (R175, R179, R180, R185). -/
def State.nextCentre (s : State) (x : FabSub) (plane tried : Nat) (avoid : Option Nat) : Option (Nat × Nat) :=
  let q := x.plane plane
  let o := x.plane (1 - plane)
  (List.range (32 - tried)).findSome? (fun i =>
    let c := (firstCentre x.shelf plane + q.start + tried + i) % 32
    let clash := x.protect && ((o.st == 1 || o.st == 2) && c / 4 == o.centre / 4 ||
      (o.move.map (fun v => v.asked && c / 4 == v.centre / 4)).getD false)
    if s.pathUsable c && !clash && avoid != some c then some (c, tried + i + 1) else none)

/-- The period a reservation sent now names (R176). -/
def State.namedPeriod (s : State) : Nat := if s.now % calLf < 4233600 then s.period + 2 else s.period + 3

/-- The lane a control cell to centre c leaves on: the lower UP lane of the path. -/
def State.pathLane (s : State) (c : Nat) : Option Nat :=
  if s.laneUp (2 * c) then some (2 * c) else if s.laneUp (2 * c + 1) then some (2 * c + 1) else none

/-- The payload of a request for one plane of a subscription: RESERVE, or RELEASE (Table 8.6). -/
def State.planeResv (s : State) (x : FabSub) (plane rq : Nat) : Resv :=
  ⟨x.shelf, s.namedPeriod % 2 ^ 32, rq, s.slot, shelfSlot x.shelf, x.cls, plane, 0, x.k, x.links, []⟩

/-- A control cell goes to centre c, on the lower UP lane of the path; with no lane UP it is not sent. -/
def State.toCentre (s : State) (c kind : Nat) (r : Resv) : State :=
  match s.pathLane c with
  | none => s
  | some l => s.sendControl l (s.controlCell kind r.shelf (.resv r))

/-- A RESERVE goes to the next centre of a plane's order; with none left the plane stands without a path, FAB_NO_PATH is
raised and RESULT reads CAPACITY (R175, R176, R179). -/
def State.reservePlane (s : State) (x : FabSub) (plane : Nat) : State :=
  match s.nextCentre x plane (x.plane plane).tried none with
  | none =>
    let q : Plane := { x.plane plane with st := 3, since := s.tickLf }
    ((s.setSub (x.withPlane plane q)).showSub (x.withPlane plane q)).raise 17
  | some (c, tried) =>
    let rq := (s.getN Hid.reqNo + 1) % 65536
    let q : Plane := { x.plane plane with st := 1, centre := c, tried := tried, request := rq, since := s.tickLf }
    let y := x.withPlane plane q
    (((s.put Hid.reqNo rq).setSub y).showSub y).toCentre c 8 (s.planeResv x plane rq)

/-- A granted plane asks for another path while its own still carries: make-before-break (R174, R180). With every centre passed it
asks again after 100 periods. -/
def State.movePlane (s : State) (x : FabSub) (plane : Nat) : State :=
  let q := x.plane plane
  let v : Move := q.move.getD ⟨q.centre, 0, 0, false⟩
  if v.asked = true ∨ (32 ≤ v.tried ∧ s.tickLf < q.since + 100 * calLf) then s
  else
    match s.nextCentre x plane (if 32 ≤ v.tried then 0 else v.tried) (some q.centre) with
    | none => s.setSub (x.withPlane plane { q with move := some ⟨q.centre, 32, 0, false⟩, since := s.tickLf })
    | some (c, tried) =>
      let rq := (s.getN Hid.reqNo + 1) % 65536
      ((s.put Hid.reqNo rq).setSub (x.withPlane plane { q with move := some ⟨c, tried, rq, true⟩ })).toCentre c 8 (s.planeResv x plane rq)

/-- A user of a source on another edge device takes a subscription: the one that stands, or a new one, reserved on
plane 0 and, while PROTECT is 1, plane 1 (R175, R182). None: a 4,097th (CAPACITY). -/
def State.openSub (s : State) (m user : Nat) : Option State :=
  match s.subOf m with
  | some x =>
    let y := { x with users := if x.users.contains user then x.users else x.users ++ [user] }
    some ((s.setSub y).showSub y)
  | none =>
    if 4096 ≤ s.fabSubs.length then none
    else
      let el := ((List.range 4096).find? (fun e => !s.fabSubs.any (fun x => x.el == e))).getD 0
      let o := (s.offerOf m).getD ⟨m, 619, 0, 1, 0, 0, 1⟩
      let q : Plane := ⟨0, 0, 0, 0, 0, 0, s.tickLf, s.tickLf, none, none⟩
      let x : FabSub := ⟨el, m, o.cls, o.k, o.links, [user], s.get Reg.FAB_CONFIG_PROTECT == 1, q, q,
        (List.range o.links).map (fun i => ⟨i, false, 0, 0, true, []⟩), none, 0, 0, 0, false, 0⟩
      let t := { s with fabSubs := s.fabSubs ++ [x] }
      let t := t.reservePlane x 0
      let t := if x.protect then
          (match t.subOf m with | none => t | some y => t.reservePlane y 1) else t
      some t.refreshFabCounts

/-- A RELEASE of the path of one plane through centre c: its patterns end at the period it names (R176, R180). -/
def State.releasePath (s : State) (x : FabSub) (plane c rq : Nat) : State :=
  ({ s with patterns := s.patterns.map (fun (p : Pattern) =>
    if p.shelf = x.shelf ∧ p.plane = plane ∧ p.tx = false ∧ p.lane / 2 = c ∧ p.until_ = none then
      { p with until_ := some s.namedPeriod } else p) } : State).toCentre c 12 (s.planeResv x plane rq)

/-- A RELEASE for everything one plane of a subscription holds or has asked for goes to its centres (R180, R185). -/
def State.releasePlane (s : State) (x : FabSub) (plane : Nat) : State :=
  let q := x.plane plane
  let t := if q.st = 1 ∨ q.st = 2 then s.releasePath x plane q.centre q.request else s
  let t := match q.old with
    | none => t
    | some o => if o.1 = q.centre then t else t.releasePath x plane o.1 q.request
  match q.move with
  | none => t
  | some v => if v.asked = true ∧ v.centre ≠ q.centre then t.releasePath x plane v.centre v.request else t

/-- A user of a subscription stops; with the last the subscription is released at once on both planes (R180). -/
def State.closeSub (s : State) (m user : Nat) : State :=
  match s.subOf m with
  | none => s
  | some x =>
    let y := { x with users := x.users.filter (fun u => u != user) }
    if y.users ≠ [] then (s.setSub y).showSub y
    else
      let t := (s.releasePlane x 0).releasePlane x 1
      let z := { y with releaseAt := s.namedPeriod }
      (t.setSub z).showSub z

/-- The free slots of a lane's downlink as its own calendar shows them: unassigned, marked usable by both ends, above the control
reserve (R172, R173, R181). -/
def State.laneRoom (s : State) (l : Nat) : Nat :=
  let taken := s.slotsTaken l false s.period
  let masks := s.laneMasks l
  min (4361 - taken.length) ((List.range 4410).filter (fun t => !taken.contains t && masks.all (fun m => maskBit m t))).length

/-- Some usable path has so many free downlink slots. -/
def State.roomFor (s : State) (n : Nat) : Bool :=
  (List.range 32).any (fun c => s.pathUsable c &&
    decide (n ≤ (([2 * c, 2 * c + 1].filter (fun l => s.laneOpen l)).map (fun l => s.laneRoom l)).foldl (· + ·) 0))

/-- The PATH check at a check point: some usable path of either plane has K × L free downlink slots by the device's own
calendars (R181). A stream the device receives already needs no further slot. -/
def State.pathRoom (s : State) (m : Nat) : Bool :=
  match s.subOf m with
  | some x => if x.plane0.st = 2 ∨ x.plane1.st = 2 then true else s.roomFor (x.k * x.links)
  | none =>
    let o := (s.offerOf m).getD ⟨m, 619, 0, 1, 0, 0, 1⟩
    s.roomFor (o.k * o.links)

/-! ### Answers to reservations -/

/-- The subscription an answer concerns: the plane's request, or that of its move (R176, R180). -/
def State.answerTo (s : State) (r : Resv) : Option FabSub :=
  match s.subOf r.shelf with
  | none => none
  | some x =>
    let q := x.plane r.plane
    let asked := (q.st == 1 && q.request == r.request) || (q.move.map (fun v => v.asked && v.request == r.request)).getD false
    if r.subscriber = s.slot ∧ asked = true then some x else none

/-- The patterns of an answer on the lanes of path c, as the device uses them. -/
def answerPatterns (c from_ : Nat) (tx : Bool) (r : Resv) : List Pattern :=
  r.patterns.map (fun (p : Pat) =>
    ⟨2 * c + p.lane, tx, r.plane, r.shelf, p.link, (if tx then p.phase else (p.phase + 4) % 4410), p.count, from_, none, 0⟩)

/-- A GRANT loads the granted patterns into the shadow calendar from the period named; a plane that moves keeps its old path until
the new one's first period (R176, R180). -/
def State.grantCell (s : State) (l : Nat) (r : Resv) : State :=
  match s.answerTo r with
  | none => s
  | some x =>
    let n := s.fullPeriod r.period
    let p := x.plane r.plane
    let left : Option (Nat × Nat) := if p.st = 2 then some (p.centre, n) else none
    let q : Plane := { p with st := 2, centre := l / 2, from_ := n, start := 0, tried := 0, lastCell := s.tickLf, request := r.request,
                              move := none, old := left }
    let y := x.withPlane r.plane q
    (({ s with patterns := s.patterns ++ answerPatterns (l / 2) n false r } : State).setSub y).showSub y

/-- A DENY moves the subscriber to the next centre of its order, from the next period on (R179). -/
def State.denyCell (s : State) (r : Resv) : State :=
  match s.answerTo r with
  | none => s
  | some x =>
    let q := x.plane r.plane
    let y := x.withPlane r.plane (if q.st = 2 then { q with move := q.move.map (fun v => { v with asked := false }) } else { q with st := 0 })
    (s.setSub y).showSub y

/-- An ASSIGN gives the origin a new uplink pattern to send (R176, R177). -/
def State.assignCell (s : State) (l : Nat) (r : Resv) : State :=
  if r.origin ≠ s.slot then s else { s with patterns := s.patterns ++ answerPatterns (l / 2) (s.fullPeriod r.period) true r }

/-- A RELEASE from a centre frees an origin's uplink pattern from the named period (R180). -/
def State.releaseAtOrigin (s : State) (l : Nat) (r : Resv) : State :=
  { s with patterns := s.patterns.map (fun (p : Pattern) =>
      if p.lane / 2 = l / 2 ∧ p.tx = true ∧ p.shelf = r.shelf ∧ p.plane = r.plane ∧ p.until_ = none ∧
        (r.patterns = [] ∨ r.patterns.any (fun q => 2 * (l / 2) + q.lane == p.lane && q.phase == p.phase && q.link == p.link) = true)
      then { p with until_ := some (s.fullPeriod r.period) } else p) }

/-! ### The centre's settlement -/

/-- Requests of one cut-off in the rotating order of period n, one slot's in ascending REQUEST (R177). -/
def settleOrder (n : Nat) (l : List Resv) : List Resv :=
  let rank (r : Resv) : Nat := ((r.subscriber + 32 - n % 32) % 32) * 65536 + r.request
  let ins (acc : List Resv) (r : Resv) : List Resv :=
    acc.filter (fun x => decide (rank x ≤ rank r)) ++ [r] ++ acc.filter (fun x => decide (rank r < rank x))
  l.foldl ins []

/-- Room for one link on an ingress lane and an egress lane together: the lowest phase that fits (R172, R177). -/
def State.jointPhase (s : State) (inL outL n count : Nat) : Option Nat :=
  (List.range 4410).find? (fun ph =>
    s.slotsFree inL false n (patSlots ph count) &&
      s.slotsFree outL true n ((patSlots ph count).map (fun t => (t + 4) % 4410)))

/-- One link of a new stream: lower lanes first. -/
def State.placeLink (s : State) (r : Resv) (n : Nat) : Option (Nat × Nat × Nat) :=
  [(0, 0), (0, 1), (1, 0), (1, 1)].findSome? (fun p =>
    let inL := 2 * r.origin + p.1
    let outL := 2 * r.subscriber + p.2
    if s.laneOpen inL && s.laneOpen outL then (s.jointPhase inL outL n r.k).map (fun ph => (p.1, p.2, ph)) else none)

/-- The patterns of one link of an accepted request: ingress and egress. -/
def linkPatterns (r : Resv) (n link a b ph : Nat) (newUp : Bool) : List Pattern :=
  (if newUp then [⟨2 * r.origin + a, false, r.plane, r.shelf, link, ph, r.k, n, none, 0⟩] else []) ++
    [⟨2 * r.subscriber + b, true, r.plane, r.shelf, link, (ph + 4) % 4410, r.k, n, none, 2 * r.origin + a⟩]

/-- Every link of a new stream in turn: the state with its patterns, and the uplink and downlink patterns granted. -/
def State.placeNew (s : State) (r : Resv) (n : Nat) : List Nat → Option (State × List Pat × List Pat)
  | [] => some (s, [], [])
  | k :: ks =>
    match s.placeLink r n with
    | none => none
    | some (a, b, ph) =>
      match State.placeNew { s with patterns := s.patterns ++ linkPatterns r n k a b ph true } r n ks with
      | none => none
      | some (t, up, down) => some (t, ⟨a, k, ph, r.k⟩ :: up, ⟨b, k, ph, r.k⟩ :: down)

/-- Every link of a stream that rides the origin's uplink already: room on the downlink at its slots (R177, R178). -/
def State.placeRiding (s : State) (r : Resv) (n : Nat) : List Nat → Option (State × List Pat)
  | [] => some (s, [])
  | k :: ks =>
    let ups := s.patterns.filter (fun p => p.tx == false && p.lane / 2 == r.origin && p.shelf == r.shelf &&
      p.plane == r.plane && p.link == k && p.until_ == none)
    let hit := ups.findSome? (fun u =>
      [0, 1].findSome? (fun b =>
        let outL := 2 * r.subscriber + b
        if s.laneOpen outL && s.slotsFree outL true n ((patSlots u.phase u.count).map (fun t => (t + 4) % 4410)) then
          some (u, b) else none))
    match hit with
    | none => none
    | some (u, b) =>
      match State.placeRiding { s with patterns := s.patterns ++
          [⟨2 * r.subscriber + b, true, r.plane, r.shelf, k, (u.phase + 4) % 4410, u.count, n, none, u.lane⟩] } r n ks with
      | none => none
      | some (t, down) => some (t, ⟨b, k, u.phase, u.count⟩ :: down)

/-- The stream rides this centre's uplink from its origin on the plane asked for. -/
def State.rides (s : State) (r : Resv) : Bool :=
  s.patterns.any (fun p => p.tx == false && p.lane / 2 == r.origin && p.shelf == r.shelf && p.plane == r.plane && p.until_ == none)

/-- A centre's answer to a request. -/
inductive Settled
  | granted (t : State) (up down : List Pat)
  | denied (reason : Nat)

/-- Room for a request as the calendars stand: on the uplink that carries the stream, or on a new one (R177). -/
def State.tryPlace (s : State) (r : Resv) (n : Nat) : Option (State × List Pat × List Pat) :=
  let links := List.range r.links
  let riding := if s.rides r then (s.placeRiding r n links).map (fun x => (x.1, ([] : List Pat), x.2)) else none
  match riding with
  | some x => some x
  | none =>
    let ups := (s.patterns.filter (fun p => p.tx == false && p.lane / 2 == r.origin && p.shelf == r.shelf &&
      p.plane == r.plane && p.link == 0 && p.until_ == none)).length
    if s.rides r && decide (4 ≤ ups) then none else s.placeNew r n links

/-- The settlement of one request at a cut-off of period n (R176 to R178, R187, Table 8.7); `start` is the state at the
start of the settlement. -/
def State.settleRequest (s start : State) (r : Resv) (n : Nat) : Settled :=
  if !s.runs 5 || s.get (Hid.restarting 5) == 1 || s.get Hid.safeCut == 1 || !(s.get Reg.MODE_ACTIVE == 1 || s.get Reg.MODE_ACTIVE == 6) then .denied 5
  else if r.period ≠ (n + 2) % 2 ^ 32 then .denied 6
  else if (s.offerOf r.shelf).isNone then .denied 4
  else if !s.pathUsable r.origin then .denied 3
  else
    match s.tryPlace r (n + 2) with
    | some (t, up, down) => .granted t up down
    | none => if (start.tryPlace r (n + 2)).isSome then .denied 2 else .denied 1

/-- A centre's answer leaves on the lower UP lane to an edge slot. -/
def State.answer (s : State) (edgeSlot kind : Nat) (r : Resv) : State := s.toCentre edgeSlot kind r

/-- The uplink pattern u is read: some downlink pattern that goes on takes its slots (R178, R180). -/
def State.upRead (s : State) (u : Pattern) : Bool :=
  s.patterns.any (fun p => p.tx && p.ingress == u.lane && p.shelf == u.shelf && p.plane == u.plane && p.link == u.link &&
    p.phase == (u.phase + 4) % 4410 && p.until_ == none)

/-- A centre frees what a RELEASE names: the downlink patterns, and each uplink pattern once nothing reads it (R180). -/
def State.settleRelease (s : State) (r : Resv) : State :=
  let n := s.fullPeriod r.period
  let t : State := { s with patterns := s.patterns.map (fun (p : Pattern) =>
    if p.tx = true ∧ p.lane / 2 = r.subscriber ∧ p.shelf = r.shelf ∧ p.plane = r.plane ∧ p.until_ = none then
      { p with until_ := some n } else p) }
  let idle := t.patterns.filter (fun u => u.tx == false && u.lane / 2 == r.origin && u.shelf == r.shelf && u.plane == r.plane &&
    u.until_ == none && !t.upRead u)
  if idle = [] then t
  else
    ({ t with patterns := t.patterns.map (fun (p : Pattern) => if idle.contains p then { p with until_ := some n } else p) } : State).answer
      r.origin 12 { r with patterns := (idle.take 8).map (fun (p : Pattern) => ⟨p.lane % 2, p.link, p.phase, p.count⟩) }

/-- At slot 3,528 a centre settles every RESERVE and RELEASE it holds (R176, R177). -/
def State.cutoff (s : State) : State :=
  if s.edge || decide (s.now % calLf < 4233600) then s
  else
    let n := s.period
    let t := { s with requests := [] }
    let t := t.each (s.requests.filter (fun p => !p.1)) (fun t p => t.settleRelease p.2)
    let start := t
    (settleOrder n ((s.requests.filter (fun p => p.1)).map (·.2))).foldl (fun t r =>
      match t.settleRequest start r n with
      | .denied why => t.answer r.subscriber 10 { r with reason := why, patterns := [] }
      | .granted u up down =>
        let u := u.answer r.subscriber 9 { r with patterns := down }
        if up = [] then u else u.answer r.origin 11 { r with patterns := up }) t

/-- A RESERVE or RELEASE reaches a centre and waits for the next cut-off (R176). -/
def State.centreRequest (s : State) (isReserve : Bool) (r : Resv) : State :=
  if s.edge then s else { s with requests := s.requests ++ [(isReserve, r)] }

/-! ### Offers -/

/-- An OFFER updates the frame's table; a centre relays it, unchanged, on every UP downlink (R171). -/
def State.offerCell (s : State) (stamp : Nat) (recs : List OfferRec) : State :=
  let tab := recs.foldl (fun (tab : List (OfferRec × Int)) (r : OfferRec) =>
    let rest := tab.filter (fun o => o.1.shelf != r.shelf)
    if r.state = 0 then rest else rest ++ [(r, s.tickLf)]) s.offers
  let t := ({ s with offers := tab }).refreshFabCounts
  if s.edge || !s.runs 5 then t
  else t.each ((List.range 64).filter (fun l => s.laneUp l)) (fun u l =>
    u.sendControl l { s.controlCell 13 0 (.offers recs) with stamp := stamp })

/-- An offer not refreshed for 3 s leaves the table (R171). -/
def State.offerExpiry (s : State) (m : Nat) : State :=
  ({ s with offers := s.offers.filter (fun o => !(o.1.shelf == m && decide (o.2 + 3 * lfSec ≤ s.tickLf))) }).refreshFabCounts

/-! ### Lane status -/

/-- The bits of a full mask that part k carries: slots 1,792 k to 1,792 k + 1,791, msb first (Table 8.9). -/
def maskPart (m k : Nat) : Nat :=
  if k < 2 then m / 2 ^ (4416 - 1792 * (k + 1)) % 2 ^ 1792 else m % 2 ^ 832 * 2 ^ 960

/-- A full mask with part k replaced. -/
def maskWithPart (m k v : Nat) : Nat :=
  if k < 2 then
    let sh := 4416 - 1792 * (k + 1)
    m / 2 ^ (sh + 1792) * 2 ^ (sh + 1792) + v % 2 ^ 1792 * 2 ^ sh + m % 2 ^ sh
  else m / 2 ^ 832 * 2 ^ 832 + v / 2 ^ 960 % 2 ^ 832

/-- The mean arrival offset of a lane over a calendar period is known: the run of aligned periods grows, or ends (R161). -/
def State.arrivalKnown (s : State) (l : Nat) (arrival : Int) : State :=
  (s.put (Reg.FAB_LANE_ARRIVAL_OFFSET l) arrival).put (Hid.alignRun l) (if arrival.natAbs ≤ 300 then s.get (Hid.alignRun l) + 1 else 0)

/-- A LANE_STATUS cell updates identity, ADMIT, mask and arrival offset; the edge corrects its advance by at most 20 lf in a calendar
period (R160, R161, R173, R188). -/
def State.laneStatus (s : State) (l : Nat) (x : LaneStatus) : State :=
  if 64 ≤ l ∨ s.laneState l = 0 ∨ s.laneState l = 4 then s
  else
    let t := (((s.put (Reg.FAB_LANE_PEER_ROLE l) x.role).put (Reg.FAB_LANE_PEER_SLOT l) x.slot).put
      (Reg.FAB_LANE_PEER_LANE l) x.lane).put (Hid.peerAdmit l) x.admitting
    let t := if 2 < x.part then t
      else
        let base := if s.get (Hid.peerNewAt l) = 0 then s.getN (Reg.FAB_CALENDAR_PEER_MASK l) else s.getN (Hid.peerNew l)
        (t.put (Hid.peerNew l) (maskWithPart base x.part x.mask : Nat)).put (Hid.peerNewAt l) (s.fullPeriod x.period + 1 : Nat)
    if s.edge = false ∨ s.getN (Hid.advanceAt l) = s.period + 1 then t
    else
      (((t.put (Hid.advanceAt l) (s.period + 1 : Nat)).put (Reg.FAB_LANE_ADVANCE l)
        (s.get (Reg.FAB_LANE_ADVANCE l) + (if x.arrival.natAbs ≤ 300 then 0 else clampInt (-20) 20 x.arrival)))).arrivalKnown l x.arrival

/-- The LANE_STATUS cells of one lane that declare a mask and an ADMIT: one without a mask, or the full mask in three parts, with the
period from which it holds (R173, R188). -/
def State.sendMask (s : State) (l : Nat) (full : Bool) (m admitting from_ : Nat) : State :=
  let st (part mask : Nat) : LaneStatus := ⟨part, b2n (!s.edge), s.slot, l, from_ % 2 ^ 32,
    if s.edge then 0 else s.get (Reg.FAB_LANE_ARRIVAL_OFFSET l), admitting, mask⟩
  let parts := if full then [(0, maskPart m 0), (1, maskPart m 1), (2, maskPart m 2)] else [(255, 0)]
  s.each parts (fun t p => t.sendControl l (s.controlCell 14 0 (.status (st p.1 p.2))))

/-- The LANE_STATUS cells of one lane as its mask and ADMIT stand (R188). -/
def State.sendStatus (s : State) (l : Nat) (full : Bool) : State :=
  s.sendMask l full (s.getN (Reg.FAB_CALENDAR_SLOT_MASK l)) (s.getN (Reg.FAB_PATH_ADMIT l)) s.period

/-! ### Essence -/

/-- HOLD of a class (R183). -/
def holdTime (cls : Nat) : Int := if cls = 0 then 9600 else 5292000

/-- A key at or before another (R183). -/
def keyLe (a b : Int × Int) : Bool := decide (a.1 < b.1) || (decide (a.1 = b.1) && decide (a.2 ≤ b.2))

/-- The expected next cell (R183). -/
def Merge.expects (m : Merge) (stamp : Int) (c : Cell) : Bool :=
  if !m.any || m.eou then c.sou && (!m.any || decide (m.stamp < stamp)) else decide (stamp = m.stamp) && c.seq == m.seq + 1

/-- A released cell of a subscription that a COMPRESSED egress flow uses joins its packet, from the RTP header on; the last cell
completes it (R166, R223). -/
def State.joinPacket (s : State) (x : FabSub) (c : Cell) : State :=
  if x.users.any (fun u => decide (0x40000 ≤ u)) then
    let v := match c.body with
      | .words v => v
      | _ => 0
    let w (i : Nat) : Nat := v / 2 ^ (16 * (c.length - 1 - i)) % 65536
    let head : Int := if c.sou then
        (if 6 ≤ c.length then ((1 + 2 * (w 2 * 65536 + w 3 + 2 ^ 32 * w 1 + 2 ^ 48 * (w 0 / 128 % 2)) : Nat) : Int) else 0)
      else s.get (Hid.cprHead x.el)
    let bytes := (if c.sou then 0 else s.getN (Hid.cprBytes x.el)) + 2 * c.length
    if c.eou then
      let t := (s.put (Hid.cprHead x.el) 0).put (Hid.cprBytes x.el) 0
      let n := s.getN (Hid.cprN x.el)
      if head = 0 then t else (t.put (Hid.cprPacket x.el n) (head + 2 ^ 50 * bytes)).put (Hid.cprN x.el) (n + 1)
    else (s.put (Hid.cprHead x.el) head).put (Hid.cprBytes x.el) bytes
  else s

/-- A cell is released: the plane that delivered it first counts, and a first cell stamps its unit (R183, R146). -/
def State.releaseCell (s : State) (x : FabSub) (c : Cell) (stamp : Int) : State × FabSub :=
  let t := s.bump (if c.plane = 0 then Reg.FAB_SUB_PLANE0_FIRST x.el else Reg.FAB_SUB_PLANE1_FIRST x.el)
  (t.joinPacket x c, { x with stamp := if c.sou && c.link == 0 then stamp else x.stamp })

/-- Held cells are released in key order while each is the expected next (R183). -/
def State.drainHeld (s : State) (x : FabSub) (m : Merge) : Nat → State × FabSub × Merge
  | 0 => (s, x, m)
  | fuel + 1 =>
    match m.held.find? (fun h => m.expects h.2.1 h.1) with
    | none => (s, x, m)
    | some h =>
      let r := s.releaseCell x h.1 h.2.1
      let left := m.held.filter (fun k => !keyLe (k.2.1, k.1.seq) (h.2.1, h.1.seq))
      let n : Merge := { m with any := true, stamp := h.2.1, seq := h.1.seq, eou := h.1.eou, held := left }
      State.drainHeld r.1 r.2 n fuel

/-- A subscription with one link's merge replaced. -/
def FabSub.withMerge (x : FabSub) (m : Merge) : FabSub :=
  { x with merges := x.merges.map (fun y => if y.link = m.link then m else y) }

/-- What a cell says of its source (R170, R164): LINKS, and LEVEL as `3000:11` has it, where the link is a 3G link. -/
def cellSrc (c : Cell) : Bool × Nat × Nat × Nat × Nat × Nat :=
  (c.present, c.format, c.rate, 2 ^ c.group, if c.rate = 3 then c.level + 1 else 0, c.division)

/-- A source's state applies at the stamp that carries it, once (R170, R183). -/
def FabSub.learn (x : FabSub) (stamp : Int) (v : Bool × Nat × Nat × Nat × Nat × Nat) : FabSub :=
  if x.src.isNone || decide (x.srcAt < stamp) then { x with src := some v, srcAt := stamp } else x

/-- A cell of a subscribed stream meets the cell Concordance (R183). -/
def State.concordCell (s : State) (x : FabSub) (c : Cell) : State :=
  let stamp := restoreStamp 40 c.stamp s.now
  let q := { x.plane c.plane with lastCell := s.tickLf }
  let y := x.withPlane c.plane q
  let x := y.learn stamp (cellSrc c)
  match x.merges.find? (fun m => m.link == c.link) with
  | none => s.setSub x
  | some m =>
    if m.any && keyLe (stamp, c.seq) (m.stamp, m.seq) then (s.bump (Reg.FAB_SUB_DUPLICATES x.el)).setSub x
    else if m.held.any (fun h => decide (h.2.1 = stamp) && (h.1.seq == c.seq)) then
      (s.bump (Reg.FAB_SUB_DUPLICATES x.el)).setSub x
    else
      let m := { m with held := m.held ++ [(c, stamp, s.tickLf)] }
      let r := s.drainHeld x m (m.held.length + 1)
      r.1.setSub (r.2.1.withMerge r.2.2)

/-- The line of a link's frame that word w of its unit lies on. -/
def lineOfWord (rate : Nat) (format : Int) (w : Nat) : Nat :=
  let p := framePeriod format
  w * (p / max 1 (linePeriod format)).toNat / max 1 (linkWords rate p) + 1

/-- Cells a up to but not including b (none: the end) of a frame of a subscribed picture stream never came: its lines are missing (R149,
R151, R168). -/
def State.cellsCut (s : State) (x : FabSub) (stamp : Int) (a : Nat) (b : Option Nat) : State :=
  match x.src with
  | none => s
  | some (_, format, rate, _) =>
    if format = 0 ∨ b = some a then s
    else s.cut ⟨x.shelf, stamp, lineOfWord rate format (a * cellQ rate),
      match b with | none => 0 | some k => lineOfWord rate format (k * cellQ rate - 1)⟩

/-- The gap before cell h of a link's merge, in lines: the cells missing of its unit, and the rest of the unit before it. -/
def State.gapCut (s : State) (x : FabSub) (m : Merge) (stamp : Int) (seq : Nat) : State :=
  if m.any = true ∧ stamp = m.stamp then s.cellsCut x stamp (m.seq + 1) (some seq)
  else (if m.any = true ∧ m.eou = false then s.cellsCut x m.stamp (m.seq + 1) none else s).cellsCut x stamp 0 (some seq)

/-- The held cells at or before a key are released in key order, and the cells missing before each are lost (R183). Within one unit
their number is the gap in the sequence; across units the spec gives no count, and it is free (log entry 3). A packet that misses a
cell is not put together. -/
def State.releaseUpTo (s : State) (x : FabSub) (m : Merge) (key : Int × Int) : Nat → State × FabSub × Merge
  | 0 => (s, x, m)
  | fuel + 1 =>
    let first := m.held.foldl (fun (a : Option (Cell × Int × Int)) h =>
      match a with
      | none => some h
      | some b => if keyLe (b.2.1, b.1.seq) (h.2.1, h.1.seq) then a else some h) none
    match first with
    | none => (s, x, m)
    | some h =>
      if keyLe (h.2.1, h.1.seq) key = false then (s, x, m)
      else
        let inUnit := m.any && decide (h.2.1 = m.stamp)
        let t := if m.expects h.2.1 h.1 then s
          else ((if inUnit then s else s.drawn).bumpBy (Reg.FAB_SUB_LOST x.el) (if inUnit then (h.1.seq : Int) - m.seq - 1 else s.freeVal)).put
            (Hid.cprHead x.el) 0
        let r := (if m.expects h.2.1 h.1 then t else t.gapCut x m h.2.1 h.1.seq).releaseCell x h.1 h.2.1
        let left := m.held.filter (fun k => !keyLe (k.2.1, k.1.seq) (h.2.1, h.1.seq))
        State.releaseUpTo r.1 r.2 { m with any := true, stamp := h.2.1, seq := h.1.seq, eou := h.1.eou, held := left } key fuel

/-- A held cell has waited HOLD: the cells missing before it are lost, and it is released, with what is held before it and what it was
waited for by (R183). -/
def State.holdExpiry (s : State) (el link : Nat) : State :=
  match s.fabSubs.find? (fun x => x.el == el) with
  | none => s
  | some x =>
    match x.merges.find? (fun m => m.link == link) with
    | none => s
    | some m =>
      let ripe := m.held.filter (fun h => decide (h.2.2 + holdTime x.cls ≤ s.tickLf))
      let last := ripe.foldl (fun (a : Option (Int × Int)) h =>
        match a with
        | none => some (h.2.1, (h.1.seq : Int))
        | some k => if keyLe k (h.2.1, h.1.seq) then some (h.2.1, (h.1.seq : Int)) else a) none
      match last with
      | none => s
      | some k =>
        let r := s.releaseUpTo x m k m.held.length
        let u := r.1.drainHeld r.2.1 r.2.2 (r.2.2.held.length + 1)
        u.1.setSub (u.2.1.withMerge u.2.2)

/-- The ways cells of local source i and a link leave: for each plane and each centre that carries it, the patterns granted together
(R169, R172, R178). -/
def State.waysOf (s : State) (i link : Nat) : List (List Pattern) :=
  let m := s.slot * 32768 + i
  let ps := s.patterns.filter (fun p => p.tx && p.shelf == m && p.link == link && p.occupies s.period && s.laneUp p.lane)
  ((ps.map (fun p => (p.lane / 2, p.plane, p.from_))).eraseDups).map (fun w =>
    ps.filter (fun p => p.lane / 2 == w.1 && p.plane == w.2.1 && p.from_ == w.2.2))

/-- The first slot of some patterns that starts at or after an instant and lies after the stream's last on its lane: slot and lane. -/
def State.essenceSlot (s : State) (i link : Nat) (ps : List Pattern) (at_ : Int) : Option (Nat × Nat) :=
  let slots := ps.filterMap (fun p =>
    let k := max (slotFrom at_) (s.getN (Hid.essNext (i * 8 + link * 2 + p.plane) p.lane))
    ((List.range 8820).find? (fun n => p.holds ((k + n) / 4410) && (patSlots p.phase p.count).contains ((k + n) % 4410))).map
      (fun n => (k + n, p.lane)))
  slots.foldl (fun (a : Option (Nat × Nat)) v =>
    match a with
    | none => some v
    | some b => if v.1 < b.1 then some v else a) none

/-- A cell of local source i, ready at an instant, leaves in the next slot of its pattern on every plane and centre that carries it, the
same but for PLANE (R169, R172, R182). -/
def State.originCell (s : State) (i : Nat) (c : Cell) (at_ : Int) : State :=
  s.each (s.waysOf i c.link) (fun t ps =>
    match t.essenceSlot i c.link ps at_ with
    | none => t
    | some (k, l) =>
      let plane := (ps.head?.map (fun (p : Pattern) => p.plane)).getD 0
      (t.sendCell l { c with plane := plane, shelf := s.slot * 32768 + i } k).put (Hid.essNext (i * 8 + c.link * 2 + plane) l)
        (k + 1 : Nat))

/-- A centre forwards a cell to every egress lane its calendar names, 4 slots on, or discards it as STRAY or MISMATCH
(R178, R187); under SAFE it forwards none (R338). -/
def State.forward (s : State) (l t : Nat) (c : Cell) : State :=
  if s.get Hid.safeCut = 1 then s else
  match s.patterns.find? (fun p => p.lane == l && !p.tx && p.holds s.period && (patSlots p.phase p.count).contains t) with
  | none => s.bump (Reg.FAB_STATS_STRAY l)
  | some p =>
    if p.shelf ≠ c.shelf ∨ p.plane ≠ c.plane then s.bump (Reg.FAB_STATS_MISMATCH l)
    else
      let outs := (List.range 64).filter (fun e => s.laneUp e && s.patterns.any (fun q =>
        q.tx && q.lane == e && q.ingress == l && q.shelf == c.shelf && q.plane == c.plane && q.holds s.period &&
          (patSlots q.phase q.count).contains ((t + 4) % 4410)))
      s.each outs (fun u e => u.sendCell e c (s.period * 4410 + t + 4))

/-- A unit that passed the injection entries of CELL_RX meets the Concordance (R402). -/
def State.concordUnit (s : State) (u : InjUnit) : State :=
  match u with
  | .cell c =>
    (match s.subOf c.shelf with
     | none => s
     | some x => s.concordCell x c)
  | _ => s

/-- An ESSENCE cell arrives: merged at its subscriber, or forwarded by a centre (R178, R183). -/
def State.essence (s : State) (l t : Nat) (crcOk : Bool) (c : Cell) : State :=
  let r := s.cellIn l crcOk c.kind
  if !r.2 || !s.runs 5 then r.1
  else if !s.edge then r.1.forward l t c
  else
    match r.1.subOf c.shelf with
    | none => r.1
    | some _ =>
      let q := r.1.inject 6 c.shelf c.plane (.cell c) 2048
      q.1.each q.2 (fun t u => t.concordUnit u.unit)

/-- A PRESENCE cell applies its source's present state at its stamp, once (R170, R183); a centre forwards it. -/
def State.presence (s : State) (l t : Nat) (crcOk : Bool) (c : Cell) : State :=
  let r := s.cellIn l crcOk c.kind
  if !r.2 || !s.runs 5 then r.1
  else if !s.edge then r.1.forward l t c
  else
    match r.1.subOf c.shelf with
    | none => r.1
    | some x =>
      let q := { x.plane c.plane with lastCell := s.tickLf }
      let y := x.withPlane c.plane q
      r.1.setSub (y.learn (restoreStamp 40 c.stamp s.now) (cellSrc c))

/-! ### Planes -/

/-- A plane fails: both downlink lanes of its path not UP, or no cell for two periods (R185); the old path of a plane that moves counts
while it stands, and no cell is due before the path's first period. -/
def State.planeFailed (s : State) (x : FabSub) (plane : Nat) : Bool :=
  let q := x.plane plane
  let down (c : Nat) : Bool := !s.laneUp (2 * c) && !s.laneUp (2 * c + 1)
  q.st == 2 && ((down q.centre && (q.old.map (fun o => down o.1)).getD true) ||
    (decide (q.lastCell + 2 * calLf ≤ s.tickLf) && decide (q.from_ + 2 ≤ s.period)))

/-- A failed plane is released and reserved anew, from the next centre in the order (R185). -/
def State.planeFailure (s : State) (el plane : Nat) : State :=
  match s.fabSubs.find? (fun x => x.el == el) with
  | none => s
  | some x =>
    if !s.planeFailed x plane then s
    else
      let q := x.plane plane
      let t := (s.releasePlane x plane).bump (Reg.FAB_SUB_REPLANS el)
      let steps := (q.centre + 32 - firstCentre x.shelf plane) % 32 + 1
      let y := x.withPlane plane { q with st := 0, start := steps % 32, tried := 0, move := none, old := none }
      -- with no other plane the rest of a frame begun never comes
      let t := if (x.plane (1 - plane)).st = 2 ∧ s.planeFailed x (1 - plane) = false then t
        else t.each (x.merges.filter (fun m => m.any && !m.eou)) (fun u m => u.cellsCut x m.stamp (m.seq + 1) none)
      (t.setSub y).reservePlane y plane

/-- Every 100 periods a plane without a path tries the whole order again (R179). -/
def State.pathRetry (s : State) (el : Nat) : State :=
  match s.fabSubs.find? (fun x => x.el == el) with
  | none => s
  | some x =>
    let go (t : State) (p : Nat) : State :=
      match t.fabSubs.find? (fun y => y.el == el) with
      | none => t
      | some y =>
        if (y.plane p).st = 3 ∧ (y.plane p).since + 100 * calLf ≤ s.tickLf ∧ y.users ≠ [] then
          t.reservePlane (y.withPlane p { y.plane p with start := 0, tried := 0 }) p
        else t
    if x.protect then go (go s 0) 1 else go s 0

/-- A stream is present at its subscriber: some plane has not failed and its cells say so (R151, R170, R185). -/
def State.subPresent (s : State) (x : FabSub) : Bool :=
  ((x.plane0.st == 2 && !s.planeFailed x 0) || (x.plane1.st == 2 && !s.planeFailed x 1)) &&
    (match x.src with | none => false | some v => v.1)

/-- A protected subscription on one plane for 10 ms raises FAB_UNPROTECTED (R179). -/
def State.unprotected (s : State) (el : Nat) : State :=
  match s.fabSubs.find? (fun x => x.el == el) with
  | none => s
  | some x =>
    let single := x.protect && ((x.plane0.st == 2) != (x.plane1.st == 2))
    if !single then s.setSub { x with singleAt := 0, unprotected := false }
    else if x.singleAt = 0 then s.setSub { x with singleAt := max s.tickLf 1 }
    else if !x.unprotected && decide (x.singleAt + 529200000 ≤ s.tickLf) then
      (s.setSub { x with unprotected := true }).raise 18
    else s

/-! ### Each period -/

/-- Some pattern in force of a plane rides a lane that drains at either end (R174). -/
def State.planeDrains (s : State) (x : FabSub) (plane : Nat) : Bool :=
  s.patterns.any (fun p => p.tx == false && p.shelf == x.shelf && p.plane == plane && p.until_ == none &&
    (s.get (Reg.FAB_PATH_ADMIT p.lane) == 2 || s.get (Hid.peerAdmit p.lane) == 2))

/-- Planes between centres ask the next one; planes with a pattern on a draining lane move make-before-break, and one whose new path
has begun releases the old (R174, R179, R180). -/
def State.nextReserves (s : State) : State :=
  s.each s.fabSubs (fun t x =>
    let go (t : State) (p : Nat) : State :=
      match t.fabSubs.find? (fun y => y.el == x.el && y.releaseAt == 0) with
      | none => t
      | some y =>
        let q := y.plane p
        match q.old with
        | some o =>
          if o.2 ≤ t.period then
            (let u := t.setSub (y.withPlane p { q with old := none })
             if o.1 = q.centre then u else u.releasePath y p o.1 q.request)
          else t
        | none => if q.st = 0 then t.reservePlane y p else if q.st = 2 ∧ t.planeDrains y p = true then t.movePlane y p else t
    let t := go t 0
    if x.protect then go t 1 else t)

/-- At a calendar boundary the far ends' masks take effect, ended patterns leave, freed subscriptions are FREE, FEC
counts of the period are added, a centre knows the period's arrival offsets, status cells leave, and planes ask their next centre
(R161, R163, R173, R176, R179, R188). -/
def State.calendarPeriod (s : State) (lanes : List LanePeriod) : State :=
  let n := s.period
  if s.getN Hid.calPeriod = n then s
  else
    let t := (s.put Hid.calPeriod n).put Hid.safeCut (b2i (!s.edge && s.get Reg.SAFE_REACTION == 5))
    let t := t.each lanes (fun t x =>
      ((t.bumpBy (Reg.FAB_STATS_FEC_CORRECTED x.lane) x.corrected).bumpBy (Reg.FAB_STATS_FEC_UNCORRECTABLE x.lane) x.lost).when
        (!s.edge && decide (1 ≤ s.laneState x.lane) && decide (s.laneState x.lane ≤ 3)) (fun u => u.arrivalKnown x.lane x.arrival))
    let t := t.each (List.range 64) (fun t l =>
      if t.get (Hid.peerNewAt l) ≠ 0 ∧ t.getN (Hid.peerNewAt l) - 1 ≤ n then
        (t.put (Reg.FAB_CALENDAR_PEER_MASK l) (t.get (Hid.peerNew l))).put (Hid.peerNewAt l) 0 else t)
    let freed := t.fabSubs.filter (fun x => x.releaseAt != 0 && decide (x.releaseAt ≤ n))
    let t := { t with
      patterns := t.patterns.filter (fun (p : Pattern) => p.occupies n)
      fabSubs := t.fabSubs.filter (fun (x : FabSub) => !(x.releaseAt != 0 && decide (x.releaseAt ≤ n))) }
    let t := t.each freed (fun t x =>
      (((t.put (Reg.FAB_SUB_STATE x.el) 0).put (Reg.FAB_SUB_SHELF x.el) 0).put (Reg.FAB_SUB_CENTRE0 x.el) 255).put
        (Reg.FAB_SUB_CENTRE1 x.el) 255)
    let t := (t.refreshCalendars n).refreshFabCounts
    let full := decide (t.getN Hid.maskSent + 10 ≤ n)
    let t := t.each ((List.range 64).filter (fun l => decide (1 ≤ t.laneState l) && decide (t.laneState l ≤ 3)))
      (fun u l => u.sendStatus l full)
    let t := if full then t.put Hid.maskSent n else t
    let t := t.each (t.fabSubs.map (·.el)) (fun u el => u.unprotected el)
    if s.edge && s.runs 5 then t.nextReserves else t

/-! ### CALENDAR slips -/

/-- The check of a CALENDAR slip: a new mask that clears a slot holding a reservation in force is refused (R173). -/
def State.calendarCheck (s : State) (l : Nat) (items : List (Key × Int)) : Status :=
  match items.find? (fun i => i.1 == Reg.FAB_CALENDAR_SLOT_MASK l) with
  | none => .ok
  | some i =>
    if (s.slotsTaken l true s.period ++ s.slotsTaken l false s.period).any (fun t => !maskBit i.2.toNat t) then .capacity
    else .ok

/-- A lane's mask or ADMIT changed at B: its status is sent with the mask, DRAINED settles (R173, R174). -/
def State.calendarApply (s : State) (l : Nat) : State := (s.refreshCalendars s.period).sendStatus l true

/-! ### The twin link -/

/-- A message leaves for the twin on both lanes, with the next TWIN_SEQUENCE, each copy unless injection spoils it (R189, R402). -/
def State.twinSend (s : State) (m : TwinMsg) : State :=
  let n : Nat := (s.getN Hid.twinSeq + 1) % 2 ^ 32
  let t := (s.put Hid.twinSeq (n : Int)).bump Reg.TWIN_LINK_MESSAGES_TX
  t.each ([64, 65].filter (fun l => s.laneUp l)) (fun u l =>
    let q := u.inject 2 (l - 64) 0 .other 2048
    if q.2.any (fun x => !x.bad) then q.1.send (.twin (l - 64) n (twinBytes m) m) else q.1)

/-- A message leaves for the twin while the link is up (R189). -/
def State.sendTwin (s : State) (m : TwinMsg) : State := if s.twinUp then s.twinSend m else s

/-- The messages to the twin that one command gave rise to leave in the order of Table 8.11, and in the order they arose within a type;
`old` stands before the command (R189). -/
def State.twinOrdered (s old : State) : State :=
  let n := old.out.length
  let key (e : Emit) : Option (Nat × Nat) :=
    match e with
    | .twin _ q _ m => some (twinType m, q)
    | _ => none
  let new := s.out.drop n
  let ours := new.filter (fun e => (key e).isSome)
  let sorted := (List.range 9).flatMap (fun k => ours.filter (fun e => ((key e).map (·.1)) == some k))
  let seqs := (ours.filterMap (fun e => (key e).map (·.2))).eraseDups
  let order := (sorted.filterMap (fun e => (key e).map (·.2))).eraseDups
  let named := sorted.map (fun e =>
    match e with
    | .twin l q b m => .twin l ((seqs[order.idxOf q]?).getD q) b m
    | e => e)
  if ours.length ≤ 1 then s else { s with out := s.out.take n ++ new.filter (fun e => (key e).isNone) ++ named }

/-- A message of the twin arrives on some lane: the first copy of its TWIN_SEQUENCE is taken, a second discarded and counted (R189). -/
def State.twinIn (s : State) (n : Nat) (f : State → State) : State :=
  if s.edge = false ∨ s.get Reg.TWIN_LINK_LANES = 0 then s
  else if s.twinSeen.contains n then s.bump Reg.TWIN_LINK_DUPLICATES
  else f { s with twinSeen := (n :: s.twinSeen).take 64 }

end Sys2Proof.Machine
end

