-- ==== Sys2Proof/Machine/Net.lean ====
section
/-! DEFINITION. Network ports, MACs, filters, gate lists, the choice of the next frame (09_network_ports.md, R190 to
R208). -/
namespace Sys2Proof.Machine

/-! ### Ports and links -/

/-- MAC m is listed by its island's port mode (Table 9.1). -/
def State.macActive (s : State) (m : Nat) : Bool :=
  let mode := s.get (Reg.NET_PORT_MODE (m / 4))
  if mode = 0 then m % 4 == 0 else if mode = 1 then m % 2 == 0 else true

/-- The rate of MAC m in Gb/s; 0 inactive (Table 9.1). -/
def State.macRate (s : State) (m : Nat) : Nat :=
  if !s.macActive m then 0
  else
    let mode := s.get (Reg.NET_PORT_MODE (m / 4))
    if mode = 0 then 400 else if mode = 1 then 200 else 100

/-- The budget of a MAC of a rate in Gb/s: 99 % (R204). -/
def macBudget (rate : Nat) : Nat := rate * 990000000

/-- The side of a MAC sends egress flows: both when solo, the own side when paired (R205). -/
def State.egressSide (s : State) (m : Nat) : Bool :=
  s.solo || (if s.left then decide (m < 8) else decide (8 ≤ m))

/-- A RUNNING booking of CLASS EGRESS covers MAC m: its egress flows are stopped (R397). -/
def State.egressBooked (s : State) (m : Nat) : Bool :=
  (List.range 32).any (fun b => s.get (Reg.BOOKING_STATE b) == 2 && s.get (Reg.BOOKING_CLASS b) == 1 && s.bookingActs b && s.bookingReaches b (.mac m))

/-- The registers that follow a port mode (`4010:01`, `:03`, `:07`; R190 for inactive MACs). -/
def State.refreshMac (s : State) (m : Nat) : State :=
  let t := ((s.put (Reg.MAC_ACTIVE m) (b2i (s.macActive m))).put (Reg.MAC_RATE m) (s.macRate m)).put (Reg.MAC_BUDGET m)
    (macBudget (s.macRate m))
  if s.macActive m then t else (t.put (Reg.MAC_LINK m) 0).put (Reg.PTP_PORT_PORT_STATE (m + 3)) 0

/-- The egress MACs follow the pairing state (R205, `4000:04`, `4010:08`); what waits in classes 0 to 5 at a MAC that is none is
discarded and counted. -/
def State.refreshEgress (s : State) : State :=
  let t := s.each (List.range 16) (fun t m => t.put (Reg.MAC_EGRESS_ACTIVE m) (b2i (s.macActive m && s.egressSide m && !s.egressBooked m)))
  let t := t.each (List.range 4) (fun t n => t.put (Reg.NET_PORT_EGRESS n) (b2i (s.egressSide (4 * n))))
  let gone (x : TxFrame) : Bool := decide (x.mac < 16) && decide (x.cls ≤ 5) && t.get (Reg.MAC_EGRESS_ACTIVE x.mac) == 0
  ({ t with txQueue := t.txQueue.filter (fun x => !gone x) } : State).each (t.txQueue.filter gone) (fun u x =>
    u.bump (Reg.NET_STATS_TX_SIDE_DISCARD x.mac))

/-- That boundary. -/
def State.egressSwitch (s : State) : State :=
  -- egress resumes after SAFE at the first millisecond boundary (R339)
  let s := if s.get Hid.egressMuted = 1 ∧ s.get Hid.safeExitAt ≠ 0 ∧ msCeil (s.get Hid.safeExitAt) ≤ s.now then
    s.put Hid.egressMuted 0 else s
  if s.get Hid.egressAt = 0 ∨ s.now < s.get Hid.egressAt - 1 then s else ((s.put Hid.egressAt 0).refreshEgress)

/-- A MAC that is DOWN trains while its island runs and lists it (R193). -/
def State.macTrain (s : State) (m : Nat) : State :=
  s.when (s.macActive m && s.runs (19 + m / 4) && s.get (Reg.MAC_LINK m) == 0) (fun t => t.put (Reg.MAC_LINK m) 1)

/-- An N island runs: its active MACs that are DOWN train (R193). -/
def State.macsTrain (s : State) (n : Nat) : State :=
  s.each ((List.range 4).map (fun k => 4 * n + k)) (fun t m => t.macTrain m)

/-- Training is done and lock has held 10 ms (R193). -/
def State.macUp (s : State) (m : Nat) : State :=
  if s.macActive m && s.runs (19 + m / 4) && s.get (Reg.MAC_LINK m) != 2 then
    ((s.put (Reg.MAC_LINK m) 2).put (Reg.MAC_UP_SINCE m) s.nowLT).put (Hid.macUpAt m) s.tickLf
  else s

/-- The FEC of a MAC has corrected and failed to correct codewords (R208). -/
def State.fecCount (s : State) (m corrected lost : Nat) : State :=
  (s.bumpBy (Reg.NET_STATS_FEC_CORRECTED m) corrected).bumpBy (Reg.NET_STATS_FEC_UNCORRECTABLE m) lost

/-- Loss of lock, or 16 bad codewords in a row: DOWN, counted and raised, and the MAC trains again (R193). The codewords corrected and
not corrected since its last frame count (R208). -/
def State.macDown (s : State) (m corrected lost : Nat) : State :=
  if s.get (Reg.MAC_LINK m) = 2 then (((s.fecCount m corrected lost).macFalls m).settleQueue).macTrain m else s

/-! ### Gate lists -/

/-- Entry j of MAC m's list: GATES and INTERVAL (R199, Table 9.7). -/
def State.gateEntry (s : State) (m j : Nat) : Nat :=
  s.getN (Reg.GATE_LIST_ENTRIES_0 m (j / 8)) / 2 ^ (64 * (7 - j % 8)) % 2 ^ 64
def gateSpan (e : Nat) : Int := (bitsOf e 0 32 : Nat)
def gateBit (e c : Nat) : Bool := c == 7 || bitOf e (56 + c)

/-- The entries in force, as a list. -/
def State.gates (s : State) (m : Nat) : List Nat :=
  (List.range (s.getN (Reg.GATE_LIST_LENGTH m))).map (fun j => s.gateEntry m j)

/-- The start of the cycle that holds an instant (R199). -/
def State.cycleStart (s : State) (m : Nat) (at_ : Int) : Int :=
  let b := lfOfLt (s.get (Reg.GATE_LIST_BASE_TIME m))
  at_ - (at_ - b) % s.get (Reg.GATE_LIST_CYCLE m)

/-- The entry in which a position of the cycle falls, and what is left of it. -/
def gateAt : List Nat → Nat → Int → Option (Nat × Int)
  | [], _, _ => none
  | e :: es, j, p => if p < gateSpan e then some (j, gateSpan e - p) else gateAt es (j + 1) (p - gateSpan e)

/-- How long class c stays open from a position on, over the entries that follow; none: it never closes. -/
def openFor (c : Nat) : List Nat → Int → Option Int
  | [], _ => none
  | e :: es, acc => if gateBit e c then openFor c es (acc + gateSpan e) else some acc

/-- The leaves for which class c is open from now; 0 closed, none without end (R200). -/
def State.gateOpen (s : State) (m c : Nat) : Option Int :=
  if s.get (Reg.GATE_LIST_ENABLE m) = 0 ∨ c = 7 then none
  else
    let l := s.gates m
    match gateAt l 0 (s.now - s.cycleStart m s.now) with
    | none => some 0
    | some (j, left) =>
      if !gateBit ((l[j]?).getD 0) c then some 0
      else openFor c (l.drop (j + 1) ++ l.take (j + 1)) left

/-- The gate entry that now holds is in force, with the start of its cycle (R199, `4040:25`). Where the entries fill less than the
cycle, which needs ENABLE 0 (R202), the last entry stays. -/
def State.gateStep (s : State) (m : Nat) : State :=
  let st := s.cycleStart m s.now
  let t := s.put (Reg.GATE_LIST_CYCLE_START m) (ltOfLf st)
  match gateAt (s.gates m) 0 (s.now - st) with
  | none => t
  | some (j, _) => t.put (Hid.gateIndex m) j

/-- A GATE slip's list takes over at its own position (R201). -/
def State.gateApply (s : State) (m : Nat) : State := (s.gateStep m).bump (Reg.GATE_LIST_SWAPS m)

/-- A frame's wire time in leaves: bytes and 20, at 0.1323, 0.2646 or 0.5292 lf per bit, rounded up (R200). -/
def wireTime (rate bytes : Nat) : Int :=
  let perBit := if rate = 400 then 1323 else if rate = 200 then 2646 else 5292
  (((bytes + 20) * 8 * perBit + 9999) / 10000 : Nat)

/-! ### Transmit -/

/-- A frame is queued at a MAC; class 6 holds 64 (R198). -/
def State.enqueue (s : State) (x : TxFrame) : State :=
  if x.cls = 6 ∧ 64 ≤ (s.txQueue.filter (fun y => y.mac == x.mac && y.cls == 6)).length then
    s.bump (Reg.NET_STATS_TX_CLASS6_DROPS x.mac)
  else { s with txQueue := s.txQueue ++ [x] }

/-- The frame of one class to start: earliest release time and lowest flow in classes 0 to 5, else the first to arrive
(R203). -/
def State.classHead (s : State) (m c : Nat) : Option TxFrame :=
  (s.txQueue.filter (fun x => x.mac == m && x.cls == c)).foldl (fun (a : Option TxFrame) (x : TxFrame) =>
    match a with
    | none => some x
    | some y => if c ≤ 5 && (decide (x.release < y.release) || (decide (x.release = y.release) && decide (x.flow < y.flow)))
        then some x else a) none

/-- A frame of class c may start now (R200). -/
def State.mayStart (s : State) (m : Nat) (x : TxFrame) : Bool :=
  decide (x.release ≤ s.now) &&
    (match s.gateOpen m x.cls with
     | none => true
     | some d => decide (wireTime (s.macRate m) x.bytes ≤ d))

/-- The MAC's choice: the highest class that holds a frame it may start (R200, R203). -/
def State.nextFrame (s : State) (m : Nat) : Option TxFrame :=
  [7, 6, 5, 4, 3, 2, 1, 0].findSome? (fun c =>
    match s.classHead m c with
    | none => none
    | some x => if s.mayStart m x then some x else none)

/-- A frame starts on the wire: a Delay_Req is stamped now, and its contents follow its stamp (R70, R71). -/
def State.stampFrame (s : State) (m : Nat) (x : TxFrame) : State × Packet :=
  match x.packet with
  | .delayReq seq _ _ _ _ _ _ => (s.put (Hid.ptpT3 (m + 3)) (s.portStamp (m + 3)), s.delayReqFrame (m + 3) seq)
  | p => (s, p)

/-- A control port or SVC starts the frame of class 6 that waits longest; class 7 never waits there (R206). -/
def State.ctlFrameStart (s : State) (m : Nat) : State :=
  match s.classHead m 6 with
  | none => s
  | some x =>
    let t : State := { s with txQueue := s.txQueue.erase x }
    if s.ready (51 + (m - 16)) then t.sendFrame m 6 x.packet else t

/-- The MAC starts the next frame (R200, R203, R208). -/
def State.frameStart (s : State) (m : Nat) : State :=
  if s.get (Reg.MAC_LINK m) ≠ 2 ∨ s.tickLf < s.get (Hid.macBusy m) then s
  else
    match s.nextFrame m with
    | none => s
    | some x =>
      let t := ((s.bump (Reg.NET_STATS_TX_FRAMES m)).bumpBy (Reg.NET_STATS_TX_BYTES m) x.bytes).when (x.cls == 7)
        (fun u => u.bump (Reg.NET_STATS_TX_CLASS7 m))
      let t := t.put (Hid.macBusy m) (s.tickLf + wireTime (s.macRate m) x.bytes)
      let q := ({ t with txQueue := t.txQueue.erase x } : State).stampFrame m x
      if x.copy then q.1.sendFrame m x.cls q.2
      else
        let r := q.1.inject 3 m 0 (.frame x) (8 * (x.bytes - 4))
        r.1.each (indexed 0 r.2) (fun u p =>
          if p.1 = 0 then u.sendFrame m x.cls q.2
          else { u with txQueue := { x with copy := true } :: u.txQueue })

/-- A packet of an egress flow is released to a MAC: queued, or discarded while the MAC is not UP or where its release lies before the
entry to UP, and where the MAC is not an egress MAC or muted by SAFE (R193, R205, R338). -/
def State.releaseTo (s : State) (x : TxFrame) : State :=
  if s.get (Reg.MAC_LINK x.mac) ≠ 2 ∨ x.release < s.now - (s.tickLf - s.get (Hid.macUpAt x.mac)) then
    s.bump (Reg.NET_STATS_TX_DISCARD_LINK x.mac)
  else if s.get (Reg.MAC_EGRESS_ACTIVE x.mac) = 0 ∨ (s.get Hid.egressMuted = 1 ∧ s.get Hid.safeAt < x.release) then s.bump (Reg.NET_STATS_TX_SIDE_DISCARD x.mac)
  else s.enqueue x

/-! ### Receive -/

/-- The MAC address of a multicast IP address. -/
def groupMac (ip : Nat) : Nat :=
  if ip / 2 ^ 32 = 0xFFFF then 0x01005E000000 + ip % 2 ^ 23 else 0x333300000000 + ip % 2 ^ 32

/-- An IPv4-mapped address; a multicast address; no address. -/
def ipV4 (ip : Nat) : Bool := ip / 2 ^ 32 == 0xFFFF
def ipMulti (ip : Nat) : Bool := if ipV4 ip then ip % 2 ^ 32 / 2 ^ 28 == 14 else ip / 2 ^ 120 == 0xFF
def ipNone : Nat := 0xFFFF00000000

/-- An IPv4 address in its mapped form. -/
def mappedV4 (a b c d : Nat) : Int := (0xFFFF * 2 ^ 32 + a * 2 ^ 24 + b * 2 ^ 16 + c * 2 ^ 8 + d : Nat)

/-- 169.254.(c + 1).s: the default of `1410[c]:02` (Table 2.7), and with c = 2 the fixed address of SVC (R379). -/
def State.portAddress (s : State) (c : Nat) : Int := mappedV4 169 254 (c + 1) (s.slot + (if s.edge then 1 else 101))

/-- A group MAC address. -/
def macGroup (a : Nat) : Bool := bitOf a 40

/-- The compatibility hash index: the 12 most significant bits of the FCS register over the six bytes, before the final
complement; with the register held bit-reversed they are its 12 low bits in reverse (R196). -/
def hashIndex (a : Nat) : Nat :=
  let r := (beBytes 6 a).foldl (crcByte 0xEDB88320) 0xFFFFFFFF
  (List.range 12).foldl (fun h i => 2 * h + b2n (bitOf r i)) 0

/-- Bit h of `4030[m]:01`. -/
def State.hashHit (s : State) (m a : Nat) : Bool := bitOf (s.getN (Reg.MAC_HASH_HASH m)) (4095 - hashIndex a)

/-- The group addresses that pass in every GROUP_MODE (Table 9.3). -/
def fixedGroups : List Nat :=
  [0x011B19000000, 0x0180C200000E, 0x01005E000181, 0x01005E00006B, 0x333300000181, 0x33330000006B, 0x01005E000001,
    0x333300000001]

/-- The elements of `4100` from lo up to hi whose ENABLE is 1. -/
def State.flowsOn (s : State) (lo hi : Nat) : List Nat :=
  s.regs.filterMap (fun p =>
    if p.1.idx = 0x4100 ∧ p.1.sub = 1 ∧ lo ≤ p.1.el ∧ p.1.el < hi ∧ p.2 = 1 then some p.1.el else none)

/-- The enabled ingress paths of a MAC: element of the path and its flow. -/
def State.pathsOn (s : State) (m : Nat) : List (Nat × Nat) :=
  ((s.flowsOn 0 16384).map (fun f => [(f, f), (f + 16384, f)])).flatten.filter (fun p =>
    s.get (Reg.FLOW_PATH_ENABLE p.1) == 1 && s.get (Reg.FLOW_MAC p.1) == (m : Int))

/-- The destination filter of R195. -/
def State.filterPass (s : State) (m a : Nat) : Bool :=
  let host := s.getN (Reg.MAC_HOST_ADDRESS m)
  ((a == s.getN (Reg.MAC_UNICAST_ADDRESS0 m)) && a != 0) ||
    (a != 0 && (List.range 7).any (fun i => s.getN (Reg.MAC_UNICAST_ADDRESS1 m i) == a)) ||
    a == 2 ^ 48 - 1 || fixedGroups.contains a ||
    (!ipV4 host && a == 0x3333FF000000 + host % 2 ^ 24) ||
    (macGroup a &&
      (if s.get (Reg.MAC_GROUP_MODE m) = 0 then
        (s.pathsOn m).any (fun p => let d := s.getN (Reg.FLOW_DEST_ADDRESS p.1); ipMulti d && groupMac d == a)
       else if s.get (Reg.MAC_GROUP_MODE m) = 1 then s.hashHit m a else true))

/-- The tag rule of R194. -/
def State.tagOk (s : State) (m : Nat) (tags : List Nat) : Bool :=
  let v := s.getN (Reg.MAC_VLAN m)
  if v = 0 then tags == [] else tags == [v]

/-- The memberships held on a MAC: group and source; none includes any (R216). -/
def State.memberships (s : State) (m : Nat) : List (Nat × Option Nat) :=
  if !(s.runs 6 && s.runs (19 + m / 4)) then []
  else (((s.pathsOn m).filterMap (fun p =>
    let d := s.getN (Reg.FLOW_DEST_ADDRESS p.1)
    let src := s.getN (Reg.FLOW_SOURCE_ADDRESS p.1)
    if ipMulti d then some (d, if src = ipNone then none else some src) else none))).eraseDups

/-- GROUPS: the memberships held across all MACs (`4210:03`). -/
def State.groupsHeld (s : State) : Nat := (List.range 16).foldl (fun a m => a + (s.memberships m).length) 0

/-- A change of one MAC's memberships starts ROBUSTNESS unsolicited reports of what was joined and left; memberships that lapse with
an island that does not run are reported again once it runs (R216). `was` are the memberships before. -/
def State.membershipNews (s : State) (m : Nat) (was : List (Nat × Option Nat)) : State :=
  let now := s.memberships m
  let changed := (now.filter (fun g => !was.contains g)).map (fun g => (m, true, g)) ++
    (if s.runs 6 && s.runs (19 + m / 4) then (was.filter (fun g => !now.contains g)).map (fun g => (m, false, g)) else [])
  if changed = [] then s
  else
    (({ s with memNews := s.memNews.filter (fun x => !(x.1 == m && changed.any (fun c => c.2.2 == x.2.2))) ++ changed } : State).put
      (Hid.reports m) (s.get Reg.MEMBERSHIP_ROBUSTNESS)).put (Hid.reportAt m) 0

/-- The memberships of every MAC follow a change of flows, islands or modes (R216). `old` stands before. -/
def State.refreshGroups (s old : State) : State := s.each (List.range 16) (fun t m => t.membershipNews m (old.memberships m))

/-- The link-local address formed from ADDRESS0 by the modified EUI-64 method (R216). -/
def linkLocal (mac : Nat) : Nat :=
  0xFE80 * 2 ^ 112 + ((mac / 2 ^ 24 % 2 ^ 24) ^^^ 0x020000) * 2 ^ 40 + 0xFFFE * 2 ^ 24 + mac % 2 ^ 24

/-- The address a report of a group comes from: the MAC's IPv4 HOST_ADDRESS, or 0.0.0.0, or its link-local address (R216). -/
def State.reportFrom (s : State) (m group : Nat) : Nat :=
  let host := s.getN (Reg.MAC_HOST_ADDRESS m)
  if ipV4 group then (if ipV4 host then host else ipNone) else linkLocal (s.getN (Reg.MAC_UNICAST_ADDRESS0 m))

/-- One report joins a MAC's class-6 queue, one record to a message (R198, R216): IGMPv3 with Router Alert, or MLDv2 with its
hop-by-hop header (RFC 3376, RFC 3810; log entry 87). -/
def State.report (s : State) (m : Nat) (joined : Bool) (g : Nat × Option Nat) : State :=
  let bytes := if ipV4 g.1 then 58 + (if g.2.isSome then 4 else 0) else 94 + (if g.2.isSome then 16 else 0)
  s.enqueue ⟨m, 6, s.now, 0, s.frameBytes m bytes, .report g.1 g.2 joined (s.reportFrom m g.1), false⟩

/-- The answers to a query: a report of each membership asked for (R216). -/
def State.sendReports (s : State) (m : Nat) (group : Option Nat) : State :=
  s.each ((s.memberships m).filter (fun g => match group with | none => true | some x => g.1 == x)) (fun t g => t.report m true g)

/-- An unsolicited report of each change, ROBUSTNESS of them spaced by INTERVAL (R216). -/
def State.membershipReport (s : State) (m : Nat) : State :=
  if s.get (Hid.reports m) ≤ 0 ∨ (s.get (Hid.reportAt m) ≠ 0 ∧ s.tickLf < s.get (Hid.reportAt m) + s.get Reg.MEMBERSHIP_INTERVAL)
  then s
  else
    let t := s.each (s.memNews.filter (fun x => x.1 == m)) (fun t x => t.report m x.2.1 x.2.2)
    let t := (t.put (Hid.reports m) (s.get (Hid.reports m) - 1)).put (Hid.reportAt m) (max s.tickLf 1)
    if s.get (Hid.reports m) = 1 then { t with memNews := t.memNews.filter (fun x => x.1 != m) } else t

/-! ### Port settings -/

/-- The check of a MODE write (R191): a flow bound to a MAC that becomes inactive, or a MAC's admitted rate over its new
budget. -/
def State.portModeStatus (s : State) (n : Nat) (v : Int) : Status :=
  let c := s.put (Reg.NET_PORT_MODE n) v
  let bound (m : Nat) : Bool :=
    (s.pathsOn m) != [] || (s.flowsOn 32768 49152).any (fun e => [e, e + 16384].any (fun p =>
      s.get (Reg.FLOW_PATH_ENABLE p) == 1 && s.get (Reg.FLOW_MAC p) == (m : Int)))
  if ((List.range 4).map (fun k => 4 * n + k)).any (fun m =>
      (!c.macActive m && bound m) || decide ((macBudget (c.macRate m) : Int) < s.get (Reg.MAC_ADMITTED m))) then .capacity
  else .ok

/-- A write of MODE, MEDIA or AUTONEG: every MAC of the island enters DOWN and retrains (R191). -/
def State.portApply (s : State) (n sub : Nat) (v : Int) : State :=
  let ms := (List.range 4).map (fun k => 4 * n + k)
  let t := (s.each ms (fun t m => t.macFalls m)).put ⟨0x4000, n, sub⟩ v
  let t := (t.each ms (fun t m => t.refreshMac m)).settleQueue
  (t.macsTrain n).refreshEgress.refreshGroups s

/-- A filter address may be written: no group address, and no zero into ADDRESS0 (after Table 9.5). -/
def unicastOk (sub : Nat) (v : Int) : Bool := !macGroup v.toNat && !(sub == 1 && v == 0)

/-- HOST_PREFIX against HOST_ADDRESS (`4010:0B`). -/
def State.prefixOk (s : State) (m : Nat) (v : Int) : Bool :=
  if ipV4 (s.getN (Reg.MAC_HOST_ADDRESS m)) then decide (8 ≤ v) && decide (v ≤ 30) else decide (64 ≤ v) && decide (v ≤ 127)

end Sys2Proof.Machine
end

