-- ==== Sys2Proof/Machine/Flows.lean ====
section
/-! DEFINITION. Flows: accession, classification, the packet Concordance, need times, weeding, pacers
(10_flows.md, R209 to R229). An ingress flow f is element f of `4100`, its path B element f + 16,384; an egress flow j is
element 32,768 + j, its path B element 49,152 + j. -/
namespace Sys2Proof.Machine

/-! ### Records -/

/-- The A element of a flow element (R209). -/
def flowA (e : Nat) : Nat := if (16384 ≤ e ∧ e < 32768) ∨ 49152 ≤ e then e - 16384 else e
/-- An egress element. -/
def flowEgress (e : Nat) : Bool := decide (32768 ≤ e)
/-- The field of a B element that exists: sub-indices 19 to 22 and the count (R209). -/
def flowSubExists (e sub : Nat) : Bool := flowA e == e || sub == 0 || decide (0x19 ≤ sub)

/-- The MAC side a path names: 0 to 7 for path A, 8 to 15 for path B. -/
def macSideOk (pathB : Bool) (m : Int) : Bool := if pathB then decide (8 ≤ m) && decide (m ≤ 15) else decide (0 ≤ m) && decide (m ≤ 7)

/-- Samples per packet and sample period of an AUDIO code (`4100:07`, Table 3.1). -/
def audioSamples (c : Int) : Int := if c = 0 then 48 else if c = 1 then 6 else if c = 2 then 96 else 12
def audioPeriod (c : Int) : Int := if c = 0 ∨ c = 1 then 1102500 else 551250

/-- FORMAT, SCAN, AUDIO and CHANNELS lie in Table 10.2 for TYPE (R210). 1,125-line formats to 30 Hz are interlaced, PsF or
progressive as the raster row allows; all others are progressive, and SD is interlaced. -/
def flowTypeOk (type format scan audio ch : Int) : Bool :=
  let scanOk : Bool :=
    if format = 1 ∨ format = 2 then scan == 1
    else if format = 3 ∨ format = 4 then scan == 0 || scan == 2
    else if 5 ≤ format ∧ format ≤ 7 then true else scan == 0
  if type = 1 then decide (3 ≤ format) && decide (format ≤ 16) && scanOk
  else if type = 2 then
    decide (1 ≤ ch) && decide (ch ≤ (if audio = 0 then 8 else if audio = 1 then 64 else if audio = 2 then 4 else 32))
  else if type = 3 then
    (audio == 0 || audio == 1) && decide (1 ≤ ch) && decide (ch ≤ (if audio = 0 then 6 else 32))
  else if type = 4 then decide (1 ≤ format) && decide (format ≤ 16) && scanOk
  else if type = 5 then true
  else if type = 6 then decide (1 ≤ format) && decide (format ≤ 13) && scanOk
  else false

/-- PLAYOUT in force: the default for 0 (R219). -/
def State.playout (s : State) (f : Nat) : Int :=
  let v := s.get (Reg.FLOW_PLAYOUT f)
  let type := s.get (Reg.FLOW_TYPE f)
  if v ≠ 0 then v
  else if type = 1 ∨ type = 4 ∨ type = 6 then framePeriod (s.get (Reg.FLOW_FORMAT f)) - 211680
  else if type = 2 ∨ type = 3 then
    (if s.get (Reg.FLOW_AUDIO f) = 1 ∨ s.get (Reg.FLOW_AUDIO f) = 3 then 19845000 else 158760000)
  else 0

/-- A PLAYOUT the type accepts (R219). -/
def playoutOk (type audio v : Int) : Bool :=
  v == 0 || (decide (52920 ≤ v) && decide (v ≤ 8820000000) &&
    ((type != 2 && type != 3) || v % audioPeriod audio == 0))

/-- A WEED value (R215). -/
def weedOk (v : Int) : Bool := v == 0 || (decide (lfSec ≤ v) && decide (v ≤ 3600 * lfSec))

/-- The bytes of an ingress flow's Concordance buffer (R213). -/
def State.bufferBytes (s : State) (f : Nat) : Nat :=
  let n := s.getN (Reg.FLOW_MAX_RATE f) * (s.playout f + 52920000).toNat
  (n + 8 * 52920000000 - 1) / (8 * 52920000000)

/-- The buffers of every enabled ingress flow. -/
def State.bufferTotal (s : State) : Nat := (s.flowsOn 0 16384).foldl (fun a f => a + s.bufferBytes f) 0

/-- The mode in force runs HBM. -/
def State.hbmMode (s : State) : Bool := modeRuns s.edge (s.getN Reg.MODE_ACTIVE) 32

/-- The key of a path (R211). -/
def State.pathKey (s : State) (e : Nat) : Nat × Nat × Nat × Nat × Nat :=
  (s.getN (Reg.FLOW_MAC e), s.getN (Reg.FLOW_DEST_ADDRESS e), s.getN (Reg.FLOW_DEST_PORT e),
    s.getN (Reg.FLOW_SOURCE_ADDRESS e), s.getN (Reg.FLOW_SOURCE_PORT e))

/-- The enabled paths of an ingress flow. -/
def State.pathsOf (s : State) (f : Nat) : List Nat := [f, f + 16384].filter (fun e => s.get (Reg.FLOW_PATH_ENABLE e) == 1)

/-- The audio slots a flow takes: its type carries audio (R212, R222). -/
def State.flowSlots (s : State) (f : Nat) : Option (Int × Int) :=
  let type := s.get (Reg.FLOW_TYPE f)
  if type = 2 ∨ type = 3 then some (s.get (Reg.FLOW_SLOT_BASE f), s.get (Reg.FLOW_CHANNELS f))
  else if type = 6 ∧ 3 ≤ s.get (Reg.FLOW_FORMAT f) then
    some (s.get (Reg.FLOW_SLOT_BASE f), if 8 ≤ s.get (Reg.FLOW_FORMAT f) ∧ s.get (Reg.FLOW_FORMAT f) ≤ 10 then 32 else 16)
  else none

/-- Two slot ranges overlap. -/
def slotsMeet (a b : Int × Int) : Bool := decide (a.1 < b.1 + b.2) && decide (b.1 < a.1 + a.2)

/-- The check of an accession against the record as it stands in this state (R212): RANGE. Buffers are the caller's. -/
def State.accessionStatus (s : State) (f : Nat) : Status :=
  let type := s.get (Reg.FLOW_TYPE f)
  let paths := s.pathsOf f
  let others := (s.flowsOn 0 16384).filter (fun g => g != f)
  let keys := (others.map (fun g => (s.pathsOf g).map (fun e => s.pathKey e))).flatten
  let slotsBad : Bool :=
    match s.flowSlots f with
    | none => false
    | some r => decide (8191 < r.1 + r.2 - 1) || slotsMeet r (3072, 64) ||
        others.any (fun g => match s.flowSlots g with | none => false | some q => slotsMeet r q)
  let badPath (e : Nat) : Bool :=
    let ip := s.getN (Reg.FLOW_DEST_ADDRESS e)
    !macSideOk (decide (16384 ≤ e)) (s.get (Reg.FLOW_MAC e)) || ip == ipNone || keys.contains (s.pathKey e) ||
      (!ipV4 ip && ipV4 (s.getN (Reg.MAC_HOST_ADDRESS (s.getN (Reg.FLOW_MAC e))))) ||
      decide (s.macRate (s.getN (Reg.FLOW_MAC e)) * 1000000000 < s.getN (Reg.FLOW_MAX_RATE f))
  let comp := s.getN (Reg.FLOW_COMPANION f)
  if type = 0 ∨ flowTypeOk type (s.get (Reg.FLOW_FORMAT f)) (s.get (Reg.FLOW_SCAN f)) (s.get (Reg.FLOW_AUDIO f))
      (s.get (Reg.FLOW_CHANNELS f)) = false ∨ s.get (Reg.FLOW_MAX_RATE f) = 0 ∨ paths = [] ∨ paths.any badPath = true ∨
      slotsBad = true ∨ playoutOk type (s.get (Reg.FLOW_AUDIO f)) (s.get (Reg.FLOW_PLAYOUT f)) = false ∨
      (type = 4 ∧ (16384 ≤ comp ∨ (s.get (Reg.FLOW_TYPE comp) ≠ 1 ∧ s.get (Reg.FLOW_TYPE comp) ≠ 6))) then .range
  else if !s.hbmMode && decide (67108864 < s.bufferTotal) then .capacity
  else .ok

/-- An ingress flow's state after a write to its record: acceded or not (R212). `old` is the state before the write. -/
def State.flowWritten (s old : State) (f : Nat) : State :=
  let on := s.get (Reg.FLOW_ENABLE f) == 1
  let was := old.get (Reg.FLOW_ENABLE f) == 1
  let t := if on && !was then s.put (Reg.FLOW_STATE f) 2 else if on then s else s.put (Reg.FLOW_STATE f) 0
  let t := t.each [f, f + 16384] (fun t e =>
    let used := on && t.get (Reg.FLOW_PATH_ENABLE e) == 1
    if !used then t.put (Reg.FLOW_PATH_STATE e) 0
    else if t.get (Reg.FLOW_PATH_STATE e) = 0 then t.put (Reg.FLOW_PATH_STATE e) 1 else t)
  let t := if on then t else { t with flowBufs := t.flowBufs.filter (fun b => b.flow != f) }
  t

/-! ### Arrival -/

/-- Leaves per tick of a flow's media clock (R217). -/
def State.mediaTick (s : State) (f : Nat) : Int :=
  let type := s.get (Reg.FLOW_TYPE f)
  if type = 6 then 1960
  else if type = 2 ∨ type = 3 then audioPeriod (s.get (Reg.FLOW_AUDIO f))
  else 588000

/-- T of a packet: its RTP timestamp restored to Ledger time, the candidate nearest now (R217). -/
def State.keyTime (s : State) (f : Nat) (ts : Nat) : Int :=
  let u := s.mediaTick f
  u * restoreStamp 32 ts ((2 * s.now + u) / (2 * u))

/-- Q of a packet: 32 bits for VIDEO, 16 for every other type (R217). -/
def State.keySeq (s : State) (f : Nat) (p : Rtp) : Nat :=
  if s.get (Reg.FLOW_TYPE f) = 1 then p.ext % 65536 * 65536 + p.seq % 65536 else p.seq % 65536
def State.seqBits (s : State) (f : Nat) : Nat := if s.get (Reg.FLOW_TYPE f) = 1 then 32 else 16

/-- Q of a packet lies after another in serial-number arithmetic. -/
def serialAfter (w a b : Nat) : Bool := decide (0 < (a + 2 ^ w - b) % 2 ^ w) && decide ((a + 2 ^ w - b) % 2 ^ w < 2 ^ (w - 1))

/-- A key lies at or before another (R217). -/
def flowKeyLe (w : Nat) (a b : Int × Nat) : Bool :=
  decide (a.1 < b.1) || (decide (a.1 = b.1) && (a.2 == b.2 || serialAfter w b.2 a.2))

/-- The Concordance of a flow. -/
def State.bufOf (s : State) (f : Nat) : FlowBuf :=
  (s.flowBufs.find? (fun b => b.flow == f)).getD ⟨f, [], false, 0, 0⟩
def State.setBuf (s : State) (b : FlowBuf) : State :=
  { s with flowBufs := b :: s.flowBufs.filter (fun x => x.flow != b.flow) }

/-- A flow's presence may change: it is published at the next millisecond boundary (R221). -/
def State.flowPubDue (s : State) (f : Nat) : State :=
  s.when (s.get (Hid.flowPubAt f) == 0) (fun t => t.put (Hid.flowPubAt f) (msCeil s.now + 1))

/-- The delivery stamp a packet gives its flow's frame (Table 10.4). -/
def State.flowStampAt (s : State) (f : Nat) (t : Int) : Int :=
  if s.get (Reg.FLOW_TYPE f) = 5 then t else t + s.playout f

/-- The link rate a raster code takes on one SDI link (Table 6.2, R222). -/
def codeRate (format : Nat) : Nat :=
  if format ≤ 2 then 1 else if 8 ≤ format ∧ format ≤ 10 then 3 else if 14 ≤ format then 5 else 2

/-- The raster code of an ingress flow's pictures; 0 for other types (R224). -/
def State.flowFormat (s : State) (f : Nat) : Nat :=
  if s.get (Reg.FLOW_TYPE f) = 1 ∨ s.get (Reg.FLOW_TYPE f) = 6 then s.getN (Reg.FLOW_FORMAT f) else 0

/-- The cells of a packet, 240 bytes each in order: the LENGTH of each in 16-bit units, and EOU. What does not fit a last cell is
followed by one of LENGTH 0, as in a frame (R164, R166, R168; log entry 53). -/
def packetCells (bytes : Nat) : List (Nat × Bool) :=
  let r := bytes % 240
  List.replicate (bytes / 240) (120, false) ++
    (if r = 0 then [(0, true)] else if r ≤ 236 then [((r + 1) / 2, true)] else [((r + 1) / 2, false), (0, true)])

/-- Cell i of a forwarded packet (R164, R169, R224); FORMAT to DIVISION are 0 for flows (Table 8.3). The RTP header's version, marker, sequence and timestamp are the packet's, and
everything else in its payload is free (log entry 3). -/
def State.packetCell (s : State) (f : Nat) (p : Rtp) (stamp : Int) (i : Nat) (c : Nat × Bool) : Cell :=
  let head := ((p.version % 4 * 64 + s.freeVal / 128 % 64) * 256 + b2n p.marker * 128 + s.freeVal % 128) * 2 ^ 48 +
    p.seq % 65536 * 2 ^ 32 + p.ts % 2 ^ 32
  let rest (n : Nat) : Nat := Config.freeValue s.free / 8192 % 2 ^ (16 * n)
  let v := if i = 0 ∧ 4 ≤ c.1 then head * 2 ^ (16 * (c.1 - 4)) + rest (c.1 - 4) else rest c.1
  ⟨1, 0, 0, p.seq % 65536 * 256 + i % 256, (stamp % 2 ^ 40).toNat, c.1, i == 0, c.2, s.get (Reg.FLOW_STATE f) == 1 && s.runs 6, 0, 0, 0, 0,
    0, 0, .words v⟩

/-- The first copy of a key of an offered flow is forwarded into the fabric as it arrives; cells over one period's backlog are
dropped (R224). -/
def State.forwardPacket (s : State) (f : Nat) (p : Rtp) (stamp : Int) : State :=
  let k := s.getN (Reg.FLOW_OFFER_K f)
  let cells := packetCells p.bytes
  if k = 0 then s
  else
    let used := if s.getN (Hid.offerPeriod f) = s.period then s.getN (Hid.offerCells f)
      else s.getN (Hid.offerCells f) - k * (s.period - s.getN (Hid.offerPeriod f))
    let fit := min cells.length (2 * k - used)
    (((s.put (Hid.offerPeriod f) s.period).put (Hid.offerCells f) (used + fit : Nat)).bumpBy
      (Reg.CONCORDANCE_OFFER_DROPS f) (cells.length - fit : Nat)).each ((indexed 0 cells).take fit) (fun t c =>
        (t.originCell (0x100 + f) (t.packetCell f p stamp c.1 c.2) t.now).drawn)

/-- A packet of the path of element p is released to its MAC, past the injection entries of FLOW_TX (R203, R402). -/
def State.flowOut (s : State) (p : Nat) (x : TxFrame) : State :=
  let r := s.inject 8 p 0 (.frame x) (8 * x.bytes)
  r.1.each r.2 (fun t u =>
    match u.unit with
    | .frame y => t.releaseTo y
    | _ => t)

/-- The headers a packet of the path of element p leaves with: its frame's bytes for so many from the RTP header on, and the rest of the
packet (Table 10.1, R209). Ethernet, IP, UDP and FCS take 46 bytes over IPv4 and 66 over IPv6. -/
def State.flowFrame (s : State) (p rtp : Nat) (type ts q : Nat) (marker : Bool) : Nat × Packet :=
  let e := if 49152 ≤ p then p - 16384 else p
  let m := s.getN (Reg.FLOW_MAC p)
  let dest := s.getN (Reg.FLOW_DEST_ADDRESS p)
  let bytes := s.frameBytes m ((if ipV4 dest then 46 else 66) + rtp)
  let mac := s.getN (Reg.FLOW_DEST_MAC p)
  (bytes, .flow (e - 32768) (b2n (p != e)) type ts q (s.getN (Reg.FLOW_PAYLOAD_TYPE e)) marker (s.getN (Reg.FLOW_SSRC e)) bytes
    (s.getN (Reg.FLOW_DSCP p)) (s.getN (Reg.FLOW_TTL p)) dest (s.getN (Reg.FLOW_DEST_PORT p)) (s.getN (Reg.MAC_HOST_ADDRESS m))
    (s.getN (Reg.FLOW_SOURCE_PORT p)) (if mac = 0 ∧ ipMulti dest = true then groupMac dest else mac))

/-- A COMPRESSED packet leaves at once on every egress flow that carries the source of shelfmark m, unpaced (R223). -/
def State.compressedSend (s : State) (m bytes ts q : Nat) (marker : Bool) : State :=
  let mine := (s.flowsOn 32768 49152).filter (fun e =>
    s.get (Reg.FLOW_TYPE e) == 5 && s.getN (Reg.FLOW_SOURCE e) == m)
  s.each mine (fun t e =>
    (t.bump (Reg.FLOW_TX_RELEASED (e - 32768))).each ([e, e + 16384].filter (fun p => t.get (Reg.FLOW_PATH_ENABLE p) == 1))
      (fun u p =>
        let x := u.flowFrame p bytes 5 ts q marker
        u.flowOut p ⟨u.getN (Reg.FLOW_MAC p), u.getN (Reg.FLOW_CLASS e), u.now, e - 32768, x.1, x.2, false⟩))

/-- The COMPRESSED packets put together from released cells leave as well; with P not running they are gone (R223). -/
def State.remotePackets (s : State) : State :=
  s.each (s.fabSubs.filter (fun x => s.get (Hid.cprN x.el) != 0)) (fun t x =>
    (t.each (List.range (s.getN (Hid.cprN x.el))) (fun u i =>
      let v := s.getN (Hid.cprPacket x.el i)
      let u := u.put (Hid.cprPacket x.el i) 0
      if s.runs 6 then u.compressedSend x.shelf (v / 2 ^ 50) (v / 2 % 2 ^ 32) (v / 2 ^ 33 % 65536) (bitOf v 49) else u)).put
        (Hid.cprN x.el) 0)

/-- The packets of a COMPRESSED flow that follow in key order are released (R223). -/
def State.compressedDrain (s : State) (f : Nat) : Nat → State
  | 0 => s
  | fuel + 1 =>
    let b := s.bufOf f
    match b.held.find? (fun h => !b.any || h.q == (b.q + 1) % 65536) with
    | none => s
    | some h =>
      let t := s.setBuf { b with held := b.held.erase h, any := true, t := h.t, q := h.q }
      State.compressedDrain (t.compressedSend (s.slot * 32768 + 0x100 + f) h.bytes (h.t / 588000 % 2 ^ 32).toNat h.q h.marker) f fuel

/-- The arrival of a key on a path of a flow with two paths is noted, the first copy on each (R220). -/
def State.noteArrival (s : State) (f : Nat) (pathB : Bool) (t : Int) (q : Nat) : State :=
  let put (x : SkewKey) : SkewKey :=
    if pathB then { x with b := some (x.b.getD s.tickLf) } else { x with a := some (x.a.getD s.tickLf) }
  if (s.pathsOf f).length < 2 then s
  else if s.skews.any (fun x => x.flow == f && x.t == t && x.q == q) then
    { s with skews := s.skews.map (fun x => if x.flow = f ∧ x.t = t ∧ x.q = q then put x else x) }
  else { s with skews := put ⟨f, t, q, none, none⟩ :: s.skews }

/-- The last need time of what a packet of key time t can carry: its last sample, or the last line of its picture (Table 10.4). -/
def State.lastNeed (s : State) (f : Nat) (t : Int) : Int :=
  let type := s.get (Reg.FLOW_TYPE f)
  let a := s.get (Reg.FLOW_AUDIO f)
  t + s.playout f + (if type = 2 ∨ type = 3 then (audioSamples a - 1) * audioPeriod a else framePeriod (s.get (Reg.FLOW_FORMAT f)))

/-- A copy is LATE: its data has been consumed, or its last need time has passed (R218). -/
def State.lateCopy (s : State) (f : Nat) (old : Bool) (t : Int) : Bool :=
  s.get (Reg.FLOW_TYPE f) != 5 && (old || decide (s.lastNeed f t < s.now))

/-- A packet matched on a path meets its flow's Concordance (R210, R213, R217, R218, R220). -/
def State.flowPacket (s : State) (f : Nat) (pathB : Bool) (p : Rtp) : State :=
  let e := if pathB then f + 16384 else f
  let t := (s.bump (if pathB then Reg.CONCORDANCE_RECEIVED_B f else Reg.CONCORDANCE_RECEIVED_A f)).put
    (if pathB then Hid.flowLastB f else Hid.flowLastA f) (s.tickLf + 1)
  let t := if t.get (Reg.FLOW_PATH_STATE e) = 1 then (t.put (Reg.FLOW_PATH_STATE e) 2).flowPubDue f else t
  let w := s.seqBits f
  let key := (s.keyTime f p.ts, s.keySeq f p)
  let t := t.noteArrival f pathB key.1 key.2
  if t.get (Reg.FLOW_PATH_STATE e) = 3 then t.bump (Reg.CONCORDANCE_SKEW_DISCARDS f)
  else if p.version ≠ 2 ∨ p.fits = false then t.bump (Reg.CONCORDANCE_MALFORMED f)
  else
    let b := t.bufOf f
    let old := b.any && flowKeyLe w key (b.t, b.q)
    if b.held.any (fun h => decide (h.t = key.1) && h.q == key.2) then t.bump (Reg.CONCORDANCE_DUPLICATES f)
    else if t.lateCopy f old key.1 then t.bump (Reg.CONCORDANCE_LATE f)
    else if old then t.bump (Reg.CONCORDANCE_DUPLICATES f)
    else if s.bufferBytes f < b.held.foldl (fun a h => a + h.bytes) 0 + p.bytes then t.bump (Reg.CONCORDANCE_OVERFLOW f)
    else
      let t := t.bump (if pathB then Reg.CONCORDANCE_FIRST_B f else Reg.CONCORDANCE_FIRST_A f)
      let t := ((t.setBuf { b with held := b.held ++ [⟨key.1, key.2, p.bytes, pathB, s.tickLf, p.marker⟩] }).put (Hid.flowStamp f)
        (s.flowStampAt f key.1)).forwardPacket f p (s.flowStampAt f key.1)
      if s.get (Reg.FLOW_TYPE f) = 5 then t.compressedDrain f (b.held.length + 1) else t

/-- A unit that passed the injection entries of FLOW_RX meets its flow (R402). -/
def State.flowUnit (s : State) (u : InjUnit) : State :=
  match u with
  | .packet f b p => s.flowPacket f b p
  | _ => s

/-- The path a frame's key matches: source given before any, port given before any (R211). -/
def State.classify (s : State) (m dest dport src sport : Nat) : Option (Nat × Nat) :=
  let base := (s.pathsOn m).filter (fun p =>
    s.getN (Reg.FLOW_DEST_ADDRESS p.1) == dest && s.getN (Reg.FLOW_DEST_PORT p.1) == dport)
  let srcIs (p : Nat × Nat) : Bool := s.getN (Reg.FLOW_SOURCE_ADDRESS p.1) == src
  let srcAny (p : Nat × Nat) : Bool := s.getN (Reg.FLOW_SOURCE_ADDRESS p.1) == ipNone
  let portIs (p : Nat × Nat) : Bool := s.getN (Reg.FLOW_SOURCE_PORT p.1) == sport
  let portAny (p : Nat × Nat) : Bool := s.getN (Reg.FLOW_SOURCE_PORT p.1) == 0
  [fun p => srcIs p && portIs p, fun p => srcIs p && portAny p, fun p => srcAny p && portIs p,
    fun p => srcAny p && portAny p].findSome? (fun t => base.find? t)

/-- A frame of a local protocol is answered, or consumed (R197); an answer to an echo is as long as the request. -/
def State.localFrame (s : State) (port bytes host : Nat) (k : NetKind) : Option State :=
  let mine (a : Nat) : Bool := a == host && host != ipNone
  match k with
  | .ptp p => some (s.ptpRx (if port < 16 then port + 3 else port - 16) p)
  | .arp a => if mine a then some (s.enqueue ⟨port, 6, s.now, 0, (if ipV4 a then s.frameBytes port 46 else s.frameBytes port 90),
      .localAnswer 0 a, false⟩) else none
  | .echo a => if mine a then some (s.enqueue ⟨port, 6, s.now, 0, bytes, .localAnswer 1 a, false⟩) else none
  | .query old g =>
    if 16 ≤ port then some s else some (if old then s.bump Reg.MEMBERSHIP_OLD_QUERIES else s.sendReports port g)
  | _ => none

/-- A control port or SVC receives a frame: its own address, broadcast, and the PTP and all-nodes addresses pass (R206). Catalogue
messages are commands of their own. -/
def State.ctlFrameRx (s : State) (port : Nat) (f : NetFrame) : State :=
  let own := if port < 18 then s.getN (Reg.CTL_PORT_PORT_MAC (port - 16)) else macBase + 2
  let pass := f.dest == own || f.dest == 2 ^ 48 - 1 || fixedGroups.contains f.dest
  if s.ready (51 + (port - 16)) = false ∨ f.fcsOk = false ∨ f.spoiled = true ∨ f.bytes < 64 ∨ f.tags ≠ [] ∨ pass = false then s
  else (s.localFrame port f.bytes (if port < 18 then s.getN (Reg.CTL_PORT_PORT_ADDRESS (port - 16)) else (s.portAddress 2).toNat) f.kind).getD s

/-- A MAC receives a frame: checked, filtered, stamped, and handed to a flow or to a local protocol (R194 to R197, R208). -/
def State.frameRx (s : State) (m : Nat) (f : NetFrame) : State :=
  if !s.macActive m || s.get (Reg.MAC_LINK m) != 2 || !s.runs (19 + m / 4) then s
  else
    let s := s.fecCount m f.corrected f.lost
    if !f.fcsOk || f.spoiled then s.bump (Reg.NET_STATS_RX_FCS_ERRORS m)
    else if f.bytes < 64 ∨ 9216 < f.bytes then s.bump (Reg.NET_STATS_RX_LENGTH_ERRORS m)
    else if f.kind = .pause then s.bump (Reg.NET_STATS_RX_PAUSE m)
    else if !s.tagOk m f.tags then s.bump (Reg.NET_STATS_RX_VLAN_DROPS m)
    else
      let t := (s.bump (Reg.NET_STATS_RX_FRAMES m)).bumpBy (Reg.NET_STATS_RX_BYTES m) f.bytes
      if !s.filterPass m f.dest then t.bump (Reg.NET_STATS_RX_FILTERED m)
      else
        match f.kind with
        | .rtp d dp src sp p =>
          (match (if s.runs 6 then s.classify m d dp src sp else none) with
          | none => t.bump (Reg.NET_STATS_RX_UNMATCHED m)
          | some q =>
            let r := t.inject 7 q.1 0 (.packet q.2 (decide (16384 ≤ q.1)) p) (8 * p.bytes)
            r.1.each r.2 (fun u x => u.flowUnit x.unit))
        | k => (t.localFrame m f.bytes (s.getN (Reg.MAC_HOST_ADDRESS m)) k).getD (t.bump (Reg.NET_STATS_RX_UNMATCHED m))

/-! ### Need times, gaps, paths, presence -/

/-- The need time of data up to a key on a raster line (Table 10.4). -/
def State.needTime (s : State) (f : Nat) (t : Int) (line : Nat) : Int :=
  let type := s.get (Reg.FLOW_TYPE f)
  t + s.playout f +
    (if type = 1 ∨ type = 6 then ((line : Int) - 1) * linePeriod (s.get (Reg.FLOW_FORMAT f)) else 0)

/-- How many sequence numbers lie after `a` up to `b`, of `w` bits. -/
def seqGap (w a b : Nat) : Nat := (b + 2 ^ w - a) % 2 ^ w

/-- The consumer takes what it holds up to a key, and counts the sequence numbers that miss (R218). -/
def State.consume (s : State) (f : Nat) (t : Int) (q : Nat) : State :=
  let w := s.seqBits f
  let b := s.bufOf f
  let took := b.held.filter (fun h => flowKeyLe w (h.t, h.q) (t, q))
  let due := if b.any then seqGap w b.q q else took.length
  if b.any && flowKeyLe w (t, q) (b.t, b.q) then s
  else
    (s.bumpBy (Reg.CONCORDANCE_LOST f) (due - took.length : Nat)).setBuf
      { b with held := b.held.filter (fun h => !flowKeyLe w (h.t, h.q) (t, q)), any := true, t := t, q := q }

/-- A need time (R218). -/
def State.needTimeAt (s : State) (f : Nat) (t : Int) (q line : Nat) : State :=
  if s.get (Reg.FLOW_ENABLE f) = 0 ∨ s.get (Reg.FLOW_TYPE f) = 5 ∨ s.runs 6 = false ∨ s.now < s.needTime f t line then s
  else s.consume f t q

/-- The key held first in order. -/
def firstKey (w : Nat) (l : List HeldPkt) : Option HeldPkt :=
  l.foldl (fun a h =>
    match a with
    | none => some h
    | some b => if flowKeyLe w (b.t, b.q) (h.t, h.q) then a else some h) none

/-- A gap of a COMPRESSED flow is lost once a later packet has waited 1 ms; packets leave in key order (R223). -/
def State.compressedGap (s : State) (f : Nat) : State :=
  if s.get (Reg.FLOW_TYPE f) ≠ 5 then s
  else
    let b := s.bufOf f
    match firstKey 16 b.held with
    | none => s
    | some h =>
      if s.tickLf < h.at_ + lfMs then s
      else
        let gap := if b.any then seqGap 16 b.q h.q - 1 else 0
        ((s.bumpBy (Reg.CONCORDANCE_LOST f) gap).setBuf
          { b with any := true, t := h.t, q := (h.q + 65535) % 65536 }).compressedDrain f (b.held.length + 1)

/-- A path without a packet for 10 ms reads NO_PACKETS; FLOW_PATH_LOSS while the other receives (R220). -/
def State.noPackets (s : State) (f : Nat) (pathB : Bool) : State :=
  let e := if pathB then f + 16384 else f
  let o := if pathB then f else f + 16384
  let last := s.get (if pathB then Hid.flowLastB f else Hid.flowLastA f)
  let st := s.get (Reg.FLOW_PATH_STATE e)
  if (st ≠ 2 ∧ st ≠ 3) ∨ s.tickLf < last - 1 + 529200000 then s
  else
    let t := (s.put (Reg.FLOW_PATH_STATE e) 1).flowPubDue f
    if s.get (Reg.FLOW_PATH_STATE o) = 2 then t.raise (578 + s.getN (Reg.FLOW_MAC e)) 1 f else t

/-- The lags of path B behind path A of the keys whose second copy arrived in the second that ends now (R220). -/
def State.skewLags (s : State) (f : Nat) : List Int :=
  s.skews.filterMap (fun x =>
    match x.a, x.b with
    | some a, some b => if x.flow = f ∧ s.tickLf < max a b + lfSec then some (b - a) else none
    | _, _ => none)

/-- Each second skew is measured: SKEW is the mean of B behind A; a path over 150 ms behind the other for the whole second is SKEWED,
and within it for a whole second RECEIVING again (R220). With no key on both paths in the second nothing changes, a mean is rounded
down, and a key that came on one path alone is forgotten after 10 s (DESIGN CHOICE, log entry 87). -/
def State.flowSkew (s : State) (f : Nat) : State :=
  let lim : Int := 7938000000
  let l := s.skewLags f
  let one (t : State) (e : Nat) (lags : List Int) : State :=
    let st := t.get (Reg.FLOW_PATH_STATE e)
    if st = 2 ∧ lags.all (fun d => decide (lim < d)) = true then
      ((t.put (Reg.FLOW_PATH_STATE e) 3).flowPubDue f).raise (562 + t.getN (Reg.FLOW_MAC e)) 2 f
    else if st = 3 ∧ lags.all (fun d => decide (d ≤ lim)) = true then (t.put (Reg.FLOW_PATH_STATE e) 2).flowPubDue f else t
  let t : State := { s with skews := s.skews.filter (fun x =>
    x.flow != f || (!(x.a.isSome && x.b.isSome) && decide (s.tickLf < max (x.a.getD 0) (x.b.getD 0) + 10 * lfSec))) }
  if s.get (Reg.FLOW_ENABLE f) = 0 ∨ l = [] then t
  else one (one (t.put (Reg.CONCORDANCE_SKEW f) (l.foldl (· + ·) 0 / (l.length : Int))) f (l.map (fun d => -d))) (f + 16384) l

/-- A change of presence is published at its millisecond boundary (R221). -/
def State.flowPublish (s : State) (f : Nat) : State :=
  if s.get (Hid.flowPubAt f) = 0 ∨ s.now < s.get (Hid.flowPubAt f) - 1 then s
  else
    let t := s.put (Hid.flowPubAt f) 0
    let v : Int := if (s.pathsOf f).any (fun e => s.get (Reg.FLOW_PATH_STATE e) == 2) then 1 else 2
    if s.get (Reg.FLOW_ENABLE f) = 0 ∨ s.get (Reg.FLOW_STATE f) = v then t
    else ((t.put (Reg.FLOW_STATE f) v).put (Reg.CONCORDANCE_SINCE f) s.nowLT)

/-- Users of ingress flow f: outputs, layers and recorders that name it, egress COMPRESSED flows that carry it, and one while a fabric
subscription reads it (`4100:18`, R223). -/
def State.flowUsers (s : State) (f : Nat) : Nat :=
  let m := s.slot * 32768 + 0x100 + f
  ((s.elsWith 0x5100 2 m).filter (fun o => s.get (Reg.XPT_OUT_SELECT o) == 1)).length +
    ((s.elsWith 0x7100 4 m).filter (fun l => s.get (Reg.LAYER_ENABLE l) == 1)).length +
    ((s.elsWith 0x9100 2 m).filter (fun r => s.get (Reg.RECORDER_ENABLE r) == 1)).length +
    ((s.elsWith 0x4100 17 m).filter (fun e => flowEgress e && s.get (Reg.FLOW_ENABLE e) == 1 && s.get (Reg.FLOW_TYPE e) == 5)).length +
    b2n (s.patterns.any (fun q => q.tx && q.shelf == m))

/-- The conditions of weeding, at a second boundary: ABSENT for at least WEED, no user, a lent device (R215). -/
def State.weedDue (s : State) (f : Nat) : Bool :=
  let w := s.get (Reg.FLOW_WEED f)
  decide (s.now % lfSec < 53) && w != 0 && s.get (Reg.FLOW_STATE f) == 2 && decide (lfOfLt (s.get (Reg.CONCORDANCE_SINCE f)) + w ≤ s.now) &&
    s.flowUsers f == 0 && s.lent

/-! ### Egress -/

/-- The bits of a frame of the single link of a raster code: 10, 55 or 110 clocks of 27 MHz, or of 27/1.001 MHz in its
family (R118, Table 10.5). -/
def sdiFrameBits (format : Int) : Int :=
  let m : Int := if format ≤ 2 then 10 else if 8 ≤ format ∧ format ≤ 10 then 110 else 55
  let p := framePeriod format
  if format = 3 ∨ format = 6 ∨ format = 9 ∨ format = 12 then m * p * 1000 / (1960 * 1001) else m * p / 1960

/-- Interlaced or PsF: two fields to a frame. -/
def fieldsOf (scan : Int) : Int := if scan = 0 then 1 else 2

/-- D: bytes of active samples in a field or progressive frame (R225). -/
def activeBytes (format scan : Int) : Int :=
  let d : Int := if 14 ≤ format then 3840 * 2160 * 5 / 2 else if 11 ≤ format then 1280 * 720 * 5 / 2 else 1920 * 1080 * 5 / 2
  d / fieldsOf scan

/-- Np: packets of 1,260 bytes in a field or progressive frame (R225). -/
def fieldPackets (format scan : Int) : Int := (activeBytes format scan + 1259) / 1260

/-- TRO in lines (R225). -/
def troLines (format scan : Int) : Int :=
  if 14 ≤ format then 86 else if 11 ≤ format then 28 else if scan = 0 then 43 else 22

/-- The bytes of one frame from destination address to FCS over IPv4 and untagged, and its peak packets per second as a fraction of
leaves: packets and the leaves they take (R204, R214). -/
def State.peakRate (s : State) (e : Nat) : Nat × Int × Int :=
  let type := s.get (Reg.FLOW_TYPE e)
  let format := s.get (Reg.FLOW_FORMAT e)
  let scan := s.get (Reg.FLOW_SCAN e)
  let p := framePeriod format
  let fp := p / fieldsOf scan
  let a := s.get (Reg.FLOW_AUDIO e)
  let n := audioSamples a
  let ch := s.get (Reg.FLOW_CHANNELS e)
  if type = 1 then
    (1332, fieldPackets format scan, if s.get (Reg.FLOW_SENDER e) = 1 then fp else fp * 24 / 25)
  else if type = 6 then (1442, sdiFrameBits format, 11008 * p)
  else if type = 2 then ((58 + n * ch * 3).toNat, 1, n * audioPeriod a)
  else if type = 3 then ((58 + n * ch * 4).toNat, 1, n * audioPeriod a)
  else (1498, 1, fp)

/-- The wire rate of an egress flow in b/s on the path of element p, rounded up: a VIDEO flow counts 1,332 bytes a frame, or 1,336
tagged (R214); the others what they send, 20 more over IPv6; a COMPRESSED flow's is its source's declared peak (R204, R213, log
entry 24). -/
def State.pathRate (s : State) (e p : Nat) : Nat :=
  let m := s.getN (Reg.FLOW_MAC p)
  if s.get (Reg.FLOW_ENABLE e) = 0 then 0
  else if s.get (Reg.FLOW_TYPE e) = 5 then
    (let src := s.getN (Reg.FLOW_SOURCE e)
     if shelfSlot src = s.slot then s.getN (Reg.FLOW_MAX_RATE (shelfIndex src - 0x100))
     else ((s.offerOf src).map (fun o => o.k * 240 * 8 * 10000)).getD 0)
  else
    let r := s.peakRate e
    let six := s.get (Reg.FLOW_TYPE e) != 1 && !ipV4 (s.getN (Reg.FLOW_DEST_ADDRESS p))
    let num := (s.frameBytes m (r.1 + (if six then 20 else 0)) + 20) * 8 * r.2.1.toNat * 52920000000
    if r.2.2 ≤ 0 then 0 else (num + r.2.2.toNat - 1) / r.2.2.toNat

/-- What an egress flow takes of MAC m on its paths there (R204). -/
def State.wireRate (s : State) (e m : Nat) : Nat :=
  ([e, e + 16384].filter (fun p => s.get (Reg.FLOW_PATH_ENABLE p) == 1 && s.get (Reg.FLOW_MAC p) == (m : Int))).foldl
    (fun a p => a + s.pathRate e p) 0

/-- The enabled egress flows with a path on a MAC. -/
def State.egressOn (s : State) (m : Nat) : List Nat :=
  (s.flowsOn 32768 49152).filter (fun e => [e, e + 16384].any (fun p =>
    s.get (Reg.FLOW_PATH_ENABLE p) == 1 && s.get (Reg.FLOW_MAC p) == (m : Int)))

/-- A_c of a MAC (R204). -/
def State.classRate (s : State) (m c : Nat) : Nat :=
  ((s.egressOn m).filter (fun e => s.getN (Reg.FLOW_CLASS e) == c)).foldl (fun a e => a + s.wireRate e m) 0

/-- The leaves of a cycle in which some class of a set is open (R204). -/
def State.setOpen (s : State) (m set_ : Nat) : Int :=
  (s.gates m).foldl (fun a e => if (List.range 6).any (fun c => bitOf set_ c && gateBit e c) then a + gateSpan e else a) 0

/-- The admission rule of a MAC: every non-empty set of classes within its open share of the budget (R204). -/
def State.admits (s : State) (m : Nat) : Bool :=
  let cyc := s.get (Reg.GATE_LIST_CYCLE m)
  let budget : Int := macBudget (s.macRate m)
  (List.range 63).all (fun i =>
    let set_ := i + 1
    let sum : Int := (List.range 6).foldl (fun a c => a + if bitOf set_ c then s.classRate m c else 0) 0
    if s.get (Reg.GATE_LIST_ENABLE m) = 0 then decide (sum ≤ budget) else decide (sum * cyc ≤ s.setOpen m set_ * budget))

/-- ADMITTED of every MAC (`4010:06`). -/
def State.refreshAdmitted (s : State) : State :=
  s.each (List.range 16) (fun t m =>
    t.put (Reg.MAC_ADMITTED m) ((List.range 6).foldl (fun a c => a + s.classRate m c) 0 : Nat))

/-- The checks of a FLOW slip on A element e against the configuration at B (R204, R214). -/
def State.flowCheck (s : State) (e : Nat) : Status :=
  let type := s.get (Reg.FLOW_TYPE e)
  let r := s.getN (Reg.FLOW_RASTER e)
  let fmt := s.get (Reg.FLOW_FORMAT e)
  let badPath (p : Nat) : Bool :=
    s.get (Reg.FLOW_PATH_ENABLE p) == 1 &&
      (!macSideOk (p != e) (s.get (Reg.FLOW_MAC p)) ||
        (!ipMulti (s.getN (Reg.FLOW_DEST_ADDRESS p)) && s.get (Reg.FLOW_DEST_MAC p) == 0))
  if s.get (Reg.FLOW_ENABLE e) = 0 then .ok
  else if type = 0 ∨ flowTypeOk type fmt (s.get (Reg.FLOW_SCAN e)) (s.get (Reg.FLOW_AUDIO e)) (s.get (Reg.FLOW_CHANNELS e)) = false
    ∨ s.rasterPeriod r = 0 ∨ ((type = 1 ∨ type = 4 ∨ type = 6) ∧ s.get (Reg.RASTER_FORMAT r) ≠ fmt) ∨
    5 < s.get (Reg.FLOW_CLASS e) ∨ badPath e = true ∨ badPath (e + 16384) = true ∨
    ((type = 2 ∨ type = 3) ∧ 8191 < s.get (Reg.FLOW_SLOT_BASE e) + s.get (Reg.FLOW_CHANNELS e) - 1) then .range
  else if (List.range 16).any (fun m => (s.egressOn m).contains e && !s.admits m) then .capacity
  else .ok

/-- The checks of a GATE slip on MAC m against the configuration at B (R202, R204). With ENABLE 0 every class is open throughout. -/
def State.gateCheck (s : State) (m : Nat) : Status :=
  let l := s.gates m
  if s.get (Reg.GATE_LIST_ENABLE m) ≠ 0 ∧ (l.foldl (fun a e => a + gateSpan e) 0 ≠ s.get (Reg.GATE_LIST_CYCLE m) ∨
      l.any (fun e => decide (gateSpan e < 5292)) = true ∨ s.get (Reg.GATE_LIST_BASE_TIME m) % 2 ^ 12 ≠ 0) then .range
  else if s.admits m then .ok else .capacity

/-! ### Egress schedules -/

/-- The record of an egress flow, both paths, as registers hold it. -/
def State.flowRecord (s : State) (e : Nat) : Store :=
  storeKeep (fun k => k.idx == 0x4100 && (k.el == e || k.el == e + 16384)) s.regs

/-- The state with an egress flow's record replaced by one that was in force. -/
def State.withRecord (s : State) (e : Nat) (r : Store) : State :=
  let rest := storeKeep (fun k => !(k.idx == 0x4100 && (k.el == e || k.el == e + 16384))) s.regs
  { s with regs := r.foldl (fun (l : Store) p => storePut l p.1 p.2) rest }

/-- An egress flow's record goes into force at B: it sends every frame whose schedule starts at or after B, and the record before it
goes on for the frames before B (R209, R214). `old` stands before the slip. -/
def State.flowApply (s old : State) (e : Nat) (b : Int) : State :=
  let on := s.get (Reg.FLOW_ENABLE e) == 1
  let t := (s.put (Reg.FLOW_STATE e) (b2i on)).put (Hid.flowFrom (e - 32768)) b
  let t := t.each [e, e + 16384] (fun t p =>
    t.put (Reg.FLOW_PATH_STATE p) (b2i (on && t.get (Reg.FLOW_PATH_ENABLE p) == 1)))
  let kept := t.flowTails.filter (fun x => decide (b < x.before + lfSec))
  let t : State := { t with flowTails := kept ++ (if old.get (Reg.FLOW_ENABLE e) = 1 then [⟨e, b, old.flowRecord e⟩] else []) }
  t.refreshAdmitted

/-- One packet of a schedule: the start of the schedule of its frame, its RTP timestamp, its count c, its release time, its marker. -/
structure PacketPlan where
  start : Int
  ts : Int
  c : Int
  release : Int
  marker : Bool
deriving DecidableEq, Repr

/-- Table 10.5: `i` is packet i of frame `f` (VIDEO), packet k counted from the epoch (SDI, AUDIO, AES3), or the field of frame `f`
(ANC). A frame of VIDEO or ANC is the raster's current one or the one before it. -/
def State.pacerPlan (s : State) (e : Nat) (f : Int) (i : Nat) : Option PacketPlan :=
  let type := s.get (Reg.FLOW_TYPE e)
  let r := s.getN (Reg.FLOW_RASTER e)
  let p := s.rasterPeriod r
  let o := s.get (Reg.RASTER_OFFSET r)
  let now := s.get (Reg.RASTER_FRAME_INDEX r)
  let known := f == now || f == now - 1
  let format := s.get (Reg.FLOW_FORMAT e)
  let scan := s.get (Reg.FLOW_SCAN e)
  let fields := fieldsOf scan
  let nf := f * p + o
  let tro := troLines format scan * linePeriod format
  if p = 0 then none
  else if type = 1 then
    let np := fieldPackets format scan
    let field := (i : Int) / np
    let k := (i : Int) % np
    let start := nf + field * p / 2
    let span := if s.get (Reg.FLOW_SENDER e) = 1 then p / fields else p / fields * 24 / 25
    if fields ≤ field ∨ known = false then none
    else some ⟨nf, start / 588000 % 2 ^ 32, f * (np * fields) + i, start + tro + k * span / np, k == np - 1⟩
  else if type = 6 then
    let w := sdiFrameBits format
    let k : Int := i
    let fr := k * 11008 / w
    let endBit := (k + 1) * 11008
    some ⟨fr * p + o, (fr * p + o) / 1960 % 2 ^ 32, k, o + endBit * p / w, decide (fr < endBit / w)⟩
  else if type = 2 ∨ type = 3 then
    let n := audioSamples (s.get (Reg.FLOW_AUDIO e))
    let k : Int := i
    let q := n * audioPeriod (s.get (Reg.FLOW_AUDIO e))
    some ⟨k * q, k * n % 2 ^ 32, k, (k + 2) * q, false⟩
  else if type = 4 then
    let start := nf + (i : Int) * p / 2
    if fields ≤ (i : Int) ∨ known = false then none
    else some ⟨nf, start / 588000 % 2 ^ 32, if fields = 1 then f else 2 * f + i, start + tro, true⟩
  else none

/-- The record that still sends the frames before B (R214). -/
def State.pacedBefore (s : State) (e : Nat) (f : Int) (i : Nat) : Option (State × PacketPlan) :=
  (s.flowTails.filter (fun x => x.el == e)).findSome? (fun x =>
    let t := s.withRecord e x.record
    match t.pacerPlan e f i with
    | some q => if q.start < x.before then some (t, q) else none
    | none => none)

/-- The state whose record an egress flow sends a packet under: the record in force for a schedule that starts at or after its B, else
the last one before it (R214). -/
def State.paced (s : State) (e : Nat) (f : Int) (i : Nat) : Option (State × PacketPlan) :=
  let here := if s.get (Reg.FLOW_ENABLE e) = 0 then none else s.pacerPlan e f i
  match here with
  | some x => if s.get (Hid.flowFrom (e - 32768)) ≤ x.start then some (s, x) else s.pacedBefore e f i
  | none => s.pacedBefore e f i

/-- The bytes of samples VIDEO packet k of a field carries, and whether it spans two lines (R226). -/
def videoPacket (format scan k : Int) : Int × Bool :=
  let d := activeBytes format scan
  let line : Int := if 14 ≤ format then 9600 else if 11 ≤ format then 3200 else 4800
  let n := min 1260 (d - 1260 * k)
  (n, decide (1260 * k / line < (1260 * k + n - 1) / line))

/-- The ancillary packets of one field that an ANC flow's companion passes: those that fit 1,440 bytes of RTP payload, and how many it
drops whole (R226). RFC 8331 gives the payload 8 bytes of header beside RTP's 12, and each packet 4 bytes before its 10-bit words, the three of its data flag left out. -/
def State.ancFit (s : State) (e : Nat) : List AncPkt × Nat :=
  let src := s.getN (Reg.XPT_OUT_SOURCE (s.getN (Reg.FLOW_COMPANION e)))
  let l := ((s.anc.find? (fun a => shelfSlot src == s.slot && a.1 == shelfIndex src)).map (·.2.2)).getD []
  ancLimit 1440 8 (l.map (fun p => { p with words := 4 + ((p.words - 3) * 10 + 31) / 32 * 4 }))

/-- The bytes of packet i of an egress flow from its RTP header on: 12 of RTP, then for VIDEO the extended sequence and an SRD header of 6
bytes for each line it touches; for SDI the 8 bytes of ST 2022-6 and 1,376 of media (R226, Table 10.2). -/
def State.pacerBytes (s : State) (e i : Nat) : Nat :=
  let type := s.get (Reg.FLOW_TYPE e)
  let format := s.get (Reg.FLOW_FORMAT e)
  let scan := s.get (Reg.FLOW_SCAN e)
  let samples := audioSamples (s.get (Reg.FLOW_AUDIO e)) * s.get (Reg.FLOW_CHANNELS e)
  if type = 1 then
    let v := videoPacket format scan ((i : Int) % fieldPackets format scan)
    14 + (if v.2 then 12 else 6) + v.1.toNat
  else if type = 6 then 1396
  else if type = 2 then 12 + (samples * 3).toNat
  else if type = 3 then 12 + (samples * 4).toNat
  else 12 + (s.ancFit e).1.foldl (fun a p => a + p.words) 8

/-- A packet of the pacer leaves on one path (R209, R226). -/
def State.pacerPath (s r : State) (e i : Nat) (pathB : Bool) (plan : PacketPlan) : State :=
  let p := if pathB then e + 16384 else e
  let x := r.flowFrame p (r.pacerBytes e i) (r.getN (Reg.FLOW_TYPE e)) plan.ts.toNat (plan.c % 2 ^ 32).toNat plan.marker
  if r.get (Reg.FLOW_PATH_ENABLE p) = 0 then s
  else s.flowOut p ⟨r.getN (Reg.FLOW_MAC p), r.getN (Reg.FLOW_CLASS e), plan.release, e - 32768, x.1, x.2, false⟩

/-- A pacer releases a packet of egress flow j at its release time; no count is sent twice (R203, R214, R225, R226). -/
def State.pacerRelease (s : State) (j : Nat) (f : Int) (i : Nat) : State :=
  let e := 32768 + j
  if s.runs 6 = false then s
  else
    match s.paced e f i with
    | none => s
    | some (r, plan) =>
      if s.now < plan.release ∨ plan.c + 1 ≤ s.get (Hid.pacerC j) then s
      else
        let t := (s.put (Hid.pacerC j) (plan.c + 1)).bump (Reg.FLOW_TX_RELEASED j)
        let t := t.when (r.get (Reg.FLOW_TYPE e) == 4) (fun u => u.bumpBy (Reg.FLOW_TX_ANC_DROPPED j) (r.ancFit e).2)
        (t.pacerPath r e i false plan).pacerPath r e i true plan

end Sys2Proof.Machine
end

