-- ==== Sys2Proof/Machine/Src.lean ====
section
/-! DEFINITION. What the switch core sees of each source: offered, present, structure, delivery stamp; the frame
synchronisers; the comparisons the twins share (07_crosspoint.md, 08_fabric.md R171, 13_stacks.md R284, 20 R407). -/
namespace Sys2Proof.Machine

/-- What a device knows of a source. `every`: a VIDEO flow counts as every link structure of its code (R222). `raster`
names the raster whose boundaries its delivery stamps follow, less 211,680 lf; else `stamp` is its last frame's. -/
structure SrcInfo where
  offered : Bool
  present : Bool
  format : Nat
  rate : Nat
  links : Nat
  level : Nat
  division : Nat
  every : Bool
  raster : Option Nat
  stamp : Int
deriving DecidableEq, Repr

/-- The route point stands 4 µs before a boundary (R146). -/
def routeLead : Int := 211680
/-- The window of a timed source (R146). -/
def timedWindow : Int := 52920

/-- A difference to the nearest point of a grid of period p (R146). -/
def reducePhase (x p : Int) : Int := if p = 0 then x else (x + p / 2) % p - p / 2

/-- Structure codes packed in an internal register: rate + 8 links + 64 level + 512 division. -/
def packStruct (rate links level division : Nat) : Nat := rate + 8 * links + 64 * level + 512 * division

/-- A synchroniser stands for receive lane n: a mode that runs H0 and H1, REF_RASTER naming a raster that is not OFF, and
the lane no mere link of a group (R149). -/
def State.syncWanted (s : State) (n : Nat) : Bool :=
  s.edge && s.hbmMode && s.rasterPeriod (s.getN (Reg.SDI_RX_REF_RASTER n)) != 0 &&
    s.get (Reg.LINK_GROUP_RX_BASE n) == (n : Int)

/-- Serial input n as the X island sees it: through its synchroniser where one runs, else raw (R149). During bring-up,
before both H islands are ready, it is carried raw (R317); a synchroniser with no frame delivers nothing, and the shelfmark of a mere link
of a group is always absent (R122). -/
def State.serialSrc (s : State) (n : Nat) : SrcInfo :=
  let sync := s.get (Hid.syncOn n) == 1
  let st := s.getN (Reg.SDI_RX_SIGNAL n)
  let base := s.get (Reg.LINK_GROUP_RX_BASE n) == (n : Int)
  ⟨s.edge, st == 1 && base && s.up (7 + n / 8) && (!sync || (s.runs (32 + n / 48) && s.get (Hid.syncLast n) != 0)),
    s.getN (Reg.SDI_RX_FORMAT n), s.getN (Reg.SDI_RX_RATE n), (if base then s.getN (Reg.LINK_GROUP_RX_SIZE n) else 1),
    s.getN (Reg.SDI_RX_LEVEL n), s.getN (Hid.sdiDiv n), false,
    (if sync then some (s.getN (Reg.SDI_RX_REF_RASTER n)) else none), lfOfLt (s.get (Reg.SDI_RX_FRAME_STAMP n))⟩

/-- Ingress flow f as a source: pictures only for VIDEO and SDI (R221, R222, R224). -/
def State.flowSrc (s : State) (f : Nat) : SrcInfo :=
  let type := s.get (Reg.FLOW_TYPE f)
  let fmt := s.flowFormat f
  ⟨s.get (Reg.FLOW_ENABLE f) == 1, s.get (Reg.FLOW_STATE f) == 1 && s.runs 6, fmt, (if fmt = 0 then 0 else codeRate fmt), 1,
    1, 0, type == 1, none, s.get (Hid.flowStamp f)⟩

/-- Playback head h in DELAY or CLIP as a source (R284). -/
def State.headSrc (s : State) (h : Nat) : SrcInfo :=
  let c := s.getN (Hid.headStruct h)
  let r := s.getN (Reg.HEAD_RASTER h)
  ⟨s.get (Reg.HEAD_MODE h) != 0, s.get (Hid.headAbsent h) == 0 && decide (2 ≤ s.get (Reg.HEAD_STATE h)),
    (if s.rasterPeriod r = 0 then 0 else s.getN (Reg.RASTER_FORMAT r)), c % 8, c / 8 % 8, c / 64 % 8, c / 512, false, some r, 0⟩

/-- The tile that carries canvas offer o (R245). -/
def State.offerTile (s : State) (o : Nat) : Option Nat :=
  (s.elsWith 0x7400 8 o).find? (fun t => decide (s.get (Reg.TILE_CANVAS t) < 256))

/-- Canvas offer o as a source (R245, R249). -/
def State.canvasSrc (s : State) (o : Nat) : SrcInfo :=
  match s.offerTile o with
  | none => ⟨false, false, 0, 0, 1, 0, 0, false, none, 0⟩
  | some t =>
    let k := s.getN (Reg.TILE_CANVAS t)
    let r := s.getN (Reg.CANVAS_RASTER k)
    ⟨true, s.get (Reg.CANVAS_STATE k) == 1, (if s.rasterPeriod r = 0 then 0 else s.getN (Reg.RASTER_FORMAT r)),
      s.getN (Reg.TILE_OFFER_RATE t), s.getN (Reg.TILE_OFFER_GROUP t), s.getN (Reg.TILE_OFFER_LEVEL t),
      s.getN (Reg.TILE_OFFER_DIVISION t), false, some r, 0⟩

/-- The fields of generator g as written, packed as `Hid.genNow`. -/
def State.genPack (s : State) (g : Nat) : Nat :=
  1 + s.getN (Reg.TEST_GEN_RASTER g) % 32 + 32 * s.getN (Reg.TEST_GEN_RATE g) + 256 * s.getN (Reg.TEST_GEN_GROUP g) +
    2048 * s.getN (Reg.TEST_GEN_LEVEL g) + 8192 * s.getN (Reg.TEST_GEN_DIVISION g)

/-- Test generator g as a source (R407): offered by its fields as written, sending what its last boundary put in force. -/
def State.genSrc (s : State) (g : Nat) : SrcInfo :=
  let w := s.getN (Reg.TEST_GEN_RASTER g)
  let c := (if s.get (Hid.genNow g) = 0 then s.genPack g else s.getN (Hid.genNow g)) - 1
  let r := c % 32
  ⟨s.get (Reg.TEST_GEN_ENABLE g) == 1 && decide (w < 32) && s.get (Hid.rasterRun w) == 1,
    s.get (Hid.genNow g) != 0 && s.get (Hid.rasterRun r) == 1, (if s.rasterPeriod r = 0 then 0 else s.getN (Reg.RASTER_FORMAT r)),
    c / 32 % 8, c / 256 % 8, c / 2048 % 4, c / 8192, false, some r, 0⟩

/-- The test generators written for raster r take their fields at its boundary (R407). -/
def State.genBoundary (s : State) (r : Nat) : State :=
  s.each (((s.elsListed 0xE200 1 ++ s.elsListed 0xE200 10).eraseDups).filter (fun g => s.getN (Reg.TEST_GEN_RASTER g) == r)) (fun t g =>
    if t.get (Reg.TEST_GEN_ENABLE g) = 1 then
      (t.put (Hid.genNow g) (t.genPack g : Nat)).put (Reg.TEST_GEN_STATE g) 1
    else (t.put (Hid.genNow g) 0).put (Reg.TEST_GEN_STATE g) 0)

/-- The test generators that run on a raster that stops (R407). -/
def State.genStop (s : State) (r : Nat) : State :=
  s.each ((s.elsListed 0xE200 10).filter (fun g => (s.getN (Hid.genNow g) - 1) % 32 == r))
    (fun t g => (t.put (Hid.genNow g) 0).put (Reg.TEST_GEN_STATE g) 0)

/-- The lines of a source's frame that were never received (R149, R151). -/
def State.missingLines (s : State) (m : Nat) (stamp : Int) : List (Nat × Nat) :=
  (s.cuts.filter (fun c => c.shelf == m && decide (c.stamp = stamp))).map (fun (c : Cut) => (c.first, c.last))

/-- A source of this device by its local index (Table 8.5, R18, log entry 26). -/
def State.localSrc (s : State) (i : Nat) : SrcInfo :=
  if i ≤ 0x5F then s.serialSrc i
  else if 0x100 ≤ i ∧ i < 0x4100 then s.flowSrc (i - 0x100)
  else if 0x4100 ≤ i ∧ i < 0x4200 then s.headSrc (i - 0x4100)
  else if 0x4200 ≤ i ∧ i < 0x4300 then s.canvasSrc (i - 0x4200)
  else if 0x4300 ≤ i ∧ i < 0x4400 then
    ⟨s.get (Reg.BUNDLE_OUT_ENABLE (i - 0x4300)) == 1, s.runs 46, 0, 0, 1, 0, 0, false, none, 0⟩
  else if 0x7F00 ≤ i ∧ i ≤ 0x7FFF then s.genSrc (i - 0x7F00)
  else ⟨false, false, 0, 0, 1, 0, 0, false, none, 0⟩

/-- The structure of a remote flow by its offer: one with a raster code and RATE 0 is a VIDEO flow, which has every link structure of
its code (R222, R224, log entry 88). -/
def flowOffered (o : Option OfferRec) (present off : Bool) (stamp : Int) : SrcInfo :=
  let fmt := (o.map (·.format)).getD 0
  let rate := (o.map (·.rate)).getD 0
  ⟨off, present, fmt, if fmt = 0 then 0 else if rate = 0 then codeRate fmt else rate, 1, 1, 0, fmt != 0 && rate == 0, none, stamp⟩

/-- A source by its shelfmark: of this device, or of another through its subscription and its offer (R17, R18, R171,
R440). -/
def State.src (s : State) (m : Nat) : SrcInfo :=
  if shelfSlot m = s.slot then s.localSrc (shelfIndex m)
  else
    let o := s.offerOf m
    let off := o.isSome && indexValid (shelfIndex m)
    let flow := decide (0x100 ≤ shelfIndex m) && decide (shelfIndex m < 0x4100)
    match s.subOf m with
    | some x =>
      if flow then flowOffered o (s.subPresent x) off x.stamp
      else
        (match x.src with
         | some (_, fmt, rate, links, level, div) => ⟨off, s.subPresent x, fmt, rate, links, level, div, false, none, x.stamp⟩
         | none => ⟨off, false, (o.map (·.format)).getD 0, (o.map (·.rate)).getD 0, x.links, 0, 0, false, none, x.stamp⟩)
    | none =>
      if flow then flowOffered o ((o.map (fun r => r.state == 1)).getD false) off 0
      else
        ⟨off, (o.map (fun r => r.state == 1)).getD false, (o.map (·.format)).getD 0, (o.map (·.rate)).getD 0,
          (o.map (·.links)).getD 1, 0, 0, false, none, 0⟩

/-- A source is remote. -/
def State.remote (s : State) (m : Nat) : Bool := shelfSlot m != s.slot

/-- The delivery stamp of a source for a frame boundary at `bf` (R146): its last frame's, or the boundary of its raster
nearest `bf` less 4 µs. -/
def State.stampFor (s : State) (x : SrcInfo) (bf : Int) : Int :=
  match x.raster with
  | some r => bf - s.fromBoundary r bf - routeLead
  | none => x.stamp

/-- Delivery stamp minus route point, to the nearest frame of period p (R146). -/
def State.timingOf (s : State) (x : SrcInfo) (bf p : Int) : Int := reducePhase (s.stampFor x bf - (bf - routeLead)) p

/-- Timed: within ±52,920 lf, bounds included (R146). -/
def timedBy (d : Int) : Bool := decide (d.natAbs ≤ timedWindow)

/-- The stamp of the frame a source last delivered, before now (for the records and stores that take whole frames). -/
def State.lastStamp (s : State) (m : Nat) : Int :=
  let x := s.src m
  match x.raster with
  | some r => lfOfLt (s.get (Reg.RASTER_LAST_BOUNDARY r)) - routeLead
  | none => x.stamp

/-- The device knows when a source's frames come: its own, or those of a subscribed stream that has delivered one (R440). -/
def State.timingKnown (s : State) (m : Nat) : Bool :=
  !s.remote m || (match s.subOf m with | none => false | some x => decide (x.stamp ≠ 0))

/-! ### Comparisons the twins share -/

/-- The left twin of a paired device with its link up: it decides and tells (R148). -/
def State.decider (s : State) : Bool := s.paired && s.twinUp && s.left
/-- The right twin waits for the left's decisions, while paired and while reconciling (R293). -/
def State.follower (s : State) : Bool := s.paired && s.twinUp && !s.left

/-- One comparison at the boundary of index `idx`: the value that holds, who decided (0 SELF, 1 LEFT_TWIN), and whether it was taken
alone while paired (R148, R293). Kinds: 0 timing of an output, 1 frame of a synchroniser, 2 frame of a layer, 3 frame of a promotion,
4 timing of a take at its check point, 5 timing of a take for the frame of its switch. -/
def State.compare (s : State) (kind el : Nat) (idx own : Int) : State × Int × Int × Bool :=
  if s.follower then
    (match s.decisions.find? (fun d => d.1 == kind && d.2.1 == el && ((d.2.2.1 : Int) == idx % 2 ^ 64)) with
     | some d => ({ s with decisions := s.decisions.erase d }, d.2.2.2, 1, false)
     | none => (s, own, 0, true))
  else if s.decider then (s.sendTwin (.decision kind el (idx % 2 ^ 64).toNat own), own, 0, false)
  else (s, own, 0, s.paired)

/-- A DECISION arrives: the right twin holds the last one for each comparison (R148, R293). -/
def State.decision (s : State) (kind el idx : Nat) (v : Int) : State :=
  if s.follower then
    { s with decisions := (s.decisions.filter (fun d => !(d.1 == kind && d.2.1 == el))) ++ [(kind, el, idx, v)] }
  else s

/-- The device's own frame that the left twin's choice names: the one whose stamp lies within the window of that stamp, else the frame
as named (R148: the twins' stamps of one frame differ by the jitter of their recovery). -/
def nearFrame (l : List Int) (f : Int) : Int := (l.find? (fun x => timedBy (x - f))).getD f

/-! ### Frame synchronisers -/

/-- A synchroniser starts or stops as mode, REF_RASTER and readiness set (R149, R156, R317). -/
def State.syncSettle (s : State) (n : Nat) : State :=
  let want := s.syncWanted n && (s.get (Hid.syncOn n) == 1 || (s.up 32 && s.up 33))
  if s.get (Hid.syncOn n) = b2i want then s
  else
    let t := (s.put (Hid.syncOn n) (b2i want)).put (Hid.syncLast n) 0
    ({ t with syncFrames := t.syncFrames.filter (fun e => e.1 != n) }).put (Reg.SYNC_STATE n) (b2i want)

/-- The frames synchroniser n holds, newest first. -/
def State.syncHeld (s : State) (n : Nat) : List Int := ((s.syncFrames.find? (fun e => e.1 == n)).map (·.2)).getD []

/-- The latest frame of a list, newest first, whose stamp is at most `limit`; 0 none (R149, R153). -/
def latestBy (l : List Int) (limit : Int) : Int := (l.find? (fun f => decide (f ≤ limit))).getD 0

/-- Synchroniser n delivers at boundary `bs` of its raster (R149, R148). -/
def State.syncDeliver (s : State) (n : Nat) (bs : Int) : State :=
  let t := s.syncSettle n
  if t.get (Hid.syncOn n) = 0 ∨ t.runs (32 + n / 48) = false then t
  else
    let last := t.get (Hid.syncLast n)
    let own := max last (latestBy (t.syncHeld n) (bs - routeLead))
    let c := t.compare 1 n (t.get (Reg.RASTER_FRAME_INDEX (t.getN (Reg.SDI_RX_REF_RASTER n)))) own
    let f := nearFrame (last :: t.syncHeld n) c.2.1
    let u := (c.1.put (Reg.SYNC_DECIDER n) c.2.2.1).when c.2.2.2 (fun u => u.bump (Reg.SYNC_SOLO_DECISIONS n))
    if f = 0 then u.put (Reg.SYNC_STATE n) 1
    else
      let skipped : Nat := if last = 0 then 0 else ((t.syncHeld n).filter (fun x => decide (last < x) && decide (x < f))).length
      let u := if f = last then u.bump (Reg.SYNC_REPEATS n) else u.bumpBy (Reg.SYNC_DROPS n) skipped
      let st : Int := if f = last ∧ s.get (Reg.SDI_RX_SIGNAL n) ≠ 1 then 3 else 2
      ((u.put (Hid.syncLast n) f).put (Reg.SYNC_STATE n) st).send (.picture 1 n 1 f)

/-- Every synchroniser on raster r delivers (R149). -/
def State.syncBoundary (s : State) (r : Nat) : State :=
  s.each (List.range 96) (fun t n => t.when (t.get (Reg.SDI_RX_REF_RASTER n) == (r : Int)) (fun u =>
    u.syncDeliver n (lfOfLt (u.get (Reg.RASTER_LAST_BOUNDARY r)))))

end Sys2Proof.Machine
end

