-- ==== Sys2Proof/Machine/Stacks.lean ====
section
/-! DEFINITION. HBM and DDR admission, recorders, heads, clips, memory errors (13_stacks.md, R274 to R290). -/
namespace Sys2Proof.Machine

/-! ### Folios (Table 13.1) -/

/-- Picture pages of a raster code, its link rate code and link count (R276). -/
def picturePages (format rate links : Nat) : Nat :=
  if format = 1 then 214 else if format = 2 then 254
  else if 11 ≤ format ∧ format ≤ 13 then 563
  else if 8 ≤ format ∧ format ≤ 10 ∧ rate = 4 then 2279
  else if 3 ≤ format ∧ format ≤ 10 then 1266
  else if 14 ≤ format ∧ format ≤ 16 then (if links = 4 ∧ rate = 5 then 20250 else 5063)
  else 0

/-- Folio pages: a header, the picture, and for ESSENCE 72 pages per link (R276). -/
def folioPages (format rate links : Nat) (essence : Bool) : Nat :=
  if picturePages format rate links = 0 then 0
  else picturePages format rate links + 1 + (if essence then 72 * links else 0)

/-- The admission structure: the largest folio Table 6.2 allows for a raster code and group size (R277). -/
def admitFolio (format size : Nat) (essence : Bool) : Nat :=
  let rate := if 8 ≤ format ∧ format ≤ 10 ∧ size = 1 then 4 else if 14 ≤ format then 5 else codeRate format
  folioPages format rate size essence

/-- Bytes of so many pages. -/
def pageBytes (n : Nat) : Nat := 4096 * n

/-- Bytes per frame times a raster code's frame rate, in B/s to the nearest (R278, R279). -/
def perSecond (bytes format : Nat) : Nat :=
  let p := (framePeriod format).toNat
  if p = 0 then 0 else (2 * bytes * 52920000000 + p) / (2 * p)

/-! ### HBM admission (R278) -/

/-- A user of HBM: class (0 synchronisers and buffers, 1 compositor, 2 output stores), stack, pages, B/s. -/
structure HbmUser where
  cls : Nat
  stack : Nat
  pages : Nat
  rate : Nat
deriving DecidableEq, Repr

/-- The frame synchronisers that exist (Table 13.2). -/
def State.syncUsers (s : State) : List HbmUser :=
  ((s.elsListed 0x3000 9).filter (fun n => s.syncWanted n)).map (fun n =>
    let fmt := s.getN (Reg.RASTER_FORMAT (s.getN (Reg.SDI_RX_REF_RASTER n)))
    let fo := admitFolio fmt (s.getN (Reg.LINK_GROUP_RX_SIZE n)) true
    ⟨0, n / 48, 8 * fo, perSecond (2 * pageBytes fo) fmt⟩)

/-- The ingress flow buffers that exist (Table 13.2, R213). -/
def State.bufferUsers (s : State) : List HbmUser :=
  if !s.hbmMode then [] else
  (s.flowsOn 0 16384).map (fun f =>
    ⟨0, f % 2, (s.bufferBytes f + 4095) / 4096, s.getN (Reg.FLOW_MAX_RATE f) / 4⟩)

/-- The output stores that exist: serial outputs' and flows' (Table 13.2). -/
def State.storeUsers (s : State) : List HbmUser :=
  let serial := ((s.elsWith 0x3100 1 1).filter (fun o => s.txBase o == o)).map (fun o =>
    let r := s.txRaster o
    let fmt := if s.rasterPeriod r = 0 then 0 else s.getN (Reg.RASTER_FORMAT r)
    let fo := admitFolio fmt (s.getN (Reg.LINK_GROUP_TX_SIZE o)) true
    (⟨2, o / 48, 2 * fo, perSecond (2 * pageBytes fo) fmt⟩ : HbmUser))
  let flows := ((s.flowsOn 32768 49152).filter (fun e => s.get (Reg.FLOW_TYPE e) == 1 || s.get (Reg.FLOW_TYPE e) == 6)).map
    (fun e =>
      let fmt := s.getN (Reg.FLOW_FORMAT e)
      let fo := admitFolio fmt 1 false
      (⟨2, e % 2, 2 * fo, perSecond (2 * pageBytes fo) fmt⟩ : HbmUser))
  serial ++ flows

/-- The distinct sources of the enabled layers (R234). -/
def State.layerSources (s : State) : List Nat := ((s.elsWith 0x7100 3 1).map (fun l => s.getN (Reg.LAYER_SOURCE l))).eraseDups

/-- Admitted fetch of a source's layers in pixels per second (R241). -/
def State.sourceFetch (s : State) (m : Nat) : Nat :=
  ((s.elsWith 0x7100 3 1).filter (fun l => s.getN (Reg.LAYER_SOURCE l) == m)).foldl (fun a l =>
    let k := s.getN (Reg.LAYER_CANVAS l)
    let r := s.getN (Reg.CANVAS_RASTER k)
    if k < 256 ∧ s.rasterPeriod r ≠ 0 then a + perSecond (s.getN (Reg.LAYER_FETCH l)) (s.getN (Reg.RASTER_FORMAT r)) else a) 0

/-- The layer stores that exist (Table 13.2). -/
def State.layerUsers (s : State) : List HbmUser :=
  s.layerSources.map (fun m =>
    let x := s.src m
    let fo := folioPages x.format x.rate x.links false
    ⟨1, shelfIndex m % 2, 3 * fo, perSecond (pageBytes fo) x.format + (5 * s.sourceFetch m + 1) / 2⟩)

/-- Every HBM user. -/
def State.hbmUsers (s : State) : List HbmUser := s.syncUsers ++ s.bufferUsers ++ s.storeUsers ++ s.layerUsers

def rateOf (l : List HbmUser) : Nat := l.foldl (fun a u => a + u.rate) 0
def pagesOf (l : List HbmUser) : Nat := l.foldl (fun a u => a + u.pages) 0

/-- The HBM budget in B/s: less in MARGIN (R28, R278). -/
def State.hbmBudget (s : State) : Nat := if s.get Reg.MODE_ACTIVE = 6 then 1500000000000 else 2000000000000

/-- The usable pages of HBM stack h (R275, R289). -/
def State.hbmPages (s : State) (h : Nat) : Nat := 6225920 - s.getN (Hid.memLost (16 + h))

/-- The HBM loads with their budgets, in a fixed order: the device, each stack, its space, and in CONCERT the shares (R27, R278). -/
def State.hbmLoads (s : State) : List (Nat × Nat) :=
  let l := s.hbmUsers
  let b := s.hbmBudget
  let stack (h : Nat) : List HbmUser := l.filter (fun u => u.stack == h)
  let share (c : Nat) : Nat := rateOf (l.filter (fun u => u.cls == c))
  [(rateOf l, b), (2 * rateOf (stack 0), b), (2 * rateOf (stack 1), b), (pagesOf (stack 0), s.hbmPages 0),
    (pagesOf (stack 1), s.hbmPages 1)] ++
    (if s.get Reg.MODE_ACTIVE = 5 then [(share 0, 440000000000), (share 1, 960000000000), (share 2, 160000000000)] else [])

/-- The HBM load lies within every budget: device, stack, space, and the shares of CONCERT (R27, R278). -/
def State.hbmFits (s : State) : Bool := s.hbmLoads.all (fun p => decide (p.1 ≤ p.2))

/-- A candidate passes some budget or share with more load on it than stands now (R27, R277). -/
def State.hbmAdds (s c : State) : Bool :=
  (s.hbmLoads.zip c.hbmLoads).any (fun p => decide (p.2.2 < p.2.1) && decide (p.1.1 < p.2.1))

/-! ### DDR admission (R274, R275, R279) -/

/-- Controller d runs: trained, and its island up and listed by the mode (R279, R286). -/
def State.ddrRuns (s : State) (d : Nat) : Bool := decide (d < 4) && s.get (Hid.ddrRate d) != 0 && s.up (34 + d)

/-- Pages of one channel: 262,144 to the GiB; 1/64 spare (R275). -/
def State.channelPages (s : State) (c : Nat) : Nat := s.getN (Reg.MEM_STATS_CAPACITY c) * 258048 - s.getN (Hid.memLost c)

/-- Usable pages of controller d (`9410:03`). -/
def State.ddrPages (s : State) (d : Nat) : Nat :=
  if s.ddrRuns d then (List.range 4).foldl (fun a i => a + s.channelPages (4 * d + i)) 0 else 0

/-- Bandwidth budget of controller d (R279, R28). -/
def State.ddrBudget (s : State) (d : Nat) : Nat :=
  if s.ddrRuns d then (if s.get Reg.MODE_ACTIVE = 6 then 105000000000 else 140000000000) * s.getN (Hid.ddrRate d) / 6400 else 0

/-- The enabled recorders. -/
def State.recsOn (s : State) : List Nat := s.elsWith 0x9100 1 1

/-- The frame period of a recorder's raster. -/
def State.recPeriod (s : State) (r : Nat) : Int := s.rasterPeriod (s.getN (Reg.RECORDER_RASTER r))
def State.recFormat (s : State) (r : Nat) : Nat :=
  if s.recPeriod r = 0 then 0 else s.getN (Reg.RASTER_FORMAT (s.getN (Reg.RECORDER_RASTER r)))

/-- Folios a recorder is admitted: ⌈DEPTH / P⌉ + 2 (R279). -/
def State.recFolios (s : State) (r : Nat) : Nat :=
  let p := s.recPeriod r
  if p ≤ 0 then 0 else ((s.get (Reg.RECORDER_DEPTH r) + p - 1) / p + 2).toNat

/-- The pages of a recorder's folio: its source's structure and its content (R276, R279). -/
def State.recFolio (s : State) (r : Nat) : Nat :=
  let x := s.src (s.getN (Reg.RECORDER_SOURCE r))
  folioPages x.format x.rate x.links (s.get (Reg.RECORDER_CONTENT r) == 1)

/-- The recorder of a source on this device. -/
def State.recOf (s : State) (m : Nat) : Option Nat := s.recsOn.find? (fun r => s.getN (Reg.RECORDER_SOURCE r) == m)

/-- The outputs whose PAST selection binds head h (R282). -/
def State.boundTo (s : State) (h : Nat) : List Nat :=
  (s.elsWith 0x5100 1 2).filter (fun e => s.getN (Reg.XPT_OUT_HEAD e) == h)

/-- The raster of an output: a serial output's, or an egress flow's (R140). -/
def State.outRaster (s : State) (e : Nat) : Nat :=
  if e < 96 then s.txRaster e else s.getN (Reg.FLOW_RASTER (32768 + e - 96))

/-- What head h reads: the controller and the B/s it costs there (R279). -/
def State.headCost (s : State) (h : Nat) : Option (Nat × Nat) :=
  let fromRec (r raster : Nat) : Option (Nat × Nat) :=
    if s.rasterPeriod raster = 0 then none
    else some (s.getN (Reg.RECORDER_HOME_IN_FORCE r), perSecond (pageBytes (s.recFolio r)) (s.getN (Reg.RASTER_FORMAT raster)))
  match (s.boundTo h).head? with
  | some e => (s.recOf (s.getN (Reg.XPT_OUT_SOURCE e))).bind (fun r => fromRec r (s.outRaster e))
  | none =>
    if s.get (Reg.HEAD_MODE h) = 1 then (s.recOf (s.getN (Reg.HEAD_SOURCE h))).bind (fun r => fromRec r (s.getN (Reg.HEAD_RASTER h)))
    else if s.get (Reg.HEAD_MODE h) = 2 then
      (let c := s.getN (Reg.HEAD_CLIP h)
       let k := s.getN (Hid.clipStruct c)
       let fo := folioPages (s.getN (Reg.CLIP_FORMAT c)) (k % 8) (k / 8 % 8) (decide (4096 ≤ k))
       some (s.getN (Reg.CLIP_CONTROLLER c), perSecond (pageBytes fo) (s.getN (Reg.CLIP_FORMAT c))))
    else none

/-- The heads that read: bound by a PAST selection, or in DELAY or CLIP. -/
def State.headsReading (s : State) : List Nat :=
  ((s.elsListed 0x9200 1) ++ (s.elsWith 0x5100 1 2).map (fun e => s.getN (Reg.XPT_OUT_HEAD e))).eraseDups

/-- B/s admitted on controller d (R279). -/
def State.ddrLoad (s : State) (d : Nat) : Nat :=
  let recs := s.recsOn.foldl (fun a r =>
    if s.getN (Reg.RECORDER_HOME_IN_FORCE r) = d then a + perSecond (pageBytes (s.recFolio r)) (s.recFormat r) else a) 0
  s.headsReading.foldl (fun a h =>
    match s.headCost h with
    | some c => if c.1 = d then a + c.2 else a
    | none => a) recs

/-- Pages admitted on controller d, clips included (`9410:04`). -/
def State.ddrTaken (s : State) (d : Nat) : Nat :=
  let recs := s.recsOn.foldl (fun a r =>
    if s.getN (Reg.RECORDER_HOME_IN_FORCE r) = d then a + s.recFolios r * s.recFolio r else a) 0
  s.clips.foldl (fun a c => if s.getN (Reg.CLIP_CONTROLLER c.num) = d then a + s.getN (Reg.CLIP_PAGES c.num) else a) recs

/-- Every controller's load lies within its budget and its pages (R279). -/
def State.ddrFits (s : State) : Bool :=
  (List.range 4).all (fun d => decide (s.ddrLoad d ≤ s.ddrBudget d) && decide (s.ddrTaken d ≤ s.ddrPages d))

/-- The configuration asks more of HBM or DDR than a budget allows (R277). -/
def State.memOverBudget (s : State) : Bool := (s.hbmMode && !s.hbmFits) || !s.ddrFits

/-- The registers that report admission follow the configuration (Tables 13.3, 13.7, 13.8). -/
def State.refreshAdmission (s : State) : State :=
  let l := s.hbmUsers
  let cls (c : Nat) : Int := (rateOf (l.filter (fun u => u.cls == c)) : Nat)
  let t := (((((s.put Reg.ADMISSION_HBM_BUDGET s.hbmBudget).put Reg.ADMISSION_HBM_ADMITTED (rateOf l)).put
    Reg.ADMISSION_HBM_SYNC (cls 0)).put Reg.ADMISSION_HBM_COMPOSITOR (cls 1)).put Reg.ADMISSION_HBM_OUTPUT (cls 2)).put
      Reg.ADMISSION_HBM_PAGES_ADMITTED (pagesOf l)
  let t := t.put Reg.ADMISSION_HBM_PAGES (s.hbmPages 0 + s.hbmPages 1 : Nat)
  let t := t.each (List.range 96) (fun t n => t.put (Hid.storeOn n) (b2i (s.get (Reg.SDI_TX_ENABLE n) == 1 && s.txBase n == n)))
  let t := t.each (List.range 4) (fun t d =>
    (((t.put (Reg.DDR_ADMISSION_BUDGET d) (s.ddrBudget d)).put (Reg.DDR_ADMISSION_ADMITTED d) (s.ddrLoad d)).put
      (Reg.DDR_ADMISSION_PAGES d) (s.ddrPages d)).put (Reg.DDR_ADMISSION_PAGES_ADMITTED d) (s.ddrTaken d))
  let runs := (List.range 4).filter (fun d => s.ddrRuns d)
  let pages := runs.foldl (fun a d => a + s.ddrPages d) 0
  let taken := runs.foldl (fun a d => a + s.ddrTaken d) 0
  ((((((t.put Reg.STACKS_POPULATED (runs.foldl (fun a d => a + 15 * 16 ^ d) 0 : Nat)).put Reg.STACKS_RATE
    (match runs with
     | [] => 0
     | d :: ds => ds.foldl (fun a e => min a (s.get (Hid.ddrRate e))) (s.get (Hid.ddrRate d)))).put Reg.STACKS_PAGES pages).put
      Reg.STACKS_SPARES ((List.range 16).foldl (fun a c => a + if runs.contains (c / 4) then s.getN (Reg.MEM_STATS_SPARES c) else 0) 0 : Nat)).put
        Reg.STACKS_FREE (pages - taken : Nat)).put Reg.STACKS_CLIPS s.clips.length)

/-- The rate of a controller whose slowest RDIMM supports so many MT/s: 6,400, 5,600 or 4,800 (R274). -/
def ddrSpeed (mts : Nat) : Nat := if 6400 ≤ mts then 6400 else if 5600 ≤ mts then 5600 else if 4800 ≤ mts then 4800 else 0

/-- Controller d trains four RDIMMs, given as (GiB, ranks, MT/s): it runs when there are four alike, of 16 to 128 GiB and of a rate the
controller has (R274). -/
def State.ddrTrain (s : State) (d : Nat) (dimms : List (Nat × Nat × Nat)) : Option State :=
  match dimms with
  | [a, b, c, e] =>
    if b = a ∧ c = a ∧ e = a ∧ 16 ≤ a.1 ∧ a.1 ≤ 128 ∧ ddrSpeed a.2.2 ≠ 0 then
      some ((s.each (List.range 4) (fun t i =>
        let k := 4 * d + i
        ((t.put (Reg.MEM_STATS_CAPACITY k) a.1).put (Reg.MEM_STATS_STATE k) 2).put (Reg.MEM_STATS_SPARES k) (a.1 * 4096 : Nat))).put
          (Hid.ddrRate d) (ddrSpeed a.2.2 : Nat))
    else none
  | _ => none

/-- An HBM stack is ready: 24 GiB, and at its first rise the pages held in reserve as its spares (R275, log entry 98). -/
def State.hbmRises (s : State) (h : Nat) : State :=
  let t := if s.get (Reg.MEM_STATS_CAPACITY (16 + h)) = 0 then
    (s.put (Reg.MEM_STATS_CAPACITY (16 + h)) 24).put (Reg.MEM_STATS_SPARES (16 + h)) 65536 else s
  t.put (Reg.MEM_STATS_STATE (16 + h)) 2

/-- STATE of a memory (Table 13.9): a trained DDR channel or a ready stack whose island does not run holds its contents in
self-refresh (R26, R286). -/
def State.memState (s : State) (k : Nat) : Int :=
  if s.get (Reg.MEM_STATS_STATE k) = 2 ∧ s.runs (if k < 16 then 34 + k / 4 else 32 + (k - 16)) = false then 4
  else s.get (Reg.MEM_STATS_STATE k)

/-! ### Recorders (R280, R281) -/

/-- The heads that read recorder r's source, with the magnitude of their SPANs (R280). -/
def State.recReaders (s : State) (r : Nat) : List Int :=
  let m := s.get (Reg.RECORDER_SOURCE r)
  ((s.elsWith 0x5100 1 2).filter (fun e => s.get (Reg.XPT_OUT_SOURCE e) == m)).map (fun e => -(s.get (Reg.XPT_OUT_SPAN e))) ++
    ((s.elsWith 0x9200 1 1).filter (fun h => s.get (Reg.HEAD_SOURCE h) == m)).map (fun h => -(s.get (Reg.HEAD_SPAN h)))

/-- A source a recorder or layer may not take: a bundle, an invalid index, a flow that carries no picture (R280,
Table 11.8). -/
def State.badPicture (s : State) (m : Nat) : Bool :=
  let i := shelfIndex m
  !indexValid i || (decide (0x4300 ≤ i) && decide (i < 0x4400)) ||
    (decide (0x100 ≤ i) && decide (i < 0x4100) &&
      (if s.remote m then (s.src m).format == 0
       else s.get (Reg.FLOW_TYPE (i - 0x100)) != 1 && s.get (Reg.FLOW_TYPE (i - 0x100)) != 6))

/-- The home a recorder takes: HOME, or the running controller with the fewest admitted pages, the lower on a tie (R280);
a recorder that keeps HOME = 0xFF keeps its home. -/
def State.recHome (s : State) (r : Nat) : Nat :=
  let h := s.getN (Reg.RECORDER_HOME r)
  if h < 4 then h
  else if s.getN (Reg.RECORDER_HOME_IN_FORCE r) < 4 then s.getN (Reg.RECORDER_HOME_IN_FORCE r)
  else
    ((List.range 4).filter (fun d => s.ddrRuns d)).foldl (fun a d =>
      if a = 0xFF ∨ s.ddrTaken d < s.ddrTaken a then d else a) 0xFF

/-- The candidate with the home the recorder would take. -/
def State.withHome (s : State) (r : Nat) : State :=
  s.put (Reg.RECORDER_HOME_IN_FORCE r) (if s.get (Reg.RECORDER_ENABLE r) = 1 then (s.recHome r : Int) else 0xFF)

/-- The checks of a STACKS slip on recorder r (R280): `s` stands now, `c0` is the configuration at B without the slip, `c` with it, `all`
with every LAUNCHED slip. -/
def State.recCheck (s c0 c all : State) (r : Nat) : Status :=
  let m := c.getN (Reg.RECORDER_SOURCE r)
  let p := c.recPeriod r
  let depth := c.get (Reg.RECORDER_DEPTH r)
  let i := shelfIndex m
  let moves := c0.get (Reg.RECORDER_SOURCE r) != c.get (Reg.RECORDER_SOURCE r) ||
    c0.get (Reg.RECORDER_CONTENT r) != c.get (Reg.RECORDER_CONTENT r) ||
    c0.get (Reg.RECORDER_HOME r) != c.get (Reg.RECORDER_HOME r) || c.get (Reg.RECORDER_ENABLE r) == 0
  let held := s.recReaders r != [] || c0.recReaders r != [] || (all.put (Reg.RECORDER_SOURCE r) (c0.get (Reg.RECORDER_SOURCE r))).recReaders r != [] ||
    (s.elsWith 0x9300 7 1).any (fun k => s.get (Hid.clipRec k) == (r : Int) + 1)
  if c0.get (Reg.RECORDER_ENABLE r) = 1 ∧ moves = true ∧ held = true then .range
  else if c.get (Reg.RECORDER_ENABLE r) = 0 then .ok
  else if c.badPicture m ∨ (0x4100 ≤ i ∧ i < 0x4200) ∨ (c.src m).offered = false ∨ p = 0 ∨ (c.src m).format ≠ c.recFormat r ∨
      c.recsOn.any (fun q => q != r && c.getN (Reg.RECORDER_SOURCE q) == m) = true ∨ depth < 52920000000 ∨
      190512000000000 < depth ∨ (s.recReaders r ++ all.recReaders r).any (fun v => decide (depth < v)) = true then .range
  else if c.ddrFits then .ok else .capacity

/-- The index of a recorder. -/
def State.recIndex (s : State) (r : Nat) : List RecEntry :=
  ((s.recordings.find? (fun x => x.num == r)).map (·.entries)).getD []

/-- The index of a recorder replaced; OLDEST, NEWEST and HELD follow (Table 13.4). -/
def State.setIndex (s : State) (r : Nat) (l : List RecEntry) : State :=
  let rest := s.recordings.filter (fun x => x.num != r)
  let t := { s with recordings := if l = [] then rest else ⟨r, l⟩ :: rest }
  let new := ((l.head?).map (fun e => e.stamp)).getD 0
  let old := ((l.getLast?).map (fun e => e.stamp)).getD 0
  ((t.put (Reg.RECORDER_OLDEST r) (ltOfLf old)).put (Reg.RECORDER_NEWEST r) (ltOfLf new)).put (Reg.RECORDER_HELD r) (new - old)

/-- The newest entries that hold at most `n` folios; the oldest folio goes with every entry before it (R281). -/
def keepFolios : Nat → List RecEntry → List RecEntry
  | _, [] => []
  | n, e :: es =>
    if e.marker then e :: keepFolios n es
    else match n with
      | 0 => []
      | k + 1 => e :: keepFolios k es

/-- The clips CAPTURING from a recorder. -/
def State.clipsTaking (s : State) (r : Nat) : List Nat :=
  (s.elsWith 0x9300 7 1).filter (fun k => s.get (Hid.clipRec k) == (r : Int) + 1)

/-- The entries of a clip, oldest first. -/
def State.clipFrames (s : State) (k : Nat) : List RecEntry := ((s.clips.find? (fun x => x.num == k)).map (·.entries)).getD []

/-- A clip's entries; FRAMES and FIRST follow (Table 13.6). -/
def State.setClip (s : State) (k : Nat) (l : List RecEntry) : State :=
  let t := { s with clips := ⟨k, l⟩ :: s.clips.filter (fun x => x.num != k) }
  (t.put (Reg.CLIP_FRAMES k) l.length).put (Reg.CLIP_FIRST k) (((l.head?).map (fun e => ltOfLf e.stamp)).getD 0)

/-- An instant as fine units, and a stamp of whole leaves as fine units: an entry's stamp lies from IN up to but not including OUT
(R285). -/
def State.clipTakes (s : State) (k : Nat) (e : RecEntry) : Bool :=
  decide (fineOfLt (s.get (Reg.CLIP_IN k)) ≤ e.stamp * 4096) && decide (e.stamp * 4096 < fineOfLt (s.get (Reg.CLIP_OUT k)))

/-- OUT minus IN of a clip, in fine units (R285). -/
def State.clipLength (s : State) (k : Nat) : Int := fineOfLt (s.get (Reg.CLIP_OUT k)) - fineOfLt (s.get (Reg.CLIP_IN k))

/-- The folios a capture is admitted: ⌈(OUT − IN) / P⌉ + 1 (R285). -/
def State.clipFolios (s : State) (k : Nat) : Nat :=
  let p := 4096 * max 1 (s.recPeriod (s.getN (Reg.CLIP_RECORDER k)))
  ((s.clipLength k + p - 1) / p + 1).toNat

/-- An entry joins a recorder's index and the clips that take it (R281, R285). -/
def State.recEntry (s : State) (r : Nat) (e : RecEntry) : State :=
  let t := s.setIndex r (keepFolios (s.getN (Reg.RECORDER_FOLIOS r)) (e :: s.recIndex r))
  let t := t.bump (if e.marker then Reg.RECORDER_MARKERS r else Reg.RECORDER_FRAMES r)
  t.each (t.clipsTaking r) (fun t k => t.when (t.clipTakes k e) (fun u => u.setClip k (u.clipFrames k ++ [e])))

/-- Recorder r runs: enabled, its home's island up and listed by the mode (R281, R286). -/
def State.recRuns (s : State) (r : Nat) : Bool :=
  let h := s.getN (Reg.RECORDER_HOME_IN_FORCE r)
  s.get (Reg.RECORDER_ENABLE r) == 1 && decide (h < 4) && s.runs (34 + h) && s.ready 49

/-- A source delivers to recorder r: present, with the structure of its raster (R281). -/
def State.recFed (s : State) (r : Nat) : Bool :=
  let x := s.src (s.getN (Reg.RECORDER_SOURCE r))
  x.present && x.format == s.recFormat r

/-- The passed ancillary packets of the frame that a serial input of this device delivers: through its synchroniser where one runs, else
raw (R129, R149). -/
def State.serialPassed (s : State) (m : Nat) : List AncPkt :=
  if shelfSlot m ≠ s.slot ∨ 0x5F < shelfIndex m then []
  else
    let n := shelfIndex m
    s.passedOf n (if s.get (Hid.syncOn n) = 1 then s.get (Hid.syncLast n) else lfOfLt (s.get (Reg.SDI_RX_FRAME_STAMP n)))

/-- Every recorder whose source has moved on to a new frame since `old` writes the frame that is now complete (R281). -/
def State.recordFrames (s old : State) : State :=
  s.each s.recsOn (fun t r =>
    let m := s.getN (Reg.RECORDER_SOURCE r)
    let a := old.lastStamp m
    if t.recRuns r && t.get (Hid.recResume r) == 0 && old.recFed r && t.recFed r && decide (a ≠ s.lastStamp m) &&
        decide (t.get (Hid.recFrom r) ≤ a) && decide (a ≠ 0) then
      (t.recEntry r ⟨a, false, false, if t.get (Reg.RECORDER_CONTENT r) = 1 then old.serialPassed m else []⟩).put (Hid.recWrote r) 1
    else t)

/-- A boundary of recorder r's raster: markers and STATE (R281, R286). -/
def State.recBoundary (s : State) (r : Nat) : State :=
  let bf := lfOfLt (s.get (Reg.RASTER_LAST_BOUNDARY (s.getN (Reg.RECORDER_RASTER r))))
  let mark (t : State) : State := t.recEntry r ⟨bf - routeLead, true, false, []⟩
  if !s.recRuns r then (s.put (Reg.RECORDER_STATE r) 3).put (Hid.recResume r) 1
  else
    let t := s.put (Hid.recWrote r) 0
    let t := if s.get (Hid.recResume r) = 1 then (mark t).put (Hid.recResume r) 0
      else if !s.recFed r ∧ s.get (Hid.recWrote r) = 0 then mark t else t
    t.put (Reg.RECORDER_STATE r) (if s.recFed r then 1 else 2)

/-- Recorder r's fields go into force at B (R281). `old` stands before the slip. -/
def State.recApply (s old : State) (r : Nat) (b : Int) : State :=
  let was := old.get (Reg.RECORDER_ENABLE r) == 1
  let m := s.getN (Reg.RECORDER_SOURCE r)
  let moved := !was || old.get (Reg.RECORDER_SOURCE r) != s.get (Reg.RECORDER_SOURCE r)
  if s.get (Reg.RECORDER_ENABLE r) = 0 then
    ((((s.setIndex r []).put (Reg.RECORDER_STATE r) 0).put (Reg.RECORDER_HOME_IN_FORCE r) 0xFF).put (Reg.RECORDER_FOLIOS r) 0).put
      (Reg.RECORDER_FOLIO_PAGES r) 0
  else
    let x := s.src m
    let t := (((s.withHome r).put (Reg.RECORDER_FOLIOS r) (s.recFolios r)).put (Reg.RECORDER_FOLIO_PAGES r) (s.recFolio r)).put
      (Hid.recStruct r) (packStruct x.rate x.links x.level x.division)
    if moved then ((t.setIndex r []).put (Hid.recFrom r) (b - s.recPeriod r)).put (Reg.RECORDER_STATE r) (if t.recRuns r then 1 else 3)
    else t.setIndex r (keepFolios (s.recFolios r) (t.recIndex r))

/-! ### Heads (R282 to R284) -/

/-- The checks of a STACKS slip on head h (R282): `s` stands now, `c` is the configuration at B, `all` with every LAUNCHED slip. -/
def State.headCheck (s c all : State) (h : Nat) : Status :=
  let mode := c.get (Reg.HEAD_MODE h)
  let r := c.getN (Reg.HEAD_RASTER h)
  let p := c.rasterPeriod r
  let k := c.getN (Reg.HEAD_CLIP h)
  let span := c.get (Reg.HEAD_SPAN h)
  let badDelay : Bool :=
    match c.recOf (c.getN (Reg.HEAD_SOURCE h)) with
    | none => true
    | some q => c.recFormat q != c.getN (Reg.RASTER_FORMAT r) || decide (span < -(c.get (Reg.RECORDER_DEPTH q))) ||
        decide (-(2 * p) < span)
  let badClip : Bool := decide (1024 ≤ k) || c.get (Reg.CLIP_STATE k) == 0 ||
    c.get (Reg.CLIP_FORMAT k) != c.get (Reg.RASTER_FORMAT r) || decide (c.get (Reg.CLIP_FRAMES k) ≤ c.get (Reg.HEAD_IN h))
  if s.boundTo h ≠ [] ∨ c.boundTo h ≠ [] ∨ all.boundTo h ≠ [] then .range
  else if mode = 0 then .ok
  else if p = 0 ∨ (mode = 1 ∧ badDelay = true) ∨ (mode = 2 ∧ badClip = true) then .range
  else if c.ddrFits then .ok else .capacity

/-- The readable frame an index (newest first) gives for an instant: none absent; the stamp, and whether an unreadable
folio was skipped (R153, R283). -/
def readIndex : List RecEntry → Int → Option (Int × Bool)
  | [], _ => none
  | e :: es, limit =>
    if limit < e.stamp then readIndex es limit
    else if e.marker then none
    else if e.bad then (readIndex es limit).map (fun p => (p.1, true))
    else some (e.stamp, false)

/-- A head delivers a frame, or nothing (R283): POSITION, repeats, absent frames. -/
def State.headShow (s : State) (h : Nat) (f : Option (Int × Bool)) : State :=
  match f with
  | none => (s.put (Hid.headAbsent h) 1).bump (Reg.HEAD_ABSENT_FRAMES h)
  | some (st, skipped) =>
    let again := skipped || (s.get (Hid.headFresh h) == 0 && s.get (Reg.HEAD_POSITION h) == ltOfLf st)
    ((((s.put (Hid.headAbsent h) 0).put (Reg.HEAD_POSITION h) (ltOfLf st)).put (Hid.headFresh h) 0).when again
      (fun t => t.bump (Reg.HEAD_REPEATS h))).send (.picture 3 h 1 st)

/-- The frame of a recorder `span` ago at a boundary; a recorder that does not run delivers nothing (R153, R286). -/
def State.readPast (s : State) (r : Nat) (bf span : Int) : Option (Int × Bool) :=
  if s.recRuns r then readIndex (s.recIndex r) (bf + span - routeLead) else none

/-- A clip's frame number i: the latest held where it is not held yet; a marker is absent; an unreadable one gives the
latest readable before it (R283). -/
def clipFrame (l : List RecEntry) (i : Nat) : Option (Int × Bool) :=
  match (l.take (i + 1)).reverse with
  | [] => none
  | e :: es => if e.marker then none else if e.bad then ((es.find? (fun x => !x.bad && !x.marker)).map (fun x => (x.stamp, true)))
    else some (e.stamp, false)

/-- Head h in CLIP delivers its frame and moves on (R283): past the last frame it returns to IN, or repeats the last frame and reads ENDED;
a frame that a CAPTURING clip does not hold yet is replaced by the latest it holds. -/
def State.headPlay (s : State) (h : Nat) : State :=
  let k := s.getN (Reg.HEAD_CLIP h)
  let l := s.clipFrames k
  let d := s.getN (Reg.CLIP_CONTROLLER k)
  let pos := s.getN (Hid.headPos h)
  let past := s.get (Reg.CLIP_STATE k) != 1 && decide (l.length ≤ pos)
  let ended := past && s.get (Reg.HEAD_LOOP h) == 0
  let n := if past && !ended then s.getN (Reg.HEAD_IN h) else pos
  if s.get (Reg.CLIP_STATE k) = 0 then s.headShow h none
  else
    let t := s.headShow h (if decide (d < 4) && s.runs (34 + d) then clipFrame l n else none)
    (t.put (Hid.headPos h) (if ended then (pos : Int) else n + 1)).put (Reg.HEAD_STATE h) (if ended then 4 else 3)

/-- The mode in force runs the Stacks: RECORD, CONCERT or MARGIN (R286). -/
def State.stacksMode (s : State) : Bool := decide (4 ≤ s.get Reg.MODE_ACTIVE) && decide (s.get Reg.MODE_ACTIVE ≤ 6)

/-- A boundary of head h's raster (R283). -/
def State.headBoundary (s : State) (h : Nat) : State :=
  let bf := lfOfLt (s.get (Reg.RASTER_LAST_BOUNDARY (s.getN (Reg.HEAD_RASTER h))))
  if s.get (Reg.HEAD_MODE h) = 1 then
    (match s.recOf (s.getN (Reg.HEAD_SOURCE h)) with
     | none => s.headShow h none
     | some r => (s.headShow h (s.readPast r bf (s.get (Reg.HEAD_SPAN h)))).put (Hid.headStruct h) (s.get (Hid.recStruct r)))
  else if s.get (Reg.HEAD_MODE h) = 2 then s.headPlay h
  else s

/-- The passed ancillary packets of the frame head h delivers: an ESSENCE folio's (R129, R276, R284). -/
def State.headPassed (s : State) (h : Nat) (entries : List RecEntry) : List AncPkt :=
  ((entries.find? (fun e => !e.marker && decide (e.stamp = lfOfLt (s.get (Reg.HEAD_POSITION h))))).map (·.anc)).getD []

/-- The entries a head in DELAY or CLIP reads from. -/
def State.headEntries (s : State) (h : Nat) : List RecEntry :=
  if s.get (Reg.HEAD_MODE h) = 2 then s.clipFrames (s.getN (Reg.HEAD_CLIP h))
  else ((s.recOf (s.getN (Reg.HEAD_SOURCE h))).map s.recIndex).getD []

/-- Head h's fields go into force at B; a CLIP head delivers frame IN at B (R283). -/
def State.headApply (s : State) (h : Nat) (b : Int) : State :=
  let mode := s.get (Reg.HEAD_MODE h)
  let t := (((s.put (Hid.headPos h) (s.get (Reg.HEAD_IN h))).put (Hid.headFresh h) 1).put (Hid.headAbsent h) 0).put
    (Reg.HEAD_STATE h) (if mode = 1 then 2 else if mode = 2 then 3 else 0)
  let t := if mode = 2 then t.put (Hid.headStruct h) (t.get (Hid.clipStruct (t.getN (Reg.HEAD_CLIP h))) % 4096) else t
  if mode ≠ 0 ∧ t.stacksMode = true ∧ lfOfLt (t.get (Reg.RASTER_LAST_BOUNDARY (t.getN (Reg.HEAD_RASTER h)))) = b then t.headBoundary h else t

/-- Heads and recorders at a boundary of raster r (R281, R283). In a mode without the Stacks heads deliver nothing (R286). -/
def State.stacksBoundary (s : State) (r : Nat) : State :=
  let t := s.each (s.recsOn.filter (fun q => s.getN (Reg.RECORDER_RASTER q) == r)) (fun t q => t.recBoundary q)
  let hs := (t.elsListed 0x9200 1).filter (fun h => t.getN (Reg.HEAD_RASTER h) == r)
  if t.stacksMode then t.each hs (fun t h => t.headBoundary h) else t.each hs (fun t h => t.put (Hid.headAbsent h) 1)

/-! ### The clip shelf (R285) -/

/-- The status of a CAPTURE (R285). The pages unadmitted are those that every LAUNCHED slip leaves too (R277). -/
def State.captureStatus (s all : State) (k : Nat) : Status :=
  let r := s.getN (Reg.CLIP_RECORDER k)
  let d := s.getN (Reg.RECORDER_HOME_IN_FORCE r)
  let need := s.clipFolios k * s.getN (Reg.RECORDER_FOLIO_PAGES r)
  if s.get (Reg.CLIP_STATE k) ≠ 0 then .busy
  else if 256 ≤ r ∨ s.recRuns r = false ∨ s.clipLength k ≤ 0 ∨ 3600 * lfSec * 4096 < s.clipLength k ∨
      fineOfLt (s.get (Reg.CLIP_IN k)) < fineOfLt (s.get (Reg.RECORDER_OLDEST r)) then .range
  else if s.ddrPages d < s.ddrTaken d + need ∨ s.ddrPages d < all.ddrTaken d + need then .capacity else .ok

/-- A capture begins: the entries already held are kept (R285). -/
def State.clipCapture (s : State) (k : Nat) : State :=
  let r := s.getN (Reg.CLIP_RECORDER k)
  let held := ((s.recIndex r).filter (fun e => s.clipTakes k e)).reverse
  let essence := s.get (Reg.RECORDER_CONTENT r) * 4096
  let t := ((((s.put (Reg.CLIP_STATE k) 1).put (Hid.clipRec k) ((r : Int) + 1)).put (Reg.CLIP_CONTROLLER k)
    (s.get (Reg.RECORDER_HOME_IN_FORCE r))).put (Reg.CLIP_FORMAT k) (s.recFormat r)).put (Hid.clipStruct k)
      (s.get (Hid.recStruct r) + essence)
  ((t.put (Reg.CLIP_PAGES k) (s.clipFolios k * s.get (Reg.RECORDER_FOLIO_PAGES r))).setClip k held).refreshAdmission

/-- The recorder's newest entry has reached OUT: READY, and surplus pages are freed (R285). -/
def State.captureComplete (s : State) (k : Nat) : State :=
  let r := s.getN (Hid.clipRec k) - 1
  if s.get (Reg.CLIP_STATE k) = 1 ∧ fineOfLt (s.get (Reg.CLIP_OUT k)) ≤ fineOfLt (s.get (Reg.RECORDER_NEWEST r)) then
    let n := ((s.clipFrames k).filter (fun e => !e.marker)).length
    ((s.put (Reg.CLIP_STATE k) 2).put (Reg.CLIP_PAGES k) (n * s.get (Reg.RECORDER_FOLIO_PAGES r))).refreshAdmission
  else s

/-- A head plays the clip, in force or in a LAUNCHED STACKS slip (R285). -/
def State.clipPlayed (s : State) (k : Nat) : Bool :=
  (s.elsWith 0x9200 1 2).any (fun h => s.getN (Reg.HEAD_CLIP h) == k) ||
    s.slips.any (fun x => decide (x.st = .launched) && x.kind == 5 && decide (256 ≤ x.target) &&
      (let h := x.target - 256
       let at_ (q : Key) : Int := ((x.items.find? (fun i => i.1 == q)).map (·.2)).getD (s.get q)
       at_ (Reg.HEAD_MODE h) == 2 && at_ (Reg.HEAD_CLIP h) == (k : Int)))

/-- A clip is emptied and its pages freed (R285). -/
def State.clipDelete (s : State) (k : Nat) : State :=
  let t := { s with clips := s.clips.filter (fun x => x.num != k) }
  (t.each [Reg.CLIP_STATE k, Reg.CLIP_FRAMES k, Reg.CLIP_PAGES k, Reg.CLIP_FORMAT k, Reg.CLIP_FIRST k, Hid.clipRec k,
    Hid.clipStruct k] (fun t q => t.put q 0)).put (Reg.CLIP_CONTROLLER k) 0xFF |>.refreshAdmission

/-! ### Errors and retired rows (R288, R289) -/

/-- The fault source of memory k: DDR channels, then HBM stacks. -/
def memSource (k : Nat) : Nat := if k < 16 then 626 + k else 642 + (k - 16)

/-- A row becomes a candidate: its pages leave the pool and spares take their place; pages without a spare are lost, and
the highest recorder of the controller is shortened by a folio for each (R289). -/
def State.rowCandidate (s : State) (k row pages : Nat) : State :=
  if s.memRows.any (fun x => x.1 == k && x.2.1 == row) then s
  else
    let spare := s.getN (Reg.MEM_STATS_SPARES k)
    let t := ({ s with memRows := (k, row, pages) :: s.memRows }).put (Reg.MEM_STATS_SPARES k) (spare - pages : Nat)
    let t := t.bump (Reg.MEM_STATS_CANDIDATE_ROWS k)
    if pages ≤ spare then t.refreshAdmission
    else
      let t := (t.put (Hid.memLost k) (t.get (Hid.memLost k) + (pages - spare : Nat))).raise (memSource k) 2 k
      let recs := t.recsOn.filter (fun r => decide (k < 16) && t.getN (Reg.RECORDER_HOME_IN_FORCE r) == k / 4)
      match recs with
      | [] => t.refreshAdmission
      | r :: rs =>
        let top := rs.foldl max r
        let n := t.getN (Reg.RECORDER_FOLIOS top) - (pages - spare)
        ((t.put (Reg.RECORDER_FOLIOS top) n).setIndex top (keepFolios n (t.recIndex top))).refreshAdmission

/-- The readable folio of a stamp becomes unreadable. -/
def spoilFolio (st : Int) (l : List RecEntry) : List RecEntry :=
  l.map (fun (e : RecEntry) => if e.stamp = st ∧ e.marker = false then { e with bad := true } else e)

/-- Recorder r holds a folio of stamp `st`. -/
def State.recHolds (s : State) (r : Nat) (st : Int) : Bool := (s.recIndex r).any (fun e => decide (e.stamp = st) && !e.marker)

/-- The folio of recorder r's stamp `st` is unreadable: in the recorder, if it holds it still, and in every clip captured from it,
which keeps the folio itself (R285, R288). -/
def State.spoilFolios (s : State) (r : Nat) (st : Int) : State :=
  let t := s.each ((s.clips.map (·.num)).filter (fun k => s.get (Hid.clipRec k) == (r : Int) + 1)) (fun t k =>
    t.setClip k (spoilFolio st (t.clipFrames k)))
  t.when (t.recHolds r st) (fun u => (u.setIndex r (spoilFolio st (u.recIndex r))).bump (Reg.RECORDER_UNREADABLE r))

/-- The unit an uncorrectable error takes becomes unreadable (R288). -/
def State.memUnit (s : State) (u : MemUnit) : State :=
  match u with
  | .none => s
  | .folio r st => s.spoilFolios r st
  | .clip k st => s.when (s.get (Hid.clipRec k) != 0) (fun t => t.spoilFolios (t.getN (Hid.clipRec k) - 1) st)
  | .sync n st => { s with syncFrames := s.syncFrames.map (fun (e : Nat × List Int) => if e.1 = n then (e.1, e.2.filter (· != st)) else e) }
  | .layer m st =>
    { s with layerStores := s.layerStores.map (fun (x : LayerStore) => if x.shelf = m then { x with frames := x.frames.filter (· != st) } else x) }
  | .flow f t q => s.setBuf { s.bufOf f with held := (s.bufOf f).held.filter (fun h => !(decide (h.t = t) && h.q == q)) }

/-- An uncorrectable error of memory k (R288, R289). -/
def State.memUncorrectable (s : State) (k row pages : Nat) (u : MemUnit) : State :=
  (((s.bump (Reg.MEM_STATS_UNCORRECTABLE k)).raise (memSource k) 1 k).memUnit u).rowCandidate k row pages

/-- A corrected error of memory k: counted, and 16 of one row within 24 h make it a candidate (R289). -/
def State.memCorrected (s : State) (k row pages : Nat) : State :=
  let l := (⟨k, row, s.tickLf⟩ : MemErr) :: s.memErrs.filter (fun e => decide (s.tickLf < e.at_ + 4572288000000000))
  let t := (({ s with memErrs := l }).bump (Reg.MEM_STATS_CORRECTED k)).bump (Hid.perMem k)
  let t := t.when (decide (1000 < t.get (Hid.perMem k))) (fun u => u.memHot k)
  t.when (decide (16 ≤ (l.filter (fun e => e.channel == k && e.row == row)).length)) (fun u => u.rowCandidate k row pages)

end Sys2Proof.Machine
end

