-- ==== Sys2Proof/Machine/Comp.lean ====
section
/-! DEFINITION. Canvases, layers, tiles and the pixel arithmetic (11_compositor.md, R230 to R250). -/
namespace Sys2Proof.Machine

/-! ### Records -/

/-- The colour codes of Table 7.8: Y, CB, CR at 10 bits. -/
def colourOf (m : Nat) : Int × Int × Int := ((bitsOf m 20 10 : Nat), (bitsOf m 10 10 : Nat), (bitsOf m 0 10 : Nat))
/-- Every component of a colour lies from 4 to 1,019 (R152, R231, R233). -/
def colourOk (m : Int) : Bool :=
  let c := colourOf m.toNat
  [c.1, c.2.1, c.2.2].all (fun v => decide (4 ≤ v) && decide (v ≤ 1019))

/-- The layers of canvas k (R232). -/
def State.layersOf (s : State) (k : Nat) : List Nat := s.elsWith 0x7100 1 k
/-- Its enabled layers. -/
def State.layersOn (s : State) (k : Nat) : List Nat := (s.layersOf k).filter (fun l => s.get (Reg.LAYER_ENABLE l) == 1)
/-- The tiles of canvas k. -/
def State.tilesOf (s : State) (k : Nat) : List Nat := s.elsWith 0x7400 1 k

/-- The frame period of canvas k's raster. -/
def State.canvasPeriod (s : State) (k : Nat) : Int := s.rasterPeriod (s.getN (Reg.CANVAS_RASTER k))
def State.canvasFormat (s : State) (k : Nat) : Nat :=
  if s.canvasPeriod k = 0 then 0 else s.getN (Reg.RASTER_FORMAT (s.getN (Reg.CANVAS_RASTER k)))

/-- The slices set in SLICES, ascending. -/
def State.canvasSlices (s : State) (k : Nat) : List Nat :=
  (List.range 8).filter (fun c => bitOf (s.getN (Reg.CANVAS_SLICES k)) c)

/-- The state of a canvas (R230): 0 OFF, 1 RUNNING, 2 SUSPENDED. -/
def State.canvasStateOf (s : State) (k : Nat) : Int :=
  if s.get (Reg.CANVAS_ENABLE k) = 0 then 0
  else if s.canvasPeriod k ≠ 0 ∧ s.edge = true ∧ modeRuns s.edge (s.getN Reg.MODE_ACTIVE) 38 = true ∧
      (s.canvasSlices k).all (fun c => s.up (38 + c)) = true then 1 else 2

/-- The picture of a raster code and structure (Table 11.7): width and height. -/
def pictureSize (format rate links : Nat) : Nat × Nat :=
  if format = 1 then (720, 486) else if format = 2 then (720, 576)
  else if 3 ≤ format ∧ format ≤ 10 then (1920, 1080)
  else if 11 ≤ format ∧ format ≤ 13 then (1280, 720)
  else if 14 ≤ format ∧ format ≤ 16 then (if links = 4 ∧ rate = 5 then (7680, 4320) else (3840, 2160))
  else (0, 0)

/-- The picture of output e (R243, Table 11.7). -/
def State.outPicture (s : State) (e : Nat) : Nat × Nat :=
  let r := s.outRaster e
  let fmt := if s.rasterPeriod r = 0 then 0 else s.getN (Reg.RASTER_FORMAT r)
  if e < 96 then pictureSize fmt (s.getN (Reg.SDI_TX_RATE (s.txBase e))) (s.getN (Reg.LINK_GROUP_TX_SIZE e))
  else pictureSize fmt 0 1

/-! ### Cells, culling, load (R240 to R242) -/

/-- A rectangle: x, y, width, height. -/
abbrev Rect := Int × Int × Int × Int

/-- Two rectangles meet. -/
def rectsMeet (a b : Rect) : Bool :=
  decide (a.1 < b.1 + b.2.2.1) && decide (b.1 < a.1 + a.2.2.1) && decide (a.2.1 < b.2.1 + b.2.2.2) && decide (b.2.1 < a.2.1 + a.2.2.2)
/-- The first rectangle covers the second. -/
def rectCovers (a b : Rect) : Bool :=
  decide (a.1 ≤ b.1) && decide (b.1 + b.2.2.1 ≤ a.1 + a.2.2.1) && decide (a.2.1 ≤ b.2.1) && decide (b.2.1 + b.2.2.2 ≤ a.2.1 + a.2.2.2)

def State.layerRect (s : State) (l : Nat) : Rect :=
  (s.get (Reg.LAYER_DST_X l), s.get (Reg.LAYER_DST_Y l), s.get (Reg.LAYER_DST_W l), s.get (Reg.LAYER_DST_H l))
def State.tileRect (s : State) (t : Nat) : Rect :=
  (s.get (Reg.TILE_X t), s.get (Reg.TILE_Y t), s.get (Reg.TILE_WIDTH t), s.get (Reg.TILE_HEIGHT t))

/-- Cell (i, j) of canvas k, clipped to the canvas (R240). -/
def State.cellRect (s : State) (k i j : Nat) : Rect :=
  (64 * i, 16 * j, min 64 (s.get (Reg.CANVAS_WIDTH k) - 64 * i), min 16 (s.get (Reg.CANVAS_HEIGHT k) - 16 * j))

/-- A layer that can hide what lies beneath it (R240). -/
def State.layerOpaque (s : State) (l : Nat) : Bool :=
  (s.get (Reg.LAYER_BLEND l) == 2 || (s.get (Reg.LAYER_BLEND l) == 0 && s.get (Reg.LAYER_ALPHA l) == 4095)) &&
    (s.get (Reg.LAYER_NOT_READY l) == 0 || s.get (Reg.LAYER_NOT_READY l) == 2)

/-- The cells of canvas k's composed region on this device: column and row (R240). -/
def State.composedCells (s : State) (k : Nat) : List (Nat × Nat) :=
  let cols := ((s.getN (Reg.CANVAS_WIDTH k)) + 63) / 64
  let rows := ((s.getN (Reg.CANVAS_HEIGHT k)) + 15) / 16
  let tiles := (s.tilesOf k).map (fun t => s.tileRect t)
  if tiles = [] then [] else
  ((List.range rows).map (fun j => ((List.range cols).filter (fun i => tiles.any (fun t => rectsMeet t (s.cellRect k i j)))).map
    (fun i => (i, j)))).flatten

/-- A layer is fetched for a cell: enabled, meeting it, and not culled by an opaque layer of higher Z (R240). -/
def State.fetches (s : State) (k l : Nat) (cell : Nat × Nat) : Bool :=
  let c := s.cellRect k cell.1 cell.2
  rectsMeet (s.layerRect l) c && !(s.layersOn k).any (fun h =>
    decide (s.get (Reg.LAYER_Z l) < s.get (Reg.LAYER_Z h)) && s.layerOpaque h && rectCovers (s.layerRect h) c)

/-- The pixels so many cells of a layer cost (R241), to the nearest. -/
def State.cellCost (s : State) (l cells : Nat) : Nat :=
  let sw := s.getN (Reg.LAYER_SRC_W l)
  let dw := max 1 (s.getN (Reg.LAYER_DST_W l))
  let sh := s.getN (Reg.LAYER_SRC_H l)
  let dh := max 1 (s.getN (Reg.LAYER_DST_H l))
  let n := 1024 * cells * max sw dw * max sh dh
  (2 * n + dw * dh) / (2 * (dw * dh))

/-- Counts per frame of a raster code as a rate per second, whole (R241). -/
def ratePerSecond (n format : Nat) : Nat :=
  let p := (framePeriod format).toNat
  if p = 0 then 0 else n * 52920000000 / p

/-- The layers' fetch over a list of cells. -/
def State.fetchOver (s : State) (k : Nat) (cells : List (Nat × Nat)) : Nat :=
  (s.layersOn k).foldl (fun a l => a + s.cellCost l (cells.filter (fun c => s.fetches k l c)).length) 0

/-- The slice that composes cell row j of canvas k (R242). -/
def State.sliceOf (s : State) (k j : Nat) : Option Nat :=
  let l := s.canvasSlices k
  if l = [] then none else l[j % l.length]?

/-- The enabled canvases. -/
def State.canvasesOn (s : State) : List Nat := s.elsWith 0x7000 1 1

/-- Fetch and composed output admitted on slice c, in pixels per second (R242). -/
def State.sliceLoad (s : State) (c : Nat) : Nat × Nat :=
  s.canvasesOn.foldl (fun a k =>
    let cells := (s.composedCells k).filter (fun x => s.sliceOf k x.2 == some c)
    let fmt := s.canvasFormat k
    (a.1 + ratePerSecond (s.fetchOver k cells) fmt, a.2 + ratePerSecond (1024 * cells.length) fmt)) (0, 0)

/-- Every slice's load lies within its limits (R242, R28). -/
def State.slicesFit (s : State) : Bool :=
  let margin := s.get Reg.MODE_ACTIVE == 6
  (List.range 8).all (fun c =>
    let l := s.sliceLoad c
    decide (l.1 ≤ if margin then 36000000000 else 48000000000) && decide (l.2 ≤ if margin then 6000000000 else 8000000000))

/-- Users of a tile: the outputs that select it, and one while it is offered (`7400:0D`). -/
def State.tileUsers (s : State) (t : Nat) : Nat :=
  ((s.elsWith 0x5100 1 3).filter (fun e => s.getN (Reg.XPT_OUT_TILE e) == t)).length +
    b2n (decide (s.get (Reg.TILE_CANVAS t) < 256) && decide (s.get (Reg.TILE_OFFER t) < 256))

/-- The registers that follow the configuration of the canvases (Tables 11.1, 11.2, 11.5, 11.6). -/
def State.refreshCanvases (s : State) : State :=
  let ks := (s.canvasesOn ++ (s.elsListed 0x7100 1).map (fun l => s.getN (Reg.LAYER_CANVAS l)) ++ s.elsListed 0x7000 7 ++
    s.elsListed 0x7000 8).eraseDups.filter (fun k => decide (k < 256))
  let t := s.each (s.elsListed 0x7100 0x17) (fun t l => t.put (Reg.LAYER_FETCH l) 0)
  let t := t.each ks (fun t k =>
    let fmt := s.canvasFormat k
    let cells := if s.get (Reg.CANVAS_ENABLE k) = 1 then s.composedCells k else []
    let t := t.each (s.layersOn k) (fun t l =>
      t.put (Reg.LAYER_FETCH l) (s.cellCost l (cells.filter (fun c => s.fetches k l c)).length))
    (((t.put (Reg.CANVAS_LAYERS k) (s.layersOf k).length).put (Reg.CANVAS_FETCH k) (ratePerSecond (s.fetchOver k cells) fmt)).put
      (Reg.CANVAS_COMPOSED k) (ratePerSecond (1024 * cells.length) fmt)).put (Reg.CANVAS_STATE k) (s.canvasStateOf k))
  let margin := s.get Reg.MODE_ACTIVE == 6
  let t := t.each (List.range 8) (fun t c =>
    let l := s.sliceLoad c
    (((t.put (Reg.SLICE_FETCH_LOAD c) l.1).put (Reg.SLICE_OUTPUT_LOAD c) l.2).put (Reg.SLICE_FETCH_LIMIT c)
      (if margin then 36000000000 else 48000000000)).put (Reg.SLICE_OUTPUT_LIMIT c) (if margin then 6000000000 else 8000000000))
  (t.each ((s.elsListed 0x7400 1 ++ s.elsListed 0x7400 0x0D ++ (s.elsWith 0x5100 1 3).map (fun e => s.getN (Reg.XPT_OUT_TILE e))).eraseDups)
    (fun t n => t.put (Reg.TILE_USERS n) (s.tileUsers n)))

/-- Only the states of the canvases follow modes and readiness (R230, R249). -/
def State.refreshCanvasStates (s : State) : State :=
  s.each s.canvasesOn (fun t k => t.put (Reg.CANVAS_STATE k) (s.canvasStateOf k))

/-! ### The CANVAS slip -/

/-- The geometry of a layer (R233) as it stands in this state. -/
def State.layerGeometryOk (s : State) (l : Nat) : Bool :=
  let sw := s.get (Reg.LAYER_SRC_W l)
  let sh := s.get (Reg.LAYER_SRC_H l)
  let dw := s.get (Reg.LAYER_DST_W l)
  let dh := s.get (Reg.LAYER_DST_H l)
  s.get (Reg.LAYER_SRC_X l) % 2 == 0 && sw % 2 == 0 && decide (2 ≤ sw) && decide (sw ≤ 7680) && decide (1 ≤ sh) && decide (sh ≤ 4320) &&
    decide (-65536 ≤ s.get (Reg.LAYER_DST_X l)) && decide (s.get (Reg.LAYER_DST_X l) ≤ 65535) &&
    decide (-65536 ≤ s.get (Reg.LAYER_DST_Y l)) && decide (s.get (Reg.LAYER_DST_Y l) ≤ 65535) &&
    decide ((sw + 7) / 8 ≤ dw) && decide (dw ≤ 64 * sw) && decide ((sh + 7) / 8 ≤ dh) && decide (dh ≤ 64 * sh)

/-- The records a set of staged items claims for canvas k: layers (0) and tiles (1) whose CANVAS is staged as k (R232). -/
def claims (items : List (Key × Int)) (k : Nat) : List (Nat × Nat) :=
  items.filterMap (fun i => if i.1.sub = 1 ∧ i.2 = (k : Int) then
    (if i.1.idx = 0x7100 then some (0, i.1.el) else if i.1.idx = 0x7400 then some (1, i.1.el) else none) else none)

/-- Two layers of a canvas share a Z. -/
def State.zClash (s : State) (k : Nat) : Bool :=
  let zs := (s.layersOf k).map (fun l => s.get (Reg.LAYER_Z l))
  decide (zs.eraseDups.length ≠ zs.length)

/-- An enabled layer's source is not allowed, not offered, or its crop leaves the picture (R233, Table 11.8). -/
def State.layerBad (c : State) (l : Nat) : Bool :=
  let m := c.getN (Reg.LAYER_SOURCE l)
  let x := c.src m
  let i := shelfIndex m
  let z := pictureSize x.format x.rate x.links
  c.badPicture m || (!c.remote m && decide (0x4200 ≤ i) && decide (i < 0x4300)) || !x.offered ||
    (decide (x.format ≠ 0) && (decide (z.1 < c.getN (Reg.LAYER_SRC_X l) + c.getN (Reg.LAYER_SRC_W l)) ||
      decide (z.2 < c.getN (Reg.LAYER_SRC_Y l) + c.getN (Reg.LAYER_SRC_H l))))

/-- A tile cannot feed an output (R244, third condition). -/
def State.tileOverflows (c : State) (t e : Nat) : Bool :=
  let z := c.outPicture e
  decide (z.1 < c.getN (Reg.TILE_OUT_X t) + c.getN (Reg.TILE_WIDTH t)) || decide (z.2 < c.getN (Reg.TILE_OUT_Y t) + c.getN (Reg.TILE_HEIGHT t))

/-- The outputs whose selection in force, or in a LAUNCHED TAKE slip, names tile t (R244): `s` stands now, `c` at B, `all` with every
LAUNCHED slip. -/
def tileOutputs (s c all : State) (t : Nat) : List Nat :=
  let of (u : State) : List Nat := (u.elsWith 0x5100 1 3).filter (fun e => u.getN (Reg.XPT_OUT_TILE e) == t)
  let taken := (s.slips.filter (fun x => decide (x.st = .launched) && x.kind == 1)).filterMap (fun x =>
    let sel : Int := ((x.items.find? (fun i => i.1 == Reg.XPT_OUT_SELECT x.target)).map (fun i => i.2)).getD (s.get (Reg.XPT_OUT_SELECT x.target))
    let tile : Int := ((x.items.find? (fun i => i.1 == Reg.XPT_OUT_TILE x.target)).map (fun i => i.2)).getD (s.get (Reg.XPT_OUT_TILE x.target))
    if sel = 3 ∧ tile = (t : Int) then some x.target else none)
  (of s ++ of c ++ of all ++ taken).eraseDups

/-- A tile of canvas k is wrong at B: it leaves the canvas, breaks an output that names it, or its offer is no row of
Table 6.2 or stands twice (R243 to R245). -/
def State.tileBad (c s all : State) (k t : Nat) : Bool :=
  let o := c.get (Reg.TILE_OFFER t)
  decide (c.get (Reg.CANVAS_WIDTH k) < c.get (Reg.TILE_X t) + c.get (Reg.TILE_WIDTH t)) ||
    decide (c.get (Reg.CANVAS_HEIGHT k) < c.get (Reg.TILE_Y t) + c.get (Reg.TILE_HEIGHT t)) ||
    (tileOutputs s c all t).any (fun e => c.tileOverflows t e) ||
    (decide (o < 256) &&
      (sdiRow (c.getN (Reg.TILE_OFFER_GROUP t)) (c.getN (Reg.TILE_OFFER_RATE t)) (c.getN (Reg.TILE_OFFER_LEVEL t)) (c.canvasFormat k) == 0 ||
        (c.elsWith 0x7400 8 o).any (fun u => u != t && decide (c.get (Reg.TILE_CANVAS u) < 256))))

/-- A remote layer source of canvas k for which no subscription is left: it would be the 4,097th (R175, R246). -/
def State.noLayerSub (c all : State) (k : Nat) : Bool :=
  (c.layersOn k).any (fun l => c.remote (c.getN (Reg.LAYER_SOURCE l)) && (all.subOf (c.getN (Reg.LAYER_SOURCE l))).isNone)

/-- The checks of a CANVAS slip on canvas k at its check point (R25, R232, R242 to R246): `s` stands now, `c` at B, `all` with every
LAUNCHED slip whatever its boundary, `items` are its own, `others` the items of the other LAUNCHED CANVAS slips. A 17th layer answers
CAPACITY, though it must share a Z with another (R25, R232). -/
def State.canvasCheck (s c all : State) (k : Nat) (items : List (Key × Int)) (others : List (Nat × List (Key × Int))) : Status :=
  let mine := claims items k
  let taken := others.any (fun o => (claims o.2 o.1).any (fun x => mine.contains x))
  let many := decide (16 < (c.layersOf k).length)
  if !modeRuns c.edge (c.getN Reg.MODE_ACTIVE) 38 then .wrongMode
  else if (c.canvasSlices k).any (fun i => !s.up (38 + i)) then .notReady
  else if taken || (!many && c.zClash k) || (c.layersOn k).any (fun l => c.layerBad l) || (c.tilesOf k).any (fun t => c.tileBad s all k t) then .range
  else if many ∨ c.slicesFit = false ∨ all.slicesFit = false ∨ c.hbmFits = false ∨ all.hbmFits = false ∨ c.noLayerSub all k = true then .capacity
  else .ok

/-- The user number of canvas k's layers in a subscription. -/
def layerUser (k : Nat) : Nat := 0x10000 + k

/-- A layer store stands for each source named by an enabled layer (R234); a store no longer named goes. -/
def State.openStores (s : State) (sources : List Nat) : State :=
  let new := sources.filter (fun m => !s.layerStores.any (fun x => x.shelf == m))
  { s with layerStores := s.layerStores ++ new.map (fun (m : Nat) => (⟨m, []⟩ : LayerStore)) }

/-- On launch: a subscription for each new remote source, and a layer store for each new one (R246). -/
def State.canvasLaunch (s c : State) (k : Nat) : State :=
  let t := s.each ((((c.layersOn k).map (fun l => c.getN (Reg.LAYER_SOURCE l))).filter (fun m => c.remote m)).eraseDups)
    (fun t m => (t.openSub m (layerUser k)).getD t)
  t.openStores ((c.layersOn k).map (fun l => c.getN (Reg.LAYER_SOURCE l))).eraseDups

/-- At B a change of a layer's SOURCE discards its held frame, and a layer that is off, or whose canvas is, reads OFF (R235, R247, log
entry 94). -/
def State.canvasApply (s old : State) (k : Nat) : State :=
  let t := s.each (s.layersOf k) (fun t l =>
    let t := if old.get (Reg.LAYER_SOURCE l) ≠ s.get (Reg.LAYER_SOURCE l) then t.put (Hid.layerShown l) 0 else t
    if s.get (Reg.LAYER_ENABLE l) = 0 ∨ s.get (Reg.CANVAS_ENABLE k) = 0 then t.put (Reg.LAYER_STATUS l) 0 else t)
  let t := t.each ((old.layersOf k).filter (fun l => !(s.layersOf k).contains l)) (fun t l => t.put (Reg.LAYER_STATUS l) 0)
  (t.openStores s.layerSources).refreshCanvases.refreshAdmission

/-- At B + P stores and subscriptions no longer named are released (R247). -/
def State.canvasRetire (s : State) (k : Nat) : State :=
  let used := (s.layersOn k).map (fun l => s.getN (Reg.LAYER_SOURCE l))
  let ends := (s.fabSubs.filter (fun x => x.users.contains (layerUser k) && !used.contains x.shelf)).map (·.shelf)
  let t := s.each ends (fun t m => t.closeSub m (layerUser k))
  let named := s.layerSources
  { t with layerStores := t.layerStores.filter (fun x => named.contains x.shelf) }

/-! ### The frame a layer shows (R234, R235) -/

/-- Every layer store whose source has moved on to a new frame since `old` holds the frame that is now whole. -/
def State.storeFrames (s old : State) : State :=
  { s with layerStores := s.layerStores.map (fun (x : LayerStore) =>
      let a := old.lastStamp x.shelf
      if (old.src x.shelf).present && decide (a ≠ s.lastStamp x.shelf) && decide (a ≠ 0) && (s.up (32 + shelfIndex x.shelf % 2)) then
        { x with frames := (a :: x.frames).take 3 } else x) }

/-- The frames of a source held whole at boundary `bc`, newest first: the store's, and one that has just ended. -/
def State.heldFrames (s : State) (m : Nat) (bc : Int) : List Int :=
  let l := ((s.layerStores.find? (fun x => x.shelf == m)).map (·.frames)).getD []
  let a := s.lastStamp m
  if (s.src m).present && decide (a ≠ 0) && decide (a + framePeriod (s.src m).format ≤ bc) && !l.contains a then a :: l else l

/-- Layer l chooses its frame for the canvas frame at `bc` (R234, R235). -/
def State.layerChoose (s : State) (k l : Nat) (bc : Int) : State :=
  let p := s.canvasPeriod k
  let m := s.getN (Reg.LAYER_SOURCE l)
  let frames := s.heldFrames m bc
  let own := if (s.src m).present then latestBy frames (bc - p - 158760) else 0
  let c := s.compare 2 l (s.get (Reg.RASTER_FRAME_INDEX (s.getN (Reg.CANVAS_RASTER k)))) own
  let f := nearFrame (max 0 (s.get (Hid.layerShown l) - 1) :: frames) c.2.1
  let t := c.1.when c.2.2.2 (fun u => u.bump (Reg.LAYER_SOLO_DECISIONS l))
  let st := s.get (Reg.LAYER_STATUS l)
  if f = 0 then
    let pol := s.get (Reg.LAYER_NOT_READY l)
    let shown := s.get (Hid.layerShown l) != 0
    let t := (t.put (Reg.LAYER_STATUS l) (if pol = 1 then 4 else if pol = 0 ∧ shown = true then 3 else 5)).bump (Reg.LAYER_NOT_READY_FRAMES l)
    t.when (st == 1 || st == 2) (fun u => u.raise 19 0 l)
  else
    let d := f - (bc - p - routeLead)
    let was := s.get (Hid.layerShown l)
    let t := (t.put (Reg.LAYER_STATUS l) (if timedBy d then 1 else 2)).put (Reg.LAYER_TIMING l) d
    let t := if was = f + 1 then t.bump (Reg.LAYER_REPEATS l)
      else if was = 0 then t
      else t.bumpBy (Reg.LAYER_DROPS l) (frames.filter (fun x => decide (was - 1 < x) && decide (x < f))).length
    t.put (Hid.layerShown l) (f + 1)

/-! ### Pixels (R236 to R239) -/

/-- `n / d` to the nearest, ties to even, for signed n (R236). -/
def roundEven (n : Int) (d : Nat) : Int :=
  let q := n / d
  let r := n % d
  if 2 * r < d then q else if (d : Int) < 2 * r then q + 1 else if q % 2 = 0 then q else q + 1

/-- A value clamped to 12 bits. -/
def clamp12 (v : Int) : Int := clampInt 0 4095 v

/-- The source position of a canvas coordinate, in 1/64 pixel (R236). -/
def srcPos (src dst x : Int) (srcN dstN : Nat) : Int :=
  64 * src - 32 + roundEven (64 * (2 * (x - dst) + 1) * srcN) (2 * dstN)

/-- The weight of one tap before it is scaled, in units of 2⁻¹⁶⁰: sinc (c d) sinc (d / a) within the axis limit a, c being num / den, the
phase f in 1/64 and the offset k; the factor c is common to all taps and cancels (R236). -/
def tapReal (a num den f : Nat) (k : Int) : Int :=
  let d := 64 * k - f
  if (a : Int) * 64 ≤ d.natAbs then 0 else realSinc (num * d) (64 * den) * realSinc d (64 * a) / realOne

/-- The weights of the n taps from offset `lo` for phase f, normalised, scaled to 1,024 and rounded; the remainder to 1,024 goes to the
largest tap, the lower offset first (R236). -/
def tapWeights (a srcN dstN : Nat) (soft : Bool) (f : Nat) (lo : Int) (n : Nat) : List Int :=
  let num := (if soft then 3 else 4) * min srcN dstN
  let den := 4 * srcN
  let real := (List.range n).map (fun (i : Nat) => tapReal a num den f (lo + (i : Int)))
  let sum := (real.foldl (· + ·) 0).toNat
  let raw := real.map (fun w => roundEven (1024 * w) (max 1 sum))
  let top := raw.foldl max (raw.headD 0)
  let rest := 1024 - raw.foldl (· + ·) 0
  let at_ := raw.findIdx (fun w => w == top)
  (indexed 0 raw).map (fun p => if p.1 = at_ then p.2 + rest else p.2)

/-- A sample of a line at x within the crop [x0, x0 + n), at 12 bits: Y and co-sited chroma times 4, chroma at odd x
interpolated (R236 step 1). `comp`: 0 Y, 1 CB, 2 CR. -/
def sample12 (row : List Nat × List Nat × List Nat) (comp : Nat) (x0 n x : Int) : Int :=
  let xc := clampInt x0 (x0 + n - 1) x
  if comp = 0 then 4 * ((row.1[xc.toNat]?).getD 0 : Nat)
  else
    let l := if comp = 1 then row.2.1 else row.2.2
    let at_ (e : Int) : Int := 4 * ((l[(clampInt x0 (x0 + n - 2) e / 2).toNat]?).getD 0 : Nat)
    if xc % 2 = 0 then at_ xc
    else roundEven (-(at_ (xc - 3)) + 9 * at_ (xc - 1) + 9 * at_ (xc + 1) - at_ (xc + 3)) 16

/-- A weighted sum. -/
def weigh (ws vs : List Int) : Int := (List.zipWith (· * ·) ws vs).foldl (· + ·) 0

/-- A layer's scaled 12-bit component at canvas pixel (x, y) (R236 steps 1 to 3). -/
def State.scaled (s : State) (l : Nat) (pic : SrcPic) (comp : Nat) (x y : Int) : Int :=
  let x0 := s.get (Reg.LAYER_SRC_X l)
  let y0 := s.get (Reg.LAYER_SRC_Y l)
  let sw := s.getN (Reg.LAYER_SRC_W l)
  let sh := s.getN (Reg.LAYER_SRC_H l)
  let dw := s.getN (Reg.LAYER_DST_W l)
  let dh := s.getN (Reg.LAYER_DST_H l)
  let soft := s.get (Reg.LAYER_FILTER l) == 1
  let px := srcPos x0 (s.get (Reg.LAYER_DST_X l)) x sw dw
  let py := srcPos y0 (s.get (Reg.LAYER_DST_Y l)) y sh dh
  let wv := tapWeights 3 sh dh soft (py % 64).toNat (-2) 6
  let wh := tapWeights 4 sw dw soft (px % 64).toNat (-3) 8
  let rowAt (i : Nat) : List Nat × List Nat × List Nat :=
    (pic.rows[(clampInt y0 (y0 + sh - 1) (py / 64 - 2 + i)).toNat]?).getD ([], [], [])
  let rows := (List.range 6).map rowAt
  let col (i : Nat) : Int := roundEven (16 * weigh wv (rows.map (fun r => sample12 r comp x0 sw (px / 64 - 3 + i)))) 1024
  clamp12 (roundEven (weigh wh ((List.range 8).map col)) (1024 * 16))

/-- Entry i of LUT element e, in 1/16 code. -/
def State.lutEntry (s : State) (e i : Nat) : Int :=
  (s.getN (Reg.LUT_ENTRIES_0 e (i / 64)) / 2 ^ (16 * (63 - i % 64)) % 2 ^ 16 : Nat)
/-- A 12-bit code through a LUT, in 1/16 code (R237 step 1). -/
def State.lut (s : State) (e comp : Nat) (v : Int) : Int :=
  if bitOf (s.getN (Reg.LUT_COMPONENTS e)) comp then s.lutEntry e v.toNat else 16 * v

/-- Colour correction of scaled components (R237). -/
def State.colour (s : State) (l : Nat) (v : Int × Int × Int) : Int × Int × Int :=
  let a := s.lut l 0 v.1 - 4096
  let b := s.lut l 1 v.2.1 - 32768
  let c := s.lut l 2 v.2.2 - 32768
  let row (i : Nat) (back : Int) : Int :=
    let m (j : Nat) : Int := s.get (Reg.MATRIX_C11 l (3 * i + j))
    clamp12 (roundEven (m 0 * a + m 1 * b + m 2 * c + 32768 * (s.get (Reg.MATRIX_OFFSET_Y l i) + back)) (32768 * 16))
  (row 0 4096, row 1 32768, row 2 32768)

/-- One component blended over what lies beneath (R238). `mid` is 256 for Y and 2,048 for CB and CR. -/
def blendOne (mode alpha l u mid : Int) : Int :=
  if mode = 2 then clamp12 l
  else if mode = 1 then clamp12 (roundEven (4095 * u + alpha * (l - mid)) 4095)
  else clamp12 (roundEven (alpha * l + (4095 - alpha) * u) 4095)

/-- A colour code times 4 (R238). -/
def colour12 (m : Nat) : Int × Int × Int := let c := colourOf m; (4 * c.1, 4 * c.2.1, 4 * c.2.2)

/-- What layer l puts at a pixel: nothing where it is clear or its destination does not reach (R235). -/
def State.layerPixel (s : State) (l : Nat) (pics : List SrcPic) (x y : Int) : Option (Int × Int × Int) :=
  let st := s.get (Reg.LAYER_STATUS l)
  if !rectCovers (s.layerRect l) (x, y, 1, 1) || st == 0 || st == 4 then none
  else if st = 5 then some (colour12 (s.getN (Reg.LAYER_MATTE l)))
  else
    match pics.find? (fun q => q.shelf == s.getN (Reg.LAYER_SOURCE l)) with
    | none => some (colour12 (s.getN (Reg.LAYER_MATTE l)))
    | some q => some (s.colour l (s.scaled l q 0 x y, s.scaled l q 1 x y, s.scaled l q 2 x y))

/-- The layers of a canvas by rising Z. -/
def State.stack (s : State) (k : Nat) : List Nat :=
  (List.range 16).filterMap (fun (z : Nat) => (s.layersOn k).find? (fun l => s.get (Reg.LAYER_Z l) == (z : Int)))

/-- A composed pixel at 12 bits (R238). -/
def State.composed (s : State) (k : Nat) (pics : List SrcPic) (x y : Int) : Int × Int × Int :=
  (s.stack k).foldl (fun u l =>
    match s.layerPixel l pics x y with
    | none => u
    | some v =>
      let mode := s.get (Reg.LAYER_BLEND l)
      let a := s.get (Reg.LAYER_ALPHA l)
      (blendOne mode a v.1 u.1 256, blendOne mode a v.2.1 u.2.1 2048, blendOne mode a v.2.2 u.2.2 2048))
    (colour12 (s.getN (Reg.CANVAS_BACKGROUND k)))

/-- A composed pixel as a tile carries it: output LUT, chroma decimation at the even x, 10 bits (R239, log entry 28). -/
def State.tilePixel (s : State) (k : Nat) (pics : List SrcPic) (x y : Int) : Int × Int × Int :=
  let w := s.get (Reg.CANVAS_WIDTH k)
  let at_ (q : Int) : Int × Int × Int := s.composed k pics (clampInt 0 (w - 1) q) y
  let e := x - x % 2
  let l := at_ (e - 1)
  let c := at_ e
  let r := at_ (e + 1)
  let o := 4096 + k
  let dec (comp : Nat) (p : Int × Int × Int → Int) : Int :=
    clampInt 4 1019 (roundEven (s.lut o comp (p l) + 2 * s.lut o comp (p c) + s.lut o comp (p r)) 256)
  (clampInt 4 1019 (roundEven (s.lut o 0 (at_ x).1) 64), dec 1 (fun v => v.2.1), dec 2 (fun v => v.2.2))

/-- Every layer of canvas k that shows a frame has its picture among those given. -/
def State.picturesGiven (s : State) (k : Nat) (pics : List SrcPic) : Bool :=
  (s.layersOn k).all (fun l => !([1, 2, 3].contains (s.get (Reg.LAYER_STATUS l))) ||
    pics.any (fun q => q.shelf == s.getN (Reg.LAYER_SOURCE l)))

/-- A pixel of the picture of output e, which shows tile t of canvas k: the tile's, and outside its rectangle the canvas's BACKGROUND
(R243). -/
def State.outPixel (s : State) (k t : Nat) (pics : List SrcPic) (x y : Nat) : Int × Int × Int :=
  let r := s.tileRect t
  let dx : Int := x - s.get (Reg.TILE_OUT_X t)
  let dy : Int := y - s.get (Reg.TILE_OUT_Y t)
  if 0 ≤ dx ∧ dx < r.2.2.1 ∧ 0 ≤ dy ∧ dy < r.2.2.2 then s.tilePixel k pics (r.1 + dx) (r.2.1 + dy)
  else colourOf (s.getN (Reg.CANVAS_BACKGROUND k))

/-- A pixel asked for is reported: of the composed region, or of the picture of an output that shows a tile of the canvas. -/
def State.probePixel (s : State) (k : Nat) (pics : List SrcPic) (p : Probe) : State :=
  match p with
  | .canvas x y => if (s.composedCells k).contains (x / 64, y / 16) then s.send (.pixel k x y (s.tilePixel k pics x y)) else s
  | .output e x y =>
    let t := s.getN (Reg.XPT_OUT_TILE e)
    let z := s.outPicture e
    if s.get (Reg.XPT_OUT_SELECT e) = 3 ∧ s.get (Reg.TILE_CANVAS t) = (k : Int) ∧ x < z.1 ∧ y < z.2 then
      s.send (.outPixel e x y (s.outPixel k t pics x y))
    else s

/-- A boundary of canvas k: every enabled layer chooses, and the composed region is built (R234, R240, R247). The pixels
asked for are reported where the pictures they need are given. -/
def State.canvasBoundary (s : State) (k : Nat) (pics : List SrcPic) (probes : List Probe) : State :=
  let t := s.put (Reg.CANVAS_STATE k) (s.canvasStateOf k)
  if t.get (Reg.CANVAS_STATE k) ≠ 1 then t
  else
    let at_ := s.get (Reg.RASTER_LAST_BOUNDARY (s.getN (Reg.CANVAS_RASTER k)))
    let bc := lfOfLt at_
    let t := t.each (t.layersOn k) (fun t l => t.layerChoose k l bc)
    let t := ((t.put (Reg.CANVAS_LAST_BOUNDARY k) at_).bump (Reg.CANVAS_FRAMES k)).send (.picture 4 k 1 (bc - routeLead))
    t.when (t.picturesGiven k pics) (fun u => u.each probes (fun v p => v.probePixel k pics p))

end Sys2Proof.Machine
end

