-- ==== Sys2Proof/Machine/Audio.lean ====
section
/-! DEFINITION. Audio: the slot pool, AES3 ports, bundles, the graph, the engine, side-tone (12_audio.md, R251 to
R273). -/
namespace Sys2Proof.Machine

/-! ### Rates, nodes, programs -/

/-- Ps of a rate code: 48 kHz, 96 kHz (R251). -/
def sampleLf (rate : Nat) : Int := if rate = 0 then 1102500 else 551250
/-- Samples in 1 ms. -/
def msSamples (rate : Nat) : Int := if rate = 0 then 48 else 96

/-- The kind and index of a node code (Table 12.4). -/
def nodeKind (c : Nat) : Nat := c / 16384 % 4
def nodeIndex (c : Nat) : Nat := c % 16384

/-- The operation limit of a rate in the mode in force (R263, R28). -/
def State.opLimit (s : State) (rate : Nat) : Nat :=
  let full := if rate = 0 then 65536 else 32768
  if s.get Reg.MODE_ACTIVE = 6 then full * 3 / 4 else full

/-- The draft's used buses and its edges whose FROM names a node, by rising element (R262, R263). -/
def State.draftBuses (s : State) : List Nat := s.elsWith 0x8200 1 1
def State.draftEdges (s : State) : List (Nat × Nat × Nat) :=
  (s.elsListed 0x8300 1).map (fun e => (e, s.getN (Reg.AUDIO_EDGE_FROM e), s.getN (Reg.AUDIO_EDGE_TO e)))

/-- The operation count (R263): 1 per edge, 2 per bus, 1 per output slot fed. -/
def operations (buses : List Nat) (edges : List (Nat × Nat × Nat)) : Nat :=
  edges.length + 2 * buses.length + ((edges.filter (fun e => nodeKind e.2.2 == 2)).map (fun e => e.2.2)).eraseDups.length

/-- Buses that remain once those that no remaining bus feeds, or that feed none, have been taken away, over and over: a cycle where any
are left. -/
def cyclic (edges : List (Nat × Nat × Nat)) : Nat → List Nat → List Nat
  | 0, l => l
  | fuel + 1, l =>
    let fed (b : Nat) : Bool := edges.any (fun e => e.2.2 == 0x4000 + b && nodeKind e.2.1 == 1 && l.contains (nodeIndex e.2.1))
    let feeds (b : Nat) : Bool := edges.any (fun e => e.2.1 == 0x4000 + b && nodeKind e.2.2 == 1 && l.contains (nodeIndex e.2.2))
    let left := l.filter (fun b => fed b && feeds b)
    if left.length = l.length then l else cyclic edges fuel left

/-- For each bus the most buses on a chain from an input slot to it, itself included; 0 none. -/
def busDepths (edges : List (Nat × Nat × Nat)) (buses : List Nat) : Nat → List (Nat × Nat)
  | 0 => buses.map (fun b => (b, 0))
  | fuel + 1 =>
    let d := busDepths edges buses fuel
    let at_ (b : Nat) : Nat := ((d.find? (fun p => p.1 == b)).map (·.2)).getD 0
    buses.map (fun b => (b, (edges.filter (fun e => e.2.2 == 0x4000 + b)).foldl (fun a e =>
      let v := if nodeKind e.2.1 = 0 then 1 else if at_ (nodeIndex e.2.1) = 0 then 0 else at_ (nodeIndex e.2.1) + 1
      max a v) 0))

/-- The verdict on the draft (R263): OK, or a status with the item at fault. -/
def State.compileVerdict (s : State) : Status × Nat :=
  let buses := s.draftBuses
  let edges := s.draftEdges
  let used (c : Nat) : Bool := nodeKind c == 1 && buses.contains (nodeIndex c)
  let slot (k c : Nat) : Bool := nodeKind c == k && decide (nodeIndex c < 8192)
  let bad (e : Nat × Nat × Nat) : Bool := !(slot 0 e.2.1 || used e.2.1) || !(slot 2 e.2.2 || used e.2.2)
  match edges.find? bad with
  | some e => (.range, 0x83000000 + e.1)
  | none =>
    match cyclic edges (buses.length + 1) buses with
    | b :: _ => (.range, 0x82000000 + b)
    | [] =>
      let d := busDepths edges buses 9
      let deep (b : Nat) : Bool := d.any (fun p => p.1 == b && decide (9 ≤ p.2))
      match edges.find? (fun e => nodeKind e.2.2 == 2 && nodeKind e.2.1 == 1 && deep (nodeIndex e.2.1)) with
      | some e => (.range, 0x83000000 + e.1)
      | none => if s.opLimit (s.getN Reg.AUDIO_COMPILE_DRAFT_RATE) < operations buses edges then (.capacity, 0) else (.ok, 0)

/-- The draft compiled. -/
def State.compiled (s : State) : Prog :=
  ⟨s.getN Reg.AUDIO_COMPILE_DRAFT_RATE, s.draftEdges, s.draftBuses, operations s.draftBuses s.draftEdges⟩

/-- PROGRAM_ID of a program (`8400:07`). -/
def progId (p : Prog) : Nat := Config.programCrc (p.rate :: p.buses ++ p.edges.flatMap (fun e => [e.1, e.2.1, e.2.2])) % 2 ^ 32

/-- The status of a COMPILE (R263). -/
def State.compileStatus (s : State) : Status :=
  if s.get Reg.AUDIO_COMPILE_STATE = 1 ∨ s.slips.any (fun x => decide (x.st = .launched) && x.kind == 8) = true then .busy else .ok

/-- A compile begins (R263). -/
def State.compileStart (s : State) : State := s.put Reg.AUDIO_COMPILE_STATE 1

/-- The compile ends (R263): READY with the shadow, or FAILED with the shadow empty. -/
def State.compileEnd (s : State) : State :=
  if s.get Reg.AUDIO_COMPILE_STATE ≠ 1 then s
  else
    let v := s.compileVerdict
    let n := operations s.draftBuses s.draftEdges
    let t := ((s.put Reg.AUDIO_COMPILE_RESULT v.1.code).put Reg.AUDIO_COMPILE_FAULT_ITEM v.2).put Reg.AUDIO_COMPILE_OPERATIONS n
    if v.1 = .ok then
      ({ t with progShadow := s.compiled }.put Reg.AUDIO_COMPILE_STATE 2).put Reg.AUDIO_COMPILE_PROGRAM_ID (progId s.compiled)
    else ({ t with progShadow := ⟨0, [], [], 0⟩ }.put Reg.AUDIO_COMPILE_STATE 3).put Reg.AUDIO_COMPILE_PROGRAM_ID 0

/-! ### Paths (R266) -/

/-- The steady gain of an edge or bus: its GAIN, or 0. -/
def State.steadyGain (s : State) (bus : Bool) (n : Nat) : Int :=
  if bus then (if s.get (Reg.AUDIO_NODE_MUTE n) = 1 then 0 else s.get (Reg.AUDIO_NODE_GAIN n))
  else if s.get (Reg.AUDIO_EDGE_ON n) = 1 then s.get (Reg.AUDIO_EDGE_GAIN n) else 0

/-- The pending change of a path. -/
def State.pathOf (s : State) (bus : Bool) (n : Nat) : Option PathSt := s.paths.find? (fun p => p.bus == bus && p.num == n)

/-- The gain of a ramp from one value to another after i of n samples. -/
def rampAt (a b i n : Int) : Int := if n ≤ i then b else if i ≤ 0 then a else a + roundEven ((b - a) * i) n.toNat

/-- The gain a path has at an instant (R266). -/
def State.gainAt (s : State) (bus : Bool) (n : Nat) (at_ : Int) : Int :=
  match s.pathOf bus n with
  | none => s.steadyGain bus n
  | some p =>
    match p.ramp with
    | none => p.from_
    | some t0 => rampAt p.from_ p.toward ((at_ - t0) / sampleLf s.progRun.rate) (msSamples s.progRun.rate)

/-- The program in force holds an edge or a bus. -/
def Prog.has (p : Prog) (bus : Bool) (n : Nat) : Bool := if bus then p.buses.contains n else p.edges.any (fun e => e.1 == n)

/-- `8300:05` of an edge follows (Table 12.9). -/
def State.showEdge (s : State) (e : Nat) : State :=
  let v : Int := if !s.progRun.has false e then 0
    else match s.pathOf false e with
      | some p => if p.ramp.isSome then 3 else 2
      | none => if s.get (Reg.AUDIO_EDGE_ON e) = 1 then 4 else 1
  s.put (Reg.AUDIO_EDGE_STATE e) v

/-- A pending change replaced, or dropped. -/
def State.setPath (s : State) (bus : Bool) (n : Nat) (p : Option PathSt) : State :=
  let rest := s.paths.filter (fun q => !(q.bus == bus && q.num == n))
  let t := { s with paths := match p with | none => rest | some q => q :: rest }
  if bus then t else t.showEdge n

/-- A change of ON, MUTE or GAIN of a path reaches the engine at B (R266). `old` stands before the slip. -/
def State.pathChange (s old : State) (bus : Bool) (n : Nat) (b : Int) : State :=
  let was := if bus then old.get (Reg.AUDIO_NODE_MUTE n) == 0 else old.get (Reg.AUDIO_EDGE_ON n) == 1
  let now := if bus then s.get (Reg.AUDIO_NODE_MUTE n) == 0 else s.get (Reg.AUDIO_EDGE_ON n) == 1
  let target := s.steadyGain bus n
  let wait : PathSt := ⟨bus, n, was, old.gainAt bus n b, target, none, b + s.get Reg.AUDIO_COMPILE_ZC_TIMEOUT⟩
  if !s.progRun.has bus n then s
  else
    match old.pathOf bus n with
    | some p =>
      if was != now then (if now = p.orig then s.setPath bus n none else s.setPath bus n (some { wait with orig := p.orig }))
      else if target ≠ p.toward then
        (if p.ramp.isNone then s.setPath bus n (some { p with toward := target })
         else s.setPath bus n (some { wait with orig := p.orig, ramp := some b }))
      else s
    | none =>
      if was != now then s.setPath bus n (some wait)
      else if now && old.steadyGain bus n != target then s.setPath bus n (some { wait with ramp := some b })
      else s

/-- No crossing within ZC_TIMEOUT: a ramp of 1 ms starts at the deadline rounded up to a sample instant (R266). -/
def State.zcTimeout (s : State) (bus : Bool) (n : Nat) : State :=
  match s.pathOf bus n with
  | none => s
  | some p =>
    if p.ramp.isSome || decide (s.now < p.deadline) then s
    else
      let ps := sampleLf s.progRun.rate
      (s.setPath bus n (some { p with ramp := some ((p.deadline + ps - 1) / ps * ps) })).bump Reg.ENGINE_STATS_ZC_TIMEOUTS

/-! ### Arithmetic (R254, R267, R268) -/

/-- The signed 24-bit sample in bits [27:4] of a subframe, or the value itself (R254). -/
def pcmOf (v : Int) (sub : Bool) : Int := if sub then toSigned 24 (v.toNat / 16 % 2 ^ 24) else v

/-- The value of an edge's source node: an input slot or a bus. -/
def nodeValue (ins buses : List (Nat × Int)) (c : Nat) : Int :=
  if nodeKind c = 0 then ((ins.find? (fun p => p.1 == nodeIndex c)).map (·.2)).getD 0
  else ((buses.find? (fun p => p.1 == nodeIndex c)).map (·.2)).getD 0

/-- The sum of a node's edges in ascending element order, saturated at each step, and how often it saturated (R267). -/
def State.nodeSum (s : State) (p : Prog) (ins buses : List (Nat × Int)) (node : Nat) (at_ : Int) : Int × Nat :=
  let lim : Int := 2 ^ 47 - 1
  (p.edges.filter (fun e => e.2.2 == node)).foldl (fun a e =>
    let v := a.1 + roundEven (nodeValue ins buses e.2.1 * s.gainAt false e.1 at_) 32768
    if v < -lim ∨ lim < v then (clampInt (-lim) lim v, a.2 + 1) else (v, a.2)) (0, 0)

/-- A value saturated to 32 bits. -/
def sat32 (v : Int) : Int := clampInt (-(2 ^ 31)) (2 ^ 31 - 1) v

/-- The buses' outputs at an instant: eight rounds settle every chain a program may hold (R262, R263, R267). -/
def State.busValues (s : State) (p : Prog) (ins : List (Nat × Int)) (at_ : Int) : Nat → List (Nat × Int)
  | 0 => []
  | fuel + 1 =>
    let prev := s.busValues p ins at_ fuel
    p.buses.map (fun b => (b, sat32 (roundEven ((s.nodeSum p ins prev (0x4000 + b) at_).1 * s.gainAt true b at_) 32768)))

/-- The output slots a program feeds. -/
def Prog.outs (p : Prog) : List Nat := ((p.edges.filter (fun e => nodeKind e.2.2 == 2)).map (fun e => nodeIndex e.2.2)).eraseDups

/-- The subframe a transparent output slot carries at an instant, if it is transparent (R254). -/
def State.transparent (s : State) (p : Prog) (subs : List (Nat × Int)) (slot : Nat) (at_ : Int) : Option Int :=
  match p.edges.filter (fun e => e.2.2 == 0x8000 + slot) with
  | [e] =>
    if p.rate = 0 ∧ nodeKind e.2.1 = 0 ∧ s.gainAt false e.1 at_ = 32768 ∧ s.get (Reg.AUDIO_EDGE_GAIN e.1) = 32768 then
      (subs.find? (fun x => x.1 == nodeIndex e.2.1)).map (·.2) else none
  | _ => none

/-- A fade of the output slots: the old and new value mixed at an instant (R264, R271). -/
def State.mixed (s : State) (old new at_ : Int) : Int :=
  match s.audFade with
  | none => new
  | some f =>
    let ms := lfMs
    let d := at_ - f.start
    if f.kind = 0 then (if ms ≤ d then new else roundEven (old * (ms - d) + new * d) ms.toNat)
    else if f.kind = 1 then (if d < ms then 0 else if 2 * ms ≤ d then new else roundEven (new * (d - ms)) ms.toNat)
    else (if 20 * ms ≤ d then new else roundEven (new * d) (20 * ms).toNat)

/-- T of a THRESHOLD in 0.01 dB: 2²³ × 10^(THRESHOLD / 2,000), rounded (R268). -/
def limiterT (th : Int) : Nat := divNearestEven (2 ^ 23 * realExpNeg (realLn10 * (-th).toNat / 2000)) realOne

/-- One instant of an output slot's limiter: the sample that leaves and whether it is a transparent slot's subframe, and the limiter after
it (R254, R268). -/
def State.limit (s : State) (slot : Nat) (v : Int) (sub : Bool) : (Int × Bool) × LimSt :=
  let one : Nat := 2 ^ 31
  let l := (s.limiters.find? (fun x => x.slot == slot)).getD ⟨slot, List.replicate 32 (0, false), one⟩
  let m := l.line.foldl (fun a x => if x.2 then a else max a x.1.natAbs) 0
  let t := limiterT (s.get (Reg.LIMITER_THRESHOLD slot))
  let g : Nat := if t * one < m * l.g then divNearestEven (t * one) (max 1 m)
    else if l.g = one then one
    else one - divNearestEven ((one - l.g) *
      realExpNeg (realOne * (sampleLf s.progRun.rate).toNat / max 1 (s.getN (Reg.LIMITER_RELEASE slot)))) realOne
  let out : Int × Bool := match l.line with
    | [] => (0, false)
    | (x, true) :: _ => (x, true)
    | (x, false) :: _ => (sat32 (roundEven (x * g) one), false)
  (out, ⟨slot, l.line.drop 1 ++ [(v, sub)], g⟩)

/-- The gain reduction in 0.01 dB of a gain in units of 2⁻³¹ (R268). -/
def reduction (g : Nat) : Int := divNearestEven (2000 * realLn (realOne * 2 ^ 31 / max 1 g)) realLn10

/-- A limiter kept, or forgotten once it holds nothing and its gain is 1; ACTIVE and REDUCTION follow (R268). -/
def State.setLimiter (s : State) (l : LimSt) : State :=
  let idle := l.g == 2 ^ 31 && l.line.all (fun x => x.1 == 0)
  let rest := s.limiters.filter (fun x => x.slot != l.slot)
  let t := { s with limiters := if idle then rest else l :: rest }
  (t.put (Reg.LIMITER_ACTIVE l.slot) (b2i (l.g != 2 ^ 31))).put (Reg.LIMITER_REDUCTION l.slot)
    (if l.g = 2 ^ 31 then 0 else clampInt (-32768) 32767 (reduction l.g))

/-! ### Fades of input slots (R257) -/

/-- The level of a fade at an instant, in 1/32,768. -/
def fadeLevel (f : SlotFade) (at_ : Int) : Int :=
  if f.up then min 32768 (f.level + 32768 * (at_ - f.start) / 1058400000)
  else max 0 (f.level - 32768 * (at_ - f.start) / 105840000)

/-- The level of an input slot. -/
def State.slotLevel (s : State) (slot : Nat) (at_ : Int) : Int :=
  match s.slotFades.find? (fun f => decide (f.base ≤ slot) && decide (slot < f.base + f.count)) with
  | none => 32768
  | some f => fadeLevel f at_

/-- Slots begin to fade, out or in, from the level they have. -/
def State.slotFade (s : State) (base count : Nat) (up : Bool) : State :=
  { s with slotFades := ⟨base, count, s.slotLevel base s.now, s.now, up⟩ :: s.slotFades.filter (fun f => f.base != base) }

/-! ### AES3 receivers (R256 to R258) -/

/-- Receiver r runs: enabled, and AUD runs (Table 12.3). -/
def State.aesRuns (s : State) (r : Nat) : Bool := s.edge && s.runs 46 && s.get (Reg.AES_RX_ENABLE r) == 1

/-- The first valid preamble (R256). -/
def State.aesPreamble (s : State) (r : Nat) : State :=
  if s.aesRuns r && s.get (Reg.AES_RX_STATE r) == 0 then s.put (Reg.AES_RX_STATE r) 1 else s

/-- The program's rate as a receiver reports rates (`8000:04`). -/
def State.progRate (s : State) : Int := if s.progRun.rate = 0 then 2 else 3

/-- Rate, within 50 ppm, and fill have held for 100 ms: TRACKING, but for a transparent receiver at another rate than the program's
(R256, R258). -/
def State.aesTracking (s : State) (r rate : Nat) (ratio : Int) (fill status : Nat) : State :=
  let t := (((s.put (Reg.AES_RX_RATE r) rate).put (Reg.AES_RX_RATIO_OFFSET r) ratio).put (Reg.AES_RX_FILL r) fill).put
    (Reg.AES_RX_CHANNEL_STATUS r) (status % 2 ^ 192 : Nat)
  if !s.aesRuns r || s.get (Reg.AES_RX_STATE r) == 0 || rate == 0 || decide (4 < rate) then s
  else if s.get (Reg.AES_RX_STATE r) ≠ 1 ∨ fill < 28 ∨ 36 < fill then t
  else if 50000 < ratio.natAbs ∨ (s.get (Reg.AES_RX_MODE r) = 1 ∧ (rate : Int) ≠ s.progRate) then t
  else (t.put (Reg.AES_RX_STATE r) 2).put (Hid.aesTrackAt r) s.tickLf

/-- No valid preamble for 1 ms (R256, Table 12.5). -/
def State.aesLoss (s : State) (r : Nat) : State :=
  let st := s.get (Reg.AES_RX_STATE r)
  if st = 0 then s
  else
    let t := (((s.put (Reg.AES_RX_STATE r) 0).put (Reg.AES_RX_RATE r) 0).put (Reg.AES_RX_FILL r) 0).bump (Reg.AUDIO_STATS_LOSSES r)
    t.when (st == 2) (fun u => u.raise (594 + r) 1 r)

/-- An underrun or overrun of a PCM receiver's buffer (R257). -/
def State.aesSlip (s : State) (r : Nat) (beyond : Bool) : State :=
  if !s.aesRuns r || s.get (Reg.AES_RX_MODE r) != 0 || !(s.get (Reg.AES_RX_STATE r) == 2 || s.get (Reg.AES_RX_STATE r) == 3) then s
  else
    let t := s.bump (if beyond then Reg.AUDIO_STATS_OVERRUNS r else Reg.AUDIO_STATS_UNDERRUNS r)
    ((((t.put (Reg.AES_RX_FILL r) (if beyond then 64 else 0)).put (Reg.AES_RX_STATE r) 3).slotFade (3072 + 2 * r) 2 false).raise
      (594 + r) 2 r)

/-- The fill has held near 32 for 10 ms: the slots ramp back (R257). -/
def State.aesRecovered (s : State) (r : Nat) : State :=
  if s.get (Reg.AES_RX_STATE r) ≠ 3 then s
  else (((s.put (Reg.AES_RX_STATE r) 2).put (Reg.AES_RX_FILL r) 32).put (Hid.aesTrackAt r) s.tickLf).slotFade (3072 + 2 * r) 2 true

/-- A transparent receiver repeats or drops a frame (R258). -/
def State.transparentSlip (s : State) (r : Nat) : State :=
  if s.aesRuns r && s.get (Reg.AES_RX_MODE r) == 1 && s.get (Reg.AES_RX_STATE r) == 2 then
    (s.bump (Reg.AUDIO_STATS_TRANSPARENT_SLIPS r)).raise (594 + r) 2 r
  else s

/-- A write of ENABLE or MODE of receiver r: a receiver that stops ignores its pin (Table 12.3). -/
def State.aesRxWrite (s : State) (r sub : Nat) (v : Int) : State :=
  let t := s.put ⟨0x8000, r, sub⟩ v
  if (sub = 1 ∧ v = 0) ∨ (sub = 2 ∧ s.get (Reg.AES_RX_MODE r) ≠ v) then
    ((t.put (Reg.AES_RX_STATE r) 0).put (Reg.AES_RX_RATE r) 0).put (Reg.AES_RX_FILL r) 0
  else t

/-! ### AES3 transmitters and side-tone (R260, R261, R269) -/

/-- The enabled side-tone path that names a transmitter. -/
def State.sideOf (s : State) (t : Nat) : Option Nat :=
  (s.elsWith 0x8500 1 1).find? (fun p => s.getN (Reg.SIDETONE_OUTPUT p) == t)

/-- The state a transmitter takes at a block start (Table 12.7, R260, R269). -/
def State.aesTxTarget (s : State) (t : Nat) : Int :=
  let d := s.getN (Reg.AES_TX_DARS t)
  let live := s.get (Reg.AES_RX_STATE d) == 2 && decide (d < 32)
  if !(s.edge && s.runs 46) || s.get (Reg.AES_TX_ENABLE t) == 0 then 0
  else
    match s.sideOf t with
    | some p => if s.get (Reg.AES_RX_STATE (s.getN (Reg.SIDETONE_INPUT p))) = 0 then 1 else 3
    | none =>
      if s.get (Reg.AES_TX_CLOCK t) = 1 ∧ live = true ∧
          (s.get (Reg.AES_TX_STATE t) = 2 ∨ s.get (Hid.aesTrackAt d) + lfSec ≤ s.tickLf) then 2 else 1

/-- AES reads 1 once every enabled transmitter runs; with AUD up and gated by the mode none can, and the bit rises as R312 asks
whatever the mode (R271, Table 15.2; DEDUCED, log entry 70). -/
def State.refreshAesBit (s : State) : State :=
  s.setReady 48 (s.ready 47 && (s.ready 48 || !s.runs 46 || (List.range 32).all (fun t =>
    s.get (Reg.AES_TX_ENABLE t) == 0 || s.get (Reg.AES_TX_STATE t) != 0)))

/-- A transmitter starts a channel-status block (R260, R339): writes and clock changes apply. -/
def State.aesBlock (s : State) (t : Nat) : State :=
  let old := s.get (Reg.AES_TX_STATE t)
  let new := s.aesTxTarget t
  let lost := old == 2 && new == 1 && s.get (Reg.AES_TX_CLOCK t) == 1 &&
    s.get (Reg.AES_RX_STATE (s.getN (Reg.AES_TX_DARS t))) != 2
  let u := ((s.put (Reg.AES_TX_STATE t) new).put (Hid.aesTxRate t) (s.get (Reg.AES_TX_RATE t))).put (Hid.aesTxN t) 0
  let u := if s.get Reg.SAFE_REACTION = 5 then u else u.put (Hid.aesHush t) 0
  let u := u.when lost (fun v => v.raise 22 0 t)
  (u.when (old != new) (fun v => v.send (.pin 4 t new))).refreshAesBit

/-- The states of the side-tone paths (`8500:05`). -/
def State.refreshSide (s : State) : State :=
  s.each (List.range 8) (fun t p =>
    t.put (Reg.SIDETONE_STATE p)
      (if s.get (Reg.SIDETONE_ENABLE p) = 0 ∨ s.runs 46 = false then 0
       else if s.get (Reg.AES_RX_STATE (s.getN (Reg.SIDETONE_INPUT p))) = 0 then 2 else 1))

/-- The gain of side-tone path p after n received frames of a change (R269). -/
def State.sideGain (s : State) (p : Nat) : Int :=
  rampAt (s.get (Hid.sideFrom p)) (s.get (Reg.SIDETONE_GAIN p)) (s.get (Hid.sideN p)) 48

/-- The CRC byte of a channel-status block over its first 23 bytes: x⁸ + x⁴ + x³ + x² + 1 from all ones, bits in the order they leave
(AES3; PRESUMED, log entry 97). -/
def statusCrc (bytes : List Nat) : Nat :=
  let step (c : Nat) (bit : Bool) : Nat :=
    let fed := (bitOf c 7) != bit
    (c * 2 % 256) ^^^ (if fed then 0x1D else 0)
  let c := bytes.foldl (fun c x => (List.range 8).foldl (fun c i => step c (bitOf x i)) c) 0xFF
  (List.range 8).foldl (fun a i => a + (if bitOf c (7 - i) then 2 ^ i else 0)) 0

/-- The channel status a transmitter generates at a rate (as `8000:04` codes rates): professional use, the sample rate, a 24-bit word, the
CRC byte, all else zero (R260; AES3's places, PRESUMED, log entry 97). -/
def aesStatus (rate : Nat) : List Nat :=
  let b0 := if rate = 1 then 0x41 else if rate = 2 then 0x81 else 1
  let b4 := if rate = 3 then 0x10 else if rate = 4 then 0x18 else 0
  let b := [b0, 0, 0x2C, 0, b4] ++ List.replicate 18 0
  b ++ [statusCrc b]

/-- A subframe built from a PCM sample in frame n of a channel-status block: V and U 0, C of the status, P even (R254); `second` for
subframe B. -/
def buildSubframe (rate n : Nat) (second : Bool) (v : Int) : Nat :=
  let audio := fromSigned 24 (clampInt (-(2 ^ 23 - 1)) (2 ^ 23 - 1) v)
  let c := b2n (bitOf (((aesStatus rate)[n / 8 % 24]?).getD 0) (n % 8))
  let ones := (List.range 24).foldl (fun a i => a + b2n (bitOf audio i)) c
  let pre := Config.preamble (if second then 2 else if n % 192 = 0 then 0 else 1) % 16
  pre * 2 ^ 28 + audio * 16 + c * 2 + ones % 2

/-- What the entries on point AES_TX make of the two subframes of a frame, 28 bits of each after its preamble: with none left of it, zero
audio bits with correct parity; else the bits flipped, and the parity bit of each subframe inverted (R402, R403). -/
def injectedAes (l : List InjPass) (a b : Nat) : Nat × Nat :=
  match l with
  | [] =>
    let zero (w : Nat) : Nat :=
      let vuc := w / 2 % 8
      w / 2 ^ 28 * 2 ^ 28 + vuc * 2 + (vuc % 2 + vuc / 2 % 2 + vuc / 4) % 2
    (zero a, zero b)
  | u :: _ =>
    let flip (w : Nat × Nat) (i : Nat) : Nat × Nat := if i < 28 then (w.1 ^^^ 2 ^ (27 - i), w.2) else (w.1, w.2 ^^^ 2 ^ (55 - i))
    let w := u.flips.foldl flip (a, b)
    if u.inverted % 2 = 1 then (w.1 ^^^ 1, w.2 ^^^ 1) else w

/-- A frame leaves transmitter t, frame n of its block, its preamble at the pin at `at_`: each subframe built from a sample, or carried
whole, and then past the injection entries (R254, R260, Table 20.2). -/
def State.aesSend (s : State) (t rate n : Nat) (at_ : Int) (a b : Int × Bool) : State :=
  let word (second : Bool) (x : Int × Bool) : Nat := if x.2 then fromSigned 32 x.1 else buildSubframe rate n second x.1
  let r := s.inject 5 t 0 .other 56
  let w := injectedAes r.2 (word false a) (word true b)
  r.1.send (.aes t at_ w.1 w.2)

/-- A 24-bit sample the manual leaves open: what a converter or a resampler gives (R251, R260). -/
def State.freeSample (s : State) (i : Nat) : Int × Bool := (toSigned 24 (Config.freeWord s.freeVal i % 2 ^ 24), false)

/-- The frames of the MEDIA transmitters for the output instant `k` in lf: at the program's rate the values of their two slots, at the
other rate those behind the converter; zeros while SAFE holds them, or for a side-tone path with no input (R251, R252, R254, R260, R269,
R338). `given` holds the output slots that are not zero. -/
def State.aesMedia (s : State) (k : Int) (given : List (Nat × Int × Bool)) : State :=
  let ps := sampleLf s.progRun.rate
  let slot (n : Nat) : Int × Bool := ((given.find? (fun p => p.1 == n)).map (·.2)).getD (0, false)
  s.each (s.elsWith 0x8100 5 1) (fun u t =>
    let tx := if s.get (Hid.aesTxRate t) = 1 then 551250 else 1102500
    let quiet := s.get (Hid.aesHush t) == 1 || (s.sideOf t).isSome
    let frame (u : State) (j : Int) (a b : Int × Bool) : State :=
      u.aesSend t (if tx = 551250 then 3 else 2) (j % 192).toNat ((j + 2) * tx) (if quiet then (0, false) else a) (if quiet then (0, false) else b)
    if tx = ps then frame u (k / tx) (slot (3072 + 2 * t)) (slot (3073 + 2 * t))
    else if tx < ps then
      (frame (frame u (k / tx) (u.freeSample 0) (u.freeSample 1)) (k / tx + 1) (u.freeSample 2) (u.freeSample 3)).drawn
    else if k % tx = 0 then (frame u (k / tx) (u.freeSample 0) (u.freeSample 1)).drawn
    else u)

/-- The next frame of a transmitter that a receiver's clock drives (R260, R269). -/
def State.aesClocked (s : State) (t r : Nat) (a b : Int × Bool) : State :=
  let z : Int × Bool := (0, false)
  let hush := s.get (Hid.aesHush t) == 1
  (s.aesSend t (s.getN (Reg.AES_RX_RATE r)) (s.getN (Hid.aesTxN t)) s.now (if hush then z else a) (if hush then z else b)).put (Hid.aesTxN t)
    ((s.get (Hid.aesTxN t) + 1) % 192)

/-- A frame that receiver r received (R256, R260, R269): V and, in PCM mode, parity count, a parity error repeating the channel's previous
sample; each transmitter under its DARS sends a frame of what its resampler gives, and each side-tone path from it sends the samples under
its gain. -/
def State.aesFrameIn (s : State) (x : AesIn) : State :=
  let r := x.r
  if !s.aesRuns r || s.get (Reg.AES_RX_STATE r) == 0 then s
  else
    let pcm := s.get (Reg.AES_RX_MODE r) == 0
    let one (t : State) (c : Nat) (v : Int) (bad flag : Bool) : State :=
      let t := t.when flag (fun u => u.bump (Reg.AUDIO_STATS_VALIDITY r))
      if bad && pcm then t.bump (Reg.AUDIO_STATS_PARITY r) else t.put (Hid.aesLast (2 * r + c)) v
    let t := one (one s 0 x.a x.badA x.vA) 1 x.b x.badB x.vB
    let t := t.each ((t.elsWith 0x8100 5 2).filter (fun o => t.getN (Reg.AES_TX_DARS o) == r)) (fun u o =>
      (u.aesClocked o r (u.freeSample 0) (u.freeSample 1)).drawn)
    t.each ((t.elsWith 0x8500 1 1).filter (fun p => t.getN (Reg.SIDETONE_INPUT p) == r && t.get (Reg.AES_TX_STATE (t.getN (Reg.SIDETONE_OUTPUT p))) == 3))
      (fun u p =>
        let g := u.sideGain p
        let v (c : Nat) : Int × Bool :=
          (clampInt (-(2 ^ 23 - 1)) (2 ^ 23 - 1) (roundEven (u.get (Hid.aesLast (2 * r + c)) * g) 32768), false)
        (u.aesClocked (u.getN (Reg.SIDETONE_OUTPUT p)) r (v 0) (v 1)).put (Hid.sideN p) (min 48 (u.get (Hid.sideN p) + 1)))

/-! ### Essence of this device's sources on the fabric (R168 to R170) -/

/-- Local index of an ingress flow (Table 8.5). -/
def indexFlow (i : Nat) : Bool := decide (0x100 ≤ i) && decide (i < 0x4100)

/-- The header of a cell of local source i at a stamp (Table 8.3): GROUP 0, 1 or 2 for one, two or four links, LEVEL 1 for B-DL, and
FORMAT to DIVISION 0 for flows. -/
def State.essenceCell (s : State) (i link seq : Nat) (stamp : Int) (sou eou : Bool) (length : Nat) (b : CellBody) : Cell :=
  let x := s.localSrc i
  let f (n : Nat) : Nat := if indexFlow i then 0 else n
  ⟨1, 0, 0, seq % 2 ^ 24, (stamp % 2 ^ 40).toNat, length, sou, eou, x.present, link, f x.format, f x.rate,
    f (if x.links = 4 then 2 else if x.links = 2 then 1 else 0), f (b2n (x.level == 2)), f x.division, b⟩

/-- One link of a frame of local source i with delivery stamp S: its cells in order, each ready once its last word has come (R167 to
R169). -/
def State.frameLink (s : State) (i link : Nat) (stamp : Int) : State :=
  let x := s.localSrc i
  let p := framePeriod x.format
  let w := linkWords x.rate p
  let q := cellQ x.rate
  let number := ((stamp + p / 2) / p % 64).toNat
  (s.each (unitCells q w) (fun t u =>
    let words := min ((u.1 + 1) * q) w
    t.originCell i (s.essenceCell i link (number * 2 ^ 18 + u.1) stamp (u.1 == 0) u.2.2.1 u.2.1 (wordsBody (s.freeVal + link) u.1 u.2.2.2))
      (stamp + (words : Int) * p / w))).drawn

/-- A frame of local source i leaves on the fabric, each link of it that some pattern carries (R168, R169). The cells of the whole frame
take their slots at its start (log entry 39). -/
def State.frameCell (s : State) (i : Nat) (stamp : Int) : State :=
  let x := s.localSrc i
  if framePeriod x.format = 0 ∨ linkWords x.rate (framePeriod x.format) = 0 then s
  else s.each ((List.range x.links).filter (fun l => s.waysOf i l != [])) (fun t l => t.frameLink i l stamp)

/-- The first slot of some patterns in a calendar period, counted from the epoch, and its lane. -/
def firstSlot (ps : List Pattern) (n : Nat) : Option (Nat × Nat) :=
  (List.range 4410).findSome? (fun t =>
    (ps.find? (fun p => p.holds n && (patSlots p.phase p.count).contains t)).map (fun p => (n * 4410 + t, p.lane)))

/-- The time at which the present state of local source i was published (R170): SINCE of a serial input or of a flow, else the calendar
period in which it came to be. -/
def State.publishedAt (s : State) (i : Nat) : Int :=
  if i ≤ 0x5F then lfOfLt (s.get (Reg.SDI_RX_SINCE i))
  else if indexFlow i then lfOfLt (s.get (Reg.CONCORDANCE_SINCE (i - 0x100)))
  else s.get (Hid.srcSince i)

/-- The states of the sources that no register dates are noted in each calendar period: absent 1, present 2 (R170). -/
def State.noteSource (s : State) (i : Nat) : State :=
  let v : Int := if (s.localSrc i).present then 2 else 1
  s.when (s.get (Hid.srcWas i) != v) (fun t => (t.put (Hid.srcWas i) v).put (Hid.srcSince i) s.now)

/-- An essence cell of local source i will stand ready at slot k: one that has been given a slot from there on, or for a bundle the
next sample's (R170; log entry 39). -/
def State.essenceReady (s : State) (i link plane k lane : Nat) : Bool :=
  decide (k < s.getN (Hid.essNext (i * 8 + link * 2 + plane) lane)) ||
    (decide (0x4300 ≤ i) && decide (i < 0x4400) && (s.localSrc i).present &&
      decide ((s.now + sampleLf s.progRun.rate - 1) / sampleLf s.progRun.rate * sampleLf s.progRun.rate ≤ 1200 * (k : Int)))

/-- PRESENCE cells of one link of local source i, on each plane and centre that has no essence cell ready in the first slot of its first
pattern of the period (R170). -/
def State.presenceLink (s : State) (i link : Nat) : State :=
  s.each (s.waysOf i link) (fun t ps =>
    let plane := (ps.head?.map (fun (p : Pattern) => p.plane)).getD 0
    match firstSlot ps t.period with
    | none => t
    | some (k, l) =>
      if t.essenceReady i link plane k l then t
      else
        (t.sendCell l { t.essenceCell i link 0 (t.publishedAt i) true true 0 .none with
          kind := 2, plane := plane, shelf := t.slot * 32768 + i } k).put (Hid.essNext (i * 8 + link * 2 + plane) l) (k + 1 : Nat))

/-- The PRESENCE cells of a calendar period (R170). -/
def State.presenceCells (s : State) : State :=
  let mine := ((s.patterns.filter (fun p => p.tx && shelfSlot p.shelf == s.slot && p.holds s.period)).map
    (fun p => (shelfIndex p.shelf, p.link))).eraseDups
  if !s.edge || !s.runs 5 then s
  else s.each mine (fun t x => (t.noteSource x.1).presenceLink x.1 x.2)

/-- The bundles' cells of an output instant, each closed a sample period after it (R252, R259). -/
def State.bundleCells (s : State) (instant : Int) (outs : List (Nat × Int)) : State :=
  s.each (s.elsWith 0x8800 1 1) (fun t b =>
    let base := s.getN (Reg.BUNDLE_OUT_SLOT_BASE b)
    let n := s.getN (Reg.BUNDLE_OUT_CHANNELS b)
    let vals := (List.range n).map (fun c => fromSigned 32 (((outs.find? (fun p => p.1 == base + c)).map (·.2)).getD 0))
    let ps := sampleLf s.progRun.rate
    t.originCell (0x4300 + b) (s.essenceCell (0x4300 + b) 0 (instant / ps % 2 ^ 24).toNat instant true true (2 * n)
      (.words (vals.foldl (fun a v => a * 2 ^ 32 + v) 0))) (instant + ps))

/-! ### Bundle subscriptions (R259) -/

def bundleUser (i : Nat) : Nat := 0x30000 + i

/-- The slots of a bundle subscription. -/
def State.bundleSlots (s : State) (i : Nat) : Int × Int := (s.get (Reg.BUNDLE_IN_SLOT_BASE i), s.get (Reg.BUNDLE_IN_CHANNELS i))

/-- The status of a write of ENABLE = 1 on bundle subscription i (R259, R175). -/
def State.bundleStatus (s : State) (i : Nat) : Status :=
  let m := s.getN (Reg.BUNDLE_IN_SOURCE i)
  let x := shelfIndex m
  let r := s.bundleSlots i
  if x < 0x4300 ∨ 0x43FF < x ∨ 8191 < r.1 + r.2 - 1 ∨ slotsMeet r (3072, 64) = true ∨
      (s.flowsOn 0 16384).any (fun f => match s.flowSlots f with | none => false | some q => slotsMeet r q) = true ∨
      (s.elsWith 0x8810 1 1).any (fun j => j != i && slotsMeet r (s.bundleSlots j)) = true then .range
  else if s.remote m && (s.openSub m (bundleUser i)).isNone then .capacity else .ok

/-- STATE and RATE of a bundle subscription (Table 12.14). -/
def State.refreshBundle (s : State) (i : Nat) : State :=
  let m := s.getN (Reg.BUNDLE_IN_SOURCE i)
  if s.get (Reg.BUNDLE_IN_ENABLE i) = 0 then s.put (Reg.BUNDLE_IN_STATE i) 0
  else
    let k : Nat := if s.remote m then ((s.offerOf m).map (·.k)).getD 0 else (if s.progRun.rate = 0 then 5 else 10)
    (s.put (Reg.BUNDLE_IN_STATE i) (if (s.src m).present then 2 else 1)).put (Reg.BUNDLE_IN_RATE i) (b2i (k == 10))

/-- A write of ENABLE takes effect (R259, R180). -/
def State.bundleEnable (s : State) (i : Nat) (v : Int) : State :=
  let m := s.getN (Reg.BUNDLE_IN_SOURCE i)
  let t := s.put (Reg.BUNDLE_IN_ENABLE i) v
  let t := if !s.remote m then t else if v = 1 then (t.openSub m (bundleUser i)).getD t else t.closeSub m (bundleUser i)
  t.refreshBundle i

/-! ### Embedded audio (R255) -/

/-- A frame of a PRESENT lane places its samples; a resynchronisation counts, raises and fades (R255, R257). A frame without embedded
samples has none to place, and compares nothing (DEDUCED, log entry 97). -/
def State.embedFrame (s : State) (n samples : Nat) : State :=
  let p := framePeriod (s.get (Reg.SDI_RX_FORMAT n))
  let st := lfOfLt (s.get (Reg.SDI_RX_FRAME_STAMP n))
  if s.get (Hid.sdiSig n) ≠ 1 ∨ p = 0 then s.put (Hid.embedOn n) 0
  else if samples = 0 then s
  else
    let e := ((st + p / 2) / p * p + 1102499) / 1102500
    let j := s.get (Hid.embedJ n) - 1
    let first := s.get (Hid.embedJ n) == 0
    let sync := first || s.get (Hid.embedOn n) == 0 || decide (2 < (j - e).natAbs)
    let t := (s.put (Hid.embedJ n) ((if sync then e else j) + samples + 1)).put (Hid.embedOn n) 1
    if sync && !first then
      (((t.bump Reg.ENGINE_STATS_EMBED_RESYNCS).slotFade (32 * n) 32 false).raise (256 + n) 3 n)
    else if s.slotFades.any (fun f => f.base == 32 * n && !f.up && decide (f.start < s.now)) then t.slotFade (32 * n) 32 true
    else t

/-! ### The engine (R252, R253) -/

/-- A writer that exists (Table 12.2). -/
def writerHere : Writer → Bool
  | .flow f => decide (f < 16384)
  | .bundle i => decide (i < 256)
  | .aes r => decide (r < 32)
  | .lane n => decide (n < 96)

/-- A writer's precedence (Table 12.2). -/
def writerPrec : Writer → Nat
  | .flow _ => 1 | .bundle _ => 2 | .aes _ => 3 | .lane _ => 4

/-- A slot lies in a range. -/
def inSlots (n : Nat) (r : Int × Int) : Bool := decide (r.1 ≤ n) && decide ((n : Int) < r.1 + r.2)

/-- The input slot that a sample of a writer goes to, where the writer delivers: an enabled flow or bundle subscription its CHANNELS from
SLOT_BASE; a receiver that runs and has a signal its two slots, when TRANSPARENT at the program's rate alone; a lane its 32
(R253, R256, R258, R259). -/
def State.writerSlot (s : State) (x : SampleIn) : Option Nat :=
  let from_ (r : Int × Int) : Option Nat := if (x.channel : Int) < r.2 then some (r.1.toNat + x.channel) else none
  match x.writer with
  | .flow f => if s.get (Reg.FLOW_ENABLE f) = 1 then (s.flowSlots f).bind from_ else none
  | .bundle i => if s.get (Reg.BUNDLE_IN_ENABLE i) = 1 then from_ (s.bundleSlots i) else none
  | .aes r =>
    if s.aesRuns r && s.get (Reg.AES_RX_STATE r) != 0 && (s.get (Reg.AES_RX_MODE r) == 0 || s.get (Reg.AES_RX_RATE r) == s.progRate) then
      from_ (3072 + 2 * r, 2) else none
  | .lane n => from_ (32 * n, 32)

/-- A writer's sample period, and the delay of its placement (Table 12.1). -/
def State.writerTiming (s : State) : Writer → Int × Int
  | .flow f => (if s.get (Reg.FLOW_TYPE f) = 6 then 1102500 else audioPeriod (s.get (Reg.FLOW_AUDIO f)), s.playout f)
  | .bundle i => (if s.get (Reg.BUNDLE_IN_RATE i) = 0 then 1102500 else 551250, 13230000)
  | .aes _ => (sampleLf s.progRun.rate, 0)
  | .lane n => (1102500, ((framePeriod (s.get (Reg.SDI_RX_FORMAT n)) + 1102499) / 1102500 + 2) * 1102500)

/-- A sample is placed at an instant: its time and delay come to it, with 8,820,000 lf more behind a converter, which gives a 48 kHz sample
to two instants of 96 kHz and every other 96 kHz sample to one of 48 kHz; an embedded sample once its frame has been placed (R251, R252,
R255). -/
def State.placedAt (s : State) (x : SampleIn) (at_ : Int) : Bool :=
  let w := s.writerTiming x.writer
  let d := at_ - (if w.1 = sampleLf s.progRun.rate then 0 else 8820000) - w.2 - x.time
  match x.writer with
  | .aes _ => true
  | .lane n => decide (0 ≤ d) && decide (d < w.1) && decide (x.time < (s.get (Hid.embedJ n) - 1) * 1102500)
  | _ => decide (0 ≤ d) && decide (d < w.1)

/-- The precedence of the writer that governs an input slot (R253, Table 12.2). -/
def State.slotWriter (s : State) (n : Nat) : Nat :=
  if (s.flowsOn 0 16384).any (fun f => ((s.flowSlots f).map (inSlots n)).getD false) then 1
  else if (s.elsWith 0x8810 1 1).any (fun i => inSlots n (s.bundleSlots i)) then 2
  else if inSlots n (3072, 64) then 3 else 4

/-- The samples placed at an instant, with their slots. -/
def State.placed (s : State) (ins : List SampleIn) (at_ : Int) : List (Nat × SampleIn) :=
  ins.filterMap (fun x => if s.placedAt x at_ then (s.writerSlot x).map (fun n => (n, x)) else none)

/-- The slots for which a second writer's samples are discarded; each counts once as it becomes so (R253). -/
def State.overlapCount (s : State) (l : List (Nat × SampleIn)) : State :=
  let l := ((l.filter (fun x => writerPrec x.2.writer != s.slotWriter x.1)).map (·.1)).eraseDups
  let new := (l.filter (fun x => !s.overlaps.contains x)).length
  { (s.bumpBy Reg.ENGINE_STATS_OVERLAPS new) with overlaps := l }

/-- What an input slot takes of its writer's sample. Embedded: zero in a channel the link does not deliver (above 16 at HD, and of a group
that is not 48 kHz synchronous), and after an uncorrectable error the previous sample (R130). -/
def State.inputSample (s : State) (n : Nat) (x : SampleIn) : Int :=
  match x.writer with
  | .lane l =>
    if !bitOf (s.getN (Reg.SDI_RX_AUDIO_PRESENT l)) x.channel then 0
    else if x.bad then ((s.audioPrev.find? (fun p => p.1 == n)).map (·.2)).getD 0 else x.value
  | _ => x.value

/-- A sample is a SUBFRAME value (Table 12.2). -/
def State.isSubframe (s : State) (x : SampleIn) : Bool :=
  match x.writer with
  | .flow f => s.get (Reg.FLOW_TYPE f) == 3
  | .bundle _ => x.sub
  | .aes r => s.get (Reg.AES_RX_MODE r) == 1
  | .lane _ => false

/-- The bundle subscriptions whose PRESENT source has no cell held at its placement instant count (R259). -/
def State.bundleMissing (s : State) (l : List (Nat × SampleIn)) (at_ : Int) : State :=
  s.bumpBy Reg.ENGINE_STATS_BUNDLE_MISSING
    (((s.elsWith 0x8810 1 1).filter (fun i =>
      let w := s.writerTiming (.bundle i)
      s.get (Reg.BUNDLE_IN_STATE i) == 2 && (at_ - (if w.1 = sampleLf s.progRun.rate then 0 else 8820000) - w.2) % w.1 == 0 &&
        !l.any (fun x => x.2.writer == .bundle i))).length : Nat)

/-- The waiting paths whose source crosses zero at an instant within ZC_TIMEOUT take their full target (R266). -/
def State.crossings (s : State) (ins buses : List (Nat × Int)) (at_ : Int) : State :=
  s.each (s.paths.filter (fun p => p.ramp.isNone && decide (at_ ≤ p.deadline))) (fun t p =>
    let code := if p.bus then 0x4000 + p.num else ((s.progRun.edges.find? (fun e => e.1 == p.num)).map (fun e => e.2.1)).getD 0
    let v := nodeValue ins buses code
    let was := ((s.audioPrev.find? (fun q => q.1 == code)).map (·.2)).getD 0
    if v = 0 ∨ v * was < 0 then t.setPath p.bus p.num none else t)

/-- The ramps that have ended (R266). -/
def State.endRamps (s : State) (at_ : Int) : State :=
  s.each (s.paths.filter (fun p => match p.ramp with
      | none => false
      | some t0 => decide (msSamples s.progRun.rate ≤ (at_ - t0) / sampleLf s.progRun.rate)))
    (fun t p => t.setPath p.bus p.num none)

/-- The saturations of an instant count; the first in a second raises AUDIO_SATURATION (R267, Table 12.5). -/
def State.saturated (s : State) (n : Nat) : State :=
  if n = 0 then s
  else
    let sec := s.now / lfSec + 1
    let t := s.bumpBy Reg.ENGINE_STATS_SATURATIONS n
    if s.get Hid.satSecond = sec then t else (t.put Hid.satSecond sec).raise 20

/-- A sample instant of the engine (R252 to R254, R264 to R269): it reads the inputs placed at it, runs the program and delivers the
output slots of instant k + 2, the limiters holding 32 more. While AUD does not run, the slots and the bundles carry zero (R271). -/
def State.engineSample (s : State) (raw : List SampleIn) (frames : List AesIn) : State :=
  let ps := sampleLf s.progRun.rate
  let at_ := s.now / ps * ps
  if !s.edge then s
  else if !s.runs 46 then (s.send (.audio (at_ + 2 * ps) [])).bundleCells (at_ + 2 * ps) []
  else
    let s := s.each frames (fun t x => t.aesFrameIn x)
    let l := s.placed raw at_
    let s := (s.overlapCount l).bundleMissing l at_
    let r := (l.filter (fun x => writerPrec x.2.writer == s.slotWriter x.1)).foldl (fun (a : List (Nat × Int) × List (Nat × Int)) x =>
      let v := s.inputSample x.1 x.2
      if s.isSubframe x.2 then ((x.1, pcmOf v true) :: a.1, (x.1, v) :: a.2)
      else ((x.1, if writerPrec x.2.writer ≤ 2 then v else roundEven (v * s.slotLevel x.1 at_) 32768) :: a.1, a.2)) ([], [])
    let t := s.endRamps at_
    let ins := r.1
    let subs := r.2
    let t := t.crossings ins (t.busValues t.progRun ins at_ 8) at_
    let t := t.each (t.paths.filter (fun p => p.ramp.isNone && decide (p.deadline ≤ at_))) (fun u p => u.zcTimeout p.bus p.num)
    let buses := t.busValues t.progRun ins at_ 8
    let sat := (t.progRun.buses.foldl (fun a b => a + (t.nodeSum t.progRun ins buses (0x4000 + b) at_).2) 0) +
      (t.progRun.outs.foldl (fun a o => a + (t.nodeSum t.progRun ins buses (0x8000 + o) at_).2) 0)
    let oldP := match t.audFade with | some f => f.old | none => ⟨0, [], [], 0⟩
    let oldBuses := t.busValues oldP ins at_ 8
    let slots := (t.progRun.outs ++ (if t.audFade.isSome then oldP.outs else []) ++ t.limiters.map (·.slot)).eraseDups
    let value (o : Nat) : Int × Bool :=
      match t.transparent t.progRun subs o at_ with
      | some v => (v, true)
      | none => (t.mixed (sat32 (t.nodeSum oldP ins oldBuses (0x8000 + o) at_).1) (sat32 (t.nodeSum t.progRun ins buses (0x8000 + o) at_).1) at_, false)
    let outs := slots.map (fun o => (o, t.limit o (value o).1 (value o).2))
    let u := t.each outs (fun u x => u.setLimiter x.2.2)
    let given := (outs.map (fun x => (x.1, x.2.1))).filter (fun x => x.2.1 != 0)
    let prev : List (Nat × Int) := (ins ++ buses.map (fun (p : Nat × Int) => (0x4000 + p.1, p.2))).filter (fun p => p.2 != 0)
    let u := { (u.saturated sat) with
      audioPrev := prev
      audFade := match u.audFade with
        | some f => if at_ < f.start + (if f.kind = 0 then 1 else if f.kind = 1 then 2 else 20) * lfMs then some f else none
        | none => none }
    let vals := given.map (fun x => (x.1, x.2.1))
    (((u.put Hid.audInstant (at_ + 1)).send (.audio (at_ + 2 * ps) vals)).aesMedia (at_ + 2 * ps) given).bundleCells (at_ + 2 * ps) vals

/-! ### Slips (R264, R265) -/

/-- The check of an AUDIO_PROGRAM slip (R264). -/
def State.programCheck (s c : State) : Status :=
  if s.get Reg.AUDIO_COMPILE_STATE = 1 then .notReady
  else if s.get Reg.AUDIO_COMPILE_STATE ≠ 2 then .range
  else if c.opLimit s.progShadow.rate < s.progShadow.ops then .capacity else .ok

/-- A program goes into force with a fade of a kind (R264, R271). -/
def State.installProgram (s : State) (p : Prog) (kind : Nat) (b : Int) : State :=
  let old := s.progRun
  let t := { s with progRun := p, audFade := some ⟨kind, b, old⟩, progNext := none,
                    paths := s.paths.filter (fun q => p.has q.bus q.num) }
  let t := (((t.put Reg.AUDIO_COMPILE_RUNNING_ID (progId p)).put Reg.AUDIO_COMPILE_RUNNING_RATE p.rate).put
    Reg.AUDIO_COMPILE_RUNNING_OPERATIONS p.ops)
  t.each ((old.edges ++ p.edges).map (fun e => e.1)).eraseDups (fun u e => u.showEdge e)

/-- An AUDIO_PROGRAM slip takes effect at B. With a change of rate a TRANSPARENT receiver at another rate reads LOCKING, and every
transmitter starts a new block (R258, R264). -/
def State.programApply (s : State) (b : Int) : State :=
  let p := s.progNext.getD s.progShadow
  let t := (s.installProgram p (if p.rate = s.progRun.rate then 0 else 1) b).bump Reg.ENGINE_STATS_SWAPS
  if p.rate = s.progRun.rate then t
  else
    (t.each ((List.range 32).filter (fun r => t.get (Reg.AES_RX_MODE r) == 1 && t.get (Reg.AES_RX_STATE r) == 2 &&
      t.get (Reg.AES_RX_RATE r) != t.progRate)) (fun u r => u.put (Reg.AES_RX_STATE r) 1)).each (List.range 32) (fun u o => u.aesBlock o)

/-- The check of an AUDIO_SET slip against the configuration at B (R265). -/
def State.setCheck (c : State) : Status :=
  let on := c.elsWith 0x8500 1 1
  if on.any (fun p => on.any (fun q => p != q && c.get (Reg.SIDETONE_OUTPUT p) == c.get (Reg.SIDETONE_OUTPUT q)) ||
      c.get (Reg.AES_RX_MODE (c.getN (Reg.SIDETONE_INPUT p))) == 1) then .range else .ok

/-- An AUDIO_SET slip takes effect at B (R265, R266, R269). `old` stands before it; `keys` are the fields it staged. -/
def State.setApply (s old : State) (keys : List Key) (b : Int) : State :=
  let ps := (keys.filterMap (fun k =>
    if k.idx = 0x8200 then some (true, k.el) else if k.idx = 0x8300 then some (false, k.el) else none)).eraseDups
  let t := s.each ps (fun t p => t.pathChange old p.1 p.2 b)
  let side := (keys.filterMap (fun k => if k.idx = 0x8500 then some k.el else none)).eraseDups
  let t := t.each side (fun t p =>
    if old.get (Reg.SIDETONE_GAIN p) ≠ t.get (Reg.SIDETONE_GAIN p) ∧ old.get (Reg.SIDETONE_ENABLE p) = 1 then
      (t.put (Hid.sideFrom p) (old.sideGain p)).put (Hid.sideN p) 0
    else t.put (Hid.sideN p) 48)
  if side = [] then t
  else
    let u := t.refreshSide
    -- a transmitter whose side-tone path starts or stops begins a new block at once (R269)
    u.each ((side.map (fun p => old.getN (Reg.SIDETONE_OUTPUT p)) ++ side.map (fun p => s.getN (Reg.SIDETONE_OUTPUT p))).eraseDups)
      (fun v t => if t < 32 then v.aesBlock t else v)

/-- The return of AUD: the program in force is reloaded and every output slot ramps in; after reset the draft is compiled
and put in force first (R271). -/
def State.audReturn (s : State) : State :=
  let t := { s with limiters := [], slotFades := [], audioPrev := [] }
  if s.get Hid.audLoaded = 1 then { t with audFade := some ⟨2, s.now, ⟨0, [], [], 0⟩⟩ }
  else
    let u := t.put Hid.audLoaded 1
    if s.compileVerdict.1 = .ok then u.installProgram s.compiled 2 s.now else u

end Sys2Proof.Machine
end

