-- ==== Sys2Proof/Machine/Xpt.lean ====
section
/-! DEFINITION. The switch core: outputs, takes, promotion, absent policies and the good-output word
(07_crosspoint.md R140 to R157; 14_twin_and_loan.md R304 to R307). -/
namespace Sys2Proof.Machine

/-- Switching offsets of Table 7.2, by raster code 1 to 16 (R142). -/
def switchOffsets : List Int := [
  30270240, 16934400, 11771760, 11760000, 11289600, 9417408, 9408000, 5644800, 4708704, 4704000, 8467200, 7063056,
  7056000, 5644800, 4708704, 4704000]
/-- The switching offset of a raster code; 0 for OFF. -/
def switchOffset (code : Int) : Int := if 1 ≤ code then (switchOffsets[code.toNat - 1]?).getD 0 else 0

/-- The switching line of a raster code (Table 7.2). -/
def switchLine (code : Nat) : Nat := if code = 1 then 10 else if code = 2 then 6 else if 14 ≤ code then 13 else 7

/-- The lines on which an ST 352 payload ID goes (R135): the second field's too in an interlaced format. -/
def payloadLines (code : Nat) : List Nat :=
  if code = 0 then [] else if code = 1 then [13, 276] else if code = 2 then [9, 322]
  else if 5 ≤ code ∧ code ≤ 7 then [10, 572] else [10]

/-- The policy of an output: ABSENT, MATTE, UNTIMED and FREEZE_LIMIT, from `5200` or an egress flow's record (R140,
Table 7.7). -/
def State.policyOf (s : State) (e : Nat) : Int × Int × Int × Int :=
  if e < 96 then
    (s.get (Reg.OUT_POLICY_ABSENT e), s.get (Reg.OUT_POLICY_MATTE e), s.get (Reg.OUT_POLICY_UNTIMED e),
      s.get (Reg.OUT_POLICY_FREEZE_LIMIT e))
  else
    let f := 32768 + e - 96
    (s.get (Reg.FLOW_ABSENT f), s.get (Reg.FLOW_MATTE f), s.get (Reg.FLOW_UNTIMED f), s.get (Reg.FLOW_FREEZE_LIMIT f))

/-- The raster code of an output; 0 while its raster is OFF or none. -/
def State.outFormat (s : State) (e : Nat) : Nat :=
  let r := s.outRaster e
  if s.rasterPeriod r = 0 then 0 else s.getN (Reg.RASTER_FORMAT r)

/-- Promotion units a source takes; none for a 4320p quad 12G group, which is never promoted (R150). -/
def promoUnits (x : SrcInfo) : Option Nat :=
  if x.rate = 5 ∧ x.links = 4 then none
  else if 14 ≤ x.format then some 4
  else if x.rate = 4 then some 2
  else some 1

/-- The entry of the promotion store for a source on a raster (R150). -/
def State.promoOf (s : State) (m r : Nat) : Option Promo := s.promos.find? (fun p => p.shelf == m && p.raster == r)

/-- Units held in the promotion store. -/
def State.promoUsed (s : State) : Nat := (s.promos.map (fun (p : Promo) => p.units)).sum

/-- The store has an entry for a source on a raster, or room for one (R150). -/
def State.promoFits (s : State) (m r : Nat) : Bool :=
  (s.promoOf m r).isSome ||
    (match promoUnits (s.src m) with
     | none => false
     | some u => decide (s.promoUsed + u ≤ 8))

/-- An output uses an entry of the promotion store, created if none stands (R150, `5400:02`, `:03`). -/
def State.promote (s : State) (m r e : Nat) : State :=
  match s.promoOf m r with
  | some _ =>
    { s with promos := s.promos.map (fun (p : Promo) =>
        if p.shelf = m ∧ p.raster = r ∧ p.outs.contains e = false then { p with outs := p.outs ++ [e] } else p) }
  | none =>
    let p : Promo := ⟨m, r, (promoUnits (s.src m)).getD 1, [s.lastStamp m], -1, [e]⟩
    let t := { s with promos := s.promos ++ [p] }
    (t.put Reg.XPT_STORE_PROMOTE_USED (t.promoUsed : Nat)).bump Reg.XPT_STORE_PROMOTIONS

/-- The promotion store writes each frame of a source by its delivery stamp (R149, R150). -/
def State.promoFrames (s old : State) : State :=
  { s with promos := s.promos.map (fun (p : Promo) =>
      let a := s.lastStamp p.shelf
      if (s.src p.shelf).present && decide (a ≠ old.lastStamp p.shelf) then { p with frames := (a :: p.frames).take 8 } else p) }

/-- An output still uses an entry: its selection, or that of a LAUNCHED TAKE slip on it, names the source on the raster, and its policy
promotes (R150). -/
def State.promoUser (s : State) (p : Promo) (e : Nat) : Bool :=
  (s.policyOf e).2.2.1 == 1 &&
    ((s.get (Reg.XPT_OUT_SELECT e) == 1 && s.getN (Reg.XPT_OUT_SOURCE e) == p.shelf && s.outRaster e == p.raster) ||
      s.slips.any (fun x => decide (x.st = .launched) && x.kind == 1 && x.target == e &&
        x.items.any (fun i => i.1 == Reg.XPT_OUT_SOURCE e && i.2 == (p.shelf : Int))))

/-- The promotion entries on raster r at its boundary: the unused are freed, the others choose a frame (R148 to R150). -/
def State.promoBoundary (s : State) (r : Nat) : State :=
  let bf := lfOfLt (s.get (Reg.RASTER_LAST_BOUNDARY r))
  let kept : List Promo := s.promos.filterMap (fun (p : Promo) =>
    if p.raster ≠ r then some p
    else
      let o := p.outs.filter (fun e => s.promoUser p e)
      if o = [] then none else some { p with outs := o })
  let t := { s with promos := kept }
  let t := t.put Reg.XPT_STORE_PROMOTE_USED (t.promoUsed : Nat)
  t.each (kept.filter (fun p => p.raster == r)) (fun t p =>
    let own := max p.delivered (latestBy p.frames (bf - routeLead))
    let own := if own ≤ 0 then p.delivered else own
    let c := t.compare 3 (p.shelf * 32 + p.raster) (t.get (Reg.RASTER_FRAME_INDEX r)) own
    let f := nearFrame (p.delivered :: p.frames) c.2.1
    { c.1 with promos := c.1.promos.map (fun (q : Promo) =>
        if q.shelf = p.shelf ∧ q.raster = p.raster then { q with delivered := f } else q) })

/-- What an output's selection delivers for a frame boundary: present, delivery stamp minus route point, and the stamp of
the frame. Absent by R151; a PAST selection's stamp is the route point (R146). -/
structure Feed where
  present : Bool
  timing : Int
  stamp : Int
deriving DecidableEq, Repr

/-- A canvas's tile is carried: its canvas RUNNING (R151, R156). -/
def State.tileRuns (s : State) (t : Nat) : Bool :=
  decide (t < 1024) && decide (s.get (Reg.TILE_CANVAS t) < 256) &&
    s.get (Reg.CANVAS_STATE (s.getN (Reg.TILE_CANVAS t))) == 1

/-- The feed of output e at boundary `bf`. -/
def State.feed (s : State) (e : Nat) (bf : Int) : Feed :=
  let p := s.rasterPeriod (s.outRaster e)
  let sel := s.get (Reg.XPT_OUT_SELECT e)
  let m := s.getN (Reg.XPT_OUT_SOURCE e)
  if sel = 1 then
    let x := s.src m
    ⟨x.present, s.timingOf x bf p, s.stampFor x bf⟩
  else if sel = 2 then
    (match s.recOf m with
     | none => ⟨false, 0, 0⟩
     | some r =>
       (match s.readPast r bf (s.get (Reg.XPT_OUT_SPAN e)) with
        | none => ⟨false, 0, 0⟩
        | some f => ⟨true, 0, f.1⟩))
  else if sel = 3 then
    let t := s.getN (Reg.XPT_OUT_TILE e)
    let r := s.getN (Reg.CANVAS_RASTER (s.getN (Reg.TILE_CANVAS t)))
    ⟨s.tileRuns t, reducePhase (-(s.fromBoundary r bf)) p, bf - s.fromBoundary r bf - routeLead⟩
  else ⟨false, 0, 0⟩

/-- SAFE mutes the pictures of a device at boundary `bf`: a switching line at least 752,640 lf after the entry lies before
it (R338). -/
def State.mutedAt (s : State) (r : Nat) (bf : Int) : Bool :=
  s.edge && s.get Reg.SAFE_REACTION == 5 &&
    decide (s.get Hid.safeAt + 752640 ≤ bf - s.rasterPeriod r + switchOffset (s.get (Reg.RASTER_FORMAT r)))

/-- What the embedded audio of output e is made of: (−1, 0) silence; (−2, b) the output slots from b, under BREAKAWAY; else the source
whose audio the follow feed carries, with its SPAN for a past selection whose recorder keeps audio (R152, R154). -/
def State.followFeed (s : State) (e : Nat) : Int × Int :=
  let st := s.get (Reg.XPT_OUT_STATUS e)
  let m := s.getN (Reg.XPT_OUT_SOURCE e)
  let sel := s.get (Reg.XPT_OUT_SELECT e)
  let keeps := match s.recOf m with | none => false | some r => s.get (Reg.RECORDER_CONTENT r) == 1
  if s.get (Reg.EMBED_MODE e) ≠ 2 then (-1, 0)
  else if s.get (Reg.XPT_OUT_AUDIO e) = 1 then (-2, s.get (Reg.EMBED_SLOT_BASE e))
  else if (st = 1 ∨ st = 4) ∧ sel = 1 ∧ shelfIndex m ≤ 0x5F then (m, 0)
  else if (st = 1 ∨ st = 4) ∧ sel = 2 ∧ keeps = true then (m, s.get (Reg.XPT_OUT_SPAN e))
  else (-1, 0)

/-- PASS is in effect (R136, `3500:04`). -/
def State.passActive (s : State) (e : Nat) : Bool :=
  let x := s.src (s.getN (Reg.XPT_OUT_SOURCE e))
  let st := s.get (Reg.XPT_OUT_STATUS e)
  let b := s.txBase e
  s.get (Reg.EMBED_MODE e) == 1 && s.get (Reg.XPT_OUT_SELECT e) == 1 && (st == 1 || st == 4) &&
    decide (shelfIndex (s.getN (Reg.XPT_OUT_SOURCE e)) ≤ 0x5F) && x.rate == s.getN (Reg.SDI_TX_RATE b) &&
    x.links == s.getN (Reg.LINK_GROUP_TX_SIZE b) && (x.rate != 3 || x.level == s.getN (Reg.SDI_TX_LEVEL b)) &&
    (x.links != 4 || x.division == s.getN (Reg.SDI_TX_DIVISION b))

/-- PASS is in effect on a transmitter that sends (`3500:04`). -/
def State.passNow (s : State) (e : Nat) : Bool := s.passActive e && s.get (Reg.SDI_TX_STATE e) == 1

/-- After a change of what output e carries its embedded audio fades (R152, R154). `old` stands before the change; the fade starts at
`at_`. -/
def State.audioFollows (s old : State) (e : Nat) (at_ : Int) : State :=
  if 96 ≤ e then s
  else s.when (s.get (Reg.EMBED_MODE e) == 2 && decide (old.followFeed e ≠ s.followFeed e))
    (fun u => u.send (.follow e (old.followFeed e) (s.followFeed e) at_))

/-- The fault source of an untimed output: the output's, or path A's MAC of an egress flow (Table 16.4). -/
def State.untimedSource (s : State) (e : Nat) : Nat :=
  if e < 96 then 400 + e else 578 + s.getN (Reg.FLOW_MAC (32768 + e - 96))

/-- TAKE_UNTIMED is raised for an output (R150). -/
def State.raiseUntimed (s : State) (e : Nat) : State :=
  s.raise (s.untimedSource e) (if e < 96 then 1 else 2) e

/-- What an output shows under its absent policy from boundary `bf` (R152, Table 7.9): 0 black, 2 the frozen frame, 3
MATTE. FREEZE needs the output store's HBM and a complete frame that the output has carried. -/
def State.policyShows (s : State) (e : Nat) (at_ : Int) : Nat :=
  let q := s.policyOf e
  let since := s.get (Hid.outSince e) - 1
  if q.1 = 3 then 3
  else if (q.1 = 1 ∨ q.1 = 2) ∧ s.get (Hid.outWhole e) ≠ 0 ∧ s.runs (32 + (if e < 96 then e / 48 else e % 2)) = true ∧
      (q.2.2.2 = 0 ∨ s.get (Hid.outSince e) = 0 ∨ at_ < since + q.2.2.2) then 2
  else 0

/-- Output e is under its absent policy from `bf`, with a STATUS (R150, R151). -/
def State.underPolicy (s : State) (e : Nat) (bf : Int) (status : Int) : State :=
  let t := s.when (s.get (Hid.outSince e) == 0) (fun u => u.put (Hid.outSince e) (bf + 1))
  (t.put (Reg.XPT_OUT_STATUS e) status).put (Hid.outShow e) (t.policyShows e bf)

/-- Output e carries a frame of its selection (R151, Table 7.9). -/
def State.carries (s : State) (e : Nat) (status stamp : Int) : State :=
  ((((s.put (Reg.XPT_OUT_STATUS e) status).put (Hid.outShow e) 1).put (Hid.outSince e) 0).put (Hid.outUntimed e) 0).put
    (Hid.outLast e) (stamp + 1)

/-- Output e's selection is timed at the boundary its feed was found for: as already found, else by a comparison (R146, R148). -/
def State.timedVerdict (s : State) (e : Nat) (f : Feed) (known : Option Bool) : State × Bool :=
  match known with
  | some b => (s, b)
  | none =>
    let c := s.compare 0 e (s.get (Reg.RASTER_FRAME_INDEX (s.outRaster e))) (b2i (timedBy f.timing))
    (c.1, c.2.1 == 1)

/-- Output e treats its selection for boundary `bf` (R146, R148, R150, R151). `known`: whether it was found timed already. The flag of
the answer: the source is found untimed and is treated under REPORT. -/
def State.settleOutput (s : State) (e : Nat) (bf : Int) (known : Option Bool) : State × Bool :=
  if s.get (Reg.XPT_OUT_SELECT e) = 0 then
    (((((s.put (Reg.XPT_OUT_STATUS e) 0).put (Hid.outShow e) 0).put (Hid.outSince e) 0).put (Hid.outUntimed e) 0), false)
  else
    let f := s.feed e bf
    let m := s.getN (Reg.XPT_OUT_SOURCE e)
    let r := s.outRaster e
    let promotes := (s.policyOf e).2.2.1 == 1 && s.get (Reg.XPT_OUT_SELECT e) == 1
    if !f.present then ((s.underPolicy e bf 2).put (Hid.outUntimed e) 0, false)
    else
      match (s.promoOf m r).filter (fun p => promotes && p.outs.contains e) with
      | some p =>
        if p.delivered < 0 then (s.underPolicy e bf 3, false)
        else ((s.put (Reg.XPT_OUT_TIMING e) 0).carries e 4 p.delivered, false)
      | none =>
        let c := s.timedVerdict e f known
        let t := c.1.put (Reg.XPT_OUT_TIMING e) f.timing
        if c.2 then (t.carries e 1 f.stamp, false)
        else if promotes && t.promoFits m r then ((t.promote m r e).underPolicy e bf 3, false)
        else (t.underPolicy e bf 3, true)

/-- The source of output e was timed until now and is found untimed under REPORT: TAKE_UNTIMED (R150). -/
def State.noteUntimed (s : State) (e : Nat) (report : Bool) : State :=
  if report ∧ s.get (Hid.outUntimed e) = 0 then (s.put (Hid.outUntimed e) 1).raiseUntimed e else s

/-- The output sends: a serial transmitter ACTIVE, or an egress flow SENDING, with X running (Table 7.9, R138). -/
def State.outputSends (s : State) (e : Nat) : Bool :=
  s.runs 5 && (if e < 96 then s.get (Reg.SDI_TX_STATE e) == 1 else s.get (Reg.FLOW_STATE (32768 + e - 96)) == 1)

/-- Serial transmitters of output e's group leave idle at an EAV once their conditions hold (R138). -/
def State.txWake (s : State) (e : Nat) : State :=
  if 96 ≤ e ∨ s.txBase e ≠ e then s
  else s.each (groupLanes e (s.getN (Reg.LINK_GROUP_TX_SIZE e))) (fun t k => t.when (t.txWant k) (fun u => u.txSet k true))

/-- Words of one line of an output's link (R403): the words of its link rate in a line period. -/
def State.lineWords (s : State) (o : Nat) : Nat :=
  let fmt := s.outFormat o
  let rate := s.get (Reg.SDI_TX_RATE o)
  let words : Int := if rate = 1 then 27000000 else if rate = 2 then 148500000 else if rate = 3 then 297000000
    else if rate = 4 then 594000000 else 1188000000
  let frac := fmt == 3 || fmt == 6 || fmt == 9 || fmt == 12 || fmt == 15
  (words * linePeriod fmt * (if frac then 1000 else 1001) / (1001 * lfSec)).toNat

/-- The lines of a frame of a serial output pass the injection entries of SERIAL_TX (Table 20.2). -/
def State.injectLines (s : State) (o : Nat) : State :=
  if 96 ≤ o then s
  else
    let p := s.rasterPeriod (s.outRaster o)
    let l := linePeriod (s.outFormat o)
    s.injectBare 4 o (10 * s.lineWords o) (p / max l 1).toNat

/-! ### What an output sends (R135, R136, R143, R152) -/

/-- The passed ancillary packets of the frame output e carries: of a serial input of this device, or of an ESSENCE folio through a playback
head; those of a remote stream ride in its cells' words, which are free (R129, R152, log entry 90). -/
def State.outPassed (s : State) (e : Nat) (stamp : Int) : List AncPkt :=
  let m := s.getN (Reg.XPT_OUT_SOURCE e)
  let i := shelfIndex m
  if s.get (Reg.XPT_OUT_SELECT e) = 2 then
    s.headPassed (s.getN (Reg.XPT_OUT_HEAD e)) (((s.recOf m).map s.recIndex).getD [])
  else if s.get (Reg.XPT_OUT_SELECT e) = 1 ∧ shelfSlot m = s.slot then
    (if i ≤ 0x5F then s.passedOf i (if s.get (Hid.syncOn i) = 1 then s.get (Hid.syncLast i) else stamp)
     else if 0x4100 ≤ i ∧ i < 0x4200 then s.headPassed (i - 0x4100) (s.headEntries (i - 0x4100))
     else [])
  else []

/-- The embedded audio of output e: its kind, and the audio groups with their first slot or channel (R136, R154). None at SD (R120). -/
def State.embedOf (s : State) (e : Nat) : Nat × List (Nat × Nat) :=
  let mode := s.get (Reg.EMBED_MODE e)
  let groups := (List.range 8).filter (fun g => bitOf (s.getN (Reg.EMBED_GROUPS e)) g)
  if 96 ≤ e ∨ s.get (Reg.SDI_TX_RATE e) = 1 ∨ mode = 0 then (0, [])
  else if mode = 1 then (if s.passNow e then (1, []) else (0, []))
  else if s.get (Reg.XPT_OUT_AUDIO e) = 1 then (2, groups.map (fun g => (g + 1, s.getN (Reg.EMBED_SLOT_BASE e) + 4 * g)))
  else (3, groups.map (fun g => (g + 1, 4 * g + 1)))

/-- The passed packets that fit beside what the device inserts, in order, and how many are dropped: inserted payload IDs and audio come
first, and no audio stands on the switching line or the line after it (R135). -/
def State.ancSend (s : State) (e : Nat) (l : List AncPkt) : List AncPkt × Nat :=
  let fmt := s.outFormat e
  let ids := if s.get (Reg.SDI_TX_PAYLOAD_ID e) = 0 then payloadLines fmt else []
  let groups := (s.embedOf e).2.length
  l.foldl (fun (a : List AncPkt × Nat) p =>
    let quiet := p.line == switchLine fmt || p.line == switchLine fmt + 1
    let room := Config.ancRoom (s.getN (Reg.SDI_TX_RATE e)) fmt p.line p.space (ids.contains p.line) (if quiet then 0 else groups)
    let used := ((a.1.filter (fun q => q.line == p.line && q.space == p.space)).map (fun (q : AncPkt) => q.words)).sum
    if used + p.words ≤ room then (a.1 ++ [p], a.2) else (a.1, a.2 + 1)) ([], 0)

/-- The lines of the frame output e carries that go out black: those its source never delivered; every line, where a source that runs
without a store has delivered no frame for this boundary (R149, R151). -/
def State.blackLines (s : State) (e : Nat) (stamp : Int) : List (Nat × Nat) :=
  let r := s.outRaster e
  let bf := lfOfLt (s.get (Reg.RASTER_LAST_BOUNDARY r))
  let m := s.getN (Reg.XPT_OUT_SOURCE e)
  let i := shelfIndex m
  if s.get (Reg.XPT_OUT_SELECT e) ≠ 1 then []
  else if shelfSlot m = s.slot ∧ i ≤ 0x5F ∧ s.get (Hid.syncOn i) = 1 then s.missingLines m (s.get (Hid.syncLast i))
  else if s.get (Reg.XPT_OUT_STATUS e) = 1 ∧ (s.src m).raster = none ∧ 2 * stamp + s.rasterPeriod r < 2 * (bf - routeLead) then [(1, 0)]
  else s.missingLines m stamp

/-- What output e sends from a line on, and how many passed packets find no room. -/
def State.outputPicture (s : State) (e line : Nat) : OutPicture × Nat :=
  let bf := lfOfLt (s.get (Reg.RASTER_LAST_BOUNDARY (s.outRaster e)))
  let shows : Nat := if s.mutedAt (s.outRaster e) bf && decide (e < 96) then 0
    else if s.get (Reg.XPT_OUT_STATUS e) = 0 then 4 else s.getN (Hid.outShow e)
  let stamp := if shows = 1 then s.get (Hid.outLast e) - 1 else if shows = 2 then s.get (Hid.outWhole e) - 1 else 0
  let a := if shows = 1 ∧ e < 96 then s.ancSend e ((s.outPassed e stamp).filter (fun p => decide (line ≤ p.line))) else ([], 0)
  let ids := if e < 96 ∧ s.get (Reg.SDI_TX_PAYLOAD_ID e) = 0 then payloadLines (s.outFormat e) else []
  (⟨e, line, shows, stamp, if shows = 3 then (s.policyOf e).2.1.toNat else 0, if shows = 1 then s.blackLines e stamp else [], a.1, ids,
    (s.embedOf e).1, (s.embedOf e).2⟩, a.2)

/-- Output e sends from a line on (R135, R143); packets that find no room count (`3300:07`). -/
def State.emitOutput (s : State) (e line : Nat) : State :=
  let p := s.outputPicture e line
  (s.when (p.2 != 0) (fun t => t.bumpBy (Reg.SDI_STATS_ANC_DROPPED e) p.2)).send (.output p.1)

/-- The first line of output e's frame that begins at or after an instant. -/
def State.lineFrom (s : State) (e : Nat) (at_ : Int) : Nat :=
  let l := max 1 (linePeriod (s.outFormat e))
  ((at_ - lfOfLt (s.get (Reg.RASTER_LAST_BOUNDARY (s.outRaster e))) + l - 1) / l).toNat + 1

/-- Lines that a source has failed to deliver since `old`: each output that carries that frame sends them black (R151). -/
def State.cutsShown (s old : State) : State :=
  if s.cuts = old.cuts then s
  else
    s.each (s.cuts.filter (fun c => !old.cuts.contains c)) (fun t c =>
      t.each ((t.elsWith 0x5100 2 c.shelf).filter (fun e => t.outputSends e && (decide (96 ≤ e) || t.txBase e == e) &&
          t.get (Reg.XPT_OUT_SELECT e) == 1 && t.get (Hid.outShow e) == 1 && decide (t.get (Hid.outLast e) = c.stamp + 1)))
        (fun u e => u.emitOutput e (if c.last = 0 then c.first else c.last)))

/-- The frame that ends at a boundary was carried whole from its first line on: it is the last complete frame (R152). -/
def State.frameWhole (s : State) (e : Nat) : State :=
  let f := s.get (Hid.outFrame e)
  s.when (decide (f ≠ 0) && s.get (Hid.outShow e) == 1 && decide (s.blackLines e (f - 1) = [])) (fun t => t.put (Hid.outWhole e) f)

/-- The LAUNCHED TAKE whose switching instant lies in the frame of output e that begins at `bf`: its source's timing for that frame is
found at its boundary, and the left twin tells it (R143, R146, R148). -/
def State.takeLook (s : State) (e : Nat) (bf : Int) : State :=
  let p := s.rasterPeriod (s.outRaster e)
  match s.slips.find? (fun x => decide (x.st = .launched) && x.kind == 1 && x.target == e &&
      (match x.boundary with | none => false | some b => decide (bf ≤ b / 4096) && decide (b / 4096 < bf + p))) with
  | none => s
  | some x =>
    let c := s.each x.items (fun t i => t.put i.1 i.2)
    let f := c.feed e bf
    if c.get (Reg.XPT_OUT_SELECT e) = 0 ∨ f.present = false then s
    else
      let v := s.compare 5 e (s.get (Reg.RASTER_FRAME_INDEX (s.outRaster e))) (b2i (timedBy f.timing))
      v.1.put (Hid.takeTimed e) (1 + v.2.1)

/-- A frame boundary of output e's raster (R146, R150 to R152). -/
def State.outputFrame (s : State) (e : Nat) : State :=
  let r := s.outRaster e
  let bf := lfOfLt (s.get (Reg.RASTER_LAST_BOUNDARY r))
  let w := s.txWake e
  -- one frame boundary after the last value of a reconciliation the good bit is released (R296)
  let w := w.when (decide (e < 96) && w.get Reg.PAIRING_STATE != 3 && w.reconSlips == []) (fun u => u.put (Hid.reconHold e) 0)
  if s.rasterPeriod r = 0 ∨ w.outputSends e = false ∨ (e < 96 ∧ s.txBase e ≠ e) then w
  else
    let a := (w.frameWhole e).settleOutput e bf none
    let t := a.1.noteUntimed e a.2
    let st := t.get (Reg.XPT_OUT_STATUS e)
    let t := t.put (Hid.outFrame e) (if t.get (Hid.outShow e) = 1 then t.get (Hid.outLast e) else 0)
    let t := t.when (st == 2 || st == 3) (fun u => u.bump (Reg.XPT_OUT_ABSENT_FRAMES e))
    let t := if e < 96 then t.each ((groupLanes e (t.getN (Reg.LINK_GROUP_TX_SIZE e))).filter (fun k => t.get (Reg.SDI_TX_STATE k) == 1))
      (fun u k => u.bump (Reg.SDI_STATS_FRAMES_TX k)) else t
    let t := if t.get (Reg.XPT_OUT_SELECT e) = 2 ∧ t.getN (Reg.XPT_OUT_HEAD e) < 256 then
        (let m := t.getN (Reg.XPT_OUT_SOURCE e)
         match t.recOf m with
         | none => t.headShow (t.getN (Reg.XPT_OUT_HEAD e)) none
         | some q => t.headShow (t.getN (Reg.XPT_OUT_HEAD e)) (t.readPast q bf (t.get (Reg.XPT_OUT_SPAN e))))
      else t
    (((t.audioFollows s e bf).injectLines e).emitOutput e 1).takeLook e bf

/-- FREEZE, or KEEP acting as FREEZE, has lasted FREEZE_LIMIT: black from the next line on (Table 7.7). -/
def State.freezeExpiry (s : State) (e : Nat) : State :=
  let q := s.policyOf e
  if s.get (Hid.outShow e) = 2 ∧ s.get (Hid.outSince e) ≠ 0 ∧ q.2.2.2 ≠ 0 ∧ s.get (Hid.outSince e) - 1 + q.2.2.2 ≤ s.now then
    (let t := s.put (Hid.outShow e) 0
     if t.outputSends e then t.emitOutput e (t.lineFrom e (s.get (Hid.outSince e) - 1 + q.2.2.2)) else t)
  else s

/-! ### The take -/

/-- HEAD_BUSY: the head serves another output, or a STACKS slip holds it, now or in the configuration with every LAUNCHED
slip (Table 7.4, R282). -/
def State.headBusy (s all : State) (h e : Nat) : Bool :=
  decide (256 ≤ h) || s.get (Reg.HEAD_MODE h) != 0 || all.get (Reg.HEAD_MODE h) != 0 ||
    (s.boundTo h).any (· != e) || (all.boundTo h).any (· != e)

/-- The islands a selection needs (Table 7.4, reason 13; R26): X; those that hold a source of this device, the synchroniser it passes
through, the head and the recorder's home it is read by, the slices of its canvas. -/
def State.selectionIslands (c : State) (e : Nat) : List Nat :=
  let m := c.getN (Reg.XPT_OUT_SOURCE e)
  let sel := c.get (Reg.XPT_OUT_SELECT e)
  let i := shelfIndex m
  let slices (t : Nat) : List Nat :=
    if t < 1024 ∧ c.get (Reg.TILE_CANVAS t) < 256 then (c.canvasSlices (c.getN (Reg.TILE_CANVAS t))).map (· + 38) else []
  [5] ++
  (if sel = 1 ∧ c.remote m = false then
    (if i ≤ 0x5F then (7 + i / 8) :: (if c.syncWanted i then [32 + i / 48] else [])
     else if 0x100 ≤ i ∧ i < 0x4100 then [6]
     else if 0x4100 ≤ i ∧ i < 0x4200 then
       (match c.headCost (i - 0x4100) with | some d => if d.1 < 4 then [34 + d.1] else [] | none => [])
     else if 0x4200 ≤ i ∧ i < 0x4300 then (match c.offerTile (i - 0x4200) with | some t => slices t | none => [])
     else [])
   else if sel = 2 then
    (match c.recOf m with
     | none => []
     | some r => if c.getN (Reg.RECORDER_HOME_IN_FORCE r) < 4 then [34 + c.getN (Reg.RECORDER_HOME_IN_FORCE r)] else [])
   else if sel = 3 then slices (c.getN (Reg.XPT_OUT_TILE e))
   else [])

/-- Two structures are one link structure (R134). -/
def State.structureFits (c : State) (x : SrcInfo) (e : Nat) : Bool :=
  let b := c.txBase e
  x.every || (x.rate == c.getN (Reg.SDI_TX_RATE b) && x.links == c.getN (Reg.LINK_GROUP_TX_SIZE b) &&
    (x.rate != 3 || x.level == 0 || x.level == c.getN (Reg.SDI_TX_LEVEL b)) &&
    (x.links != 4 || x.division == c.getN (Reg.SDI_TX_DIVISION b)))

/-- An output in ROUTE mode would be left with a source of another link structure (R134). -/
def State.routeClash (c : State) (e : Nat) : Bool :=
  let x := c.src (c.getN (Reg.XPT_OUT_SOURCE e))
  c.get Reg.MODE_ACTIVE == 1 && decide (e < 96) && c.get (Reg.XPT_OUT_SELECT e) == 1 && decide (x.format ≠ 0) && !c.structureFits x e

/-- The timing of a TAKE's source at its check point, where it has one: `s` stands at C, `c` at B. The left twin tells what it finds
(R144, R148, R440). -/
def State.takeCompare (s c : State) (e : Nat) : State :=
  let r := c.outRaster e
  let f := c.feed e (lfOfLt (s.get (Reg.RASTER_LAST_BOUNDARY r)))
  if c.get (Reg.XPT_OUT_SELECT e) = 1 ∧ f.present = true ∧ c.timingKnown (c.getN (Reg.XPT_OUT_SOURCE e)) = true then
    (let v := s.compare 4 e (s.get (Reg.RASTER_FRAME_INDEX r)) (b2i (timedBy f.timing))
     v.1.put (Hid.takeAtC e) (1 + v.2.1))
  else s.put (Hid.takeAtC e) 0

/-- The reasons of Table 7.4 that hold for a take on output e: `s` stands at C, `c` at B, `all` with every LAUNCHED slip
(R144, R244, R282, R440). -/
def State.takeReasons (s c all : State) (e : Nat) : List Nat :=
  let sel := c.get (Reg.XPT_OUT_SELECT e)
  let m := c.getN (Reg.XPT_OUT_SOURCE e)
  let r := c.outRaster e
  let p := c.rasterPeriod r
  let x := c.src m
  let bf := lfOfLt (s.get (Reg.RASTER_LAST_BOUNDARY r))
  let f := c.feed e bf
  let named := sel == 1 || sel == 2
  let promote := sel == 1 && s.get (Hid.takeAtC e) == 1 && (c.policyOf e).2.2.1 == 1 &&
    !(c.promos.any (fun (q : Promo) => q.shelf == m && q.raster == r))
  let wrongType := decide (96 ≤ e) && !(c.get (Reg.FLOW_TYPE (32768 + e - 96)) == 1 || c.get (Reg.FLOW_TYPE (32768 + e - 96)) == 6)
  let rec_ := c.recOf m
  let fmt : Nat := if sel = 2 then (match rec_ with | none => x.format | some q => c.recFormat q) else x.format
  let span := c.get (Reg.XPT_OUT_SPAN e)
  let t := c.getN (Reg.XPT_OUT_TILE e)
  let depth : Int := match rec_ with | none => 0 | some q => c.get (Reg.RECORDER_DEPTH q)
  let hold (b : Bool) (n : Nat) : List Nat := if b then [n] else []
  hold (decide (sel ≠ 0) && (c.policyOf e).1 == 2 && !f.present) 1 ++
  hold (named && !(x.offered && indexValid (shelfIndex m))) 2 ++
  hold (named && (wrongType || (if fmt = 0 then sel == 1 && f.present else fmt != c.outFormat e))) 3 ++
  hold (c.routeClash e) 4 ++
  hold (sel == 2 && rec_.isNone) 5 ++
  hold (sel == 2 && (decide (0 ≤ span) || decide (-span < 2 * p) || (rec_.isSome && decide (depth < -span)))) 6 ++
  hold (sel == 2 && s.headBusy all (c.getN (Reg.XPT_OUT_HEAD e)) e) 7 ++
  hold (sel == 3 && (wrongType || decide (1024 ≤ t) || decide (255 < c.get (Reg.TILE_CANVAS t)) ||
    c.canvasStateOf (c.getN (Reg.TILE_CANVAS t)) != 1 || c.canvasFormat (c.getN (Reg.TILE_CANVAS t)) != c.outFormat e ||
    c.tileOverflows t e || all.tileOverflows t e)) 8 ++
  hold (sel == 1 && c.remote m && ((all.subOf m).isNone || !s.pathRoom m)) 9 ++
  hold (promote && (promoUnits x).isSome && !c.promoFits m r) 10 ++
  hold (decide (e < 96) && c.get (Reg.XPT_OUT_AUDIO e) == 1 && c.get (Reg.EMBED_MODE e) == 1) 11 ++
  hold (decide (e < 96) && decide (c.txBase e ≠ e)) 12 ++
  hold ((c.selectionIslands e).any (fun i => !s.up i)) 13 ++
  hold (promote && (promoUnits x).isNone) 14

/-- The status of a reason (Table 7.4). -/
def reasonStatus (n : Nat) : Status :=
  if n = 0 then .ok else if n = 4 then .wrongMode else if n = 9 ∨ n = 10 then .capacity else if n = 13 then .notReady else .range

/-- The reason to report: its status comes first under R53; of one status the lower number. -/
def firstReason (l : List Nat) : Nat :=
  if l.contains 4 then 4 else if l.contains 13 then 13
  else (((l.filter (fun n => reasonStatus n == .range)) ++ (l.filter (fun n => reasonStatus n == .capacity))).head?).getD 0

/-- The check of a TAKE slip at its check point (R144). -/
def State.takeCheck (s c all : State) (e : Nat) : Nat := firstReason (s.takeReasons c all e)

/-- On launch a take reserves its fabric path and subscription, its promotion entry, and its head (R143, R150). -/
def State.takeLaunch (s c : State) (e : Nat) : State :=
  let m := c.getN (Reg.XPT_OUT_SOURCE e)
  let r := c.outRaster e
  let sel := c.get (Reg.XPT_OUT_SELECT e)
  let t := if sel = 1 ∧ c.remote m = true then (s.openSub m e).getD s else s
  let t := if sel = 1 ∧ s.get (Hid.takeAtC e) = 1 ∧ (c.policyOf e).2.2.1 = 1 then t.promote m r e else t
  let t := t.put (Hid.takeTimed e) 0
  let h := c.getN (Reg.XPT_OUT_HEAD e)
  if sel = 2 ∧ h < 256 then (t.put (Reg.HEAD_STATE h) 1).put (Reg.HEAD_OUTPUT h) e else t

/-- A TAKE selects exactly what its output already carries (R145): the same selection, by the fields it reads, and the same AUDIO. -/
def State.sameSelection (s old : State) (e : Nat) : Bool :=
  let same (k : Key) : Bool := s.get k == old.get k
  let sel := s.get (Reg.XPT_OUT_SELECT e)
  same (Reg.XPT_OUT_SELECT e) && same (Reg.XPT_OUT_AUDIO e) &&
    (if sel = 1 then same (Reg.XPT_OUT_SOURCE e)
     else if sel = 2 then same (Reg.XPT_OUT_SOURCE e) && same (Reg.XPT_OUT_SPAN e) && same (Reg.XPT_OUT_HEAD e)
     else if sel = 3 then same (Reg.XPT_OUT_TILE e) else true)

/-- The timing of the new selection for the frame of the switch: as its boundary found it, else by a comparison at B (R143, R148). -/
def State.takeVerdict (s : State) (e : Nat) (bf : Int) : State × Bool :=
  let known := s.get (Hid.takeTimed e)
  if known ≠ 0 then (s.put (Hid.takeTimed e) 0, known == 2)
  else
    let c := s.compare 5 e (s.get (Reg.RASTER_FRAME_INDEX (s.outRaster e))) (b2i (timedBy (s.feed e bf).timing))
    (c.1, c.2.1 == 1)

/-- A TAKE takes effect at B, from the switching line on (R142, R143, R145, R150): `old` stands before the slip, `bfine` is the stamp of B
in 1/4,096 lf. -/
def State.takeApply (s old : State) (e : Nat) (bfine : Int) : State :=
  let t := (s.put (Reg.XPT_OUT_LAST_TAKE e) (ltOfFine bfine)).bump (Reg.XPT_OUT_TAKES e)
  if s.sameSelection old e then
    (t.when (s.get (Hid.outUntimed e) == 1) (fun u => (u.bump (Reg.XPT_OUT_UNTIMED_TAKES e)).raiseUntimed e)).refreshAdmission
  else
    let t := ((t.put (Hid.outUntimed e) 0).put (Hid.outSince e) 0).put (Hid.outFrame e) 0
    let r := t.outRaster e
    if t.rasterPeriod r = 0 ∨ t.outputSends e = false then t.refreshAdmission
    else
      let bf := lfOfLt (s.get (Reg.RASTER_LAST_BOUNDARY r))
      let v := t.takeVerdict e bf
      let a := v.1.settleOutput e bf (some v.2)
      let u := (a.1.when a.2 (fun u => u.bump (Reg.XPT_OUT_UNTIMED_TAKES e))).noteUntimed e a.2
      let start := (bfine + 1102500 * 4096 - 1) / (1102500 * 4096) * 1102500
      ((u.audioFollows old e start).emitOutput e (switchLine (u.outFormat e))).refreshAdmission

/-- At B + P the old subscription and head of output e are released unless another use stands (R143). -/
def State.takeRetire (s : State) (e : Nat) : State :=
  let wanted (m : Nat) : Bool :=
    (s.get (Reg.XPT_OUT_SELECT e) == 1 && s.getN (Reg.XPT_OUT_SOURCE e) == m) ||
      s.slips.any (fun x => decide (x.st = .launched) && x.kind == 1 && x.target == e &&
        x.items.any (fun i => i.1 == Reg.XPT_OUT_SOURCE e && i.2 == (m : Int)))
  let old := (s.fabSubs.filter (fun x => x.users.contains e && !wanted x.shelf)).map (fun (x : FabSub) => x.shelf)
  let t := s.each old (fun t m => t.closeSub m e)
  t.each (t.elsWith 0x9200 8 1) (fun t h =>
    if t.boundTo h = [] ∧ (t.slips.any (fun x => decide (x.st = .launched) && x.kind == 1 &&
        x.items.any (fun i => i.1.sub == 4 && i.2 == (h : Int)))) = false then
      (t.put (Reg.HEAD_STATE h) 0).put (Reg.HEAD_OUTPUT h) (dfltOf (Reg.HEAD_OUTPUT h))
    else t.put (Reg.HEAD_OUTPUT h) ((((t.boundTo h).head?).map (fun (n : Nat) => (n : Int))).getD (t.get (Reg.HEAD_OUTPUT h))))

/-- The STAGE checks of `5100` that depend on the SELECT of the slip (R141). -/
def takeStageOk (sel : Int) (k : Key) (v : Int) : Bool :=
  if k.sub = 2 then !(sel == 1 || sel == 2) || indexValid (shelfIndex v.toNat)
  else if k.sub = 3 then sel != 2 || decide (v < 0)
  else if k.sub = 4 then sel != 2 || decide (v ≤ 255)
  else if k.sub = 5 then sel != 3 || decide (v < 1024)
  else true

/-- A frame of serial lane n begins: its stamp, checks and packets are taken, its samples from HD up, and the frame of its group, once
that stands whole, leaves on the fabric where no synchroniser takes it (R127 to R130, R146, R169, R255). -/
def State.inputFrame (s : State) (n : Nat) (f : SdiFrame) : State :=
  if !s.sdiListens n || s.get (Hid.sdiRaw n) != 1 then s
  else
    let t := s.sdiInputFrame n f
    let t := if 2 ≤ t.getN (Reg.SDI_RX_RATE n) then t.embedFrame n f.samples else t.put (Hid.embedOn n) 0
    let b := t.getN (Reg.LINK_GROUP_RX_BASE n)
    match t.groupDone n with
    | none => t
    | some top => if t.get (Hid.syncOn b) = 1 then t else t.frameCell b top

/-- The first cells of the frames that subscribed local sources timed by raster r deliver at its boundary: synchronised
inputs, heads, canvas offers and generators, stamped with the route point (R146, R169). -/
def State.boundaryCells (s : State) (r : Nat) : State :=
  let mine := ((s.patterns.filter (fun p => p.tx && shelfSlot p.shelf == s.slot && p.holds s.period)).map (fun p => shelfIndex p.shelf)).eraseDups
  if s.edge = false then s
  else s.each (mine.filter (fun i => (s.localSrc i).raster == some r && (s.localSrc i).present))
    (fun t i => t.frameCell i (lfOfLt (t.get (Reg.RASTER_LAST_BOUNDARY r)) - routeLead))

/-- Every picture, synchroniser, recorder, store and promotion entry at a boundary of raster r (R149, R150, R281). -/
def State.boundaryWork (s : State) (r : Nat) : State :=
  let t := ((((((s.rasterTick r).genBoundary r).syncBoundary r).promoBoundary r).stacksBoundary r)).boundaryCells r
  ((t.recordFrames s).storeFrames s).promoFrames s

/-- Whole frames that a delivery completed reach recorders, layer stores and the promotion store. -/
def State.framesMoved (s old : State) : State := (((s.remotePackets.recordFrames old).storeFrames old).promoFrames old).cutsShown old

/-- The units of entry j whose time has come go on: cells to the Concordance, packets to their flow, released packets to
their MAC (R402, R404). -/
def State.injectRelease (s : State) (j : Nat) : State :=
  let r := s.injectDue j
  (r.1.each r.2 (fun t u =>
    match u with
    | .cell c => t.concordUnit (.cell c)
    | .packet f b p => t.flowPacket f b p
    | .frame x => t.releaseTo x
    | .other => t)).framesMoved s

/-- Every entry that holds units releases what is due. -/
def State.injectFlush (s : State) : State := s.each (List.range 64) (fun t j => if t.injectHeld j = [] then t else t.injectRelease j)

/-! ### The good-output bus -/

/-- The good bit of output o (R305); a non-base lane carries its base lane's. With X not running every output is bad
(R307). -/
def State.goodBit (s : State) (o : Nat) : Bool :=
  let b := s.txBase o
  let st := s.get (Reg.XPT_OUT_STATUS b)
  s.runs 5 && s.get (Reg.SDI_TX_STATE b) == 1 && (st == 1 || st == 4) &&
    s.get (if s.left then Reg.GOB_HOLD_BAD_L else Reg.GOB_HOLD_BAD_R) == 0 &&
    s.get Reg.SAFE_REACTION != 5 && s.get (Hid.reconHold b) == 0

/-- The GOOD field of a word: bit o for output o (Table 14.6). -/
def State.goodBits (s : State) : Nat := ((s.elsWith 0x3100 10 1).filter (fun o => decide (o < 96) && s.goodBit o)).foldl (fun a o => a + 2 ^ o) 0 +
  ((List.range 96).filter (fun o => decide (s.txBase o ≠ o) && s.goodBit o && s.get (Reg.SDI_TX_STATE o) == 0)).foldl (fun a o => a + 2 ^ o) 0

/-- CRC-8 of polynomial 0x07 over the low `n` bits of a number, msb first, from 0 (Table 14.6). -/
def crc8 : Nat → Nat → Nat → Nat
  | 0, _, c => c
  | n + 1, v, c =>
    let top := (c / 128 + v / 2 ^ n) % 2
    crc8 n v (if top = 1 then (c * 2 % 256) ^^^ 0x07 else c * 2 % 256)

/-- The good-output word that begins now (R304, R305). -/
def State.gobWordValue (s : State) : Nat :=
  let hi := 0xA5 * 2 ^ 112 + s.goodBits * 2 ^ 16 + s.getN Hid.gobCount * 2 ^ 8 + b2n s.lent * 128 +
    b2n (s.get Reg.SAFE_REACTION == 5) * 64 + b2n (!s.left) * 32 + b2n s.paired * 16
  hi * 256 + crc8 120 hi 0

/-- A word of the good-output bus is sent: the bus runs in the edge role with X running (R304, R307). -/
def State.gobWord (s : State) : State :=
  if s.edge = false ∨ s.runs 5 = false then s
  else
    ((((s.put Reg.GOB_GOOD (s.goodBits : Nat)).bump Reg.GOB_WORDS).put Hid.gobCount ((s.get Hid.gobCount + 1) % 256)).send
      (.pin 1 0 (s.gobWordValue : Nat)))

end Sys2Proof.Machine
end

