-- ==== Sys2Proof/Machine/Vault.lean ====
section
/-! DEFINITION. The key store, the colophon, the flash images, the service port, the live handover and its probation
(18_keys_and_update.md, R369 to R385, R438). -/
namespace Sys2Proof.Machine

/-! ### The key store -/

/-- The CRC of a bank: over the 64 bytes of key and the generation (R369). -/
def bankCrcOf (key gen : Nat) : Nat := crc32c (beBytes 64 key ++ beBytes 4 gen)

/-- A bank is valid (R369). -/
def State.bankValid (s : State) (n b : Nat) : Bool :=
  s.get (Hid.bankGen n b) != 0 && s.getN (Hid.bankCrc n b) == bankCrcOf (s.getN (Hid.bankKey n b)) (s.getN (Hid.bankGen n b))

/-- The bank in force: the valid bank with the higher generation (R369). -/
def State.bankInForce (s : State) (n : Nat) : Option Nat :=
  match s.bankValid n 0, s.bankValid n 1 with
  | true, true => if s.get (Hid.bankGen n 0) < s.get (Hid.bankGen n 1) then some 1 else some 0
  | true, false => some 0
  | false, true => some 1
  | false, false => none

/-- Both banks of a slot are all zero. -/
def State.banksZero (s : State) (n : Nat) : Bool :=
  [0, 1].all (fun b => s.get (Hid.bankKey n b) == 0 && s.get (Hid.bankGen n b) == 0 && s.get (Hid.bankCrc n b) == 0)

/-- STATE of a slot: 0 EMPTY, 1 VALID, 2 FAULT (R369). -/
def State.slotState (s : State) (n : Nat) : Int :=
  match s.bankInForce n with
  | some b => if s.get (Hid.bankKey n b) = 0 then 0 else 1
  | none => if s.banksZero n then 0 else 2

/-- The content of a VALID slot; a slot that is not VALID yields no key (R372). -/
def State.keyOf (s : State) (n : Nat) : Option Nat :=
  if s.slotState n = 1 then (s.bankInForce n).map (fun b => s.getN (Hid.bankKey n b)) else none



/-- `B100` of a slot follows its banks; a slot newly in FAULT raises KEY_STORE (R369, Table 18.2). -/
def State.keyRefresh (s : State) (n : Nat) : State :=
  let st := s.slotState n
  let b := (s.bankInForce n).getD 0
  let check : Nat := match s.keyOf n with
    | none => 0
    | some k => beNat ((hmacSha256 (beBytes 64 k) (ascii "ERX-1536 KEY CHECK")).take 8)
  let t := (((s.put (Reg.KEY_STATUS_STATE n) st).put (Reg.KEY_STATUS_GENERATION n)
    (if (s.bankInForce n).isSome then s.get (Hid.bankGen n b) else 0)).put (Reg.KEY_STATUS_BANK n) b).put
      (Reg.KEY_STATUS_CHECK n) check
  t.when (st == 2 && s.get (Reg.KEY_STATUS_STATE n) != 2) (fun u => u.raise 26 0 n)

/-- SEC reports every slot, as it does on becoming ready. -/
def State.keysRefresh (s : State) : State := s.each (List.range 16) (fun t n => t.keyRefresh n)

/-- The status of a key write by its value alone: RANGE for a reserved byte, CAPACITY past the last generation (R370). -/
def State.keyStatus (s : State) (n v : Nat) : Status :=
  if v % 2 ^ 512 ≠ 0 then .range
  else if 0xFFFFFFFF ≤ ((s.bankInForce n).map (fun b => s.getN (Hid.bankGen n b))).getD 0 ∧ s.slotState n = 1 then .capacity
  else .ok

/-- Re-keying of the twin link starts: this device's measurement goes out untagged (R375). -/
def State.rekey (s : State) : State :=
  s.when s.twinUp (fun t => (t.put Hid.rekeying 1).sendTwin (.measurement (t.getN Reg.COLOPHON_MEASUREMENT)))

/-- A key slot is written: the bank not in force takes the key, then the CRC, and last the generation (R370). The 128
bytes are one number; a write of slot 2 re-keys the twin link (R371). -/
def State.keyWrite (s : State) (n v : Nat) : State :=
  let key : Nat := v / 2 ^ 512
  let b := s.bankInForce n
  let gen : Nat := if s.slotState n = 1 then (b.map (fun b => s.getN (Hid.bankGen n b))).getD 0 + 1 else 1
  let w := match b with | some 0 => 1 | some _ => 0 | none => 0
  -- with an empty key in force the old bank gives way, so that the new generation 1 is the one in force
  let t := s.when (s.slotState n != 1) (fun t => ((t.put (Hid.bankGen n (1 - w)) 0).put (Hid.bankKey n (1 - w)) 0).put (Hid.bankCrc n (1 - w)) 0)
  let t := (((t.put (Hid.bankKey n w) key).put (Hid.bankCrc n w) (bankCrcOf key gen)).put (Hid.bankGen n w) gen).keyRefresh n
  t.when (n == 2) (fun u => u.rekey)

/-- Both banks of every slot are zeroed (R373). -/
def State.zeroise (s : State) : State :=
  (s.each (List.range 16) (fun t n => t.each [0, 1] (fun u b =>
    ((u.put (Hid.bankKey n b) 0).put (Hid.bankGen n b) 0).put (Hid.bankCrc n b) 0))).each (List.range 16)
      (fun t n => if t.up 3 then t.keyRefresh n else t)

/-- VBAT fell below retention with no zeroisation: the banks hold random contents that fail their CRC (R373). -/
def State.keysLost (s : State) : State :=
  (s.each (List.range 16) (fun t n => t.each [0, 1] (fun u b =>
    let k : Nat := u.freeVal % 2 ^ 512
    let g : Nat := (u.drawn).freeVal % 0xFFFFFFFF + 1
    (((u.drawn.drawn.put (Hid.bankKey n b) k).put (Hid.bankGen n b) g).put (Hid.bankCrc n b) ((bankCrcOf k g + 1) % 2 ^ 32 : Nat))))).each
      (List.range 16) (fun t n => if t.up 3 then t.keyRefresh n else t)

/-- A tamper cause (Table 18.4): the slots are zeroed and the cause waits to be recorded. Cause 4 is monitored while the
core rails are up. Cause 0 stands for a loss of VBAT without a zeroisation. -/
def State.tamper (s : State) (cause : Nat) : State :=
  if cause = 0 then s.keysLost
  else if 4 < cause ∨ (cause = 4 ∧ s.held = .brownout) then s
  else
    (s.zeroise.put Hid.tamperCause cause).put Hid.tamperAt (if s.up 1 then s.nowLT else 0)

/-- At the next tick with the core rails up the cause is recorded: a fuse, the fault, `B300` (R373). -/
def State.tamperRecord (s : State) : State :=
  let c := s.get Hid.tamperCause
  if c = 0 ∨ s.held = .brownout then s
  else
    ((((s.put Reg.TAMPER_COUNT (min 255 (s.get Reg.TAMPER_COUNT + 1))).put Reg.TAMPER_LAST_CAUSE c).put Reg.TAMPER_LAST_AT
      (s.get Hid.tamperAt)).put Hid.tamperCause 0).raise 25 0 c.toNat

/-- The owner's answer: HMAC of CHALLENGE under the key derived from the named slot (R372, Table 18.3). With no key it is
zero. -/
def State.ownerAnswer (s : State) : Nat :=
  match s.keyOf (s.getN Reg.OWNER_ANSWER_SLOT) with
  | none => 0
  | some k =>
    beNat (hmacSha256 (hkdf384 (beBytes 64 k) (beBytes 48 (s.getN Reg.COLOPHON_MEASUREMENT))
      (ascii "ERX-1536 OWNER ANSWER" ++ [s.getN Reg.OWNER_ANSWER_SLOT]) 32) (beBytes 32 (s.getN Reg.OWNER_ANSWER_CHALLENGE)))

/-! ### The colophon -/

/-- Fields of given byte lengths joined, first field first. -/
def joinFields (l : List (Nat × Nat)) : List Nat := l.flatMap (fun p => beBytes p.1 p.2)

/-- The colophon: the statement of Table 18.6 and its signature, 352 bytes (R374). -/
def State.colophon (s : State) (nonce : Nat) : Nat :=
  let idle := s.get Reg.UPDATE_IDLE_STATE == 2 || s.get Reg.UPDATE_IDLE_STATE == 4
  let flags := b2n (s.get Reg.HEALTH_CONFIRM_STATE == 1) + 2 * s.getN Reg.IDENTITY_SVC_EN + 4 * s.getN Hid.imageRecovery
  let valid := (List.range 16).foldl (fun a n => a + (if s.slotState n = 1 then 2 ^ n else 0)) 0
  let st := joinFields [(1, 1), (1, s.getN Reg.ROLE), (1, 0x42), (1, s.getN Reg.IDENTITY_SLOT_ID), (1, s.getN Reg.PAIRING_SIDE),
    (1, s.getN Reg.UPDATE_ACTIVE_SLOT), (1, flags), (1, 0), (16, s.getN Reg.IDENTITY_SERIAL), (4, 0x600), (4, s.getN Reg.IDENTITY_ROM_VERSION),
    (48, s.getN Reg.COLOPHON_MEASUREMENT), (48, if idle then s.getN Reg.UPDATE_IDLE_MEASUREMENT else 0),
    (4, s.getN Reg.IDENTITY_EDITION), (4, s.getN Reg.ROLLBACK_FLOOR_FLOOR), (4, s.getN Reg.TAMPER_COUNT), (2, valid), (2, 0),
    (12, s.nowLT.toNat), (32, nonce), (48, beNat (sha384 (beBytes 1024 (s.getN Reg.COLOPHON_CERTIFICATE)))), (20, 0)]
  beNat st * 2 ^ 768 + Config.sign 48 (beNat (sha384 st)) % 2 ^ 768

/-! ### Images -/

/-- The image of a flash slot. -/
def State.flashOf (s : State) (n : Nat) : Option FlashImage := s.flash.find? (fun x => x.slot == n)

/-- A flash slot replaced. -/
def State.setFlash (s : State) (x : FlashImage) : State :=
  { s with flash := s.flash.filter (fun y => y.slot != x.slot) ++ [x] }

/-- Bytes a flash slot holds. -/
def FlashImage.held (x : FlashImage) : Nat := (x.pieces.map (fun p => p.2.1)).foldl (· + ·) 0
/-- The whole image as one number, first byte most significant. -/
def FlashImage.bytes (x : FlashImage) : Nat := x.pieces.foldl (fun a p => a + p.2.2 * 256 ^ (x.total - p.1 - p.2.1)) 0
/-- `n` bytes of the image from byte `a`. -/
def FlashImage.part (x : FlashImage) (a n : Nat) : Nat := x.bytes / 256 ^ (x.total - a - n) % 256 ^ n
/-- BODY_LENGTH. -/
def FlashImage.body (x : FlashImage) : Nat := x.part 36 4
/-- The boot measurement M: SHA-384 of header and body (R377). -/
def FlashImage.measurement (x : FlashImage) : Nat := beNat (sha384 (beBytes (512 + x.body) (x.part 0 (512 + x.body))))
/-- EDITION and FLOOR. -/
def FlashImage.edition (x : FlashImage) : Nat := x.part 16 4
/-- FLOOR. -/
def FlashImage.floor (x : FlashImage) : Nat := x.part 20 4

/-- The image checks at boot, in order (R378, Table 18.10). -/
def State.imageCheck (s : State) (x : FlashImage) : Status :=
  let roles := x.part 6 1
  let owner := x.part 7 1 % 2 == 1
  let m := x.measurement
  let sig := x.part (512 + x.body) 96
  let sig2 := x.part (608 + x.body) 96
  let key := x.part 100 96
  let signed (qx qy v : Nat) : Bool := curve384.verify qx qy (beBytes 48 m) (v / 2 ^ 384) (v % 2 ^ 384)
  if x.total < 704 ∨ x.part 0 4 ≠ 0x45525849 ∨ x.part 4 2 ≠ 1 ∨ 4 ≤ roles ∨ 2 ≤ x.part 7 1 ∨ x.part 13 3 ≠ 0 ∨
      x.part 196 316 ≠ 0 ∨ x.edition < x.floor ∨ x.body = 0 ∨ 12582208 < x.body ∨ x.total < 704 + x.body then .range
  else if x.part 8 4 ≠ 0x600 ∨ bitOf (x.part 12 1) 1 = false ∨ bitOf roles (if s.edge then 0 else 1) = false then .range
  else if x.part 40 48 ≠ beNat (sha384 (beBytes x.body (x.part 512 x.body))) then .authFail
  else if signed Config.osviopKey.1 Config.osviopKey.2 sig = false then .authFail
  else if s.slotState 4 ≠ 0 ∧
      (owner = false ∨ (s.keyOf 4).map (· / 2 ^ 128) ≠ some (beNat (sha384 (beBytes 96 key))) ∨
        signed (key / 2 ^ 384) (key % 2 ^ 384) sig2 = false) then .authFail
  else if (x.edition : Int) < s.get Reg.ROLLBACK_FLOOR_FLOOR then .versionDown
  else .ok

/-- A boot check of slot n: its outcome, recorded in `C100[n]`; an empty slot is no image (R378). -/
def State.bootCheck (s : State) (n : Nat) : State × Status :=
  match s.flashOf n with
  | none => (s, .range)
  | some x =>
    let st := if s.get (Reg.IMAGE_WINDOW_STATE n) < 2 then .range else s.imageCheck x
    (s.put (Reg.IMAGE_WINDOW_RESULT n) (st.code : Nat), st)

/-- A verified slot shows its EDITION and M (Table 18.14). -/
def State.showImage (s : State) (n : Nat) (x : FlashImage) : State :=
  (s.put (Reg.IMAGE_WINDOW_EDITION n) x.edition).put (Reg.IMAGE_WINDOW_MEASUREMENT n) x.measurement

/-- The active pair runs the image of a slot. -/
def State.runImage (s : State) (n : Nat) (x : FlashImage) : State :=
  ((s.put Reg.UPDATE_ACTIVE_SLOT n).put Reg.COLOPHON_MEASUREMENT x.measurement).put Reg.IDENTITY_EDITION x.edition

/-- The idle pair holds the image of a slot in a state (`C000:03`, `:05` to `:07`). -/
def State.idleImage (s : State) (st : Int) (n : Nat) (x : FlashImage) : State :=
  (((s.put Reg.UPDATE_IDLE_STATE st).put Reg.UPDATE_IDLE_SLOT n).put Reg.UPDATE_IDLE_MEASUREMENT x.measurement).put
    Reg.UPDATE_IDLE_EDITION x.edition

/-- The boot ROM tries slots in turn: the first that passes (R381). -/
def State.bootFirst : State → List Nat → State × Option Nat
  | s, [] => (s, none)
  | s, n :: l =>
    let r := s.bootCheck n
    if r.2 = .ok then (r.1, some n) else State.bootFirst r.1 l

/-- A fallback at a boot: the slot reads REJECTED and IMAGE_FALLBACK is raised with its cause (R385). -/
def State.fallRecord (s : State) : State :=
  let c := if s.get Hid.fallCause ≠ 0 then s.getN Hid.fallCause else if s.get Reg.HEALTH_CONFIRM_STATE = 1 then 2 else 0
  if c = 0 ∨ s.get Hid.probSlot = 0 then s
  else
    ((((s.put (Reg.IMAGE_WINDOW_STATE (s.getN Hid.probSlot - 1)) 5).put Reg.HEALTH_CONFIRM_STATE 3).put Hid.fallCause 0).put
      Hid.probSlot 0).raise 27 0 c

/-- A boot of KEEP (R381): ACTIVE, PREVIOUS, then GOLD; both pairs boot the first that passes; with none the device enters
recovery. The image's reference block goes into force (R75), and a slot that was WRITTEN reads VERIFIED. `images` gives what the flash holds in slots the model knows nothing of yet. -/
def State.keepBoot (s : State) (images : List (Nat × Nat × Nat)) : State :=
  if s.alive = false ∨ s.ready 0 = true then s
  else
    let s := s.each images (fun t i =>
      if 3 ≤ i.1 ∨ t.get (Hid.flashSeen i.1) = 1 then t
      else
        (((t.setFlash ⟨i.1, i.2.1, [(0, i.2.1, i.2.2 % 256 ^ i.2.1)]⟩).put (Hid.flashSeen i.1) 1).put
          (Reg.IMAGE_WINDOW_STATE i.1) 2).put (Reg.IMAGE_WINDOW_LENGTH i.1) i.2.1)
    let a := s.getN Hid.dirActive
    let p := s.getN Hid.dirPrevious
    let order := (if a = 0 then [] else [a - 1]) ++ (if p = 0 then [] else [p - 1]) ++ [2]
    let r := s.fallRecord.bootFirst order
    match r.2 with
    | none =>
      ((r.1.put Hid.imageRecovery 1).put Reg.COLOPHON_MEASUREMENT 0).put Reg.UPDATE_IDLE_STATE 0
    | some n =>
      match r.1.flashOf n with
      | none => r.1
      | some x =>
        let t := (((r.1.put Hid.imageRecovery 0).showImage n x).runImage n x).idleImage 2 n x
        let t := t.when (t.get (Reg.IMAGE_WINDOW_STATE n) == 2) (fun t => t.put (Reg.IMAGE_WINDOW_STATE n) 3)
        (t.loadRefBlock x.measurement).when (decide (a ≠ n + 1)) (fun t => t.raise 27 0 4)

/-! ### Live handover and probation -/

/-- The status of a write of BOOT_IDLE (R382; 0xFF during probation: log entry 40). -/
def State.bootIdleStatus (s : State) (v : Int) : Status :=
  if v = 255 then (if s.get Reg.HEALTH_CONFIRM_STATE = 1 then .busy else .ok)
  else if s.get (Reg.IMAGE_WINDOW_STATE v.toNat) < 2 then .range
  else if s.get Reg.UPDATE_IDLE_STATE = 1 ∨ s.get Reg.UPDATE_IDLE_STATE = 4 ∨ s.get Reg.HEALTH_CONFIRM_STATE = 1 then .busy
  else .ok

/-- A write of BOOT_IDLE takes effect (R382). -/
def State.bootIdle (s : State) (v : Int) : State :=
  let t := s.put Reg.UPDATE_BOOT_IDLE v
  if v = 255 then t.put Reg.UPDATE_IDLE_STATE 0
  else (t.put Reg.UPDATE_IDLE_STATE 1).put Reg.UPDATE_IDLE_SLOT v

/-- The idle pair's boot ends: READY with its measurement, or REFUSED (R382). -/
def State.idleBootEnd (s : State) : State :=
  if s.get Reg.UPDATE_IDLE_STATE ≠ 1 then s
  else
    let n := s.getN Reg.UPDATE_IDLE_SLOT
    let r := s.bootCheck n
    let t := r.1.put Reg.UPDATE_IDLE_RESULT (r.2.code : Nat)
    match r.2, t.flashOf n with
    | .ok, some x => ((t.idleImage 2 n x).showImage n x).put (Reg.IMAGE_WINDOW_STATE n) 3
    | _, _ => t.put Reg.UPDATE_IDLE_STATE 3

/-- The check of a HANDOVER slip (R383). -/
def State.handoverCheck (s : State) : Status := if s.get Reg.UPDATE_IDLE_STATE = 2 then .ok else .notReady

/-- The pairs exchange roles: slots, measurements and editions, the session's key with 10 ms of grace, the twin's key,
and the reference parameters of the image that now runs (R43, R75, R375, R383). -/
def State.exchangePairs (s : State) (b : Int) : State :=
  let t := (((((((s.put Reg.UPDATE_ACTIVE_SLOT (s.get Reg.UPDATE_IDLE_SLOT)).put Reg.UPDATE_IDLE_SLOT
    (s.get Reg.UPDATE_ACTIVE_SLOT)).put Reg.COLOPHON_MEASUREMENT (s.get Reg.UPDATE_IDLE_MEASUREMENT)).put
      Reg.UPDATE_IDLE_MEASUREMENT (s.get Reg.COLOPHON_MEASUREMENT)).put Reg.IDENTITY_EDITION (s.get Reg.UPDATE_IDLE_EDITION)).put
        Reg.UPDATE_IDLE_EDITION (s.get Reg.IDENTITY_EDITION)).put Reg.UPDATE_ACTIVE_PAIR (1 - s.get Reg.UPDATE_ACTIVE_PAIR)).put
          Reg.UPDATE_IDLE_STATE 4
  let t := { t with grace := some (s.getN Reg.COLOPHON_MEASUREMENT, b + 529200000) }
  let t : State := match t.session with
    | none => t
    | some x =>
      { t with session := some { x with key := { x.key with measurement := t.getN Reg.COLOPHON_MEASUREMENT } } }
  (t.loadRefBlock (t.getN Reg.COLOPHON_MEASUREMENT)).rekey

/-- SELF_CHECK (Table 18.13). -/
def State.selfCheck (s : State) : Int :=
  if s.get Reg.HEALTH_CONFIRM_STATE ≠ 1 then 0
  else
    1 + 2 * b2i (decide (s.getN Hid.probReady &&& s.getN Reg.READY = s.getN Hid.probReady)) +
      4 * b2i (decide (s.get Reg.SAFE_REACTION < 4)) + 8 * b2i (s.get Hid.probTests == 0) +
      16 * b2i (s.get Reg.HEALTH_CONFIRM_REQUIRE_CONTROLLER == 0 || s.get Hid.probConfirm == 1)

/-- A HANDOVER slip takes effect at B, stamped `bf` in 1/4,096 lf (R383); `len` is PROBATION as it was armed. -/
def State.handoverApply (s : State) (bf len : Int) : State :=
  let t := (s.exchangePairs (bf / 4096)).bump Reg.UPDATE_HANDOVERS
  let t := (((t.put Reg.HEALTH_CONFIRM_STATE 1).put Reg.HEALTH_CONFIRM_DEADLINE (ltAddSpan (ltOfFine bf) len)).put Hid.probSlot
    (t.get Reg.UPDATE_ACTIVE_SLOT + 1)).put Hid.probReady (t.get Reg.READY)
  let t := ((t.put Hid.probConfirm 0).put Hid.probTests 0).put Hid.rejectAt 0
  t.put Hid.probFrom (if t.probHolds then t.tickLf + 1 else 0)

/-- CONFIRM and REJECT written during the probation (R384, R385). -/
def State.confirmWrite (s : State) (v : Int) : State :=
  if v = 1 ∧ s.get Reg.HEALTH_CONFIRM_STATE = 1 then s.put Hid.probConfirm 1 else s
/-- REJECT: the fallback follows at the next millisecond boundary (R385). -/
def State.rejectWrite (s : State) (v : Int) : State :=
  if v = 1 ∧ s.get Reg.HEALTH_CONFIRM_STATE = 1 ∧ s.get Hid.rejectAt = 0 then s.put Hid.rejectAt (s.now + 1) else s

/-- The image's own tests hold or fail from now on: the 60 s begin again after a break (R384). -/
def State.probTest (s : State) (tests : Bool) : State := (s.put Hid.probTests (b2i (!tests))).probTouch

/-- The image in probation is confirmed once its conditions have held 60 s (R384). -/
def State.probConfirmed (s : State) (tests : Bool) : State :=
  if s.get Reg.HEALTH_CONFIRM_STATE ≠ 1 then s
  else
    let t := s.probTest tests
    let from_ := t.get Hid.probFrom
    if from_ = 0 ∨ t.tickLf < from_ - 1 + 3175200000000 ∨
        (t.get Reg.HEALTH_CONFIRM_REQUIRE_CONTROLLER = 1 ∧ t.get Hid.probConfirm = 0) then t
    else
      let n := t.getN Reg.UPDATE_ACTIVE_SLOT
      let u := (((t.put Hid.dirActive (n + 1)).put Hid.dirPrevious (t.get Reg.UPDATE_IDLE_SLOT + 1)).put
        (Reg.IMAGE_WINDOW_STATE n) 4).put Hid.probSlot 0
      let u := match u.flashOf n with
        | none => u
        | some x =>
          let w := u.when (decide (u.get Reg.ROLLBACK_FLOOR_FLOOR < (x.floor : Int)) &&
              decide (0 < u.get Reg.ROLLBACK_FLOOR_RECORDS_LEFT)) (fun w =>
            (w.put Reg.ROLLBACK_FLOOR_FLOOR x.floor).put Reg.ROLLBACK_FLOOR_RECORDS_LEFT (w.get Reg.ROLLBACK_FLOOR_RECORDS_LEFT - 1))
          w.idleImage 2 n x
      u.put Reg.HEALTH_CONFIRM_STATE 2

/-- Authority returns to the resident old pair (R385). -/
def State.fallBack (s : State) (cause : Nat) : State :=
  if s.get Reg.HEALTH_CONFIRM_STATE ≠ 1 then s
  else
    let n := s.getN Reg.UPDATE_ACTIVE_SLOT
    ((((((s.exchangePairs s.now).put (Reg.IMAGE_WINDOW_STATE n) 5).put Reg.HEALTH_CONFIRM_STATE 3).put Hid.probSlot 0).put
      Hid.rejectAt 0).put Hid.probFrom 0).raise 27 0 cause

/-- The deadline passes unconfirmed: the first millisecond boundary at or after it (R385). -/
def State.probDeadline (s : State) : State :=
  if msCeil (lfOfLt (s.get Reg.HEALTH_CONFIRM_DEADLINE)) ≤ s.now then s.fallBack 1 else s

/-- The millisecond boundary after an accepted REJECT (R385). -/
def State.rejectFall (s : State) : State :=
  if s.get Hid.rejectAt ≠ 0 ∧ msCeil (s.get Hid.rejectAt - 1) ≤ s.now then s.fallBack 3 else s

/-! ### The service port -/

/-- The operations of Table 18.12. -/
inductive SvcOp
  | hello | colophon | imageOpen | imageData | imageClose | keyWrite | read | close | timeSet
deriving DecidableEq, Repr

/-- The code of an operation. -/
def SvcOp.code : SvcOp → Nat
  | .hello => 1 | .colophon => 2 | .imageOpen => 3 | .imageData => 4 | .imageClose => 5 | .keyWrite => 6 | .read => 7
  | .close => 8 | .timeSet => 9

/-- An operation is accepted (Table 18.16): in session 0 or a keyed session, by the level of SVC_EN. -/
def svcAccepts (op : SvcOp) (keyed en : Bool) : Bool :=
  match op with
  | .hello => true
  | .colophon => true
  | .keyWrite => en
  | .close => keyed
  | _ => keyed || en

/-- Where a request goes: dropped, answered with a recorded response, refused with LOCKED_OUT, or executed; `keyed` says in
which session. -/
inductive SvcWay
  | drop
  | again (keyed : Bool) (r : SvcResp)
  | locked (keyed : Bool)
  | run (keyed : Bool)
deriving DecidableEq, Repr

/-- A datagram reaches the service port's protocol: its frame passes the port's filter, it is IPv4 to 169.254.3.s and UDP port 47322, and
its header is one of a request of VERSION 1 with the length of its payload (R206, R379, Table 18.11). -/
def State.svcHears (s : State) (m : SvcMsg) (payload : List Nat) : Bool :=
  s.ready 53 && (m.mac == macBase + 2 || m.mac == 2 ^ 48 - 1 || fixedGroups.contains m.mac) && m.ip == (s.portAddress 2).toNat &&
    m.udp == 47322 && m.version == 1 && m.status == 0 && m.flags == 0 && m.reserved == 0 && m.length == payload.length &&
    decide (payload.length ≤ 1440)

/-- The tag that a request in a session bears (R379). -/
def State.svcTag (s : State) (k : SvcKey) (m : SvcMsg) (op : SvcOp) (payload : List Nat) : Nat :=
  beNat (k.seal (s.getN Reg.COLOPHON_MEASUREMENT) false m.seq
    (svcHeader m.version op.code m.status m.flags m.session m.seq m.length m.reserved) payload).2

/-- The treatment of an SVC request (R379, R380): heard, its session and tag right. -/
def State.svcWay (s : State) (m : SvcMsg) (op : SvcOp) (payload : List Nat) : SvcWay :=
  let en := s.get Reg.IDENTITY_SVC_EN == 1
  let go (keyed : Bool) (last : Option SvcResp) : SvcWay :=
    match last with
    | some r => if m.seq ≤ r.seq then .again keyed r else if svcAccepts op keyed en then .run keyed else .locked keyed
    | none => if svcAccepts op keyed en then .run keyed else .locked keyed
  if s.svcHears m payload = false then .drop
  else if m.session = 0 then (if m.tag = 0 then go false s.svcPlain else .drop)
  else
    match s.svc with
    | none => .drop
    | some x => if m.session = x.id ∧ m.tag = s.svcTag x.key m op payload then go true x.last else .drop

/-- A response leaves SVC, in the clear or under the open session's keys (R379). -/
def State.svcSend (s : State) (keyed : Bool) (r : SvcResp) : State :=
  let key := if keyed then s.svc.map (fun x => (x.key, s.getN Reg.COLOPHON_MEASUREMENT)) else none
  s.send (.svc ⟨2, s.frameHead 18 6, (s.portAddress 2).toNat, 47322, 47322⟩ r (r.datagram key))

/-- A verified request in the session moves its 60 s on (R379). -/
def State.svcTouch (s : State) (keyed : Bool) : State :=
  if keyed then { s with svc := s.svc.map (fun (x : SvcSession) => { x with lastAt := s.tickLf }) } else s

/-- The answer to an executed request is sent and recorded (R379). -/
def State.svcAnswer (s : State) (m : SvcMsg) (op : SvcOp) (keyed : Bool) (st : Status) (payload : List Nat) : State :=
  let r : SvcResp := ⟨op.code, st, m.session, m.seq, payload⟩
  let t : State := if keyed then { s with svc := s.svc.map (fun (x : SvcSession) => { x with last := some r }) }
    else { s with svcPlain := some r }
  t.svcSend keyed r

/-- An SVC session with no verified request for 60 s closes (R379). -/
def State.svcTimeout (s : State) : State :=
  match s.svc with
  | none => s
  | some x => if x.lastAt + 3175200000000 ≤ s.tickLf then { s with svc := none } else s

/-- An SVC request with its payload under way: its own effect runs only where it is executed; an operation not accepted is answered
LOCKED_OUT and not executed (R379, R380). -/
def State.svcRun (s : State) (m : SvcMsg) (op : SvcOp) (payload : List Nat) (f : State → Bool → State) : State :=
  let s := s.svcTimeout
  match s.svcWay m op payload with
  | .drop => s
  | .again k r => (s.svcTouch k).svcSend k r
  | .locked k => (s.svcTouch k).svcSend k ⟨op.code, .lockedOut, m.session, m.seq, []⟩
  | .run k => f (s.svcTouch k) k

/-- HELLO: a keyed session opens while slot 3 is VALID (R380, Table 18.12). -/
def State.svcHello (s : State) (m : SvcMsg) (nonce : Nat) : State :=
  s.svcRun m .hello (beBytes 16 nonce) (fun s k =>
    if s.up 3 = false then s.svcAnswer m .hello k .notReady [] else
    match s.keyOf 3 with
    | none => s.svcAnswer m .hello k .lockedOut []
    | some key =>
      let dn := s.freeVal % 2 ^ 128
      let id := s.drawn.freeVal % 0xFFFFFFFF + 1
      let t := s.drawn.drawn.svcAnswer m .hello k .ok (beBytes 16 dn ++ beBytes 4 id)
      { t with svc := some ⟨id, ⟨key, nonce % 2 ^ 128, dn⟩, none, t.tickLf⟩ })

/-- COLOPHON (Table 18.12). Signing waits for SEC (R16). -/
def State.svcColophon (s : State) (m : SvcMsg) (nonce : Nat) : State :=
  s.svcRun m .colophon (beBytes 32 nonce) (fun s k =>
    if s.up 3 = false then s.svcAnswer m .colophon k .notReady []
    else s.svcAnswer m .colophon k .ok (beBytes 352 (s.colophon (nonce % 2 ^ 256))))

/-- The status of IMAGE_OPEN (Tables 18.12 and 18.16). -/
def State.imageOpenStatus (s : State) (slot reserved total : Nat) : Status :=
  if slot = 2 ∧ s.get Reg.IDENTITY_SVC_EN ≠ 1 then .lockedOut
  else if 3 ≤ slot ∨ reserved ≠ 0 ∨ total < 705 ∨ 704 + 12582208 < total then .range
  else if s.get Hid.dirActive = slot + 1 ∨ (s.get Reg.UPDATE_IDLE_STATE ≠ 0 ∧ s.get Reg.UPDATE_IDLE_STATE ≠ 3 ∧ s.get Reg.UPDATE_IDLE_SLOT = slot) ∨
      (s.get Reg.HEALTH_CONFIRM_STATE = 1 ∧ s.get Hid.dirPrevious = slot + 1) then .busy
  else .ok

/-- IMAGE_OPEN: the slot is erased and reads WRITING (Table 18.12). -/
def State.svcImageOpen (s : State) (m : SvcMsg) (slot reserved total : Nat) : State :=
  s.svcRun m .imageOpen ([slot % 256] ++ beBytes 3 reserved ++ beBytes 4 total) (fun s k =>
    let st := s.imageOpenStatus slot reserved total
    if st ≠ .ok then s.svcAnswer m .imageOpen k st []
    else
      let t := ((((((s.setFlash ⟨slot, total, []⟩).put Hid.imgOpen (slot + 1)).put (Hid.flashSeen slot) 1).put
        (Reg.IMAGE_WINDOW_STATE slot) 1).put (Reg.IMAGE_WINDOW_LENGTH slot) total).put (Reg.IMAGE_WINDOW_EDITION slot) 0).put
          (Reg.IMAGE_WINDOW_MEASUREMENT slot) 0
      t.svcAnswer m .imageOpen k .ok [])

/-- IMAGE_DATA: bytes are written at an offset (Table 18.12). -/
def State.svcImageData (s : State) (m : SvcMsg) (offset len data : Nat) : State :=
  s.svcRun m .imageData (beBytes 4 offset ++ beBytes len data) (fun s k =>
    match (if s.get Hid.imgOpen = 0 then none else s.flashOf (s.getN Hid.imgOpen - 1)) with
    | none => s.svcAnswer m .imageData k .segment []
    | some x =>
      if x.total < offset + len ∨ 1436 < len ∨ x.pieces.any (fun p => decide (p.1 < offset + len) && decide (offset < p.1 + p.2.1)) then
        s.svcAnswer m .imageData k .segment []
      else (s.setFlash { x with pieces := x.pieces ++ [(offset, len, data % 256 ^ len)] }).svcAnswer m .imageData k .ok [])

/-- IMAGE_CLOSE: WRITTEN when every byte is held and the digest matches, else EMPTY with RANGE (Table 18.12). In recovery a
success restarts KEEP at once (R381). -/
def State.svcImageClose (s : State) (m : SvcMsg) (digest : Nat) : State :=
  s.svcRun m .imageClose (beBytes 48 digest) (fun s k =>
    match (if s.get Hid.imgOpen = 0 then none else s.flashOf (s.getN Hid.imgOpen - 1)) with
    | none => s.svcAnswer m .imageClose k .range []
    | some x =>
      let t := s.put Hid.imgOpen 0
      if x.held = x.total ∧ digest = beNat (sha384 (beBytes x.total x.bytes)) then
        let u := ((t.put (Reg.IMAGE_WINDOW_STATE x.slot) 2).put (Reg.IMAGE_WINDOW_WRITTEN_AT x.slot) t.nowLT).svcAnswer m .imageClose k .ok []
        u.when (u.get Hid.imageRecovery == 1) (fun w => (w.restartIsland 0 4).settleQueue)
      else (t.put (Reg.IMAGE_WINDOW_STATE x.slot) 0).svcAnswer m .imageClose k .range [])

/-- KEY_WRITE over SVC: accepted with SVC_EN high, not mirrored (R370, R371). -/
def State.svcKeyWrite (s : State) (m : SvcMsg) (slot reserved key : Nat) : State :=
  s.svcRun m .keyWrite ([slot % 256] ++ beBytes 3 reserved ++ beBytes 128 key) (fun s k =>
    if 16 ≤ slot ∨ reserved ≠ 0 then s.svcAnswer m .keyWrite k .range []
    else if s.up 3 = false then s.svcAnswer m .keyWrite k .notReady []
    else
      let st := s.keyStatus slot key
      if st ≠ .ok then s.svcAnswer m .keyWrite k st [] else (s.keyWrite slot key).svcAnswer m .keyWrite k .ok [])

/-- CLOSE ends the session (Table 18.12). -/
def State.svcClose (s : State) (m : SvcMsg) : State :=
  s.svcRun m .close [] (fun s k => { (s.svcAnswer m .close k .ok []) with svc := none })

/-- TIME_SET: the exempt first step while TIME_STATE reads UNSET; AMOUNT, a SPAN, takes the whole leaves of the difference (R438). -/
def State.svcTimeSet (s : State) (m : SvcMsg) (lt : Nat) : State :=
  s.svcRun m .timeSet (beBytes 12 lt) (fun s k =>
    let amount := (fineOfLt lt - s.nowFine) / 4096
    if s.timeSet = true ∨ ltValid lt = false ∨ s.stepFits amount = false then s.svcAnswer m .timeSet k .range []
    else (s.svcAnswer m .timeSet k .ok []).timeSetStep amount)

end Sys2Proof.Machine
end

