-- ==== Sys2Proof/Machine/Mode.lean ====
section
/-! DEFINITION. Operating modes: the islands a mode runs, the checks of a MODE slip and its effect
(15_bringup_and_modes.md, R321 to R323; R26). -/
namespace Sys2Proof.Machine

/-- Some resource that a booking names lies in island i (R394). -/
def State.bookingNeeds (s : State) (b i : Nat) : Bool :=
  s.bookingNames b (.island i) || allRes.any (fun r => resIsland r == i && s.bookingNames b r)

/-- The mode runs island i on this device: Table 1.6, and in SERVICE the islands that a HELD or RUNNING booking on the own
side names or that hold what it names (R26, R397, log entry 42). -/
def State.islandListed (s : State) (mode i : Nat) : Bool :=
  modeRuns s.edge mode i ||
    (mode == 7 && !(!s.edge && centreHeld i) &&
      (List.range 32).any (fun b => s.bookingLive b && s.bookingActs b && s.bookingNeeds b i))

/-- Islands join and are gated as the mode in force lists them; one that is down, held or joining is left alone (R26). -/
def State.gateIslands (s : State) : State :=
  s.each (List.range 47) (fun t i =>
    if t.get (Reg.ISLAND_STATE i) = 0 ∨ t.get (Reg.ISLAND_STATE i) = 1 then
      t.put (Reg.ISLAND_STATE i) (if s.islandListed (s.getN Reg.MODE_ACTIVE) i then 0 else 1)
    else t)

/-- Islands that a change of mode or of bookings has gated: their running partners flush (R360). `old` stands before. -/
def State.gatedFlush (s old : State) : State :=
  s.each ((List.range 47).filter (fun i => old.get (Reg.ISLAND_STATE i) == 0 && s.get (Reg.ISLAND_STATE i) == 1)) (fun t i =>
    t.each ((crossPartners i).filter (fun j => t.get (Reg.ISLAND_STATE j) == 0)) (fun u j =>
      (u.bumpBy (Reg.ISLAND_FLUSHED j) u.freeVal).drawn))

/-- The lanes, MACs and memberships follow the islands that a change of mode or of bookings has gated or let run: a gated F island's lanes
are OFF (R159, R186), a gated N island's MACs DOWN, and the MACs of one that runs again train (R193, R216). `old` stands before. -/
def State.gateFollow (s old : State) : State :=
  let moved (a b : Int) : List Nat :=
    (List.range 47).filter (fun i => old.get (Reg.ISLAND_STATE i) == a && s.get (Reg.ISLAND_STATE i) == b)
  let t := (s.gatedFlush old).each (moved 0 1) (fun t i =>
    if 19 ≤ i ∧ i ≤ 22 then t.each (List.range 4) (fun u j => u.macFalls (4 * (i - 19) + j))
    else if 23 ≤ i ∧ i ≤ 30 then
      t.each (List.range 8) (fun u j => u.when (u.laneState (8 * (i - 23) + j) != 0) (fun v => v.laneEnter (8 * (i - 23) + j) 0))
    else t)
  let t := t.settleQueue.each (moved 1 0) (fun t i => t.when (decide (19 ≤ i) && decide (i ≤ 22)) (fun u => u.macsTrain (i - 19)))
  t.refreshGroups old

/-- The mode field of a side (`1100:01`, `:02`). -/
def modeField (right : Bool) : Key := if right then Reg.MODE_MODE_R else Reg.MODE_MODE_L

/-- The device obeys the right field: the right twin; a centre obeys MODE_L (R321). -/
def State.obeysRight (s : State) : Bool := s.edge && !s.left

/-- The state in a given mode: MODE_ACTIVE and the islands it runs. -/
def State.inMode (s : State) (m : Int) : State := (s.put Reg.MODE_ACTIVE m).gateIslands

/-- The state under the mode that its own field names. -/
def State.obeyMode (s : State) : State :=
  let m := s.get (modeField s.obeysRight)
  if m = s.get Reg.MODE_ACTIVE then s else s.inMode m

/-- A booking acts on a side, as R393 says for the own side. -/
def State.bookingOnSide (s : State) (b : Nat) (right : Bool) : Bool :=
  s.get (Reg.BOOKING_SIDE b) == 2 || s.get (Reg.BOOKING_SIDE b) == b2i right || (s.solo && right == s.obeysRight)

/-- A RUNNING booking on a side covers island X (R394). -/
def State.coversX (s : State) (right : Bool) : Bool :=
  (List.range 32).any (fun b => s.get (Reg.BOOKING_STATE b) == 2 && s.bookingOnSide b right && s.bookingReaches b (.island 5))

/-- The other twin of the device on a side carries at B: `c` is the configuration at B (Table 15.6, first row). -/
def State.otherCarries (s c : State) (right : Bool) : Bool :=
  modeCarries (c.getN (modeField (!right))) &&
    (if right = s.obeysRight then
      (match s.twin with
      | none => false
      | some h => decide (2 ≤ s.get Reg.PAIRING_STATE) && decide (s.get Reg.PAIRING_STATE ≤ 4) &&
          h.pairing == 4 && h.loan == 1 && !h.safe)
    else s.get Reg.PAIRING_STATE == 4 && s.lent && s.get Reg.SAFE_REACTION != 5)

/-- Every admission budget of the mode in force holds (R277, R28, R263). -/
def State.budgetsHold (c : State) : Bool :=
  (!c.hbmMode || c.hbmFits) && (!modeRuns c.edge (c.getN Reg.MODE_ACTIVE) 34 || c.ddrFits) && c.slicesFit &&
    decide (c.progRun.ops ≤ c.opLimit c.progRun.rate)

/-- The checks of Table 15.6 for one side: `s` stands now, `c` is the configuration at B without the slip's own values,
`d` with them. -/
def State.modeSideCheck (s c d : State) (right : Bool) : Status :=
  let a := c.getN (modeField right)
  let b := d.getN (modeField right)
  if a = b then .ok
  else
    let n := d.inMode b
    if (b = 1 ∧ 67108864 < n.bufferTotal) ∨ n.budgetsHold = false ∨ powerRefuses (c.inMode a) n = true then .capacity
    else if modeCarries a = true ∧ modeCarries b = false ∧ s.coversX right = false ∧
        (s.edge = false ∨ s.otherCarries d right = false) then .maintConflict
    else if a = 7 ∧ (List.range 32).any (fun k => s.bookingLive k && s.bookingOnSide k right && s.get (Reg.BOOKING_CLASS k) == 2) = true then
      .maintConflict
    else .ok

/-- The checks of a MODE slip: a paired device makes them for each side, a solo device and a centre for its own (R322). -/
def State.modeCheck (s c d : State) : Status :=
  let own := s.modeSideCheck c d s.obeysRight
  let other := if s.edge ∧ s.paired then s.modeSideCheck c d (!s.obeysRight) else .ok
  if own = .capacity ∨ other = .capacity then .capacity else if own ≠ .ok then own else other

/-- The synchronisers start or stop at a MODE boundary: every carried source reaches its outputs by another path, and each
output shows its absent policy from that boundary until its next frame boundary settles it anew (R156). -/
def State.pathsChange (s : State) (b : Int) : State :=
  if s.runs 5 = false then s
  else
    s.each ((s.elsListed 0x5100 1).filter (fun e => s.outputSends e && (decide (96 ≤ e) || s.txBase e == e))) (fun t e =>
      let u := (((t.underPolicy e b 2).put (Hid.outUntimed e) 0).put (Hid.outFrame e) 0).audioFollows t e b
      u.emitOutput e (u.lineFrom e b))

/-- A MODE slip takes effect at B (R322, R323, R156). -/
def State.modeApply (s : State) (b : Int) : State :=
  let m := s.get (modeField s.obeysRight)
  let was := s.get Reg.MODE_ACTIVE
  if m = was then s
  else
    let t := (((s.inMode m).put Reg.MODE_HISTORY_SINCE (ltOfLf b)).put Reg.MODE_HISTORY_PREVIOUS was).bump Reg.MODE_HISTORY_CHANGES
    let t := t.each (List.range 96) (fun t n => (t.txDrop n).syncSettle n)
    let t := if modeRuns s.edge was.toNat 32 = modeRuns s.edge m.toNat 32 then t else t.pathsChange b
    (t.refreshCanvases.refreshAdmission.refreshTarget).gateFollow s

end Sys2Proof.Machine
end

