-- ==== Sys2Proof/Machine/Slips.lean ====
section
/-! DEFINITION. Slips: staging, arming, the choice of a boundary, check points, groups, GPI triggers, cancelling, the
launch of every kind, and the twin's part (05_slips.md, R91 to R117; R64, R87, R88, R264, R265, R435). -/
namespace Sys2Proof.Machine

/-! ### Ownership (R435, Table 22.12) -/

/-- A staged item belongs to a kind, and the target it belongs to in the configuration in force: `0xFFFF` stands for a layer
or tile that no canvas owns (R232). -/
def State.ownerOf (s : State) (k : Key) : Nat × Nat :=
  if k.idx = 0x5100 then (1, k.el)
  else if k.idx = 0x3100 ∨ k.idx = 0x3500 ∨ k.idx = 0x5200 then (2, k.el)
  else if k.idx = 0x4100 then (3, flowA k.el)
  else if k.idx = 0x7000 then (4, k.el)
  else if k.idx = 0x7100 ∨ k.idx = 0x7200 then (4, s.getN (Reg.LAYER_CANVAS k.el))
  else if k.idx = 0x7300 then (4, if k.el < 4096 then s.getN (Reg.LAYER_CANVAS k.el) else k.el - 4096)
  else if k.idx = 0x7400 then (4, s.getN (Reg.TILE_CANVAS k.el))
  else if k.idx = 0x9100 then (5, k.el)
  else if k.idx = 0x9200 then (5, 256 + k.el)
  else if k.idx = 0x6100 ∨ k.idx = 0x6200 then (6, k.el)
  else if k.idx = 0x4040 then (7, k.el)
  else if k.idx = 0x8200 ∨ k.idx = 0x8300 ∨ k.idx = 0x8500 ∨ k.idx = 0x8600 then (9, 0)
  else if k.idx = 0x2300 then (10, k.el)
  else if k.idx = 0x2310 then (11, 0)
  else if k.idx = 0x1100 then (12, 0)
  else (0, 0)

/-- A staged item may stand in a slip of a kind on a target (R95, R232). -/
def State.itemBelongs (s : State) (kind target : Nat) (i : Key × Int) : Bool :=
  let o := s.ownerOf i.1
  let pool := kind == 4 && (i.1.idx == 0x7100 || i.1.idx == 0x7200 || (i.1.idx == 0x7300 && decide (i.1.el < 4096)) || i.1.idx == 0x7400)
  let claim := i.1.sub == 1 && (i.1.idx == 0x7100 || i.1.idx == 0x7400)
  o.1 == kind && (o.2 == target || (pool && o.2 == 0xFFFF)) && (!claim || i.2 == (target : Int) || i.2 == 0xFFFF)

/-- The kinds a role defines (R97). -/
def kindDefined (edge : Bool) (kind : Nat) : Bool :=
  if edge then decide (1 ≤ kind) && decide (kind ≤ 13) else kind == 6 || (decide (10 ≤ kind) && decide (kind ≤ 13))

/-- The targets of a kind (Table 5.4). -/
def targetOk (kind target : Nat) : Bool :=
  if kind = 1 then decide (target < 16480)
  else if kind = 2 then decide (target < 96)
  else if kind = 3 then decide (32768 ≤ target) && decide (target < 49152)
  else if kind = 4 then decide (target < 256)
  else if kind = 5 then decide (target < 512)
  else if kind = 6 then decide (target < 64)
  else if kind = 7 then decide (target < 16)
  else if kind = 10 then decide (target < 32)
  else target == 0

/-! ### Timebases (R98, Table 5.5) -/

/-- A timebase: the boundaries a raster produces, its switching lines, a grid of period p from the epoch, the gate cycles of a MAC, the
nominal points of a format and offset for a raster that starts from OFF (R87), or those of a raster or a gate list that a LAUNCHED slip
will change first: points of period p through `base`, none before `least`, both in 1/4,096 lf. -/
inductive Timebase
  | raster (r : Nat)
  | switch (r : Nat)
  | grid (p : Int)
  | gate (m : Nat)
  | start (format offset : Int)
  | ahead (p base least : Int)
deriving DecidableEq, Repr

/-- A raster is OFF: no FORMAT, or not started yet (R318). -/
def State.rasterOff (s : State) (r : Nat) : Bool := s.rasterPeriod r == 0 || s.get (Hid.rasterRun r) == 0

/-- P of a timebase, in lf. -/
def State.tbPeriod (s : State) : Timebase → Int
  | .raster r => s.rasterPeriod r
  | .switch r => s.rasterPeriod r
  | .grid p => p
  | .gate m => s.get (Reg.GATE_LIST_CYCLE m)
  | .start f _ => framePeriod f
  | .ahead p _ _ => p

/-- A predicted boundary of a timebase in 1/4,096 lf, from which whole periods lead to the others (R100). -/
def State.tbBase (s : State) : Timebase → Int
  | .raster r => fineOfLt (s.get (Reg.RASTER_LAST_BOUNDARY r))
  | .switch r => fineOfLt (s.get (Reg.RASTER_LAST_BOUNDARY r)) + switchOffset (s.get (Reg.RASTER_FORMAT r)) * 4096
  | .grid _ => 0
  | .gate m => fineOfLt (s.get (Reg.GATE_LIST_BASE_TIME m))
  | .start _ o => o * 4096
  | .ahead _ b _ => b

/-- The timebase's raster is OFF, so that it has no boundary. -/
def State.tbOff (s : State) : Timebase → Bool
  | .raster r => s.rasterOff r
  | .switch r => s.rasterOff r
  | t => decide (s.tbPeriod t ≤ 0)

/-- The first predicted boundary at or after an instant. -/
def State.tbFrom (s : State) (t : Timebase) (n : Int) : Int :=
  nominalFrom (match t with | .ahead _ _ l => max n l | _ => n) (s.tbBase t) (s.tbPeriod t * 4096)

/-- The LAUNCHED slip that stages a field and takes effect last before an instant (R97). -/
def State.changes (s : State) (k : Key) (before : Int) : Option Slip :=
  (s.slips.filter (fun x => decide (x.st = .launched) && s.get (Hid.slipApplied x.num) == 0 &&
      (match x.boundary with | none => false | some b => decide (b < before)) && x.items.any (fun i => i.1 == k))).foldl
    (fun (a : Option Slip) x =>
      match a with
      | none => some x
      | some y => if y.boundary.getD 0 ≤ x.boundary.getD 0 then some x else a) none

/-- A field as it will stand at an instant: staged in the slip, else in force as changed by every LAUNCHED slip that takes
effect before it (R97). -/
def State.fieldAt (s : State) (items : List (Key × Int)) (k : Key) (before : Int) : Int :=
  match items.find? (fun i => i.1 == k) with
  | some i => i.2
  | none =>
    match s.changes k before with
    | none => s.get k
    | some x => ((x.items.find? (fun i => i.1 == k)).map (fun i => i.2)).getD (s.get k)

/-- The field that names a target's raster (R97). -/
def rasterField (kind target : Nat) : Key :=
  if kind = 1 then (if target < 96 then Reg.SDI_TX_RASTER target else Reg.FLOW_RASTER (32768 + (target - 96)))
  else if kind = 2 then Reg.SDI_TX_RASTER target
  else if kind = 3 then Reg.FLOW_RASTER target
  else if kind = 4 then Reg.CANVAS_RASTER target
  else if target < 256 then Reg.RECORDER_RASTER target else Reg.HEAD_RASTER (target - 256)

/-- The rate whose sample instants time an audio slip (R264, R265). -/
def State.audioGrid (s : State) (kind : Nat) : Int :=
  let run := s.getN Reg.AUDIO_COMPILE_RUNNING_RATE
  let differs := if kind = 8 then s.progShadow.rate != run
    else s.slips.any (fun x => x.held && x.kind == 8 && (match s.progNext with
      | some p => p.rate != run
      | none => s.progShadow.rate != run))
  if differs then sampleLf 0 else sampleLf run

/-- The targets of an ALIGN slip: RASTERS staged in it, or in force (R88). -/
def State.alignTargets (s : State) (items : List (Key × Int)) : List Nat :=
  let v := (((items.find? (fun i => i.1 == Reg.ALIGN_RASTERS)).map (fun i => i.2)).getD (s.get Reg.ALIGN_RASTERS)).toNat
  (List.range 32).filter (fun r => bitOf v r)

/-- The timebase of raster r, its switching lines for `sw`, as it will stand just before an instant: its own boundaries, or, where a
LAUNCHED RASTER slip changes FORMAT or OFFSET first, those that follow: from OFF the nominal points from that slip's boundary on, on a
running raster those at least half a new frame after it (R87). -/
def State.rasterAt (s : State) (sw : Bool) (r : Nat) (before : Int) : Timebase :=
  let own : Timebase := if sw then .switch r else .raster r
  let x := match s.changes (Reg.RASTER_FORMAT r) before with
    | some y => some y
    | none => s.changes (Reg.RASTER_OFFSET r) before
  match x with
  | none => own
  | some y =>
    let f := s.fieldAt [] (Reg.RASTER_FORMAT r) before
    let o := s.fieldAt [] (Reg.RASTER_OFFSET r) before
    let b := y.boundary.getD 0
    let off : Int := if sw then switchOffset f else 0
    if r < 32 then
      .ahead (framePeriod f) ((o + off) * 4096)
        (if s.rasterOff r then b + off * 4096 else b + (framePeriod f + 1) / 2 * 4096 + off * 4096)
    else own

/-- The gate cycles of MAC m as they will stand just before an instant (R201). -/
def State.gateAtB (s : State) (m : Nat) (before : Int) : Timebase :=
  let x := match s.changes (Reg.GATE_LIST_CYCLE m) before with
    | some y => some y
    | none => s.changes (Reg.GATE_LIST_BASE_TIME m) before
  match x with
  | none => .gate m
  | some y => .ahead (s.fieldAt [] (Reg.GATE_LIST_CYCLE m) before) (fineOfLt (s.fieldAt [] (Reg.GATE_LIST_BASE_TIME m) before)) (y.boundary.getD 0)

/-- The timebases of a slip, one for each raster of an ALIGN; `before` bounds the LAUNCHED slips that may still change the
field that names its raster, or the raster itself (R87, R97, Table 5.4). -/
def State.timebases (s : State) (x : Slip) (before : Int) : List Timebase :=
  if x.kind ≤ 5 then
    [s.rasterAt (decide (x.kind ≤ 2)) (s.fieldAt x.items (rasterField x.kind x.target) before).toNat before]
  else if x.kind = 6 then [.grid 5292000]
  else if x.kind = 7 then [s.gateAtB x.target before]
  else if x.kind = 9 ∧ (s.slip x.num).held = true ∧ s.get (Hid.setGrid x.num) ≠ 0 then [.grid (s.get (Hid.setGrid x.num))]
  else if x.kind = 8 ∨ x.kind = 9 then [.grid (s.audioGrid x.kind)]
  else if x.kind = 10 then
    (let t := s.rasterAt false x.target before
     if s.tbOff t then
       (let f := s.fieldAt x.items (Reg.RASTER_FORMAT x.target) before
        if f = 0 ∨ (x.items.any (fun i => i.1 == Reg.RASTER_FORMAT x.target)) = false then [.grid lfMs]
        else [.start f (s.fieldAt x.items (Reg.RASTER_OFFSET x.target) before)])
     else [t])
  else if x.kind = 11 then (s.alignTargets x.items).map (fun r => s.rasterAt false r before)
  else if x.raster < 32 then [s.rasterAt false x.raster before] else [.grid lfMs]

/-- The preparation of a kind on a timebase of period p (Table 5.4). -/
def preparation (kind : Nat) (p : Int) : Int :=
  if kind = 1 ∨ kind = 4 ∨ kind = 5 then 2 * p
  else if kind = 2 ∨ kind = 3 ∨ kind = 7 then p
  else if kind = 6 then 10584000
  else if kind = 12 then 5292000000
  else if kind = 13 then 52920000000
  else 52920000

/-- The minimum lead of a kind (R97). -/
def minLead (kind : Nat) (p : Int) : Int := preparation kind p + 10584000

/-- The effective guard (R100). -/
def State.guardOf (s : State) (p : Int) : Int := min (s.get Reg.SLIP_GUARD) (p / 4)



/-- A launch lies less than G from a predicted boundary of a timebase (R100). -/
def State.nearEdge (s : State) (t : Timebase) (launch : Int) : Bool :=
  let p := s.tbPeriod t
  let g := s.guardOf p * 4096
  decide ((launch - s.tbBase t) % (p * 4096) < g) || decide ((s.tbBase t - launch) % (p * 4096) < g)

/-- The earliest boundary of several timebases at or after an instant (1/4,096 lf), with its period (lf). -/
def State.earliest (s : State) (l : List Timebase) (n : Int) : Option (Int × Int) :=
  l.foldl (fun (a : Option (Int × Int)) t =>
    let b := s.tbFrom t n
    match a with
    | none => some (b, s.tbPeriod t)
    | some (c, q) => if b < c then some (b, s.tbPeriod t) else some (c, q)) none

/-- The timebases of a slip as they will stand at its own boundary, which for an ALIGN is that of each target: found once with the
LAUNCHED slips before its launch and again with those before the boundary so found (R88, R97). -/
def State.timebasesFrom (s : State) (x : Slip) (n : Int) : List Timebase :=
  if x.kind = 11 then (s.alignTargets x.items).map (fun r =>
    let t := s.rasterAt false r n
    if s.tbOff t then t else s.rasterAt false r (s.tbFrom t n))
  else
    let l := s.timebases x n
    if l.any s.tbOff then l
    else
      match s.earliest l n with
      | none => l
      | some (b, _) => s.timebases x b

/-! ### Arming (R94 to R101, R107, R108) -/

/-- How many held slips have their predicted boundary in the calendar period of an instant (R107). -/
def State.launchSet (s : State) (b : Int) (but : Nat) : Nat :=
  (s.slips.filter (fun x => x.held && x.num != but &&
    (match x.boundary with | none => false | some c => decide (c / (5292000 * 4096) = b / (5292000 * 4096))))).length

/-- The largest launch set held (`5050:04`). -/
def State.notePeak (s : State) (b : Int) : State :=
  let n : Int := (s.launchSet b 0x10000 : Nat)
  s.when (decide (s.get Reg.SLIP_COUNT_PEAK_SET < n)) (fun t => t.put Reg.SLIP_COUNT_PEAK_SET n)

/-- A breach of the group rules (R108): held members share the launch given, or the trigger, and no two have one kind and
target. -/
def State.groupBreach (s : State) (x : Slip) : Bool :=
  x.group != 0 && s.slips.any (fun y => y.held && y.num != x.num && y.group == x.group &&
    ((y.kind == x.kind && y.target == x.target) || y.trigger != x.trigger ||
      (if x.trigger = 0 then y.given != x.given else y.gpi != x.gpi || y.offset != x.offset)))

/-- The staged values of a kind suffice: every kind but AUDIO_PROGRAM and HANDOVER takes some, those two none (R95). -/
def itemsSuffice (kind : Nat) (items : List (Key × Int)) : Bool :=
  if kind = 8 ∨ kind = 13 then items.isEmpty else !items.isEmpty

/-- The RANGE conditions of R95. `l` are the slip's timebases; a target raster of an ALIGN is judged as it stands at the ARM (R88). -/
def State.armRange (s : State) (x : Slip) (l : List Timebase) : Bool :=
  !kindDefined s.edge x.kind || !targetOk x.kind x.target || x.items.any (fun i => !s.itemBelongs x.kind x.target i) ||
    !itemsSuffice x.kind x.items || l.isEmpty ||
    (if x.kind = 11 then (s.alignTargets x.items).any s.rasterOff else l.any s.tbOff) || s.groupBreach x ||
    (x.seq != 0 && s.slips.any (fun y => y.held && y.num != x.num && y.seq == x.seq)) ||
    (x.trigger != 0 && l.any (fun t => decide (x.offset < minLead x.kind (s.tbPeriod t)) || decide (529200000000 < x.offset))) ||
    decide (1 < x.flags)

/-- Another LAUNCHED slip of the same kind and target takes effect at the same boundary (R95). -/
def State.launchedClash (s : State) (x : Slip) (b : Int) : Bool :=
  s.slips.any (fun w => decide (w.st = .launched) && w.num != x.num && w.kind == x.kind && w.target == x.target && decide (w.boundary = some b))

/-- What an ARM of slip `x` answers, and the record it makes: `x` holds the fields of the ARM, ARMED_AT and the staged items (R94 to
R101, R107). `mirrored`: sequence and launch stand as they are, and neither guard nor lead is checked: on the twin, and on the authority
twin as it applies what it mirrored (R35, R112). -/
def State.armResult (s : State) (x : Slip) (mirrored : Bool) : Status × Slip :=
  let launch := fineOfLt x.launch
  let rough := s.timebasesFrom x launch
  if s.timeSet = false ∨ s.ready 7 = false then (.notReady, x)
  else if s.armRange x rough then (.range, x)
  else if (s.slip x.num).held then (.slipFull, x)
  else
    let y : Slip := { x with
      st := .armed, result := .ok, cause := 0xFFFF, boundary := none, check := none,
      seq := if x.seq = 0 then s.getN Reg.SLIP_COUNT_HIGHEST_SEQUENCE + 1 else x.seq,
      origin := b2n mirrored }
    if x.trigger ≠ 0 then (.ok, y)
    else
      match s.earliest rough launch with
      | none => (.range, x)
      | some (b, p) =>
        let lead := fineOfLt x.armedAt + minLead x.kind p * 4096
        let late := !mirrored && decide (b < lead)
        let moved := late && x.late == 1
        let (b, p, launch) : Int × Int × Int :=
          if moved then
            (match s.earliest (s.timebasesFrom x lead) lead with
            | none => (b, p, launch)
            | some (c, q) => (c, q, c - q / 2 * 4096))
          else (b, p, launch)
        let z : Slip := { y with
          launch := if moved then (ltOfFine launch).toNat else x.launch, boundary := some b, check := some (b - preparation x.kind p * 4096) }
        if 1024 ≤ s.launchSet b x.num then (.slipFull, x)
        else if (late = true ∧ moved = false) ∨ s.launchedClash x b = true then (.slipLate, x)
        else if mirrored = false ∧ late = false ∧ rough.any (fun t => s.nearEdge t launch) = true then (.slipNearEdge, x)
        else (.ok, z)

/-- An ARM takes effect: the record, HIGHEST_SEQUENCE, the launch set, and PROBATION for a HANDOVER (R95, R96). -/
def State.armApply (s : State) (z : Slip) : State :=
  let t := s.setSlip z
  let t := t.when (decide (t.getN Reg.SLIP_COUNT_HIGHEST_SEQUENCE < z.seq)) (fun u => u.put Reg.SLIP_COUNT_HIGHEST_SEQUENCE z.seq)
  let t := (((((t.put (Hid.slipApplied z.num) 0).put (Hid.alignMask z.num) 0).put (Hid.slipIsles z.num) 0).put (Hid.slipOutcome z.num) 0).put
    (Hid.twinOutcome z.num) 0).put (Hid.probLen z.num) (if z.kind = 13 then t.get Reg.HEALTH_CONFIRM_PROBATION else 0)
  let t := t.put (Hid.setGrid z.num) (if z.kind = 9 then s.audioGrid 9 else 0)
  match z.boundary with
  | none => t
  | some b => t.notePeak b

/-- A refused ARM changes nothing but its counters (`5050:09`, `:0A`). -/
def State.armRefused (s : State) (st : Status) : State :=
  if st = .slipLate then s.bump Reg.SLIP_COUNT_LATE else if st = .slipNearEdge then s.bump Reg.SLIP_COUNT_NEAR_EDGE else s

/-- The record an ARM starts from: the slip's staged items with the fields of the ARM, sub-index by sub-index, and the time at which
its execution began (R94, R95). -/
def State.armRecord (s : State) (n : Nat) (fld : Nat → Int) (given : Option Nat) (at_ : Nat) : Slip :=
  let x := (s.slip n).cleared
  { x with
    kind := (fld 1).toNat, target := (fld 2).toNat, launch := (fld 3).toNat, late := (fld 4).toNat, group := (fld 5).toNat,
    raster := (fld 6).toNat, seq := (fld 7).toNat, trigger := (fld 8).toNat, gpi := (fld 9).toNat, offset := fld 10,
    flags := (fld 11).toNat, given := given.getD (fld 3).toNat, armedAt := at_ }

/-! ### Staging (R93) and cancelling (R111) -/

/-- One item joins the staged items: it replaces the value of its object, keeping its place (R93). -/
def stageOne (l : List (Key × Int)) (i : Key × Int) : List (Key × Int) :=
  if l.any (fun j => j.1 == i.1) then l.map (fun (j : Key × Int) => if j.1 = i.1 then i else j) else l ++ [i]

/-- The staged items of a slip after a STAGE. -/
def State.stagedAfter (s : State) (n : Nat) (items : List (Key × Int)) : List (Key × Int) :=
  items.foldl stageOne (s.slip n).cleared.items

/-- The limits of R93: SLIP_FULL for a held slip, CAPACITY over a limit. -/
def State.stageRoom (s : State) (n : Nat) (items : List (Key × Int)) : Status :=
  let l := s.stagedAfter n items
  if (s.slip n).held then .slipFull
  else if 4096 < l.length ∨ 262144 < s.itemsUsed - (s.slip n).items.length + l.length then .capacity
  else .ok

/-- A STAGE takes effect. -/
def State.stageApply (s : State) (n : Nat) (items : List (Key × Int)) : State :=
  s.setSlip { (s.slip n).cleared with st := .staged, items := s.stagedAfter n items }

/-- A slip enters CANCELLED (R111). -/
def State.cancelSlip (s : State) (n : Nat) : State :=
  let x := s.slip n
  if x.st = .staged ∨ x.st = .armed then
    (s.setSlip { x with st := .cancelled, items := [] }).bump Reg.SLIP_COUNT_CANCELLED
  else s

/-- The word CANCEL answers for one slip (R111). -/
def State.cancelWord (s : State) (n : Nat) : Status :=
  if 8191 < n then .noObject else if (s.slip n).st = .launched then .slipLate else .ok

/-- The status of a write of g to `5030:01` (R111). -/
def State.cancelGroupStatus (s : State) (g : Nat) : Status :=
  if g = 0 ∨ 4095 < g then .range
  else if s.slips.any (fun x => decide (x.st = .launched) && x.group == g) then .slipLate else .ok

/-- A write of g to `5030:01` cancels every ARMED member of group g. -/
def State.cancelGroup (s : State) (g : Nat) : State :=
  s.each ((s.slips.filter (fun x => decide (x.st = .armed) && x.group == g)).map (fun (x : Slip) => x.num)) (fun t n => t.cancelSlip n)

/-- A write of 1 to `5030:02` cancels every STAGED and ARMED slip. -/
def State.cancelAll (s : State) : State :=
  s.each ((s.slips.filter (fun x => decide (x.st = .staged) || decide (x.st = .armed))).map (fun (x : Slip) => x.num)) (fun t n => t.cancelSlip n)

/-! ### The configuration at B (R104) -/

/-- The order of kinds at one instant: MODE first, HANDOVER last (R105). -/
def kindOrder (k : Nat) : Nat := if k = 12 then 0 else k

/-- The order of R105, boundaries first. -/
def slipBefore (a b : Slip) : Bool :=
  let ab := a.boundary.getD 0
  let bb := b.boundary.getD 0
  decide (ab < bb) || (ab == bb && (decide (kindOrder a.kind < kindOrder b.kind) ||
    (kindOrder a.kind == kindOrder b.kind && decide (a.seq < b.seq))))

/-- Insertion in the order of R105. -/
def insertSlip (x : Slip) : List Slip → List Slip
  | [] => [x]
  | y :: l => if slipBefore x y then x :: y :: l else y :: insertSlip x l

/-- A list of slips in the order of R105. -/
def orderSlips (l : List Slip) : List Slip := l.foldr insertSlip []

/-- What launching has a source from another device bring: its subscription, granted on both its planes (R175, R324). -/
def State.withSub (c : State) (m : Nat) : State :=
  if c.remote m = false ∨ (c.subOf m).isSome then c
  else
    match c.openSub m 0xFFFFFFFF with
    | none => c
    | some t =>
      match t.subOf m with
      | none => t
      | some x => ((t.put (Reg.FAB_SUB_CENTRE0 x.el) 0).put (Reg.FAB_SUB_CENTRE1 x.el) (if x.protect then 0 else 255))

/-- The loads that follow the configuration as a slip of a kind on a target leaves it: subscriptions, homes, fetch, the running program,
enabled outputs and flows, and every admission (R25, R27, R28, R324). -/
def State.withLoads (c : State) (x : Slip) : State :=
  let e := x.target
  if x.kind = 1 then (if c.get (Reg.XPT_OUT_SELECT e) = 1 then c.withSub (c.getN (Reg.XPT_OUT_SOURCE e)) else c)
  else if x.kind = 2 then
    (c.each (groupLanes e (c.getN (Reg.LINK_GROUP_TX_SIZE e))) (fun t k =>
      t.put (Reg.SDI_TX_STATE k) (b2i (c.get (Reg.SDI_TX_ENABLE e) == 1)))).refreshAdmission
  else if x.kind = 3 then
    (let t := if c.get (Reg.FLOW_ENABLE e) = 1 ∧ c.get (Reg.FLOW_TYPE e) = 5 then c.withSub (c.getN (Reg.FLOW_SOURCE e)) else c
     t.refreshAdmitted.refreshAdmission)
  else if x.kind = 4 then
    ((c.each ((c.layersOn e).map (fun l => c.getN (Reg.LAYER_SOURCE l))).eraseDups (fun t m => t.withSub m)).refreshCanvases).refreshAdmission
  else if x.kind = 5 then
    (let t := if e < 256 then
        (if c.get (Reg.RECORDER_ENABLE e) = 1 then c.withSub (c.getN (Reg.RECORDER_SOURCE e)) else c).withHome e else c
     t.refreshAdmission)
  else if x.kind = 8 then
    (let p := c.progNext.getD c.progShadow
     ({ c with progRun := p } : State).put Reg.AUDIO_COMPILE_RUNNING_OPERATIONS p.ops |>.put Reg.AUDIO_COMPILE_RUNNING_RATE p.rate)
  else if x.kind = 10 then c.refreshCanvases.refreshAdmission
  else if x.kind = 12 then c.obeyMode.refreshCanvases
  else c

/-- The values of a slip put into force, with the mode they name and the loads they bring. -/
def State.withSlip (c : State) (x : Slip) : State := (c.each x.items (fun t i => t.put i.1 i.2)).withLoads x

/-- The slip that is judged itself: its own program is the shadow, whatever a LAUNCHED one installs (R264). -/
def State.withOwn (c : State) (x : Slip) : State := ({ c with progNext := none } : State).withSlip x

/-- The LAUNCHED slips that have yet to take effect at or before an instant (none: whenever), but slip `but`. -/
def State.launchedBy (s : State) (upTo : Option Int) (but : Nat) : List Slip :=
  orderSlips (s.slips.filter (fun x => decide (x.st = .launched) && s.get (Hid.slipApplied x.num) == 0 && x.num != but &&
    (match upTo with | none => true | some b => decide (x.boundary.getD 0 ≤ b))))

/-- The configuration as LAUNCHED slips, but slip `but`, leave it (R104). -/
def State.candidate (s : State) (upTo : Option Int) (but : Nat) : State :=
  s.each (s.launchedBy upTo but) (fun c x => c.withSlip x)

/-! ### Launch checks (R104) -/

/-- The controller that a head of the configuration reads from; none, where it reads nothing (R279, R282). -/
def State.headIsle (c : State) (h : Nat) : List Nat :=
  match c.headCost h with
  | none => []
  | some d => if d.1 < 4 then [34 + d.1] else []

/-- The islands that hold the target of a slip in the configuration at its boundary (R106, Table 5.4). -/
def slipIslands (c : State) (kind target : Nat) : List Nat :=
  if kind = 1 then [5]
  else if kind = 2 then [7 + target / 8]
  else if kind = 3 then [6]
  else if kind = 4 then
    (List.range 8).filterMap (fun i => if bitOf (c.getN (Reg.CANVAS_SLICES target)) i then some (38 + i) else none)
  else if kind = 5 then
    (if target < 256 then
      (if c.getN (Reg.RECORDER_HOME_IN_FORCE target) < 4 then [34 + c.getN (Reg.RECORDER_HOME_IN_FORCE target)] else [])
     else c.headIsle (target - 256))
  else if kind = 6 then [23 + target / 8]
  else if kind = 7 then [19 + target / 4]
  else if kind = 8 then [46]
  else if kind = 9 then [46]
  else if kind = 10 then [2]
  else if kind = 11 then [2]
  else []

/-- The islands a kind needs to run in the mode at B (Table 5.4, Table 1.6). -/
def kindIslands (c : State) (x : Slip) : List Nat :=
  if x.kind = 1 then c.selectionIslands x.target
  else if x.kind = 5 then 34 :: slipIslands c 5 x.target else if x.kind = 4 then [38] else slipIslands c x.kind x.target

/-- The functions a kind needs ready: the islands that hold the target, and STACKS (R104). -/
def State.kindReady (s c : State) (x : Slip) : Bool :=
  (slipIslands c x.kind x.target).all (fun i => s.up i) && (x.kind != 5 || s.ready 49)

/-- The launch check of ALIGN: no target may be OFF at its own B, and HOUSE needs HA or HB selected and a pulse period that is a whole
multiple of P. The targets are those of the check point (R88). -/
def State.alignCheck (s c : State) (x : Slip) : Status :=
  let l := s.timebasesFrom x (fineOfLt x.launch)
  let sel := c.getN Reg.REF_SELECTED_CANDIDATE
  if l = [] ∨ l.any s.tbOff = true then .range
  else if c.get Reg.ALIGN_ALIGN_TO = 1 ∧ (1 < sel ∨ l.any (fun t => s.housePeriod sel % s.tbPeriod t != 0) = true) then .range
  else .ok

/-- A source that a slip would subscribe to has no subscription in a configuration in which every launched slip has opened its own: it
would be the 4,097th (R175). -/
def State.noSub (all : State) (m : Nat) : Bool := all.remote m && (all.subOf m).isNone

/-- The kind's own checks: `s` stands at C, `c0` is the configuration at B without the slip, `c` with it, `all` with every
LAUNCHED slip. -/
def State.ownCheck (s c0 c all : State) (x : Slip) : Status :=
  let e := x.target
  if x.kind = 1 then reasonStatus (s.takeCheck c all e)
  else if x.kind = 2 then
    (if c.outputCheck e ≠ .ok then c.outputCheck e
     else if c.routeClash e then .wrongMode
     else if c.hbmMode ∧ ¬ c.hbmFits ∨ c.hbmMode ∧ ¬ all.hbmFits then .capacity else .ok)
  else if x.kind = 3 then
    (if c.flowCheck e ≠ .ok then c.flowCheck e
     else if all.flowCheck e = .capacity ∨ c.hbmMode ∧ ¬ c.hbmFits ∨
       (c.get (Reg.FLOW_ENABLE e) = 1 ∧ c.get (Reg.FLOW_TYPE e) = 5 ∧ all.noSub (c.getN (Reg.FLOW_SOURCE e)) = true) then .capacity else .ok)
  else if x.kind = 4 then
    s.canvasCheck c all e x.items ((s.slips.filter (fun (y : Slip) => decide (y.st = .launched) && y.kind == 4 && y.num != x.num)).map
      (fun (y : Slip) => (y.target, y.items)))
  else if x.kind = 5 then
    (let st := if e < 256 then s.recCheck c0 c all e else s.headCheck c all (e - 256)
     if st ≠ .ok then st
     else if all.ddrFits = false ∨ (e < 256 ∧ c.get (Reg.RECORDER_ENABLE e) = 1 ∧ all.noSub (c.getN (Reg.RECORDER_SOURCE e)) = true) then .capacity
     else .ok)
  else if x.kind = 6 then c0.calendarCheck e x.items
  else if x.kind = 7 then
    (if c.gateCheck e ≠ .ok then c.gateCheck e else if all.gateCheck e = .capacity then .capacity else .ok)
  else if x.kind = 8 then s.programCheck c
  else if x.kind = 9 then c.setCheck
  else if x.kind = 10 then
    (if (x.items.any (fun i => i.1 == Reg.RASTER_OFFSET e)) = false ∨
        offsetOk (c.get (Reg.RASTER_FORMAT e)) (c.get (Reg.RASTER_OFFSET e)) = true then .ok else .range)
  else if x.kind = 11 then s.alignCheck c x
  else if x.kind = 12 then s.modeCheck c0 c
  else s.handoverCheck

/-- The launch check of a slip at its check point (R104): mode, readiness, the kind's own checks, a raster that will be OFF at B, the power
cap (R324). `t` is `s` with the members settled together LAUNCHED. -/
def State.launchCheck (s t : State) (x : Slip) : Status :=
  let c0 := t.candidate x.boundary x.num
  let c := c0.withOwn x
  let all := (t.candidate none x.num).withOwn x
  let mode := c.getN Reg.MODE_ACTIVE
  if x.kind ≠ 4 ∧ (kindIslands c x).any (fun i => !c.islandListed mode i) = true then .wrongMode
  else if x.kind ≠ 1 ∧ x.kind ≠ 4 ∧ s.kindReady c x = false then .notReady
  else
    let st := s.ownCheck c0 c all x
    if st = .wrongMode ∨ st = .notReady then st
    else if x.kind ≠ 10 ∧ x.kind ≠ 11 ∧ (t.timebases x (x.boundary.getD 0)).any t.tbOff = true then .range
    else if st ≠ .ok then st else if x.kind ≠ 12 ∧ powerRefuses c0 c = true then .capacity else .ok

/-- The reason of a refused take stays on record (`5100[o]`, R144). -/
def State.noteRefusal (s : State) (x : Slip) : State :=
  if x.kind = 1 then
    s.put (Reg.XPT_OUT_LAST_REFUSAL x.target)
      (s.takeCheck ((s.candidate x.boundary x.num).withOwn x) ((s.candidate none x.num).withOwn x) x.target : Nat)
  else s

/-! ### Settlement at a check point (R102, R103, R108) -/

/-- The user number of a recorder's subscription, and of a COMPRESSED egress flow's. -/
def recUser (r : Nat) : Nat := 0x20000 + r
def flowUser (e : Nat) : Nat := 0x40000 + (e - 32768)

/-- A set of small numbers as bits. -/
def maskOf (l : List Nat) : Nat := l.eraseDups.foldl (fun a i => a + 2 ^ i) 0

/-- What a slip takes as it launches (R104, R106, R143, R173, R246, R264): paths, subscriptions, stores, the shadow program, the far end's
word of a new mask; the islands that hold its target from now on, and the targets of an ALIGN (R88) are noted. -/
def State.launchEffects (s : State) (x : Slip) : State :=
  let c := (s.candidate x.boundary x.num).withOwn x
  let e := x.target
  let s := s.put (Hid.slipIsles x.num) (maskOf (slipIslands c x.kind e) : Nat)
  if x.kind = 1 then s.takeLaunch c e
  else if x.kind = 3 then
    (let m := c.getN (Reg.FLOW_SOURCE e)
     if c.get (Reg.FLOW_ENABLE e) = 1 ∧ c.get (Reg.FLOW_TYPE e) = 5 ∧ c.remote m = true then
       (s.openSub m (flowUser e)).getD s else s)
  else if x.kind = 4 then s.canvasLaunch c e
  else if x.kind = 5 ∧ e < 256 then
    (let m := c.getN (Reg.RECORDER_SOURCE e)
     if c.get (Reg.RECORDER_ENABLE e) = 1 ∧ c.remote m = true then (s.openSub m (recUser e)).getD s else s)
  else if x.kind = 6 ∧ x.items.any (fun i => i.1 == Reg.FAB_CALENDAR_SLOT_MASK e) = true then
    s.sendMask e true (c.getN (Reg.FAB_CALENDAR_SLOT_MASK e)) (c.getN (Reg.FAB_PATH_ADMIT e)) (x.boundary.getD 0 / (5292000 * 4096)).toNat
  else if x.kind = 8 then { s with progNext := some s.progShadow }
  else if x.kind = 11 then s.put (Hid.alignSet x.num) (maskOf (s.alignTargets x.items) : Nat)
  else s

/-- The FRAME_INDEX, or nominal index, of a slip's boundary (R112). -/
def State.boundaryIndex (s : State) (x : Slip) : Int :=
  match x.boundary, (s.timebases x (x.boundary.getD 0)).head? with
  | some b, some t =>
    let o := match t with
      | .raster r => s.get (Reg.RASTER_OFFSET r)
      | .switch r => s.get (Reg.RASTER_OFFSET r) + switchOffset (s.get (Reg.RASTER_FORMAT r))
      | u => s.tbBase u / 4096
    nominalIndex (b / 4096) o (s.tbPeriod t)
  | _, _ => 0

/-- The outcomes of the two twins for a slip are compared once both are known; a difference counts and raises SLIP_DIVERGED
(R112). -/
def State.compareOutcome (s : State) (n : Nat) : State :=
  let a := s.get (Hid.slipOutcome n)
  let b := s.get (Hid.twinOutcome n)
  if a = 0 ∨ b = 0 then s
  else
    let t := (s.put (Hid.slipOutcome n) 0).put (Hid.twinOutcome n) 0
    if a = b then t else (t.bump Reg.SLIP_COUNT_DIVERGED).raise 16 0 n

/-- An outcome as one number: state and index. -/
def outcomeOf (state : Nat) (index : Int) : Int := 1 + state + 16 * index

/-- After settling a slip its outcome goes to the twin (R112). -/
def State.tellOutcome (s : State) (n : Nat) (st : SlipSt) (index : Int) : State :=
  if s.paired then
    ((s.sendTwin (.slipOutcome n st.code index)).put (Hid.slipOutcome n) (outcomeOf st.code index)).compareOutcome n
  else s

/-- The twin's outcome for a slip arrives (R112). -/
def State.twinOutcomeIn (s : State) (n st : Nat) (index : Int) : State :=
  (s.put (Hid.twinOutcome n) (outcomeOf st index)).compareOutcome n

/-- A slip enters FAILED: recorded, counted, SLIP_FAILED raised (R104). -/
def State.failSlip (s : State) (n : Nat) (st : Status) (cause : Nat) : State :=
  let x := s.slip n
  let t := s.failRecord n st cause
  let t := t.when (decide (st = .slipLate)) (fun u => u.bump Reg.SLIP_COUNT_LATE)
  (((t.raise 15 0 n).tellOutcome n .failed (s.boundaryIndex x)).rearm n x.items)

/-- The slips that failed as their island restarted are told to the twin, as every settled slip is (R106, R112). -/
def State.tellFallen (s : State) : State :=
  s.each ((s.regs.filter (fun p => p.1.idx == (Hid.slipFell 0).idx)).map (fun p => p.1.el)) (fun t n =>
    (t.put (Hid.slipFell n) 0).tellOutcome n .failed (t.boundaryIndex (t.slip n)))

/-- What every command ends with: outcomes still untold are told, candidates LX and FX come and go with what they need (R74), and the
messages to the twin leave in the order of Table 8.11 (R112, R189). `old` stands before the command. -/
def State.closing (s old : State) : State := s.tellFallen.refPresence.twinOrdered old

/-- A slip enters SUPERSEDED (R103, R108). -/
def State.supersede (s : State) (n cause : Nat) : State :=
  let x := s.slip n
  ((s.setSlip { x with st := .superseded, result := .ok, cause := cause, items := [] }).bump Reg.SLIP_COUNT_SUPERSEDED).tellOutcome n
    .superseded (s.boundaryIndex x)

/-- The winner of the collision that a slip loses: the held rival of the highest sequence above its own (R103). -/
def State.beatenBy (s : State) (x : Slip) : Option Slip :=
  let rivals := s.slips.filter (fun y => y.held && y.num != x.num && y.kind == x.kind && y.target == x.target &&
    decide (y.boundary = x.boundary) && decide (x.seq < y.seq))
  rivals.foldl (fun (a : Option Slip) y =>
    match a with
    | none => some y
    | some z => if z.seq < y.seq then some y else a) none

/-- The members settled together: the slip alone, or every ARMED member of its group with a boundary (R108). -/
def State.unitOf (s : State) (x : Slip) : List Slip :=
  if x.group = 0 then [x]
  else orderSlips (s.slips.filter (fun y => decide (y.st = .armed) && y.group == x.group && y.boundary.isSome))

/-- The state in which every slip of a list is LAUNCHED (tentatively, or for good). -/
def State.markLaunched (s : State) (l : List Slip) : State :=
  s.each l (fun t x => t.setSlip { t.slip x.num with st := .launched, result := .ok })

/-- The timing of the sources that TAKE slips select, as their check point finds it (R144, R148). `t` holds the members LAUNCHED. -/
def State.takesCompared (s t : State) (l : List Slip) : State :=
  s.each (l.filter (fun x => x.kind == 1)) (fun u x => u.takeCompare ((t.candidate x.boundary x.num).withOwn x) x.target)

/-- One slip or one group is settled (R103, R104, R108). `start` holds the collisions as the check point found them. -/
def State.settleUnit (s start : State) (l : List Slip) : State :=
  match l.find? (fun x => (start.beatenBy x).isSome) with
  | some first =>
    s.each l (fun t x => t.supersede x.num
      (match start.beatenBy x with
      | some y => y.num
      | none => first.num))
  | none =>
    let s := s.takesCompared (s.markLaunched l) l
    let t := s.markLaunched l
    match l.find? (fun x => s.launchCheck t x != .ok) with
    | some first =>
      let st := s.launchCheck t first
      let u := (s.noteRefusal first).when (st == .capacity && ((t.candidate first.boundary first.num).withOwn first).memOverBudget)
        (fun v => v.bump Reg.ADMISSION_REFUSALS)
      u.each l (fun u x => u.failSlip x.num st (if x.group = 0 then 0xFFFF else first.num))
    | none =>
      let u := t.each l (fun u x => u.launchEffects x)
      u.each l (fun u x => u.tellOutcome x.num .launched (u.boundaryIndex x))

/-- A check point: every ARMED slip whose check point Ledger time has reached by `at_`, in the order of R105, groups whole (R102). -/
def State.checkPoint (s : State) (at_ : Int) : State :=
  if s.up 1 = false then s
  else
    let due := orderSlips (s.slips.filter (fun x => decide (x.st = .armed) &&
      (match x.check with | none => false | some c => decide (c / 4096 ≤ at_) && decide (c ≤ s.nowFine))))
    s.each due (fun t x => if (t.slip x.num).st = .armed then t.settleUnit s (t.unitOf (t.slip x.num)) else t)

/-! ### Boundaries (R99, R105, R106) -/

/-- The boundary of a timebase that a launch has waited for, if Ledger time has reached it by `at_`: a raster's own stamp at or after the
launch, a switching line of such a frame, or a point of a grid (R99). No boundary of a raster or a list that a LAUNCHED slip must change
first comes before that slip takes effect. -/
def State.firesOn (s : State) (t : Timebase) (launch b at_ : Int) : Option Int :=
  let n := match t with
    | .raster r => fineOfLt (s.get (Reg.RASTER_LAST_BOUNDARY r))
    | .switch r => fineOfLt (s.get (Reg.RASTER_LAST_BOUNDARY r)) + switchOffset (s.get (Reg.RASTER_FORMAT r)) * 4096
    | .gate m => max (s.tbFrom (.gate m) launch) (s.tbFrom (.gate m) (s.get (Hid.gateFrom m)))
    | .start f o => s.tbFrom (.start f o) launch
    | _ => b
  let comes := match t with
    | .ahead _ _ _ => false
    | .raster _ => decide (launch ≤ n)
    | .switch _ => decide (launch ≤ n)
    | _ => true
  if comes && (decide (n / 4096 ≤ at_) && decide (n ≤ s.nowFine)) then some n else none

/-- The boundary at which a LAUNCHED slip takes effect, if Ledger time has reached it by `at_`; an AUDIO_SET whose boundary is no sample
instant of the rate in force follows at the next one (R99, R265). -/
def State.firesAt (s : State) (x : Slip) (at_ : Int) : Option Int :=
  let b := x.boundary.getD 0
  match (s.timebases x b).head? with
  | none => none
  | some t => s.firesOn t (fineOfLt x.launch)
      (if x.kind = 9 then nominalFrom b 0 (sampleLf (s.getN Reg.AUDIO_COMPILE_RUNNING_RATE) * 4096) else b) at_

/-- A slip enters RETIRED (R106), and a repeating one is armed again. -/
def State.retire (s : State) (n : Nat) : State :=
  let x := s.slip n
  ((s.setSlip { x with st := .retired, items := [] }).bump Reg.SLIP_COUNT_RETIRED).rearm n x.items

/-- Subscriptions that recorder r, or COMPRESSED egress flow e, no longer reads are closed. -/
def State.dropStale (s : State) (user : Nat) (keep : Option Nat) : State :=
  let l := (s.fabSubs.filter (fun x => x.users.contains user && decide (some x.shelf ≠ keep))).map (fun (x : FabSub) => x.shelf)
  s.each l (fun t m => t.closeSub m user)

/-- An OUTPUT slip's values act from the switching line on: the transmitters of the group, the embedded audio, what is sent; a transmitter
that starts takes up its selection (R135, R138, R145, R152). -/
def State.outputApply (s old : State) (o : Nat) (b : Int) : State :=
  let t := s.txApply o
  let t := t.each (groupLanes o (t.getN (Reg.LINK_GROUP_TX_SIZE o))) (fun u k => u.audioFollows old k ((b + 1102499) / 1102500 * 1102500))
  if t.outputSends o = false then t.refreshAdmission
  else if old.outputSends o then (t.emitOutput o (switchLine (t.outFormat o))).refreshAdmission
  else
    let a := t.settleOutput o (lfOfLt (t.get (Reg.RASTER_LAST_BOUNDARY (t.outRaster o)))) none
    ((a.1.noteUntimed o a.2).emitOutput o (switchLine (t.outFormat o))).refreshAdmission

/-- Where a slip's boundary will lie as things stand now: none where its timebase is OFF (R97, R100). An unsettled or launched slip keeps
its launch; its boundary is found again from the boundary found before. -/
def State.tracked (s : State) (x : Slip) : Slip :=
  match x.boundary with
  | none => x
  | some b =>
    let p := ((s.timebases x b).map s.tbPeriod).foldl (fun a q => if a = 0 ∨ q < a then q else a) 0
    let n := max (fineOfLt x.launch) (b - p / 2 * 4096)
    let l := s.timebasesFrom x n
    if l.any s.tbOff then x
    else
      match s.earliest l n with
      | none => x
      | some (c, q) => { x with boundary := some c, check := if x.st = .armed then some (c - preparation x.kind q * 4096) else x.check }

/-- A timebase is that of raster r. -/
def Timebase.onRaster (t : Timebase) (r : Nat) : Bool :=
  match t with
  | .raster q => q == r
  | .switch q => q == r
  | _ => false

/-- Raster r has produced a boundary, or taken a new format: the boundary of each held slip timed to it is predicted from the stamp that
now stands (R99, R100, R103; log entry 89). -/
def State.slipsTracked (s : State) (r : Nat) : State :=
  let hit := s.slips.filter (fun x => x.held && x.boundary.isSome && s.get (Hid.slipApplied x.num) == 0 &&
    ((s.timebases x (x.boundary.getD 0)).any (fun t => t.onRaster r) || (x.kind == 10 && x.target == r)))
  s.each hit (fun t x => (t.setSlip (t.tracked x)).notePeak ((t.tracked x).boundary.getD 0))

/-- A raster that stops idles its outputs, and what is timed to it follows (R138). -/
def State.rasterApply (s : State) (r : Nat) (b was : Int) : State :=
  let t := s.applyRaster r b was
  let t := t.each (List.range 96) (fun u n => if u.txRaster n = r then u.txDrop n else u)
  let t := if t.rasterPeriod r = 0 then t.genStop r else t
  (t.refreshCanvases.refreshAdmission).slipsTracked r

/-- A slip takes effect at B (R105): its values are in force, and its kind acts on them. `bf` is the stamp of B in 1/4,096 lf. -/
def State.applySlip (s : State) (x : Slip) (bf : Int) : State :=
  let old := s
  let b := bf / 4096
  let s := (s.each x.items (fun t i => t.put i.1 i.2)).put (Hid.slipApplied x.num) 1
  let e := x.target
  let t : State :=
    if x.kind = 1 then s.takeApply old e bf
    else if x.kind = 2 then s.outputApply old e b
    else if x.kind = 3 then
      (let u := s.flowApply old e b
       u.dropStale (flowUser e) (if u.get (Reg.FLOW_ENABLE e) = 1 ∧ u.get (Reg.FLOW_TYPE e) = 5 then some (u.getN (Reg.FLOW_SOURCE e)) else none))
    else if x.kind = 4 then s.canvasApply old e
    else if x.kind = 5 then
      (if e < 256 then
        (let u := s.recApply old e b
         u.dropStale (recUser e) (if u.get (Reg.RECORDER_ENABLE e) = 1 then some (u.getN (Reg.RECORDER_SOURCE e)) else none))
       else s.headApply (e - 256) b)
    else if x.kind = 6 then s.calendarApply e
    else if x.kind = 7 then (s.gateApply e).put (Hid.gateFrom e) bf
    else if x.kind = 8 then s.programApply b
    else if x.kind = 9 then s.setApply old (x.items.map (fun (i : Key × Int) => i.1)) b
    else if x.kind = 10 then s.rasterApply e b (old.get (Reg.RASTER_FORMAT e))
    else if x.kind = 12 then s.modeApply b
    else if x.kind = 13 then s.handoverApply bf (s.get (Hid.probLen x.num))
    else s
  t.setSlip { t.slip x.num with boundary := some bf }

/-- The targets of an ALIGN that have had their boundary, as bits. -/
def State.alignDone (s : State) (n r : Nat) : Bool := bitOf (s.getN (Hid.alignMask n)) r

/-- ALIGN acts on one target at that raster's own boundary, and retires with its last (R88, R106). -/
def State.alignOne (s : State) (x : Slip) (r : Nat) (bf : Int) : State :=
  let t := (s.each x.items (fun u i => u.put i.1 i.2)).put (Hid.slipApplied x.num) 1
  let t := t.setSlip { t.slip x.num with boundary := some bf }
  let t := (t.put (Hid.alignMask x.num) (t.getN (Hid.alignMask x.num) ||| 2 ^ r : Nat)).applyAlign r (bf / 4096)
  if (List.range 32).all (fun i => !bitOf (t.getN (Hid.alignSet x.num)) i || t.alignDone x.num i) then t.retire x.num else t

/-- The kinds that retire at B (Table 5.4). -/
def retiresAtB (kind : Nat) : Bool := kind != 1 && kind != 4 && kind != 11

/-- What is due: a slip at its boundary, for an ALIGN the slip on one of its targets (32 where it has none). -/
structure Firing where
  slip : Slip
  raster : Nat
deriving DecidableEq, Repr

/-- The firings of a LAUNCHED slip that Ledger time has reached by `at_`. -/
def State.firings (s : State) (x : Slip) (at_ : Int) : List Firing :=
  if x.st ≠ .launched then []
  else if x.kind = 11 then
    ((List.range 32).filter (fun r => bitOf (s.getN (Hid.alignSet x.num)) r && !s.alignDone x.num r)).filterMap (fun r =>
      (s.firesOn (.raster r) (fineOfLt x.launch) 0 at_).map (fun b => ⟨{ x with boundary := some b }, r⟩))
  else if s.get (Hid.slipApplied x.num) = 0 then
    ((s.firesAt x at_).map (fun b => (⟨{ x with boundary := some b }, 32⟩ : Firing))).toList
  else []

/-- Firings in the order of R105. -/
def insertFiring (x : Firing) : List Firing → List Firing
  | [] => [x]
  | y :: l => if slipBefore x.slip y.slip then x :: y :: l else y :: insertFiring x l

/-- A boundary: every LAUNCHED slip whose boundary Ledger time has reached takes effect, in the order of R105, and retires where its
kind retires at B. -/
def State.slipBoundary (s : State) (at_ : Int) : State :=
  s.each ((s.slips.flatMap (fun x => s.firings x at_)).foldr insertFiring []) (fun t f =>
    let b := f.slip.boundary.getD 0
    if f.slip.kind = 11 then t.alignOne f.slip f.raster b
    else
      let u := t.applySlip f.slip b
      if retiresAtB f.slip.kind then u.retire f.slip.num else u)

/-- P of a slip's timebase, for the end of its time-line. -/
def State.slipPeriod (s : State) (x : Slip) : Int :=
  (((s.timebases x (x.boundary.getD 0)).head?).map (fun (t : Timebase) => s.tbPeriod t)).getD 0

/-- The end of a TAKE's or CANVAS's time-line, B + P: what no longer stands is released and the slip is RETIRED (R106, R143,
R247). -/
def State.retireLate (s : State) (n : Nat) : State :=
  let x := s.slip n
  if x.st ≠ .launched ∨ s.get (Hid.slipApplied n) ≠ 1 ∨ retiresAtB x.kind = true ∨ x.kind = 11 ∨
      s.nowFine < x.boundary.getD 0 + s.slipPeriod x * 4096 then s
  else if x.kind = 1 then (s.retire n).takeRetire x.target
  else (s.retire n).canvasRetire x.target

/-! ### GPI triggers (R109, R110) -/

/-- The boundary of a slip from an instant on (1/4,096 lf), the launch resolved half a period before it, and its check point. -/
def State.resolve (s : State) (x : Slip) (from_ : Int) : Option (Int × Int × Int) :=
  let l := s.timebasesFrom x from_
  if l.any s.tbOff then none
  else (s.earliest l from_).map (fun (bp : Int × Int) =>
    (bp.1, ltOfFine (bp.1 - bp.2 / 2 * 4096), bp.1 - preparation x.kind bp.2 * 4096))

/-- The resolution at the qualification instant: where the check point would lie before it, the first boundary whose check
point does not (R433). -/
def State.resolveGpi (s : State) (x : Slip) (from_ : Int) : Option (Int × Int × Int) :=
  match s.resolve x from_ with
  | none => none
  | some (b, launch, c) => if s.nowFine ≤ c then some (b, launch, c) else s.resolve x (max from_ (s.nowFine + (b - c)))

/-- A slip takes a launch, a boundary and a check point, and the launch set it joins is noted (R107, R109). -/
def State.resolvedTo (s : State) (n : Nat) (b launch c : Int) : State :=
  (s.setSlip { s.slip n with launch := launch.toNat, boundary := some b, check := some c }).notePeak b

/-- A GPI-triggered slip is resolved: launch, boundary and check point (R109); over a full launch set it fails. -/
def State.resolved (s : State) (n : Nat) (b launch c : Int) : State :=
  if 1024 ≤ s.launchSet b n then s.failSlip n .slipFull 0xFFFF else s.resolvedTo n b launch c

/-- This device resolves GPI-triggered slips: lent, or where no authority twin does it (R110). -/
def State.resolvesGpi (s : State) : Bool :=
  s.lent || !s.paired || !s.twinUp || (match s.twin with | none => true | some h => h.loan != 1)

/-- A qualifying edge on input g at stamp e (1/4,096 lf): every ARMED slip that waits for it is resolved (R109, R110). -/
def State.gpiEdge (s : State) (g : Nat) (rising : Bool) (e : Int) : State :=
  if s.resolvesGpi = false ∨ s.up 1 = false then s
  else
    let hit := s.slips.filter (fun x => decide (x.st = .armed) && x.boundary.isNone && x.gpi == g &&
      (x.trigger == 3 || (x.trigger == 1 && rising) || (x.trigger == 2 && !rising)))
    s.each (orderSlips hit) (fun t x =>
      match t.resolveGpi x (e + x.offset * 4096) with
      | none => t.failSlip x.num .range 0xFFFF
      | some (b, launch, c) =>
        let u := t.resolved x.num b launch c
        if s.paired ∧ s.lent then u.sendTwin (.gpiResolve x.num launch.toNat x.seq) else u)

/-- The authority twin's resolution arrives: the launch and sequence it sent, with B on the own timebase (R110, R112). -/
def State.gpiResolveIn (s : State) (n launch seq : Nat) : State :=
  let x := s.slip n
  if x.st ≠ .armed ∨ x.trigger = 0 ∨ s.up 1 = false then s
  else
    let t := s.setSlip { x with seq := seq, launch := launch }
    let t := t.when (decide (t.getN Reg.SLIP_COUNT_HIGHEST_SEQUENCE < seq)) (fun u => u.put Reg.SLIP_COUNT_HIGHEST_SEQUENCE seq)
    match t.resolve (t.slip n) (fineOfLt launch) with
    | none => t.failSlip n .range 0xFFFF
    | some (b, _, c) => t.resolved n b launch c

/-! ### Steps and restarts (R64, R115) -/

/-- On the return of TIME each ARMED slip whose check point passed meanwhile follows its late policy: it fails late, or moves to the first
boundary whose check point lies after the return (R115). -/
def State.slipsReturn (s : State) : State :=
  let late := orderSlips (s.slips.filter (fun x => decide (x.st = .armed) &&
    (match x.check with | none => false | some c => decide (c < s.nowFine))))
  s.each late (fun t x =>
    if x.late = 0 then t.failSlip x.num .slipLate 0xFFFF
    else
      match t.resolve x t.nowFine with
      | none => t.failSlip x.num .range 0xFFFF
      | some (b, _, c) =>
        match t.resolve x (max (fineOfLt x.launch) (t.nowFine + (b - c) + 1)) with
        | none => t.failSlip x.num .range 0xFFFF
        | some (b, launch, c) => t.resolvedTo x.num b launch c)

/-- After a step of `d` leaves the boundary of each ARMED slip is found again: the first one still to come at or after its
launch (R64). Rasters run on, so their stamps move with Ledger time. -/
def State.slipsStepped (s : State) (d : Int) : State :=
  s.each (s.slips.filter (fun x => decide (x.st = .armed) && x.boundary.isSome)) (fun t x =>
    let n := max (fineOfLt x.launch) t.nowFine
    let one (u : Timebase) : Int × Int :=
      let moved := match u with
        | .raster _ => d * 4096
        | .switch _ => d * 4096
        | _ => 0
      (nominalFrom n (t.tbBase u + moved) (t.tbPeriod u * 4096), t.tbPeriod u)
    match (t.timebasesFrom x n).map one with
    | [] => t
    | a :: r =>
      let b := r.foldl (fun (a : Int × Int) c => if c.1 < a.1 then c else a) a
      (t.setSlip { t.slip x.num with boundary := some b.1, check := some (b.1 - preparation x.kind b.2 * 4096) }).notePeak b.1)

/-- Slips follow a step that this command applied: `old` stands before it. -/
def State.afterStep (s old : State) : State :=
  if s.get Reg.STEP_STATUS_AT ≠ old.get Reg.STEP_STATUS_AT ∧ s.get Reg.STEP_STATUS_RESULT ≠ 2 ∧ s.get Reg.STEP_STATUS_RESULT ≠ 0 then
    s.slipsStepped (s.get Reg.STEP_STATUS_LAST_AMOUNT)
  else s

end Sys2Proof.Machine
end

