-- ==== Sys2Proof/Machine/Pins.lean ====
section
/-! DEFINITION. General-purpose inputs and outputs, the SMBus target and the TAP (22_catalogue_index.md, R432 to R434;
21_electrical_and_package.md, R425; 20_fault_injection_and_test.md, R408, R409). -/
namespace Sys2Proof.Machine

/-! ### GPI (R432, R433) -/

/-- The raw transitions of input g within its CHATTER_WINDOW, this one included. -/
def State.gpiNote (s : State) (g : Nat) : State :=
  let from_ := s.tickLf - s.get (Reg.GPI_CHATTER_WINDOW g)
  { s with gpiEdges := (g, s.tickLf) :: s.gpiEdges.filter (fun (x : Nat × Int) => x.1 != g || decide (from_ ≤ x.2)) }

/-- How many raw transitions of input g are noted. -/
def State.gpiCount (s : State) (g : Nat) : Nat := (s.gpiEdges.filter (fun x => x.1 == g)).length

/-- The timers of input g start: DEBOUNCE, the quiet window, STUCK_TIME as they stand (R432, Writes). -/
def State.gpiTimers (s : State) (g : Nat) : State :=
  ((s.put (Hid.gpiDue g) (s.tickLf + s.get (Reg.GPI_DEBOUNCE g) + 1)).put (Hid.gpiQuiet g) (s.tickLf + s.get (Reg.GPI_CHATTER_WINDOW g))).put
    (Hid.gpiStuck g) (s.get (Reg.GPI_STUCK_TIME g))

/-- A raw transition of input g to a level: debounce restarts and chatter is judged (R432). Before bit 54 rises only the level
is noted. -/
def State.gpiRawTransition (s : State) (g : Nat) (level : Bool) : State :=
  let t := (s.put (Hid.gpiRaw g) (b2i level)).put (Hid.gpiStamp g) s.nowLT
  if s.ready 54 = false ∨ s.get (Hid.gpiRaw g) = b2i level then t
  else
    let t := ((t.gpiTimers g).put (Hid.gpiSilent g) 0).gpiNote g
    if t.get (Reg.GPI_STATE g) ≠ 1 ∧ t.get (Reg.GPI_CHATTER_EDGES g) ≤ (t.gpiCount g : Int) then
      (t.put (Reg.GPI_STATE g) 1).raise (647 + g) 1 g
    else t

/-- A qualifying edge is an event: counted, stamped, captured, and seen by the slips that wait for it (R432). -/
def State.gpiEvent (s : State) (g : Nat) (rising : Bool) : State :=
  let e := s.get (Hid.gpiStamp g)
  ((((s.bump (Reg.GPI_EDGES g)).put (Reg.GPI_LAST_EDGE g) e).capture (3 + g) rising e)).gpiEdge g rising (fineOfLt e)

/-- The level of input g has held for DEBOUNCE: LEVEL takes it, and the edge is an event unless chatter or a POLARITY write
silences it (R432). -/
def State.gpiQualify (s : State) (g : Nat) : State :=
  if s.ready 54 = false ∨ s.get (Hid.gpiDue g) = 0 ∨ s.tickLf < s.get (Hid.gpiDue g) - 1 then s
  else
    let active := s.get (Hid.gpiRaw g) != s.get (Reg.GPI_POLARITY g)
    let t := s.put (Hid.gpiDue g) 0
    if t.get (Reg.GPI_LEVEL g) = b2i active then t
    else
      let st := t.get (Reg.GPI_STATE g)
      let t := (t.put (Reg.GPI_LEVEL g) (b2i active)).put (Hid.gpiFrom g) s.tickLf
      let t := t.when (st == 2) (fun u => u.put (Reg.GPI_STATE g) 0)
      if st = 1 ∨ s.get (Hid.gpiSilent g) = 1 then t.put (Hid.gpiSilent g) 0 else t.gpiEvent g active

/-- LEVEL has been active for STUCK_TIME since its last qualification. -/
def State.gpiStuckNow (s : State) (g : Nat) : Bool :=
  s.get (Reg.GPI_LEVEL g) == 1 && s.get (Hid.gpiStuck g) != 0 && decide (s.get (Hid.gpiFrom g) + s.get (Hid.gpiStuck g) ≤ s.tickLf)

/-- STATE moves to STUCK (R432). -/
def State.gpiToStuck (s : State) (g : Nat) : State := (s.put (Reg.GPI_STATE g) 2).raise (647 + g) 2 g

/-- LEVEL active for STUCK_TIME. -/
def State.gpiStuckAt (s : State) (g : Nat) : State :=
  if s.ready 54 = true ∧ s.get (Reg.GPI_STATE g) = 0 ∧ s.gpiStuckNow g = true then s.gpiToStuck g else s

/-- A whole CHATTER_WINDOW without a raw transition: STUCK or NORMAL (R432, Precedence). -/
def State.gpiChatterQuiet (s : State) (g : Nat) : State :=
  if s.ready 54 = false ∨ s.get (Reg.GPI_STATE g) ≠ 1 ∨ s.tickLf < s.get (Hid.gpiQuiet g) then s
  else if s.gpiStuckNow g then s.gpiToStuck g else s.put (Reg.GPI_STATE g) 0

/-- A POLARITY write re-evaluates LEVEL after DEBOUNCE, without an event (R432, Writes). -/
def State.gpiPolarity (s : State) (g : Nat) (v : Int) : State :=
  let t := s.put (Reg.GPI_POLARITY g) v
  if s.get (Reg.GPI_POLARITY g) = v then t
  else ((t.put (Hid.gpiDue g) (t.tickLf + t.get (Reg.GPI_DEBOUNCE g) + 1)).put (Hid.gpiSilent g) 1).put (Hid.gpiStuck g) (t.get (Reg.GPI_STUCK_TIME g))

/-- GPO[g] drives a level, and holds it until another is driven (R325, R434). -/
def State.gpoDrive (s : State) (g : Nat) (v : Int) : State := (s.put (Hid.gpoPin g) v).send (.pin 2 g v)

/-- A LEVEL write drives GPO[g] (R434). -/
def State.gpoWrite (s : State) (g : Nat) (v : Int) : State :=
  let t := s.put (Reg.GPO_LEVEL g) v
  if s.get (Reg.GPO_LEVEL g) = v then t else t.gpoDrive g v

/-- Bit 54 has risen: each GPO pin follows LEVEL, and each input's level begins its debounce (R434, log entry 43). -/
def State.gpioReady (s : State) : State :=
  let t := s.each (List.range 16) (fun t g => t.gpoDrive g (t.get (Reg.GPO_LEVEL g)))
  t.each (List.range 16) (fun t g =>
    let active := t.get (Hid.gpiRaw g) != t.get (Reg.GPI_POLARITY g)
    if t.get (Reg.GPI_LEVEL g) = b2i active then t else (t.gpiTimers g).put (Hid.gpiStamp g) t.nowLT)

/-! ### SMBus (R425, Table 21.8) -/

/-- STATUS of the SMBus target. -/
def State.smbusStatus (s : State) : Nat :=
  b2n (s.get Reg.SAFE_REACTION == 5) + 2 * b2n (s.get Reg.SAFE_REACTION == 4) + 4 * b2n (s.get Reg.ALERT_ASSERTED == 1) +
    8 * b2n (s.get Hid.imageRecovery == 1) + 16 * b2n (s.get (Reg.FAULT_SOURCE_STATE 28) == 1) +
      32 * b2n (s.get (Reg.FAULT_SOURCE_STATE 29) == 1)

/-- A word, most significant byte first, as every format the device sends (R8). -/
def smbusWord (v : Int) : List Nat := beBytes 2 (fromSigned 16 v)

/-- The bytes of a register; none for a command that names none. -/
def State.smbusBytes (s : State) (command : Nat) : Option (List Nat) :=
  if command = 0 then some (smbusWord 0x0600)
  else if command = 1 then some [s.smbusStatus]
  else if command = 2 then some (smbusWord (s.get Reg.SUPPLY_TARGET))
  else if command = 3 then some (smbusWord (s.get Reg.SUPPLY_VDD))
  else if command = 4 then
    some (smbusWord ((List.range 64).foldl (fun a i => max a (s.get (Reg.THERMAL_NOW i))) (s.get (Reg.THERMAL_NOW 0))))
  else if command = 5 then some (smbusWord (s.get Reg.POWER_MEASURED))
  else if command = 6 then some (8 :: beBytes 8 (s.getN Reg.READY))
  else if command = 7 then some [s.getN Reg.SAFE_REACTION]
  else if command = 8 then some [s.getN Reg.SUPPLY_RESET_CAUSE]
  else if command = 9 then some [s.getN Reg.TAMPER_COUNT % 256]
  else none

/-- A read of the SMBus target at 0x4A; high impedance, hence no answer, until KEEP is ready (log entry 44 for a command
that names no register). -/
def State.smbusRead (s : State) (address command : Nat) : State :=
  s.send (.smbus (if address = 0x4A ∧ s.alive = true ∧ s.ready 0 = true then s.smbusBytes command else none))

/-- Every write other than the command byte is NACKed. -/
def State.smbusWrite (s : State) : State := s.send (.smbus none)

/-! ### TAP (R408, R409) -/

/-- PORST_N is low, so the instructions of reset act. -/
def State.porstLow (s : State) : Bool := decide (s.held = .porst)

/-- An instruction is selected; one that acts only in reset is BYPASS while PORST_N is high. -/
def State.tapSelect (s : State) (code : Nat) : State := s.put Hid.tapSel ((code + 255) % 256 : Nat)

/-- The codes of Table 20.5 that act as themselves now. -/
def State.tapActs (s : State) (code : Nat) : Bool :=
  code == 1 || code == 2 || ((code == 0 || code == 5 || code == 6 || code == 7 || code == 8) && s.porstLow)

/-- Every other code selects the bypass register (R408). -/
def State.tapBypass (s : State) (code : Nat) : State := if s.tapActs code then s else s.tapSelect 0xFF

/-- EXTEST and its AC forms: the boundary cells given drive the pins, or the differential pins pulse or toggle; out of reset
the instruction is BYPASS. `what` is 0 EXTEST, 1 PULSE, 2 TRAIN. -/
def State.tapExtest (s : State) (code what cells : Nat) : State :=
  if s.porstLow then
    let t := ((s.tapSelect code).put Hid.tapCells cells).send (.pin 7 0 cells)
    if what = 0 then t else t.send (.pin 8 (what - 1) cells)
  else s.tapSelect 0xFF

/-- SAMPLE/PRELOAD: the cells are preloaded, and what the pins held, which no state shows, is shifted out (log entry 3). -/
def State.tapPreload (s : State) (cells : Nat) : State :=
  (((s.tapSelect 2).put Hid.tapCells cells).send (.pin 6 2 s.freeVal)).drawn

/-- IDCODE is selected and reads 0x1060086B (R408). -/
def State.tapIdcode (s : State) : State := (s.tapSelect 1).send (.pin 6 1 0x1060086B)

/-- HIGHZ floats every output; CLAMP holds the outputs at their cells; out of reset both are BYPASS. -/
def State.tapHighz (s : State) : State :=
  if s.porstLow then (s.tapSelect 7).send (.pin 9 0 0) else s.tapSelect 0xFF
def State.tapClamp (s : State) : State :=
  if s.porstLow then (s.tapSelect 8).send (.pin 7 0 (s.get Hid.tapCells)) else s.tapSelect 0xFF

/-- A TAP reset selects IDCODE. -/
def State.tapReset (s : State) : State := s.tapSelect 1

end Sys2Proof.Machine
end

