-- ==== Sys2Proof/Machine/Twin.lean ====
section
/-! DEFINITION. The twin pair: HEALTH, the link, the loan's end, pairing states, and what a reconciliation sends
(14_twin_and_loan.md, R291 to R303; R189, R270, R399). Receiving a reconciliation stands in Recon.lean, loan tokens in
Protocol.lean. -/
namespace Sys2Proof.Machine

/-! ### HEALTH (Tables 14.9 and 19.10) -/

/-- This device's HEALTH. -/
def State.ownHealth (s : State) : HealthMsg where
  epoch := s.getN Reg.SESSION_EPOCH
  loan := s.getN Reg.LOAN_STATE
  pairing := s.getN Reg.PAIRING_STATE
  mode := s.getN Reg.MODE_ACTIVE
  safe := s.get Reg.SAFE_REACTION == 5
  runOn := s.get Reg.SAFE_REACTION == 4
  holdBad := s.get (if s.left then Reg.GOB_HOLD_BAD_L else Reg.GOB_HOLD_BAD_R) == 1
  expiry := s.getN Reg.LOAN_EXPIRY
  ready := s.getN Reg.READY
  programId := s.getN Reg.AUDIO_COMPILE_PROGRAM_ID
  runningId := s.getN Reg.AUDIO_COMPILE_RUNNING_ID
  good := s.getN Reg.GOB_GOOD
  cls := (List.range 32).foldl (fun a b =>
    if s.bookingLive b && s.bookingOnSide b s.obeysRight then max a (s.getN (Reg.BOOKING_CLASS b)) else a) 0
  count := ((List.range 32).filter (fun b => s.get (Reg.BOOKING_STATE b) != 0)).length
  states := (List.range 32).map (fun b => s.getN (Reg.BOOKING_STATE b))

/-- HEALTH leaves on the twin lanes that are UP: it is what brings the link up, so it does not wait for it (R189). -/
def State.sendHealth (s : State) : State :=
  if s.edge = false ∨ s.get Reg.TWIN_LINK_LANES = 0 then s else s.twinSend (.health s.ownHealth)

/-- The twin reports itself lent with an epoch at or above the own one: the own loan ends (R299). -/
def State.loanTaken (s : State) (h : HealthMsg) : State :=
  if s.lent ∧ h.loan = 1 ∧ s.getN Reg.SESSION_EPOCH ≤ h.epoch then s.releaseLoan.raise 24 0 0 else s

/-- A difference of programs held for 1 s raises AUDIO_PROGRAM_DIVERGED once (R270). -/
def State.watchPrograms (s : State) (h : HealthMsg) : State :=
  let diff := decide ((h.programId : Int) ≠ s.get Reg.AUDIO_COMPILE_PROGRAM_ID) || decide ((h.runningId : Int) ≠ s.get Reg.AUDIO_COMPILE_RUNNING_ID)
  let t := s.timeCond Hid.progDiffAt diff
  if diff = false then t.put Hid.progDiff 0
  else if t.heldFor Hid.progDiffAt lfSec = true ∧ s.get Hid.progDiff = 0 then (t.put Hid.progDiff 1).raise 21 0 0
  else t

/-- A difference of booking STATES held for 1 s raises the TW island fault, again after each second it lasts (R399). -/
def State.watchBookings (s : State) (h : HealthMsg) : State :=
  let diff := decide (h.states ≠ (List.range 32).map (fun b => s.getN (Reg.BOOKING_STATE b)))
  let t := s.timeCond Hid.bookDiffAt diff
  if diff = true ∧ t.heldFor Hid.bookDiffAt lfSec = true then (t.put Hid.bookDiffAt s.tickLf).raise 191 0 0 else t

/-- A source sees its receiver PAIRED: the reconciliation is complete (R296, log entry 45). -/
def State.sourceDone (s : State) (h : HealthMsg) : State :=
  if s.get Reg.PAIRING_STATE = 2 ∧ h.pairing = 4 then
    ((s.setPairing 4).bump Reg.PAIRING_RECONCILES).put Hid.reconAt 0 |>.put Hid.reconRestart 0
  else s

/-- A HEALTH message arrives (R189, R298, R299). -/
def State.healthIn (s : State) (h : HealthMsg) : State :=
  let t := ({ s with twin := some h }).put Hid.healthAt s.tickLf |>.bump Reg.TWIN_LINK_MESSAGES_RX
  let t := t.when (decide (t.getN Reg.LOAN_TWIN_EPOCH < h.epoch)) (fun u => u.put Reg.LOAN_TWIN_EPOCH h.epoch)
  let t := ((((t.loanTaken h).sourceDone h).watchPrograms h).adoptBookings h).watchBookings h
  t.checkBookings.refreshInject

/-! ### What a reconciliation sends (R296) -/

/-- The objects that belong to the device that holds them (Table 14.2), with E100 (R406). -/
def ownObject (k : Key) : Bool :=
  (k.idx == 0x1410 && (k.sub == 2 || k.sub == 3 || k.sub == 5)) || (k.idx == 0x4010 && (k.sub == 10 || k.sub == 11)) ||
    k.idx == 0x4020 || (k.idx == 0x2040 && k.sub == 9) || k.idx == 0xE100

/-- The access class of a call number; an ingress flow's fields are RW (R435). -/
def accessOf (k : Key) : Option Access :=
  (Cat.fieldOf k).map (fun f => if k.idx = 0x4100 ∧ k.el < 32768 ∧ f.acc = .rws then .rw else f.acc)

/-- A value the standing order and a reconciliation carry (R296, R315). -/
def configAccess (a : Option Access) : Bool := a == some .rw || a == some .rwm || a == some .rws

/-- The configuration as a reconciliation carries it: values at their defaults are not listed (log entry 46). -/
def State.reconValues (s : State) : List (Nat × Nat × Nat × Int) :=
  s.regs.filterMap (fun p =>
    if decide (p.1.idx < 0x10000) && configAccess (accessOf p.1) && !ownObject p.1 then some (p.1.idx, p.1.el, p.1.sub, p.2) else none)

/-- The values a journal holds: its commits in order, from the last full snapshot on (R316, R320). -/
def journalStore (l : List CommitRec) : Store :=
  l.reverse.foldl (fun (t : Store) (r : CommitRec) => r.values.foldl (fun u p => storePut u p.1 p.2) (if r.full then [] else t)) []

/-- The standing order as the journal holds it. -/
def State.reconStanding (s : State) : List (Nat × Nat × Nat × Int) :=
  (journalStore s.journal).map (fun p => (p.1.idx, p.1.el, p.1.sub, p.2))

/-- A slip as a reconciliation carries it. -/
def Slip.copy (x : Slip) : SlipCopy :=
  ⟨x.num, decide (x.st = .launched), x.kind, x.target, x.launch, x.late, x.group, x.raster, x.seq, x.trigger, x.gpi, x.offset, x.flags,
    x.given, x.items.map (fun i => (i.1.idx, i.1.el, i.1.sub, i.2))⟩

/-- How many values of an object's field a reconciliation counts: one for each element, the second-path elements of a flow
having sub-indices 19 to 22 alone (R209). -/
def fieldValues (o : ObjDef) (f : FieldDef) : Nat :=
  if configAccess (some f.acc) then
    let subs := ((List.range (f.hi + 1 - f.lo)).map (fun i => f.lo + i)).filter (fun (k : Nat) => !ownObject ⟨o.idx, 0, k⟩)
    if o.idx = 0x4100 then
      32768 * subs.length + 32768 * (subs.filter (fun (k : Nat) => flowSubExists 16384 k)).length
    else max o.count 1 * subs.length
  else 0

/-- Every value a reconciliation carries, counted (`1320:04`). -/
def reconCount : Nat := (Cat.objects.map (fun o => (o.fields.map (fieldValues o)).foldl (· + ·) 0)).foldl (· + ·) 0

/-- The source sends its configuration, once the link is re-keyed (R296, R375). -/
def State.reconSend (s : State) : State :=
  if s.get Reg.PAIRING_STATE = 2 ∧ s.get Hid.rekeying = 0 then
    (s.sendTwin (.reconcile true s.reconValues s.reconStanding ((s.slips.filter (fun x => x.held)).map Slip.copy))).put
      Reg.PAIRING_RECONCILE_ITEMS (reconCount : Nat)
  else s

/-- This device is the source of a reconciliation: the lent twin, else the higher epoch, else the left twin (R296). -/
def State.isSource (s : State) : Bool :=
  let twinLent := match s.twin with | none => false | some h => h.loan == 1
  let twinEpoch := match s.twin with | none => 0 | some h => h.epoch
  if s.lent ∧ twinLent = false then true
  else if twinLent = true ∧ s.lent = false then false
  else if s.getN Reg.SESSION_EPOCH ≠ twinEpoch then decide (twinEpoch < s.getN Reg.SESSION_EPOCH)
  else s.left

/-- A reconciliation starts (R296). -/
def State.reconStart (s : State) : State :=
  let t := ({ s with reconBuf := [], reconSlips := [] }).put Hid.reconAt s.tickLf |>.put Hid.reconRestart 0
  (t.setPairing (if s.isSource then 2 else 3)).reconSend

/-- A reconciliation is in progress. -/
def State.reconciling (s : State) : Bool := s.get Reg.PAIRING_STATE == 2 || s.get Reg.PAIRING_STATE == 3

/-- Not complete within 2 s: the TW island fault, and a new start 10 s later (R296). -/
def State.reconTimeout (s : State) : State :=
  if s.reconciling = true ∧ s.get Hid.reconRestart = 0 ∧ s.get Hid.reconAt + 105840000000 ≤ s.tickLf then
    (s.raise 191 0 0).put Hid.reconRestart (s.tickLf + 529200000000)
  else s

/-- The new start. -/
def State.reconAgain (s : State) : State :=
  if s.reconciling = true ∧ s.get Hid.reconRestart ≠ 0 ∧ s.get Hid.reconRestart ≤ s.tickLf ∧ s.twinUp = true then s.reconStart else s

/-! ### The twin link (R189) -/

/-- The conditions of a link that is up: a lane UP and a HEALTH within 1 ms. -/
def State.twinAlive (s : State) : Bool :=
  s.edge && s.get Reg.TWIN_LINK_LANES != 0 && s.twin.isSome && decide (s.tickLf ≤ s.get Hid.healthAt + lfMs) && s.get Reg.PAIRING_STATE != 0

/-- The twin link comes up: the twins re-key, and a device that is PAIRED_DOWN or RELEASED reconciles (R189, R296, R375). -/
def State.twinLinkUp (s : State) : State :=
  if s.twinUp = true ∨ s.twinAlive = false then s
  else
    let t := s.put Reg.TWIN_LINK_STATE 1
    t.rekey.reconStart

/-- The twin link goes down (R60, R189, R291). -/
def State.twinLinkDown (s : State) : State := if s.twinAlive = true then s else s.linkFalls.settleQueue

/-! ### The loan (R301) -/

/-- Ledger time reaches the expiry in force. -/
def State.loanExpiry (s : State) : State := if s.lent ∧ s.get Reg.LOAN_EXPIRY ≤ s.nowLT then s.releaseLoan else s

/-- A RUNNING booking of CLASS EGRESS stops the flows of its MACs, so its start and its
end move the egress MACs at the next millisecond boundary (R397). `old` stands before the command. -/
def State.bookingEgress (s old : State) : State :=
  let on (t : State) : List Nat := (List.range 32).filter (fun b =>
    t.get (Reg.BOOKING_STATE b) == 2 && t.get (Reg.BOOKING_CLASS b) == 1 && t.bookingActs b)
  if on s = on old then s else s.egressDue

end Sys2Proof.Machine
end

