-- ==== Sys2Proof/Machine/Writes.lean ====
section
/-! DEFINITION. The Catalogue as messages reach it: addresses, values on the wire, the checks of an item and the effect of
a write (02_catalogue_protocol.md, R29 to R31, R53; the call cards of every chapter). -/
namespace Sys2Proof.Machine

/-! ### Values on the wire (R30) -/

/-- The code of a type (Table 2.2). -/
def tyCode : Ty → Nat
  | .bool => 1 | .u8 => 2 | .u16 => 3 | .u32 => 4 | .u64 => 5 | .i8 => 6 | .i16 => 7 | .i32 => 8 | .i64 => 9 | .lt => 10
  | .span => 11 | .fx18 => 12 | .enum8 => 13 | .bits32 => 14 | .bits64 => 15 | .str32 => 16 | .octets _ => 17 | .shelf => 18
  | .ip16 => 19 | .mac48 => 20

/-- The bytes of a type (Table 2.2). -/
def tyLen : Ty → Nat
  | .bool => 1 | .u8 => 1 | .u16 => 2 | .u32 => 4 | .u64 => 8 | .i8 => 1 | .i16 => 2 | .i32 => 4 | .i64 => 8 | .lt => 12
  | .span => 8 | .fx18 => 4 | .enum8 => 1 | .bits32 => 4 | .bits64 => 8 | .str32 => 32 | .octets n => n | .shelf => 4
  | .ip16 => 16 | .mac48 => 6

/-- One byte of UTF-8: how many continuation bytes are still due, and the range of the next. -/
def utf8Step (st : Option (Nat × Nat × Nat)) (b : Nat) : Option (Nat × Nat × Nat) :=
  match st with
  | none => none
  | some (0, _, _) =>
    if b < 0x80 then some (0, 0, 0)
    else if 0xC2 ≤ b ∧ b ≤ 0xDF then some (1, 0x80, 0xBF)
    else if b = 0xE0 then some (2, 0xA0, 0xBF)
    else if b = 0xED then some (2, 0x80, 0x9F)
    else if 0xE1 ≤ b ∧ b ≤ 0xEF then some (2, 0x80, 0xBF)
    else if b = 0xF0 then some (3, 0x90, 0xBF)
    else if 0xF1 ≤ b ∧ b ≤ 0xF3 then some (3, 0x80, 0xBF)
    else if b = 0xF4 then some (3, 0x80, 0x8F)
    else none
  | some (n + 1, lo, hi) => if lo ≤ b ∧ b ≤ hi then some (n, 0x80, 0xBF) else none

/-- STR32: valid UTF-8, and no zero byte before a byte that is not zero (R30). -/
def str32Ok (n : Nat) : Bool :=
  let bs := beBytes 32 n
  let text := bs.takeWhile (fun b => b != 0)
  (bs.drop text.length).all (fun b => b == 0) &&
    (match text.foldl utf8Step (some (0, 0, 0)) with
    | some (0, _, _) => true
    | _ => false)

/-- A value lies in the range its call card states. -/
def rangeHolds (r : Range) (v : Int) : Bool :=
  match r with
  | .any => true
  | .range lo hi => decide (lo ≤ v) && decide (v ≤ hi)
  | .rangeOr lo hi x => (decide (lo ≤ v) && decide (v ≤ hi)) || v == x
  | .even lo hi => decide (lo ≤ v) && decide (v ≤ hi) && v % 2 == 0
  | .mask m => v.toNat &&& m == v.toNat
  | .vals l => l.contains v

/-- The value that bytes of a type spell (R7, R30). -/
def rawValue (t : Ty) (n : Nat) : Int :=
  match t with
  | .i8 => toSigned 8 n | .i16 => toSigned 16 n | .i32 => toSigned 32 n | .i64 => toSigned 64 n
  | .span => toSigned 64 n | .fx18 => toSigned 32 n
  | _ => n

/-- The checks of a type by its value alone (Table 2.2, R6). -/
def typeHolds (t : Ty) (v : Int) : Bool :=
  match t with
  | .bool => decide (v < 2) | .lt => ltValid v | .shelf => decide (v < 2 ^ 20)
  | .fx18 => decide (-131072 ≤ v) && decide (v ≤ 131071)
  | .str32 => str32Ok v.toNat
  | _ => true

/-- A written value against a field: TYPE, RANGE or OK, and the value (R30). -/
def decodeValue (f : FieldDef) (v : Value) : Status × Int :=
  if v.code ≠ tyCode f.ty ∨ v.len ≠ tyLen f.ty then (.type, 0)
  else
    let x := rawValue f.ty (v.raw % 256 ^ v.len)
    if typeHolds f.ty x && rangeHolds f.chk x then (.ok, x) else (.range, x)

/-- A value as the device sends it (R30). -/
def encodeValue (t : Ty) (x : Int) : Value := ⟨tyCode t, tyLen t, fromSigned (8 * tyLen t) x⟩

/-! ### Addresses (R29, R429, R430) -/

/-- An index exists in the role at hand (R22, R429). -/
def indexHere (edge : Bool) (o : ObjDef) : Bool :=
  edge || (!o.edgeOnly && !((decide (0x3000 ≤ o.idx) && decide (o.idx < 0x5000)) || (decide (0x7000 ≤ o.idx) && decide (o.idx < 0xA000))))

/-- The parts of objects that a role or an element lacks (R209, R430). -/
def partHere (edge : Bool) (k : Key) : Bool :=
  if k.idx = 0x4100 then flowSubExists k.el k.sub
  else if edge then true
  else if k.idx = 0x2040 then decide (k.el < 3) || decide (18 < k.el)
  else if k.idx = 0x6010 then !(k.sub == 1 || k.sub == 2)
  else if k.idx = 0xD030 then decide (111 < k.el) && k.el != 176 && k.el != 177
  else true

/-- The call number an address names, with its field; none is NO_OBJECT (R29). -/
def State.lookup (s : State) (addr : Nat) : Option (Key × FieldDef) :=
  let k : Key := ⟨addr / 2 ^ 32, addr / 2 ^ 16 % 2 ^ 16, addr / 2 ^ 8 % 2 ^ 8⟩
  let low := addr % 2 ^ 8
  if 2 ^ 48 ≤ addr ∨ 0xF000 ≤ k.idx then none
  else
    match Cat.objOf k.idx with
    | none => none
    | some o =>
      if low ≠ b2n (decide (o.count ≠ 0)) ∨ (o.count = 0 ∧ k.el ≠ 0) ∨ indexHere s.edge o = false ∨ partHere s.edge k = false then none
      else (Cat.fieldOf k).map (fun f => (k, f))

/-- The address of a call number. -/
def addrOf (k : Key) : Nat :=
  k.idx * 2 ^ 32 + k.el * 2 ^ 16 + k.sub * 2 ^ 8 + (match Cat.objOf k.idx with | none => 0 | some o => b2n (decide (o.count ≠ 0)))

/-! ### Readiness and bookings of an object (R53, R31) -/

/-- The READY bit of the island or function that holds an object. -/
def ownerBit (k : Key) : Nat :=
  let i := k.idx
  if 0x3000 ≤ i ∧ i ≤ 0x3500 then islandBit (7 + k.el / 8)
  else if (0x4000 ≤ i ∧ i ≤ 0x4040) ∨ i = 0x4300 then islandBit (19 + (if i = 0x4000 then k.el else k.el / 4))
  else if 0x4100 ≤ i ∧ i ≤ 0x4220 then 50
  else if (0x2000 ≤ i ∧ i ≤ 0x2050) ∨ (0x5000 ≤ i ∧ i ≤ 0x5050) then 2
  else if 0x2100 ≤ i ∧ i ≤ 0x2320 then 3
  else if (0x5100 ≤ i ∧ i ≤ 0x5400) ∨ i = 0x6010 ∨ i = 0x6210 then 6
  else if i = 0x6000 ∨ i = 0x6100 ∨ i = 0x6200 ∨ i = 0x6300 then islandBit (23 + k.el / 8)
  else if i = 0x6400 then islandBit 31
  else if i = 0x7010 then islandBit (38 + k.el)
  else if 0x8000 ≤ i ∧ i ≤ 0x8810 then 47
  else if 0x9000 ≤ i ∧ i ≤ 0x9400 then 49
  else if i = 0x9410 then islandBit (34 + k.el)
  else if i = 0x9500 then islandBit (if k.el < 16 then 34 + k.el / 4 else 32 + (k.el - 16))
  else if (0xA000 ≤ i ∧ i ≤ 0xA410) ∨ i = 0xD200 then 5
  else if 0xB000 ≤ i ∧ i ≤ 0xB300 then 4
  else if i = 0x1500 then 56
  else if i = 0x1600 ∨ i = 0x1610 then 54
  else if i = 0xD000 then 55
  else 0

/-- The resource whose booking an RWM or WOS write needs (R31, R371). -/
def rwmResource (k : Key) : Res :=
  if k.idx = 0x2021 then .island 1
  else if k.idx = 0x3200 then .serial k.el
  else if k.idx = 0x6000 then .fabric k.el
  else if k.idx = 0x4000 then .island (19 + k.el)
  else if k.idx = 0xB000 then .island 3
  else .island 0

/-- An RWM or WOS write has its booking; FORCE needs an INJECT booking on the own side (R31, R406). -/
def State.rwmCovered (s : State) (k : Key) : Bool :=
  if k.idx = 0xE100 then
    (List.range 32).any (fun b => s.get (Reg.BOOKING_STATE b) == 2 && s.get (Reg.BOOKING_KIND b) == 9 && s.bookingActs b)
  else s.covers (rwmResource k)

/-! ### The checks of a value (R53, step 5, from RANGE on) -/

/-- The first status of a list that is not OK. -/
def firstBad : List Status → Status
  | [] => .ok
  | st :: l => if st = .ok then firstBad l else st

/-- A status, if a condition holds. -/
def statusIf (b : Bool) (st : Status) : Status := if b then st else .ok

/-- A colour in the layout of Table 7.8. -/
def matteOk (v : Int) : Bool := decide (v < 2 ^ 30) && colourOk v

/-- A node code of Table 12.4. -/
def nodeCodeOk (v : Int) : Bool :=
  v == 0xFFFF || (nodeKind v.toNat == 1 && decide (nodeIndex v.toNat < 1024)) ||
    ((nodeKind v.toNat == 0 || nodeKind v.toNat == 2) && decide (nodeIndex v.toNat < 8192))

/-- The fields of a generator and its raster form a row of Table 6.2 (R407). -/
def State.genOk (c : State) (g : Nat) : Bool :=
  let r := c.getN (Reg.TEST_GEN_RASTER g)
  let code := if r < 32 then c.getN (Reg.RASTER_FORMAT r) else 0
  sdiRow (c.getN (Reg.TEST_GEN_GROUP g)) (c.getN (Reg.TEST_GEN_RATE g)) (c.getN (Reg.TEST_GEN_LEVEL g)) code != 0

/-- RANGE of a written value beyond its own range: `s` stands, `c` is the configuration with every item of the message. -/
def State.writeRange (s c : State) (k : Key) (v : Int) : Bool :=
  let e := k.el
  if k.idx = 0x1410 then k.sub == 2 && !ipV4 v.toNat
  else if k.idx = 0x2030 then k.sub == 3 && (decide (v < 0) || decide (c.get Reg.STEP_LIMIT < v))
  else if k.idx = 0x3100 then !driveOk k.sub v
  else if k.idx = 0x3400 then decide (2 ≤ k.sub) && (v / 2 ^ 24 % 32 != 0 || v % 256 != 0)
  else if k.idx = 0x3200 then s.groupStatus (k.sub == 2) e v.toNat == .range
  else if k.idx = 0x4010 then (k.sub == 10 || k.sub == 11) && !c.prefixOk e (c.get (Reg.MAC_HOST_PREFIX e))
  else if k.idx = 0x4020 then !unicastOk k.sub v
  else if k.idx = 0x4100 then
    (k.sub == 19 && !weedOk v) || (k.sub == 21 && !matteOk v) ||
      (c.get (Reg.FLOW_ENABLE (e % 16384)) == 1 && c.accessionStatus (e % 16384) == .range)
  else if k.idx = 0x5010 then k.sub == 1 && v != 0 && !kindDefined s.edge v.toNat
  else if k.idx = 0x8300 then !nodeCodeOk v
  else if k.idx = 0x8800 then
    (k.sub == 2 || k.sub == 3) && decide (8191 < c.get (Reg.BUNDLE_OUT_SLOT_BASE e) + c.get (Reg.BUNDLE_OUT_CHANNELS e) - 1)
  else if k.idx = 0x8810 then k.sub == 1 && v == 1 && c.bundleStatus e == .range
  else if k.idx = 0x9300 then k.sub == 5 && v == 1 && c.captureStatus (c.candidate none 65535) e == .range
  else if k.idx = 0xA000 then s.fixedOf e && v != s.severityOf e
  else if k.idx = 0xB000 then s.keyStatus e v.toNat == .range
  else if k.idx = 0xC000 then s.bootIdleStatus v == .range
  else if k.idx = 0xD200 then k.sub == 12 && v == 1 && c.submitStatus e == .range
  else if k.idx = 0xE000 then k.sub == 1 && v == 1 && !c.injectOk e
  else if k.idx = 0xE200 then !c.genOk e || (k.sub == 8 && !matteOk v)
  else false

/-- A commit is refused: one is being written, or the last began less than 1 s ago (R319). -/
def State.commitBusy (s : State) : Bool :=
  s.get Reg.STANDING_COMMIT_STATE == 1 || (s.get Hid.commitSeen == 1 && decide (s.tickLf < s.get Hid.commitAt + lfSec))

/-- BUSY of a written value. -/
def State.writeBusy (s c : State) (k : Key) (v : Int) : Bool :=
  let e := k.el
  if k.idx = 0x1500 then k.sub == 1 && v == 1 && s.commitBusy
  else if (k.idx = 0x8200 ∧ k.sub = 1) ∨ (k.idx = 0x8300 ∧ k.sub ≤ 2) then s.get Reg.AUDIO_COMPILE_STATE == 1
  else if k.idx = 0x8400 then k.sub == 1 && v == 1 && s.compileStatus == .busy
  else if k.idx = 0x9300 then
    (2 ≤ k.sub && k.sub ≤ 4 && s.get (Reg.CLIP_STATE e) != 0) || (k.sub == 5 && v == 1 && c.captureStatus c e == .busy) ||
      (k.sub == 6 && v == 1 && s.clipPlayed e)
  else if k.idx = 0xC000 then s.bootIdleStatus v == .busy
  else if k.idx = 0xD200 then (decide (k.sub ≤ 11) || (k.sub == 12 && v == 1)) && s.bookingLive e
  else if k.idx = 0xE000 then k.sub != 1 && s.get (Reg.INJECT_STATE e) == 2
  else false

/-- The HBM load of a candidate passes a budget by more than what stands, alone or with every LAUNCHED slip that adds or frees load
(R277). -/
def hbmRefuses (s c : State) : Bool :=
  c.hbmMode && (s.hbmAdds c || (s.candidate none 65535).hbmAdds (c.candidate none 65535))

/-- The statuses specific to a function (R53, step 5, item 9). `mirrored`: the checks of a booking do not apply. -/
def State.writeOwn (s c : State) (mirrored : Bool) (k : Key) (v : Int) : Status :=
  let e := k.el
  let hbm := (k.idx = 0x4100 ∨ (k.idx = 0x3000 ∧ k.sub = 9) ∨ k.idx = 0x3200) ∧ hbmRefuses s c = true
  let power := powerRefuses s c && decide (c.estimateUw > (c.put k (s.get k)).estimateUw)
  if hbm ∨ power = true then .capacity
  else if k.idx = 0x4000 ∧ k.sub = 1 then s.portModeStatus e v
  else if k.idx = 0x4100 ∧ c.get (Reg.FLOW_ENABLE (e % 16384)) = 1 then c.accessionStatus (e % 16384)
  else if k.idx = 0x5030 then (if k.sub = 1 then s.cancelGroupStatus v.toNat else .ok)
  else if k.idx = 0x8810 ∧ k.sub = 1 ∧ v = 1 then c.bundleStatus e
  else if k.idx = 0x9300 ∧ k.sub = 5 ∧ v = 1 then c.captureStatus (c.candidate none 65535) e
  else if k.idx = 0xB000 then s.keyStatus e v.toNat
  else if k.idx = 0xD200 ∧ k.sub = 12 ∧ v = 1 ∧ !mirrored then c.submitStatus e
  else if k.idx = 0xE100 ∧ v = 1 then
    statusIf ((s.fixedOf e || decide (4 ≤ s.severityOf e)) && !s.injectSafe) .maintConflict
  else .ok

/-- The status of AMOUNT in a message that gives FORCE (R63), by the STEP_LIMIT that the message leaves: `c` is the configuration with
all of it (log entry 66). -/
def State.stepItem (s c : State) (k : Key) (v : Int) (force : Bool) : Status :=
  if k.idx = 0x2020 ∧ k.sub = 1 then (s.put Reg.STEP_LIMIT (c.get Reg.STEP_LIMIT)).stepStatus v force else .ok

/-- A device that is the source of a reconciliation refuses each item with NOT_READY (R296). -/
def State.refusesItems (s : State) (mirrored : Bool) : Bool := !mirrored && s.get Reg.PAIRING_STATE == 2

/-- A write that starts something on islands which the mode in force gates: a compile or a bundle subscription on AUD, a capture on the D
islands, an accession on P (R26). -/
def State.needsGated (s c : State) (k : Key) (v : Int) : Bool :=
  let mode := s.getN Reg.MODE_ACTIVE
  ((k == Reg.AUDIO_COMPILE_COMPILE || (k.idx == 0x8810 && k.sub == 1)) && v == 1 && !s.islandListed mode 46) ||
    (k.idx == 0x9300 && k.sub == 5 && v == 1 && (List.range 4).all (fun d => !s.islandListed mode (34 + d))) ||
    (k.idx == 0x4100 && decide (k.el < 32768) && c.get (Reg.FLOW_ENABLE (k.el % 16384)) == 1 && !s.islandListed mode 6)

/-- WRONG_MODE of a write: a key slot needs SERVICE in force on the own side (R371), an action the islands it works on (R26). The twin
applies a mirrored write in its own mode (log entry 92). -/
def State.writeMode (s c : State) (mirrored : Bool) (k : Key) (v : Int) : Status :=
  statusIf (!mirrored && ((k.idx == 0xB000 && s.get Reg.MODE_ACTIVE != 7) || s.needsGated c k v)) .wrongMode

/-- The READY bit of an object's holder reads 1. -/
def State.keyReady (s : State) (k : Key) : Bool := s.ready (ownerBit k)

/-- READ_ONLY of a write (Table 2.3; `2010` and `2020` under the servo, R59). -/
def State.writeDenied (s : State) (k : Key) : Bool :=
  match accessOf k with
  | some .rw => (k.idx == 0x2010) && s.get Reg.DISCIPLINE_OWNER == 0
  | some .wo => (k.idx == 0x2020) && s.get Reg.DISCIPLINE_OWNER == 0
  | some .rwm => false
  | some .wos => false
  | _ => true

/-- LOCKED_OUT of a write (R31, R371, R406). -/
def State.writeLocked (s : State) (mirrored : Bool) (k : Key) : Bool :=
  !mirrored && (accessOf k == some .rwm || accessOf k == some .wos) && !s.rwmCovered k

/-- The items of a message that name an object and spell a value of its type and range. -/
def State.decoded (s : State) (items : List Item) : List (Key × Int) :=
  items.filterMap (fun i =>
    match s.lookup i.addr with
    | none => none
    | some (k, f) => if (decodeValue f i.val).1 = .ok then some (k, (decodeValue f i.val).2) else none)

/-- The configuration with the readable values of a message in place (R36). -/
def State.withItems (s : State) (l : List (Key × Int)) : State :=
  s.each l (fun t p => if accessOf p.1 = some .rw ∨ accessOf p.1 = some .rwm then t.put p.1 p.2 else t)

/-- FORCE as a message gives it (R63). -/
def forceOf (l : List (Key × Int)) : Bool := l.any (fun p => p.1 == Reg.TIME_STEP_FORCE && p.2 == 1)

/-- The status of one item of a WRITE, in the order of R53. `c` is the configuration with the whole message. -/
def State.writeItem (s c : State) (mirrored force : Bool) (i : Item) : Status :=
  match s.lookup i.addr with
  | none => .noObject
  | some (k, f) =>
    if mirrored && ownObject k then .ok
    else
      let d := decodeValue f i.val
      firstBad [s.writeMode c mirrored k d.2, statusIf (!s.keyReady k || s.refusesItems mirrored) .notReady,
        statusIf (s.writeDenied k) .readOnly,
        statusIf (s.writeLocked mirrored k || (d.1 == .ok && s.stepItem c k d.2 force == .lockedOut)) .lockedOut, d.1,
        statusIf (s.writeRange c k d.2) .range, statusIf (s.writeBusy c k d.2) .busy,
        s.writeOwn c mirrored k d.2, s.stepItem c k d.2 force]

/-- The statuses of the items of a WRITE (R36, R53). -/
def State.writePlan (s : State) (mirrored : Bool) (items : List Item) : List Status :=
  let l := s.decoded items
  let c := s.withItems l
  items.map (fun i => s.writeItem c mirrored (forceOf l) i)

/-! ### The effect of a write -/

/-- A COMMIT is accepted: a copy of the values is taken and is being written (R315, R319). Clips are not part of it. -/
def State.commitStart (s : State) : State :=
  let copy := storeKeep (fun k => decide (k.idx < 0x10000) && k.idx != 0x9300 && configAccess (accessOf k)) s.regs
  ((({ s with commitCopy := some copy }).put Reg.STANDING_COMMIT_STATE 1).put Hid.commitAt s.tickLf).put Hid.commitSeen 1

/-- The activity a booking begins on a device it acts on (Table 19.8, R341, R397). -/
def State.bookingActivity (s : State) (b : Nat) : State :=
  let kind := s.get (Reg.BOOKING_KIND b)
  if kind = 2 ∨ kind = 3 ∨ kind = 4 then
    (s.each ((List.range 47).filter (fun i => s.bookingNames b (.island i)))
      (fun t i => (t.put (Hid.latchRelease i) 1).restartIsland i 3)).settleQueue
  else if kind = 5 then
    let t := s.each ((List.range 96).filter (fun n => s.bookingNames b (.serial n)))
      (fun t n => (t.put (Hid.sdiRaw n) 0).sdiDrop n)
    let t := t.each ((List.range 66).filter (fun l => s.bookingNames b (if l < 64 then .fabric l else .twinLane (l - 64)) && s.laneState l != 0))
      (fun t l => (t.laneEnter l 1).put (Hid.alignRun l) 0)
    let t := t.each ((List.range 16).filter (fun m => s.bookingNames b (.mac m))) (fun t m => (t.macFalls m).macTrain m)
    t.settleQueue.each ((List.range 18).filter (fun c => s.bookingNames b (if c < 16 then .ddr c else .hbm (c - 16))))
      (fun t c => t.put (Reg.MEM_STATS_STATE c) 1)
  else if kind = 8 then
    let t := (s.put Reg.MARGIN_CONTROL_BIN (s.get Reg.MARGIN_CONTROL_PROPOSED_BIN)).refreshTarget
    (t.each ((List.range 47).filter (fun i => t.runs i)) (fun u i => (u.put (Hid.latchRelease i) 1).restartIsland i 3)).settleQueue
  else s.refreshInject

/-- At Ts a HELD booking that acts on this device runs if its conditions still hold, or fails (R393, R396, R397). The other side's shows
its partner's STATE (log entry 96). -/
def State.startBooking (s : State) (b : Nat) : State :=
  if s.get (Reg.BOOKING_STATE b) ≠ 1 ∨ s.bookingActs b = false ∨ s.now < s.get (Hid.bookTs b) then s
  else if s.get (Reg.BOOKING_CLASS b) = 2 ∧ s.get Reg.MODE_ACTIVE ≠ 7 then
    (s.put (Reg.BOOKING_STATE b) 4).put (Reg.BOOKING_RESULT b) (Status.wrongMode.code : Nat)
  else if s.bookingConflict b (s.get (Hid.bookTs b)) || !s.drainOk b || !s.bookingHealthy b then
    (s.put (Reg.BOOKING_STATE b) 4).put (Reg.BOOKING_RESULT b) (Status.maintConflict.code : Nat)
  else (s.put (Reg.BOOKING_STATE b) 2).bookingActivity b

/-- A booking command acts, with what follows on egress, the islands of SERVICE and the injection entries (R397, R401). -/
def State.bookingCommand (s : State) (f : State → State) : State :=
  let t := (f s).bookingEgress s
  let t := if t.get Reg.MODE_ACTIVE = 7 then t.gateIslands.gateFollow t else t
  t.refreshInject

/-- FORCE raises a source once, flagged FORCED (R350). -/
def State.force (s : State) (n : Nat) : State := s.raiseAs n 0xFFFFFF false true

/-- The subscription of a user is closed, whatever its source. -/
def State.closeUser (s : State) (user : Nat) : State :=
  s.each ((s.fabSubs.filter (fun x => x.users.contains user)).map (fun (x : FabSub) => x.shelf)) (fun t m => t.closeSub m user)

/-- A field of a bundle subscription is written; one that is enabled follows its SOURCE (R259, log entry 47). -/
def State.bundleWrite (s : State) (i sub : Nat) (v : Int) : State :=
  if sub = 1 then s.bundleEnable i v
  else
    let t := s.put ⟨0x8810, i, sub⟩ v
    let m := t.getN (Reg.BUNDLE_IN_SOURCE i)
    if sub = 2 ∧ t.get (Reg.BUNDLE_IN_ENABLE i) = 1 ∧ s.get (Reg.BUNDLE_IN_SOURCE i) ≠ v then
      (let u := t.closeUser (bundleUser i)
       (if u.remote m then (u.openSub m (bundleUser i)).getD u else u).refreshBundle i)
    else t.refreshBundle i

/-- One item of a WRITE takes effect. -/
def State.applyItem (s : State) (force : Bool) (k : Key) (v : Int) : State :=
  let e := k.el
  if k.idx = 0x1300 then (if v = 1 then s.releaseLoan else s)
  else if k = Reg.STANDING_COMMIT_COMMIT then (if v = 1 then s.commitStart else s)
  else if k.idx = 0x1600 ∧ k.sub = 1 then s.gpiPolarity e v
  else if k.idx = 0x1610 ∧ k.sub = 1 then s.gpoWrite e v
  else if k.idx = 0x2010 then s.setIncrement v
  else if k.idx = 0x2020 then (if k.sub = 1 then (let t := s.stepWrite v force; t.afterStep s) else s)
  else if k = Reg.DISCIPLINE_OWNER then (s.ownerWrite v).refPresence
  else if k.idx = 0x2320 then s.fpulseWrite e k.sub v
  else if k.idx = 0x3000 ∧ (k.sub = 1 ∨ k.sub = 2) then s.rateModeApply e k.sub v
  else if k.idx = 0x3000 ∧ k.sub = 9 then ((s.put k v).syncSettle e).refreshAdmission
  else if k.idx = 0x3200 then (let t := s.groupApply (k.sub == 2) e v.toNat; (t.each (List.range 96) (fun u n => u.syncSettle n)).refreshAdmission)
  else if k.idx = 0x4000 then s.portApply e k.sub v
  else if k = Reg.MAC_VLAN e then (s.put k v).refreshAdmitted
  else if k.idx = 0x5030 then (if k.sub = 1 then s.cancelGroup v.toNat else if v = 1 then s.cancelAll else s)
  else if k.idx = 0x6000 ∧ k.sub = 1 then s.laneEnable e v
  else if k.idx = 0x8000 then s.aesRxWrite e k.sub v
  else if k.idx = 0x8400 ∧ k.sub = 1 then (if v = 1 then s.compileStart else s)
  else if k.idx = 0x8800 then s.put k v
  else if k.idx = 0x8810 then s.bundleWrite e k.sub v
  else if k.idx = 0x9300 ∧ k.sub = 5 then (if v = 1 then s.clipCapture e else s)
  else if k.idx = 0x9300 ∧ k.sub = 6 then (if v = 1 then s.clipDelete e else s)
  else if k.idx = 0xA410 then (s.put k v).driveAlert
  else if k.idx = 0xB000 then s.keyWrite e v.toNat
  else if k = Reg.UPDATE_BOOT_IDLE then s.bootIdle v
  else if k = Reg.HEALTH_CONFIRM_CONFIRM then s.confirmWrite v
  else if k = Reg.HEALTH_CONFIRM_REJECT then s.rejectWrite v
  else if k = Reg.MARGIN_CONTROL_THRESHOLD then (s.put k v).marginJudge
  else if k.idx = 0xD200 ∧ k.sub = 12 then (if v = 1 then s.bookingCommand (fun t => t.submit e) else s)
  else if k.idx = 0xD200 ∧ k.sub = 13 then (if v = 1 then s.bookingCommand (fun t => t.cancelBooking e) else s)
  else if k.idx = 0xE000 then ((s.put k v).refreshInject).injectFlush
  else if k.idx = 0xE100 then (if v = 1 then s.force e else s)
  else s.put k v

/-- The ingress flows whose record a list of values touches. -/
def flowsTouched (l : List (Key × Int)) : List Nat :=
  (l.filterMap (fun p => if p.1.idx = 0x4100 ∧ p.1.el < 32768 then some (p.1.el % 16384) else none)).eraseDups

/-- The values of a WRITE take effect in one step, the increment before a step (R36, R63); flows are acceded or not
(R212). -/
def State.applyValues (s : State) (l : List (Key × Int)) : State :=
  let f := forceOf l
  let first := l.filter (fun p => p.1.idx != 0x2020)
  let last := l.filter (fun p => p.1.idx == 0x2020)
  let t := s.each (first ++ last) (fun t p => t.applyItem f p.1 p.2)
  let fs := flowsTouched l
  let t := t.each fs (fun t f => t.flowWritten s f)
  if fs = [] then t else (t.refreshGroups s).refreshAdmission

/-- The effect of a WRITE whose items all pass; on a twin the objects of Table 14.2 are left as they stand (R292). -/
def State.writeApply (s : State) (mirrored : Bool) (items : List Item) : State :=
  s.applyValues ((s.decoded items).filter (fun p => !(mirrored && ownObject p.1)))

/-- What a refused WRITE leaves behind: a refused step is recorded (R63), an admission refused counts (R277). -/
def State.writeRefused (s : State) (items : List Item) (sts : List Status) : State :=
  let l := s.decoded items
  let t := s.each (items.zip sts) (fun t p =>
    match s.lookup p.1.addr with
    | some (_, f) =>
      if p.2 = .stepRefused then t.refuseStep (decodeValue f p.1.val).2 1
      else if p.2 = .capacity ∧ (hbmRefuses s (s.withItems l) = true ∨ p.1.addr / 2 ^ 32 = 0x9300) then t.bump Reg.ADMISSION_REFUSALS else t
    | none => t)
  t

/-! ### STAGE (R93) -/

/-- A field as it stands staged in a list, else in force. -/
def State.stagedField (s : State) (l : List (Key × Int)) (k : Key) : Int :=
  ((l.find? (fun p => p.1 == k)).map (fun (p : Key × Int) => p.2)).getD (s.get k)

/-- RANGE at STAGE beyond the field's own range (R87, R93, R141, R152, R230, R233): `l` are the slip's items after the
message. -/
def State.stageRange (s : State) (l : List (Key × Int)) (k : Key) (v : Int) : Bool :=
  let e := k.el
  if k.idx = 0x2300 then k.sub == 2 && !offsetOk (s.stagedField l (Reg.RASTER_FORMAT e)) v
  else if k.idx = 0x4040 then
    decide (5 ≤ k.sub) && (List.range 8).any (fun j => v.toNat / 2 ^ (64 * j) / 2 ^ 32 % 2 ^ 24 != 0)
  else if k.idx = 0x4100 then k.sub == 21 && !matteOk v
  else if k.idx = 0x5100 then !takeStageOk (s.stagedField l (Reg.XPT_OUT_SELECT e)) k v
  else if k.idx = 0x5200 then k.sub == 2 && !matteOk v
  else if k.idx = 0x6100 then v.toNat % 64 != 0
  else if k.idx = 0x7000 then (k.sub == 5 && !matteOk v) || (k.sub == 6 && v == 0)
  else if k.idx = 0x7100 then (k.sub == 16 && !matteOk v) || (decide (5 ≤ k.sub) && decide (k.sub ≤ 12) &&
    !(s.each (l.filter (fun p => p.1.idx == 0x7100 && p.1.el == e)) (fun t p => t.put p.1 p.2)).layerGeometryOk e)
  else false

/-- A mode value the role does not allow (R3, R321). -/
def State.stageMode (s : State) (k : Key) (v : Int) : Bool :=
  k.idx == 0x1100 && !s.edge && !(v == 0 || v == 1 || v == 6 || v == 7)

/-- The status of one item of a STAGE on slip `n`: `l` are the slip's items after the message. -/
def State.stageItem (s : State) (mirrored : Bool) (n : Nat) (l : List (Key × Int)) (room : Status) (i : Item) : Status :=
  match s.lookup i.addr with
  | none => .noObject
  | some (k, f) =>
    let d := decodeValue f i.val
    firstBad [statusIf (decide (8191 < n)) .noObject, statusIf (d.1 == .ok && s.stageMode k d.2) .wrongMode,
      statusIf (!s.ready 2 || s.refusesItems mirrored) .notReady, statusIf (accessOf k != some .rws) .readOnly, d.1,
      statusIf (s.stageRange l k d.2) .range, room]

/-- The items of a STAGE that name RWS objects with values of their type. -/
def State.stageable (s : State) (items : List Item) : List (Key × Int) :=
  (s.decoded items).filter (fun p => accessOf p.1 == some .rws)

/-- The statuses of a STAGE (R36, R93). -/
def State.stagePlan (s : State) (mirrored : Bool) (n : Nat) (items : List Item) : List Status :=
  let new := s.stageable items
  let room := s.stageRoom n new
  items.map (fun i => s.stageItem mirrored n (s.stagedAfter n new) room i)

/-- The status of a STAGE by its slip alone, for one that carries no item. -/
def State.stageSlip (s : State) (mirrored : Bool) (n : Nat) : Status :=
  firstBad [statusIf (decide (8191 < n)) .noObject, statusIf (!s.ready 2 || s.refusesItems mirrored) .notReady, s.stageRoom n []]

/-! ### ARM (R94, R95) -/

/-- The status of one item of an ARM. -/
def State.armItem (s : State) (mirrored : Bool) (i : Item) : Status :=
  match s.lookup i.addr with
  | none => .noObject
  | some (k, f) =>
    let d := decodeValue f i.val
    firstBad [statusIf (!s.ready 2 || !s.ready 7 || s.refusesItems mirrored) .notReady,
      (if k.idx ≠ 0x5010 ∨ k.sub = 0 then .range else d.1), statusIf (s.writeRange s k d.2) .range]

/-- The fields an ARM gives, by sub-index: the items', else those held in `5010` (R94). -/
def State.armFields (s : State) (items : List Item) : Nat → Int :=
  let l := s.decoded items
  fun sub => ((l.reverse.find? (fun p => p.1 == (⟨0x5010, 0, sub⟩ : Key))).map (fun (p : Key × Int) => p.2)).getD
    (s.get ⟨0x5010, 0, sub⟩)

/-- What an ARM answers, and the record it makes; `at_` is the time its execution began. `given`: the twin takes it as mirrored (R112). -/
def State.armPlan (s : State) (given : Option Nat) (mirrored : Bool) (n : Nat) (items : List Item) (at_ : Nat) : Status × Slip :=
  let first := firstBad (statusIf (decide (8191 < n)) .noObject :: items.map (fun i => s.armItem mirrored i))
  if first ≠ .ok then (first, emptySlip n)
  else if s.ready 2 = false ∨ s.ready 7 = false ∨ s.refusesItems mirrored = true then (.notReady, emptySlip n)
  else s.armResult (s.armRecord n (s.armFields items) given at_) given.isSome

/-! ### CANCEL (R111) -/

/-- The words CANCEL answers. -/
def State.cancelPlan (s : State) (mirrored : Bool) (slips : List Nat) : List Status :=
  slips.map (fun n => firstBad [statusIf (decide (8191 < n)) .noObject,
    statusIf (!s.ready 2 || s.refusesItems mirrored) .notReady, s.cancelWord n])

/-- A CANCEL takes effect on every slip it may cancel. -/
def State.cancelApply (s : State) (mirrored : Bool) (slips : List Nat) : State :=
  s.each (slips.zip (s.cancelPlan mirrored slips)) (fun t p => if p.2 = .ok then t.cancelSlip p.1 else t)

end Sys2Proof.Machine
end

