-- ==== Sys2Proof/Machine/Views.lean ====
section
/-! DEFINITION. What a read of an object gives: the values that are computed from other state at the read, and the
clearing of RC objects (R31, R34). -/
namespace Sys2Proof.Machine

/-- Pieces of given byte lengths joined, first piece first, and padded with zero bytes to a size. -/
def padPieces (size : Nat) (l : List (Nat × Nat)) : Nat :=
  let r := l.foldl (fun (a : Nat × Nat) (p : Nat × Nat) => (a.1 + p.1, a.2 * 256 ^ p.1 + p.2 % 256 ^ p.1)) (0, 0)
  r.2 * 256 ^ (size - r.1)

/-- STAGED of a slip: its items as value items, in order of staging (`5020[n]:13`). -/
def stagedBytes (x : Slip) : Nat :=
  padPieces 1048576 (x.items.flatMap (fun i =>
    match Cat.fieldOf i.1 with
    | none => []
    | some f =>
      let v := encodeValue f.ty i.2
      [(6, addrOf i.1), (1, v.code), (1, 0), (2, v.len), (v.len, v.raw)]))

/-- A field of a slip's record (Table 5.7). -/
def Slip.field (x : Slip) (sub : Nat) : Int :=
  match sub with
  | 1 => x.kind | 2 => x.target | 3 => x.launch | 4 => x.late | 5 => x.group | 6 => x.raster | 7 => x.seq | 8 => x.trigger
  | 9 => x.gpi | 10 => x.offset | 11 => x.flags | 12 => x.st.code | 13 => x.armedAt
  | 14 => (x.boundary.map ltOfFine).getD 0
  | 15 => (x.check.map ltOfFine).getD 0
  | 16 => x.result.code | 17 => x.cause | 18 => x.items.length | 19 => stagedBytes x | 20 => x.origin | 21 => x.given
  | _ => 21

/-- ENTRIES of the Logbook (`A100:01`, Table 16.8). -/
def logBytes (l : List LogEntry) : Nat :=
  padPieces 2048 (l.flatMap (fun e => [(4, e.seq), (12, e.at_), (2, e.source), (1, e.severity), (1, e.flags), (4, e.detail),
    (4, e.repeats), (4, 0)]))

/-- CLOCK of an island: the nominal clock in force, less in MARGIN for the slices and AUD, and for a D island the clock of
the rate at which it last trained (Table 17.1, R28, R368). -/
def State.clockOf (s : State) (i : Nat) : Int :=
  if 34 ≤ i ∧ i ≤ 37 then s.get (Hid.ddrRate (i - 34)) * 250000
  else if s.get Reg.MODE_ACTIVE = 6 ∧ 38 ≤ i ∧ i ≤ 45 then 1125000000
  else if s.get Reg.MODE_ACTIVE = 6 ∧ i = 46 ∧ s.edge = true then 600000000
  else s.get (Reg.ISLAND_CLOCK i)

/-- The Catalogue payload limit: larger with JUMBO on both control ports (R33). -/
def State.payloadLimit (s : State) : Nat :=
  if s.get (Reg.CTL_PORT_JUMBO 0) = 1 ∧ s.get (Reg.CTL_PORT_JUMBO 1) = 1 then 8936 else 1436

/-- The value a read gives. -/
def State.view (s : State) (k : Key) : Int :=
  let e := k.el
  if k.sub = 0 ∧ k ≠ Reg.TIME_NOW then s.get k
  else if k.idx = 0x5020 then (s.slip e).field k.sub
  else if k.idx = 0x1210 ∧ k.sub = 2 then s.clockOf e
  else if k.idx = 0xA000 then
    (if k.sub = 3 then s.severityOf e else if k.sub = 4 then b2i (s.fixedOf e) else if k.sub = 6 then s.sourceState e
      else if k.sub = 12 then s.recent e else s.get k)
  else if k.idx = 0xE100 then 0
  else if k.idx = 0x4100 ∧ k.sub = 24 then (if e < 16384 then s.flowUsers e else 0)
  else if k.idx = 0x6100 ∧ k.sub = 2 then s.calendarValue e
  else if k = Reg.TIME_NOW then s.nowLT
  else if k.idx = 0x3500 ∧ k.sub = 4 then b2i (s.passNow e)
  else if k = Reg.MEMBERSHIP_GROUPS then s.groupsHeld
  else if k.idx = 0x2040 ∧ k.sub = 4 then s.portState e
  else if k = Reg.HOLDOVER_ELAPSED then s.holdTimer
  else if k = Reg.SESSION_MAX_PAYLOAD then s.payloadLimit
  else if k = Reg.SLIP_STAGE_ITEMS_USED then s.itemsUsed
  else if k = Reg.SLIP_STAGE_STAGED_SLIPS then s.slipsIn .staged
  else if k = Reg.SLIP_COUNT_STAGED then s.slipsIn .staged
  else if k = Reg.SLIP_COUNT_ARMED then s.slipsIn .armed
  else if k = Reg.SLIP_COUNT_LAUNCHED then s.slipsIn .launched
  else if k = Reg.LOGBOOK_ENTRIES then logBytes s.log
  else if k = Reg.LOGBOOK_COUNT then s.log.length
  else if k = Reg.STANDING_COMMIT_COMMITS then s.journal.length
  else if k = Reg.STANDING_COMMIT_JOURNAL_ERASES then (((s.journal.filter (fun r => r.full)).length + 1) / 2 : Nat)
  else if k.idx = 0x9500 ∧ k.sub = 8 then s.memState e
  else if k = Reg.POWER_ESTIMATE then s.estimateW
  else if k = Reg.ALMANAC_EXTRACT then s.extract
  else if k = Reg.ALMANAC_POWERED then s.powered
  else if k.idx = 0xD100 ∧ k.sub = 3 then s.proposalOf e
  else if k = Reg.OWNER_ANSWER_ANSWER then s.ownerAnswer
  else if k = Reg.COLOPHON_STATEMENT then s.colophon (s.getN Reg.COLOPHON_NONCE)
  else if k = Reg.HEALTH_CONFIRM_SELF_CHECK then s.selfCheck
  else if k = Reg.TAMPER_TAMPER_N then (s.freeVal % 2 : Nat)
  else if k = Reg.TAMPER_VBAT then (s.freeVal % 65536 : Nat)
  else s.get k

/-- What a read does to the state: a level the model does not hold is a free value drawn, and an RC object clears (R31,
log entry 3). -/
def State.afterRead (s : State) (k : Key) : State :=
  let t := if k = Reg.TAMPER_TAMPER_N ∨ k = Reg.TAMPER_VBAT then s.drawn else s
  if accessOf k = some .rc then t.put k 0 else t

/-- The status of a read of an address, and the object it names (R53). -/
def State.readTarget (s : State) (addr : Nat) : Status × Option (Key × FieldDef) :=
  match s.lookup addr with
  | none => (.noObject, none)
  | some (k, f) =>
    if s.keyReady k = false then (.notReady, none)
    else if f.acc = .wo ∨ f.acc = .wos then (.writeOnly, none)
    else (.ok, some (k, f))

/-- One read result, and the state after it (R34). -/
def State.readOne (s : State) (addr : Nat) : State × ReadResult :=
  match s.readTarget addr with
  | (st, none) => (s, ⟨st, 0, 0, 0⟩)
  | (st, some (k, f)) =>
    let v := encodeValue f.ty (s.view k)
    (s.afterRead k, ⟨st, v.code, v.len, v.raw⟩)

/-- The results of a READ, in order (R34, R37). -/
def State.readAll : State → List Nat → State × List ReadResult
  | s, [] => (s, [])
  | s, a :: l =>
    let r := s.readOne a
    let q := State.readAll r.1 l
    (q.1, r.2 :: q.2)

/-- The bytes of a READ's response payload. -/
def State.readBytes (s : State) (addrs : List Nat) : Nat :=
  (addrs.map (fun a => 4 + (match (s.readTarget a).2 with | none => 0 | some (_, f) => tyLen f.ty))).foldl (· + ·) 0

end Sys2Proof.Machine
end

