-- ==== Sys2Proof/Machine/Bringup.lean ====
section
/-! DEFINITION. Reset, the release of PORST_N, readiness, late islands, crossings, and the standing order
(15_bringup_and_modes.md, R310 to R320, R325; 17_islands_and_crossings.md, R355 to R363; R413). -/
namespace Sys2Proof.Machine

/-! ### Reset (R310, R413) -/

/-- What an assertion of PORST_N does not touch: the key store, the fuses and the tamper count, the flash, the reset cause
SEC records from VBAT, and the selection of the TAP (R310, R369, R376, R388, R413, Table 15.7). -/
def keptKey (k : Key) : Bool :=
  [(Hid.bankKey 0 0).idx, (Hid.bankGen 0 0).idx, (Hid.bankCrc 0 0).idx, Hid.tamperCause.idx, Hid.tamperAt.idx, Hid.dirActive.idx,
    Hid.dirPrevious.idx, (Hid.flashSeen 0).idx, Hid.fallCause.idx, Hid.probSlot.idx, Hid.tapSel.idx, Hid.tapCells.idx, 0xC300].contains k.idx ||
    [Reg.TAMPER_COUNT, Reg.SUPPLY_RESET_CAUSE, Reg.ALMANAC_POWERED, Reg.REF_STATE_XO_CORRECTION, Reg.MARGIN_CONTROL_BIN,
      Reg.MARGIN_CONTROL_PROPOSED_BIN].contains k ||
    (k.idx == 0xC100 && (k.sub == 1 || k.sub == 3))

/-- Reset of every island: each object at its default, nothing held, serial transmitters idle and ALERT_N low (R138, R349). What waits and
what the flash, the fuses and the key store hold stays. An image in probation is not confirmed (R385). -/
def State.enterReset (s : State) (h : Held) : State :=
  let t := (s.when (s.get Reg.HEALTH_CONFIRM_STATE == 1) (fun t => t.put Hid.fallCause 5)).each (List.range 96) (fun t n => t.txIdle n)
  let kept := storeKeep keptKey (t.put Reg.ALMANAC_POWERED s.powered).regs
  let kept := storeKeep (fun k => !(k.idx == 0xC100 && k.sub == 1 && storeGet kept k == 1)) kept
  ({ State.reset with pending := s.pending, out := t.out, free := s.free, held := h, regs := kept, journal := s.journal,
                      almIntervals := s.almIntervals, almDays := s.almDays, flash := s.flash } : State).send (.pin 0 0 0)

/-- PORST_N goes low. -/
def State.porstAssert (s : State) : State :=
  match s.held with
  | .porst => s
  | .brownout => { s with held := .porst }
  | .running => (s.enterReset .porst).put Reg.SUPPLY_RESET_CAUSE 0

/-- A rail lies below its threshold for 2 µs: reset as by PORST_N, recorded with its cause; a rail monitor that trips while the
device is in reset records nothing (R413). -/
def State.railBrownout (s : State) (rail : Nat) : State :=
  match s.held with
  | .running => ((s.enterReset .brownout).put Reg.SUPPLY_RESET_CAUSE rail).put Reg.SUPPLY_BROWNOUTS 1
  | _ => s

/-- The role has island i (R21). -/
def State.hasIsland (s : State) (i : Nat) : Bool := s.edge || !centreHeld i

/-- The release: straps and GPO levels are sampled, the islands of the role leave reset, the pairing state starts (R24,
R291, R311, R325). -/
def State.release (s : State) (x : Straps) : State :=
  let t := { s with held := .running }
  let t := (((t.put Reg.ROLE (b2i x.centre)).put Reg.IDENTITY_SLOT_ID (x.slot % 32 : Nat)).put Reg.IDENTITY_SVC_EN (b2i x.svcEn)).put
    Reg.PAIRING_SIDE (b2i x.right)
  let t := t.each (List.range 2) (fun t c => t.put (Reg.CTL_PORT_PORT_ADDRESS c) (t.portAddress c))
  let t := t.each (List.range 16) (fun t g =>
    ((t.put (Reg.GPO_STRAP g) (b2i (bitOf x.gpo g))).put (Reg.GPO_LEVEL g) (b2i (bitOf x.gpo g))).gpoDrive g (b2i (bitOf x.gpo g)))
  let t := t.each ((List.range 47).filter (fun i => t.hasIsland i)) (fun t i => t.put (Reg.ISLAND_STATE i) 3)
  let t := t.each (List.range 16) (fun t m => t.refreshMac m)
  let t := t.refreshAdmission.refRanks
  if x.centre then t.put Reg.PAIRING_STATE 0
  else
    let t := t.put Reg.PAIRING_PARTNER_SLOT (0xFF)
    if (x.slot % 2 == 1) = x.right then (t.put Reg.PAIRING_STATE 1).refreshEgress
    else ((t.put Reg.PAIRING_STATE 0).refreshEgress).raise 5 0 0

/-- PORST_N rises. -/
def State.porstRelease (s : State) (x : Straps) : State := if s.held = .porst then s.release x else s

/-- Every rail has been above its threshold for 10 ms (R413). -/
def State.brownoutRelease (s : State) (x : Straps) : State := if s.held = .brownout then s.release x else s

/-! ### Fabric subscriptions of what is in force -/

/-- The remote sources that the configuration in force uses, each with its user (R175, R259, R280). -/
def State.remoteUses (s : State) : List (Nat × Nat) :=
  let outs := (s.elsWith 0x5100 1 1).map (fun (e : Nat) => (s.getN (Reg.XPT_OUT_SOURCE e), e))
  let layers := s.canvasesOn.flatMap (fun (k : Nat) => (s.layersOn k).map (fun (l : Nat) => (s.getN (Reg.LAYER_SOURCE l), layerUser k)))
  let recs := s.recsOn.map (fun (r : Nat) => (s.getN (Reg.RECORDER_SOURCE r), recUser r))
  let ins := (s.elsWith 0x8810 1 1).map (fun (i : Nat) => (s.getN (Reg.BUNDLE_IN_SOURCE i), bundleUser i))
  let flows := ((s.flowsOn 16384 65536).filter (fun e => flowA e == e && flowEgress e && s.get (Reg.FLOW_TYPE e) == 5)).map
    (fun (e : Nat) => (s.getN (Reg.FLOW_SOURCE e), flowUser e))
  (outs ++ layers ++ recs ++ ins ++ flows).filter (fun (p : Nat × Nat) => s.remote p.1)

/-- Uses without a subscription take one once the source is offered: after a restore no slip has done so (R175, R316). -/
def State.wantSubs (s : State) : State :=
  if s.edge = false ∨ s.up 5 = false then s
  else
    s.each s.remoteUses (fun t p =>
      if (t.offerOf p.1).isSome && !((t.subOf p.1).map (fun x => x.users.contains p.2)).getD false then (t.openSub p.1 p.2).getD t else t)

/-! ### Readiness (R311 to R313, R361) -/

/-- Every crossing of island i with a running partner has exchanged tokens (R361). -/
def State.tokensDone (s : State) (i : Nat) : Bool := (crossPartners i).all (fun j => !s.up j || s.get (crossKey i j) == 1)

/-- Island i may raise its bit: out of its own reset, not held, its tokens exchanged; in image recovery only TIME, REF, SEC,
FLT and KEEP (R361, R381). -/
def State.mayRise (s : State) (i : Nat) : Bool :=
  s.alive && s.hasIsland i && !s.up i && s.get (Hid.heldReset i) == 0 &&
    (s.get (Reg.ISLAND_STATE i) == 3 || s.get (Reg.ISLAND_STATE i) == 4) && s.tokensDone i &&
      (s.get Hid.imageRecovery == 0 || decide (i ≤ 4))

/-- STACKS reads 1 once every D island that runs is ready (R274). -/
def State.refreshStacksBit (s : State) : State :=
  let runs := (List.range 4).filter (fun d => s.hasIsland (34 + d) && s.get (Hid.heldReset (34 + d)) != 3)
  s.setReady 49 (s.ready 49 || (runs != [] && runs.all (fun d => s.up (34 + d))))

/-- Recorders restored before any controller ran take their home once STACKS reads 1 (R280, R286). -/
def State.recHomes (s : State) : State :=
  s.each (s.recsOn.filter (fun r => s.get (Reg.RECORDER_HOME_IN_FORCE r) == 0xFF)) (fun t r => t.recApply State.reset r t.now)

/-- What follows the rise of island i's bit. -/
def State.afterRise (s : State) (i : Nat) : State :=
  if i = 0 then s.put Hid.watchdogFrom (s.tickLf + 1)
  else if i = 1 then s.refreshSlipBit.slipsReturn
  else if i = 2 then s.when (s.get Hid.fpulseOn == 0) (fun t => (t.put Hid.fpulseOn 1).each (List.range 4) (fun u n => u.fpulseIdle n))
  else if i = 3 then s.keysRefresh
  else if i = 4 then
    (let t := s.settleHeld.driveAlert
     t.send (.pin 0 0 (b2i (t.get Reg.ALERT_ASSERTED == 0))))
  else if i = 5 then s.refreshFabCounts.wantSubs
  else if 19 ≤ i ∧ i ≤ 22 then s.macsTrain (i - 19)
  else if i = 32 ∨ i = 33 then (s.each (List.range 96) (fun t n => t.syncSettle n)).hbmRises (i - 32) |>.refreshAdmission
  else if 34 ≤ i ∧ i ≤ 37 then (let t := s.refreshStacksBit; (if t.ready 49 then t.recHomes else t).refreshAdmission)
  else if 38 ≤ i ∧ i ≤ 45 then s.refreshCanvasStates
  else if i = 46 then s.audReturn.refreshAesBit
  else s

/-- Island i's own checks have passed: its bit rises, and it runs or is gated as the mode lists it (R26, R311, R340). -/
def State.islandRises (s : State) (i : Nat) : State :=
  let t := (((s.setReady (islandBit i) true).put (Hid.restarting i) 0).put (Hid.lateCount i) 0).put (Reg.ISLAND_STATE i)
    (if s.islandListed (s.getN Reg.MODE_ACTIVE) i then 0 else 1)
  ((t.islandReturned i).afterRise i).when (i == 6 || (decide (19 ≤ i) && decide (i ≤ 22))) (fun u => u.refreshGroups s)

/-- A D island trains the RDIMMs of its four channels, given as (GiB, ranks, MT/s); one that may not run stays in reset, with
MEM_POPULATION raised for a partial population (R274). An island that trained before returns as it was. -/
def State.ddrRises (s : State) (d : Nat) (dimms : List (Nat × Nat × Nat)) : State :=
  if dimms = [] ∧ s.get (Hid.ddrRate d) ≠ 0 then s.islandRises (34 + d)
  else
    match s.ddrTrain d dimms with
    | some t => t.islandRises (34 + d)
    | none =>
      let t := (s.put (Hid.heldReset (34 + d)) 3).put (Reg.ISLAND_STATE (34 + d)) 2
      if dimms = [] then t else t.raise 23 0 (islandBit (34 + d))

/-- A READY bit may rise: an island's, or CAT, GPIO or ALMANAC (Table 15.2). -/
def State.bitRises (s : State) (b : Nat) (dimms : List (Nat × Nat × Nat)) : State :=
  match bitIsland b with
  | some i =>
    if s.mayRise i = false then s
    else if 34 ≤ i ∧ i ≤ 37 then s.ddrRises (i - 34) dimms
    else s.islandRises i
  | none =>
    if s.alive = false ∨ s.ready b = true ∨ s.ready 0 = false then s
    else if b = 1 then (if s.ready 56 = true ∧ s.get Hid.imageRecovery = 0 then s.setReady 1 true else s)
    else if b = 54 then (s.setReady 54 true).gpioReady
    else if b = 55 then (s.setReady 55 true).refreshTarget
    else s

/-- An island's bit has not risen by its maximum: the attempt ends, and a new restart is ordered and counted (R312, DEDUCED, log
entry 69). -/
def State.bitLate (s : State) (b : Nat) : State :=
  match bitIsland b with
  | none => s
  | some i =>
    if s.alive = false ∨ s.hasIsland i = false ∨ s.up i = true ∨ s.get (Hid.heldReset i) ≠ 0 then s
    else
      let n := s.get (Hid.lateCount i) + 1
      let t := (s.put (Hid.lateCount i) n).raise 3 0 b
      if 3 ≤ n then ((t.put (Hid.heldReset i) 2).put (Hid.restarting i) 0).put (Reg.ISLAND_STATE i) 5
      else ((t.put (Hid.restarting i) 0).restartIsland i 1).settleQueue

/-! ### Crossings (R355, R359 to R363) -/

/-- The reset of a restarting island is released once it has been held for 1 µs (R363). A latched island leaves its hold under a booking (R341). -/
def State.resetReleased (s : State) (i : Nat) : State :=
  let held := s.get (Hid.heldReset i)
  if s.alive = true ∧ s.get (Hid.restarting i) = 1 ∧ s.get (Reg.ISLAND_STATE i) = 2 ∧
      s.get (Hid.restartAt i) + 52920 ≤ s.tickLf ∧ (held = 0 ∨ (held = 1 ∧ s.get (Hid.latchRelease i) = 1)) then
    (s.put (Hid.heldReset i) 0).put (Reg.ISLAND_STATE i) 3
  else s

/-- Two different islands share a crossing. -/
def crossingOf (i j : Nat) : Bool := (crossPartners i).contains j

/-- The source's checks have passed and it sends its ready token; the running destination answers with its own (R360). -/
def State.readyToken (s : State) (src dst : Nat) : State :=
  let st := s.get (Reg.ISLAND_STATE src)
  let waits := st == 3 || st == 4
  if s.alive = true ∧ crossingOf src dst = true ∧ s.up dst = true ∧ (waits = true ∨ s.up src = true) then
    (s.put (crossKey src dst) 1).when waits (fun t => t.put (Reg.ISLAND_STATE src) 4)
  else s

/-- The destination finds a wrong pointer: it resynchronises as though the source had been reset (R359). -/
def State.pointerWrong (s : State) (src dst units : Nat) : State :=
  if s.alive = true ∧ crossingOf src dst = true ∧ s.up src = true ∧ s.up dst = true then
    (((s.bump (Reg.ISLAND_RESYNCS dst)).bumpBy (Reg.ISLAND_FLUSHED dst) units).put (crossKey src dst) 0).raise (64 + 4 * dst + 1)
  else s

/-- The event counter of a hand-off stands at 255 and events are lost (R355). -/
def State.crossingFull (s : State) (src dst : Nat) : State :=
  if s.alive = true ∧ crossingOf src dst = true ∧ s.up src = true then
    (s.bump (Reg.ISLAND_SATURATIONS src)).raise (64 + 4 * src + 1) 0 (islandBit dst)
  else s

/-- A restart order for island i with its cause (R363); an island in reset, or one the role does not have, takes none. -/
def State.restartOrder (s : State) (i cause : Nat) : State :=
  if s.alive = true ∧ s.hasIsland i = true ∧ (s.up i = true ∨ s.get (Hid.restarting i) = 1) then (s.restartIsland i cause).settleQueue else s

/-! ### The standing order (R315 to R320) -/

/-- The records a restore needs, newest first: down to the last full snapshot. -/
def recordsNeeded : List CommitRec → List CommitRec
  | [] => []
  | r :: l => if r.full then [r] else r :: recordsNeeded l

/-- What a restore takes from the journal, and what it reports: 1 JOURNAL, 2 SNAPSHOT, 0 DEFAULTS. Bit i of `bad`: record i
from the newest fails its check (R316). -/
def journalPick (l : List CommitRec) (bad : Nat) : Int × List CommitRec :=
  let need := indexed 0 (recordsNeeded l)
  let good := (need.filter (fun p => !bitOf bad p.1)).map (fun (p : Nat × CommitRec) => p.2)
  let baseBad := need.any (fun p => p.2.full && bitOf bad p.1)
  if good = [] ∨ baseBad = true then (0, [])
  else if good.length = need.length then (1, good) else (2, good)

/-- A restored item is skipped: absent in the role or the image, refused by its type or range, or a mode the role does not have (R3, R316). -/
def State.skipsItem (s : State) (p : Key × Int) : Bool :=
  match s.lookup (addrOf p.1) with
  | none => true
  | some (k, f) => !configAccess (accessOf k) || !typeHolds f.ty p.2 || !rangeHolds f.chk p.2 || s.stageMode k p.2

/-- A restored value goes into force directly. -/
def State.restoreItem (s : State) (p : Key × Int) : State :=
  let k := p.1
  if k.idx = 0x2010 then s.setIncrement p.2
  else if k = Reg.DISCIPLINE_OWNER then s.ownerWrite p.2
  else if k.idx = 0x3200 ∧ k.sub ≤ 2 then s.groupApply (k.sub == 2) (k.el / p.2.toNat * p.2.toNat) p.2.toNat
  else s.put k p.2

/-- The rasters of a restore start at once, or wait for time (R318). -/
def State.restoreRasters (s : State) : State :=
  s.each ((s.elsListed 0x2300 1).filter (fun r => decide (r < 32))) (fun t r =>
    if t.get (Reg.RASTER_FORMAT r) = 0 then t
    else if t.get Reg.STANDING_COMMIT_RASTER_START = 1 then t.boundaryWork r
    else t.put (Hid.rasterWait r) 1)

/-- What follows the restored configuration in every function (R316, R317). `old` stands before. -/
def State.settleRestored (s old : State) : State :=
  let t := s.each (List.range 16) (fun t m => t.refreshMac m)
  let t := (t.obeyMode.gateFollow t).restoreRasters
  let t := t.each (t.flowsOn 0 16384) (fun t f => t.flowWritten old f)
  let t := t.each (t.flowsOn 32768 49152) (fun t e => t.flowApply old e t.now)
  let t := t.each (t.elsWith 0x8810 1 1) (fun t i => t.refreshBundle i)
  let t := t.each (List.range 96) (fun t n => t.syncSettle n)
  let t := t.each t.recsOn (fun t r => t.recApply old r t.now)
  let t := t.each (t.elsListed 0x9200 1) (fun t h => t.headApply h t.now)
  let t := t.each (t.elsWith 0x5100 1 2) (fun t e =>
    let h := t.getN (Reg.XPT_OUT_HEAD e)
    if h < 256 then (t.put (Reg.HEAD_STATE h) 1).put (Reg.HEAD_OUTPUT h) e else t)
  let t := (t.openStores t.layerSources).refreshCanvases
  let t := (t.refreshSide.refreshGroups old).refreshEgress
  (t.refreshAdmitted.refreshAdmission.refreshInject.refreshTarget.driveAlert).wantSubs

/-- Objects held only in KEEP: a warm restart gives them their standing-order values (R345). -/
def keepOnly (k : Key) : Bool :=
  [0x1410, 0x1500, 0x1600, 0x1610, 0xC000, 0xC200, 0xD000, 0xD110].contains k.idx && configAccess (accessOf k)

/-- The default of an object held only in KEEP, where straps set it (Table 2.7, R434). -/
def State.keepDefault (s : State) (k : Key) : Int :=
  if k.idx = 0x1410 ∧ k.sub = 2 then s.portAddress k.el
  else if k.idx = 0x1610 ∧ k.sub = 1 then s.get (Reg.GPO_STRAP k.el)
  else dfltOf k

/-- The standing order's values after a warm restart of KEEP (R345). -/
def State.restoreKeep (s : State) (l : Store) : State :=
  let listed := (s.regs.map (fun (p : Key × Int) => p.1)).filter (fun k => keepOnly k && (storeFind l k).isNone)
  let t := s.each listed (fun t k => t.put k (s.keepDefault k))
  t.each (l.filter (fun p => keepOnly p.1)) (fun t p => t.put p.1 p.2)

/-- The restore after the release, or after a restart of KEEP: the newest commit that passes, else what the snapshot and the
records that pass give, else the defaults (R316). Bit 56 rises. -/
def State.standingRestore (s : State) (bad : Nat) : State :=
  if s.alive = false ∨ s.ready 0 = false ∨ s.ready 56 = true ∨ s.get Hid.imageRecovery = 1 then s
  else
    let pick := journalPick s.journal bad
    let all := journalStore pick.2
    let l := all.filter (fun p => !s.skipsItem p)
    let t := (s.put Reg.STANDING_COMMIT_RESTORED_FROM pick.1).put Reg.STANDING_COMMIT_SKIPPED (all.length - l.length : Nat)
    let t := if s.get Hid.restored = 1 then t.restoreKeep l
      else ((t.each l (fun u p => u.restoreItem p)).settleRestored s).put Hid.restored 1
    (t.when (pick.1 != 1) (fun u => u.raise 4 0 0)).setReady 56 true

/-- The changes from one set of values to another: those that differ, and those that return to their defaults (R320). -/
def storeDelta (old new : Store) : List (Key × Int) :=
  (new.filter (fun p => storeGet old p.1 != p.2)) ++
    (old.filter (fun p => (storeFind new p.1).isNone)).map (fun (p : Key × Int) => (p.1, dfltOf p.1))

/-- The end of a commit: durable, or failed (R319, R320). Whether the half in use was full, so that a full snapshot was
written, depends on record sizes the manual leaves open: a free value. -/
def State.commitComplete (s : State) (ok : Bool) : State :=
  match s.commitCopy with
  | none => s
  | some copy =>
    if s.get Reg.STANDING_COMMIT_STATE ≠ 1 then s
    else if ok = false then ({ s with commitCopy := none }).put Reg.STANDING_COMMIT_STATE 3
    else
      let full := s.freeVal % 2 == 1
      let r : CommitRec := ⟨if full then copy else storeDelta (journalStore s.journal) copy, full⟩
      (({ s.drawn with commitCopy := none, journal := r :: s.journal }).put Reg.STANDING_COMMIT_STATE 2).put
        Reg.STANDING_COMMIT_LAST_COMMIT s.nowLT

/-- A raster under AT_TIME starts (R318). -/
def State.rasterAtTime (s : State) (r : Nat) : State :=
  if s.get (Hid.rasterWait r) = 1 ∧ s.timeSet = true then (s.put (Hid.rasterWait r) 0).boundaryWork r else s

end Sys2Proof.Machine
end

