-- ==== Sys2Proof/Machine/PinState.lean ====
section
/-! DEFINITION. What each pin does in a state (15_bringup_and_modes.md, Table 15.7; 06_serial_video.md, Table 6.11; 08_fabric.md, Table
8.1; 09_network_ports.md, Table 9.8; 12_audio.md, Table 12.3; R89, R307, R349, R408, R426). -/
namespace Sys2Proof.Machine

/-- What a pin does. -/
inductive Drive
  /-- High impedance; a receive pair without termination. -/
  | highZ
  /-- A transmit pair in electrical idle. -/
  | idle
  /-- Training or auto-negotiation signalling. -/
  | training
  /-- A transmit pair that sends its stream; a low-speed output that sends its words or frames. -/
  | active
  | low
  | high
  /-- A receive pair, terminated, or an input, whose data is ignored. -/
  | ignored
  /-- A receive pair, terminated, or an input, that is received. -/
  | received
  /-- As the boundary cells of the TAP give it (R408). -/
  | cells
deriving DecidableEq, Repr

/-- A level. -/
def levelDrive (v : Int) : Drive := if v = 0 then .low else .high

/-- A rail monitor holds the reset for one of these rails of `1120:05`, which then counts as absent (R413, log entry 93). -/
def State.railAbsent (s : State) (rails : List Int) : Bool := decide (s.held = .brownout) && rails.contains (s.get Reg.SUPPLY_RESET_CAUSE)

/-- VDDS or VDDH is absent: every SerDes pin. -/
def State.serdesAbsent (s : State) : Bool := s.railAbsent [2, 3]
/-- VIO18 is absent: every low-speed pin. -/
def State.ioAbsent (s : State) : Bool := s.railAbsent [6]

/-- The TAP instruction that acts on outputs while PORST_N is low: what it makes of an output pin (R408). -/
def State.tapDrive (s : State) : Option Drive :=
  let code := (s.get Hid.tapSel + 1) % 256
  if s.porstLow = false then none
  else if code = 7 then some .highZ
  else if code = 0 ∨ code = 5 ∨ code = 6 ∨ code = 8 then some .cells
  else none

/-- An output pin on a rail: high impedance with the rail absent, else what the TAP makes of it, else `d`. -/
def State.outPin (s : State) (absent : Bool) (d : Drive) : Drive := if absent then .highZ else s.tapDrive.getD d

/-- An island's pins work: out of device reset, in the role, ready, and not gated by the mode (R21, R26, R426). -/
def State.pinsWork (s : State) (i : Nat) : Bool := s.alive && s.hasIsland i && s.runs i

/-! ### SerDes pairs -/

/-- SDI_TX_P/N[n] (Table 6.11). -/
def State.sdiTxPin (s : State) (n : Nat) : Drive :=
  s.outPin s.serdesAbsent (if s.pinsWork (7 + n / 8) && s.up 5 && s.get (Reg.SDI_TX_STATE n) == 1 then .active else .idle)
/-- SDI_RX_P/N[n] (Table 6.11). -/
def State.sdiRxPin (s : State) (n : Nat) : Drive :=
  if s.serdesAbsent then .highZ else if s.pinsWork (7 + n / 8) then .received else .ignored

/-- The MAC that has network lane k, in the mode of its port (Table 9.1). -/
def State.laneMac (s : State) (k : Nat) : Nat :=
  let mode := s.get (Reg.NET_PORT_MODE (k / 4))
  if mode = 0 then k / 4 * 4 else if mode = 1 then k / 2 * 2 else k

/-- NET_TX_P/N[k] (R207, Table 9.8). -/
def State.netTxPin (s : State) (k : Nat) : Drive :=
  s.outPin s.serdesAbsent (if s.pinsWork (19 + k / 4) = false then .idle
    else if s.get (Reg.MAC_LINK (s.laneMac k)) = 2 then .active else .training)
/-- NET_RX_P/N[k] (R207, Table 9.8). -/
def State.netRxPin (s : State) (k : Nat) : Drive :=
  if s.serdesAbsent then .highZ else if s.pinsWork (19 + k / 4) then .received else .ignored

/-- A transmit pair of a lane by its state: it trains in TRAINING, sends in ALIGNING and UP, and is idle in OFF and FAILED (R159, log entry
93). -/
def laneDrive (st : Int) : Drive := if st = 1 then .training else if st = 2 ∨ st = 3 then .active else .idle

/-- FAB_TX_P/N[l] and FAB_RX_P/N[l] (Table 15.7, R159). -/
def State.fabTxPin (s : State) (l : Nat) : Drive :=
  s.outPin s.serdesAbsent (if s.pinsWork (23 + l / 8) then laneDrive (s.laneState l) else .idle)
def State.fabRxPin (s : State) (l : Nat) : Drive :=
  if s.serdesAbsent then .highZ else if s.pinsWork (23 + l / 8) then .received else .ignored

/-- TWN_TX_P/N[k] and TWN_RX_P/N[k]; a device in STRAP_SOLO holds both lanes OFF (R189). -/
def State.twnTxPin (s : State) (k : Nat) : Drive :=
  s.outPin s.serdesAbsent (if s.pinsWork 31 && s.get Reg.PAIRING_STATE != 0 then laneDrive (s.laneState (64 + k)) else .idle)
def State.twnRxPin (s : State) : Drive := if s.serdesAbsent then .highZ else if s.pinsWork 31 then .received else .ignored

/-- The transmit and receive pairs of CTLA (0), CTLB (1) and SVC (2): idle until KEEP is ready (Table 15.7). -/
def State.ctlTxPin (s : State) (p : Nat) : Drive :=
  s.outPin s.serdesAbsent (if s.pinsWork 0 = false then .idle else if s.ready (51 + p) then .active else .training)
def State.ctlRxPin (s : State) : Drive := if s.serdesAbsent then .highZ else if s.pinsWork 0 then .received else .ignored

/-! ### Low-speed pins -/

/-- AES_OUT[t] and AES_IN[r] (Table 12.3). -/
def State.aesOutPin (s : State) (t : Nat) : Drive :=
  s.outPin s.ioAbsent (if s.pinsWork 46 && s.get (Reg.AES_TX_ENABLE t) == 1 then .active else .low)
def State.aesInPin (s : State) (r : Nat) : Drive :=
  if s.ioAbsent then .highZ else if s.pinsWork 46 && s.get (Reg.AES_RX_ENABLE r) == 1 then .received else .ignored

/-- GOB_CK and GOB_D (R307). -/
def State.gobPin (s : State) : Drive := s.outPin s.ioAbsent (if s.edge && s.pinsWork 5 then .active else .low)

/-- GPO[g]: high impedance in reset, else the level it drove last, the strap level first (R325, R434). -/
def State.gpoPin (s : State) (g : Nat) : Drive :=
  s.outPin s.ioAbsent (if s.alive then levelDrive (s.get (Hid.gpoPin g)) else .highZ)

/-- FPULSE[n]: high impedance until REF is first ready; inactive with no raster or with one that is OFF; else it pulses (R89). -/
def State.fpulsePin (s : State) (n : Nat) : Drive :=
  s.outPin s.ioAbsent (if s.alive = false ∨ s.get Hid.fpulseOn = 0 then .highZ
    else if s.rasterPeriod (s.getN (Reg.FPULSE_RASTER n)) = 0 then levelDrive (s.get (Reg.FPULSE_POLARITY n)) else .active)

/-- ALERT_N: driven low until FLT is ready and while ASSERTED, else released (R349). -/
def State.alertPin (s : State) : Drive :=
  s.outPin s.ioAbsent (if s.alive = false ∨ s.up 4 = false ∨ s.get Reg.ALERT_ASSERTED = 1 then .low else .highZ)

/-- The QSPI pins: the board manager's in reset, then the device's. -/
def State.qspiPin (s : State) : Drive := s.outPin s.ioAbsent (if s.alive then .active else .highZ)
/-- SMB_CK and SMB_DA: a target once KEEP is ready (R425). -/
def State.smbPin (s : State) : Drive := s.outPin s.ioAbsent (if s.alive && s.ready 0 then .received else .highZ)

/-- MEMC RESET_n of DDR channel c, and its other pins: driven once the D island trains, and while it runs or refreshes. -/
def State.memcReset (s : State) (c : Nat) : Drive :=
  s.outPin (s.railAbsent [4]) (if s.alive && s.hasIsland (34 + c / 4) && s.get (Hid.ddrRate (c / 4)) != 0 && s.up (34 + c / 4) then .high else .low)
def State.memcPin (s : State) (c : Nat) : Drive :=
  s.outPin (s.railAbsent [4]) (if s.memcReset c = .high then .active else .highZ)

/-- GPI, the timing inputs and XO_IN: inputs from the release on. -/
def State.inputPin (s : State) : Drive := if s.ioAbsent then .highZ else if s.alive then .received else .ignored
/-- ROLE, TWIN_SIDE, SLOT_ID and SVC_EN: sampled at the release, then ignored. -/
def State.strapPin (s : State) : Drive := if s.ioAbsent then .highZ else if s.alive then .ignored else .received

end Sys2Proof.Machine
end

