-- ==== Sys2Proof/Machine/Offers.lean ====
section
/-! DEFINITION. The offers this device makes of its own sources to the frame (R171, R224, R245, R259, R284, R407). -/
namespace Sys2Proof.Machine

/-- The offer record of local source i with its K and class: 0 PROMPT, 1 PACED (Table 8.8). A VIDEO flow has every link structure of its
code, and its RATE reads 0 (R222, R224, log entry 88). -/
def State.offerRec (s : State) (i k cls : Nat) : OfferRec :=
  let x := s.localSrc i
  ⟨s.slot * 32768 + i, k, cls, x.links, x.format, (if x.every then 0 else x.rate), if x.present then 1 else 2⟩

/-- What this device offers: serial inputs always; ingress flows with an OFFER_K, heads in DELAY or CLIP, the tiles that name
an offer, bundles while AUD runs, and test generators whose raster runs. -/
def State.localOffers (s : State) : List OfferRec :=
  if s.edge = false then []
  else
    let inputs := (List.range 96).map (fun n => s.offerRec n 619 0)
    let flows := ((s.flowsOn 0 16384).filter (fun f => s.get (Reg.FLOW_OFFER_K f) != 0)).map
      (fun f => s.offerRec (0x100 + f) (s.getN (Reg.FLOW_OFFER_K f)) 1)
    let heads := ((s.elsListed 0x9200 1).filter (fun h => decide (h < 256) && s.get (Reg.HEAD_MODE h) != 0)).map
      (fun h => s.offerRec (0x4100 + h) 640 1)
    let tiles := (((s.elsListed 0x7400 8).filter (fun t => decide (s.get (Reg.TILE_CANVAS t) < 256) && decide (s.getN (Reg.TILE_OFFER t) < 256))).map
      (fun t => s.getN (Reg.TILE_OFFER t))).eraseDups.map (fun o => s.offerRec (0x4200 + o) 619 0)
    let bundles := if s.runs 46 then (s.elsWith 0x8800 1 1).map
      (fun b => s.offerRec (0x4300 + b) (if s.progRun.rate = 0 then 5 else 10) 1) else []
    let gens := ((s.elsWith 0xE200 1 1).filter (fun g => (s.genSrc g).offered)).map (fun g => s.offerRec (0x7F00 + g) 619 0)
    inputs ++ flows ++ heads ++ tiles ++ bundles ++ gens

/-- A list in pieces of at most 19 (Table 8.8). -/
def pieces19 {α : Type} : Nat → List α → List (List α)
  | 0, _ => []
  | n + 1, l => if l.isEmpty then [] else l.take 19 :: pieces19 n (l.drop 19)

/-- OFFER cells of the records leave on every UP uplink. -/
def State.sendOffers (s : State) (recs : List OfferRec) : State :=
  s.each (pieces19 recs.length recs) (fun t l =>
    t.each ((List.range 64).filter (fun n => t.laneUp n)) (fun u n => u.sendControl n (u.controlCell 13 0 (.offers l))))

/-- Offer records are sent again, spread over the 10,000 calendar periods of each Ledger second: by the end of a period its share of
them has left (R171). -/
def State.offerResend (s : State) : State :=
  if s.edge = false ∨ s.runs 5 = false then s
  else
    let now := s.localOffers
    let sec := s.period / 10000 + 1
    let done := if s.getN Hid.offerSec = sec then s.getN Hid.offerDone else 0
    let due := now.length * (s.period % 10000 + 1) / 10000
    (((s.put Hid.offerSec (sec : Nat)).put Hid.offerDone (max done due : Nat)).sendOffers ((now.take due).drop done))

/-- Offers that changed since they were last sent leave within the calendar period; one withdrawn is sent once with STATE 0
(R171). -/
def State.offerChanges (s : State) : State :=
  if s.edge = false ∨ s.runs 5 = false then s
  else
    let now := s.localOffers
    let gone : List OfferRec := (s.offersSent.filter (fun r => !now.any (fun x => x.shelf == r.shelf))).map
      (fun (r : OfferRec) => { r with state := 0 })
    ({ s with offersSent := now }).sendOffers (now.filter (fun r => !s.offersSent.contains r) ++ gone)

end Sys2Proof.Machine
end

