-- ==== Sys2Proof/Machine/Protocol.lean ====
section
/-! DEFINITION. The Catalogue protocol: authentication, the session, sequences, the opcodes, mirroring to the twin, block
transfers, subscriptions, and the loan token (02_catalogue_protocol.md, R32 to R53, R441; 14_twin_and_loan.md, R297 to R302). -/
namespace Sys2Proof.Machine

/-! ### Answers (R38, R45) -/

/-- A control port takes datagrams: the Catalogue engine and the port's link are up (Table 15.2). -/
def State.listens (s : State) (port : Nat) : Bool := s.alive && s.ready 1 && s.ready (51 + port)

/-- The port takes this datagram for a Catalogue message: it comes to an address of the port's receive filter, over IPv4 to the port's own
address, and to UDP port 47321 (R32, R206). -/
def State.hears (s : State) (m : Msg) : Bool :=
  s.listens m.port &&
    (m.mac == s.getN (Reg.CTL_PORT_PORT_MAC m.port) || m.mac == 2 ^ 48 - 1 || fixedGroups.contains m.mac) &&
    m.ip == s.getN (Reg.CTL_PORT_PORT_ADDRESS m.port) && ipV4 m.ip && m.udp == s.getN (Reg.CTL_PORT_UDP_PORT m.port)

/-- What stands before a message on each port it leaves on: class 7, the port's own addresses, UDP port 47321 at both ends (R32, R206). -/
def State.udpHeads (s : State) (ports : List Nat) : List UdpHead :=
  ports.map (fun p => ⟨p, s.frameHead (16 + p) 7, s.getN (Reg.CTL_PORT_PORT_ADDRESS p), s.getN (Reg.CTL_PORT_UDP_PORT p),
    s.getN (Reg.CTL_PORT_UDP_PORT p)⟩)

/-- A response leaves on some ports. -/
def State.answerOn (s : State) (ports : List Nat) (key : Option SessKey) (r : Resp) : State :=
  if ports = [] then s else s.send (.response (s.udpHeads ports) key r (r.datagram key))

/-- A response is recorded for a retransmission and leaves on both ports (R44, R45). -/
def State.respond (s : State) (r : Resp) (key : Option SessKey) : State :=
  let note (q : SeqRec) : SeqRec := if q.seq = r.sequence ∧ q.resp.isNone = true then { q with resp := some (key, r) } else q
  let t := { s with session := s.session.map (fun (x : Session) => if x.id = r.session then { x with seen := x.seen.map note } else x) }
  t.answerOn t.ctlPorts key r

/-- The response to a message with no payload: one refused whole (R441). -/
def refusal (m : Msg) (opcode : Nat) (st : Status) : Resp :=
  ⟨opcode, st, false, m.hdr.session, m.hdr.sequence, m.hdr.segment, m.hdr.transfer, 0, .empty⟩

/-- An AUTH_FAIL answer: a zero tag, at most 10 on each port in any second (R38, R439). `counted`: in `1400:09`. -/
def State.authFail (s : State) (m : Msg) (opcode : Nat) (counted : Bool) : State :=
  let t := s.when counted (fun u => u.bump Reg.SESSION_AUTH_FAILS)
  let ports := t.ctlPorts.filter (fun p => decide (inSecond t.authAnswers p t.ticks < 10))
  let r := refusal m opcode .authFail
  let note (q : SeqRec) : SeqRec := if q.seq = r.sequence ∧ q.resp.isNone = true then { q with resp := some (none, r) } else q
  let t := { t with
    authAnswers := t.authAnswers.filter (fun (p : Nat × Nat) => decide (t.ticks < p.2 + 1000000000)) ++ ports.map (fun (p : Nat) => (p, t.ticks))
    session := if counted then t.session else
      t.session.map (fun (x : Session) => if x.id = r.session then { x with seen := x.seen.map note } else x) }
  t.answerOn ports none r

/-- A datagram whose Version is not 1, or whose length disagrees with its Payload length, is discarded and counted (R33). -/
def State.malformed (s : State) (port : Nat) : State := if s.listens port then s.bump Reg.SESSION_AUTH_FAILS else s

/-! ### Header checks (R53, steps 3 and 4) -/

/-- The opcodes marked in the Loan column of Table 2.5. -/
def needsLoan (opcode : Nat) : Bool := [2, 3, 4, 5, 8].contains opcode

/-- A header field that a request may not set: a Status, RESPONSE, NOTIFY or a reserved bit; MORE outside BLOCK_WRITE; a
Segment or Transfer outside the block opcodes. -/
def headerBad (m : Msg) (opcode : Nat) : Bool :=
  m.hdr.status != 0 || bitsOf m.hdr.flags 0 5 != 0 || decide (64 ≤ m.hdr.flags) || (bitOf m.hdr.flags 5 && opcode != 8) ||
    (!(opcode == 7 || opcode == 8) && (m.hdr.segment != 0 || m.hdr.transfer != 0))

/-- The status of a message before its items. `count`: the items its payload holds, where the header must agree. -/
def State.headerStatus (s : State) (m : Msg) (opcode : Nat) (count : Option Nat) : Status :=
  firstBad [statusIf (needsLoan opcode && !s.lent) .notLent, statusIf (decide (s.payloadLimit < m.hdr.length)) .segment,
    statusIf (headerBad m opcode || (match count with | none => false | some n => m.hdr.items != n)) .range,
    statusIf (!(decide (1 ≤ opcode) && decide (opcode ≤ 10))) .type]

/-! ### Sequence (R44, Table 2.6) -/

/-- Five milliseconds in ticks. -/
def dupTicks : Nat := 5000000

/-- A sequence above the highest accepted, by serial-number arithmetic; of a session with none seen, any is (R44). -/
def State.seqAbove (s : State) (x : Session) (q : Nat) : Bool :=
  let ahead := (q + 2 ^ 32 - s.getN Reg.SESSION_HIGHEST_SEQ) % 2 ^ 32
  x.seen == [] || (decide (0 < ahead) && decide (ahead < 2 ^ 31))

/-- The state in which a request of the open session is executed: its sequence is noted and H follows (R44). -/
def State.noted (s : State) (x : Session) (q : Nat) : State :=
  let top := if s.seqAbove x q then q else s.getN Reg.SESSION_HIGHEST_SEQ
  let seen : List SeqRec := ⟨q, s.ticks, none⟩ :: x.seen.filter (fun r => decide ((top + 2 ^ 32 - r.seq) % 2 ^ 32 ≤ 256))
  ({ s with session := some { x with seen := seen } }).put Reg.SESSION_HIGHEST_SEQ top

/-- More than 256 below the highest sequence accepted (Table 2.6). -/
def State.seqOld (s : State) (x : Session) (q : Nat) : Bool :=
  !s.seqAbove x q && decide (256 < (s.getN Reg.SESSION_HIGHEST_SEQ + 2 ^ 32 - q) % 2 ^ 32)

/-- A request whose sequence has been seen: discarded within 5 ms of its first copy, else answered again (Table 2.6). -/
def State.again (s : State) (r : SeqRec) : State :=
  let t := s.bump Reg.SESSION_DUPLICATES
  if s.ticks < r.at_ + dupTicks then t
  else
    match r.resp with
    | none => t
    | some (k, p) => t.answerOn t.ctlPorts k p

/-- A request of the open session under its sequence: executed once, discarded, answered again, or refused. `first` is what a check
that comes before the sequence answers, where one fails (R53). -/
def State.sequenced (s : State) (x : Session) (m : Msg) (opcode : Nat) (key : SessKey) (first : Option State) (f : State → State) : State :=
  let q := m.hdr.sequence
  match x.seen.find? (fun r => r.seq == q) with
  | some r => s.again r
  | none =>
    if s.seqOld x q then first.getD ((s.bump Reg.SESSION_SEQ_REFUSED).respond (refusal m opcode .sequence) (some key))
    else f (s.noted x q)

/-! ### Ends (R41 to R43) -/

/-- An unlent session closes 10 s after the later of its end of loan and the last verified message (R42). -/
def State.unlentClose (s : State) : State :=
  match s.session with
  | none => s
  | some x => if s.lent = false ∧ max x.unlentAt x.lastMsg + 529200000000 ≤ s.tickLf then s.closeSession else s

/-- The key of the session before is dropped after 10 s (R41). -/
def State.oldKeyEnd (s : State) : State :=
  match s.oldSession with
  | none => s
  | some o => if o.until_ ≤ s.tickLf then { s with oldSession := none } else s

/-- The grace after a HANDOVER boundary ends (R43). -/
def State.graceEnd (s : State) : State :=
  match s.grace with
  | none => s
  | some (_, e) => if e ≤ s.now then { s with grace := none } else s

/-! ### Receiving (R38 to R43) -/

/-- The loan has reached its expiry, an unlent session its 10 s, the key of the session before its 10 s, or the grace of a HANDOVER its
end: every message finds them so, whether or not the moment itself was seen (R34, R41 to R43). -/
def State.endsDue (s : State) : State := s.loanExpiry.unlentClose.oldKeyEnd.graceEnd

/-- The boot measurement that verified before the last HANDOVER boundary, within its 10 ms (R43). -/
def State.oldMeasurement (s : State) : Option Nat :=
  match s.grace with
  | none => none
  | some (n, e) => if s.now < e then some n else none

/-- The first of the keys tried for a tag that verifies it: `k`, or within the grace of a HANDOVER the same under the measurement before
it (R38, R43). -/
def State.verifyingKey (s : State) (k : SessKey) (m : Msg) (opcode : Nat) (payload : List Nat) : Option SessKey :=
  if m.verifies k opcode payload then some k
  else
    match s.oldMeasurement with
    | none => none
    | some n => if m.verifies { k with measurement := n } opcode payload then some { k with measurement := n } else none

/-- A request that names no session that is open: NOT_LENT to the session before, else AUTH_FAIL (R41). -/
def State.otherSession (s : State) (m : Msg) (opcode : Nat) (payload : List Nat) : State :=
  match s.oldSession with
  | none => s.authFail m opcode true
  | some o =>
    if o.id = m.hdr.session ∧ m.hdr.session ≠ 0 ∧ m.verifies o.key opcode payload = true then
      s.respond (refusal m opcode .notLent) (some o.key)
    else s.authFail m opcode true

/-- A request of the open session that verified under a key: its sequence, its header, then its execution (R44, R53). -/
def State.receiveAs (s : State) (x : Session) (m : Msg) (opcode : Nat) (count : Option Nat) (key : SessKey)
    (f : State → SessKey → State) : State :=
  let y : Session := { x with lastMsg := s.tickLf }
  ({ s with session := some y }).sequenced y m opcode key none (fun t =>
    let st : Status := t.headerStatus m opcode count
    if st = Status.ok then f t key else t.respond (refusal m opcode st) (some key))

/-- A request of an opcode other than LOAN and a sessionless PING, with the bytes of its payload; `count`: its items; `f`: its
execution under the key that verified it (R34, R38, R41, R53). -/
def State.receive (s : State) (m : Msg) (opcode : Nat) (payload : List Nat) (count : Option Nat) (f : State → SessKey → State) : State :=
  if s.hears m = false then s
  else if m.hdr.version ≠ 1 ∨ m.hdr.length ≠ payload.length then s.malformed m.port
  else
    let s := s.endsDue
    match s.session with
    | none => s.otherSession m opcode payload
    | some x =>
      if x.id ≠ m.hdr.session then s.otherSession m opcode payload
      else
        match s.verifyingKey x.key m opcode payload with
        | none => s.authFail m opcode true
        | some key => s.receiveAs x m opcode count key f

/-- A response with status words; the header holds the first that is not OK (R36, R53). -/
def wordsResp (m : Msg) (opcode : Nat) (sts : List Status) : Resp :=
  ⟨opcode, firstBad sts, false, m.hdr.session, m.hdr.sequence, m.hdr.segment, m.hdr.transfer, sts.length, .words sts⟩

/-! ### Reading (R34, R37) -/

/-- READ: one result per address; over the limit nothing is executed (R33). -/
def State.readMsg (s : State) (m : Msg) (addrs : List Nat) (key : SessKey) : State :=
  if s.payloadLimit < s.readBytes addrs then s.respond (refusal m 1 .segment) (some key)
  else
    let r := s.readAll addrs
    r.1.respond ⟨1, firstBad (r.2.map (fun (x : ReadResult) => x.status)), false, m.hdr.session, m.hdr.sequence, 0, 0, addrs.length, .reads r.2⟩ (some key)

/-- PING within a session (Table 2.5). -/
def State.pingMsg (s : State) (m : Msg) (key : SessKey) : State :=
  s.respond ⟨10, .ok, false, m.hdr.session, m.hdr.sequence, 0, 0, 1,
    .ping s.nowLT.toNat (s.getN Reg.ROLE) (s.getN Reg.SESSION_SESSION_STATE) (s.getN Reg.SESSION_HIGHEST_SEQ)⟩ (some key)

/-- A sessionless PING: a zero tag both ways, at most 100 answers on each port in any second (R51, R439). -/
def State.pingPlain (s : State) (m : Msg) : State :=
  if s.hears m = false then s
  else if m.hdr.version ≠ 1 ∨ m.hdr.length ≠ 0 then s.malformed m.port
  else
    let st := s.headerStatus m 10 none
    let r : Resp := if st = .ok then ⟨10, .ok, false, 0, m.hdr.sequence, 0, 0, 1, .ping s.nowLT.toNat (s.getN Reg.ROLE) 0 0⟩ else refusal m 10 st
    let ports := s.ctlPorts.filter (fun p => decide (inSecond s.pingAnswers p s.ticks < 100))
    let t := { s with pingAnswers := s.pingAnswers.filter (fun (p : Nat × Nat) => decide (s.ticks < p.2 + 1000000000)) ++ ports.map (fun (p : Nat) => (p, s.ticks)) }
    t.answerOn ports none r

/-- A PING, with or without a session. -/
def State.pingIn (s : State) (m : Msg) : State :=
  if m.hdr.session = 0 ∧ m.tag = 0 then s.pingPlain m else s.receive m 10 [] none (fun t k => t.pingMsg m k)

/-! ### Requests the twins mirror (R35, R36, R294) -/

/-- The item that a committed BLOCK_WRITE stands for. -/
def State.blockItem (s : State) (addr data : Nat) : Item :=
  ⟨addr, ⟨17, (match s.lookup addr with | none => 0 | some (_, f) => tyLen f.ty), data⟩⟩

/-- The statuses of a request whose execution began at `at_`. An ARM here has its SEQUENCE and LAUNCH set by the authority twin (R112). A
STAGE that carries no item answers one word, that of its slip (log entry 91). -/
def State.reqWords (s : State) (mirrored : Bool) (at_ : Nat) (r : MirrorReq) : List Status :=
  match r with
  | .write items => s.writePlan mirrored items
  | .stage n items => if items = [] then [s.stageSlip mirrored n] else s.stagePlan mirrored n items
  | .arm n items given => [(s.armPlan (some given) mirrored n items at_).1]
  | .cancel slips => s.cancelPlan mirrored slips
  | .block addr data => s.writePlan mirrored [s.blockItem addr data]

/-- The effect of a request whose checks pass. -/
def State.reqApply (s : State) (mirrored : Bool) (at_ : Nat) (r : MirrorReq) : State :=
  match r with
  | .write items => s.writeApply mirrored items
  | .stage n items => s.stageApply n (s.stageable items)
  | .arm n items given => s.armApply { (s.armPlan (some given) mirrored n items at_).2 with origin := b2n mirrored }
  | .cancel slips => s.cancelApply mirrored slips
  | .block addr data => s.writeApply mirrored [s.blockItem addr data]

/-- What a refused request leaves behind: a refused step, an admission refused, an ARM found late or near an edge (R63, R117, R277). -/
def State.reqRefused (s : State) (r : MirrorReq) (sts : List Status) : State :=
  match r with
  | .write items => s.writeRefused items sts
  | .block addr data => s.writeRefused [s.blockItem addr data] sts
  | .arm _ _ _ => s.armRefused (firstBad sts)
  | _ => s

/-- A request that fails only where every slip named in a CANCEL fails, or where any item does (R36, R111). -/
def reqFails (r : MirrorReq) (sts : List Status) : Bool :=
  match r with
  | .cancel _ => sts.all (fun st => st != .ok)
  | _ => sts.any (fun st => st != .ok)

/-- The answer of a request: its response with these words, or the outcome of a register write command. -/
def State.finish (s : State) (back : Back) (sts : List Status) : State :=
  match back with
  | .silent => s
  | .command => s.send (.result (firstBad sts))
  | .answer r key =>
    s.respond { r with status := firstBad sts, body := (match r.body with | .words _ => .words sts | b => b) } (some key)

/-- The words of a request that passed but is refused now: a slip that failed keeps its own status. -/
def spoil (sts : List Status) (st : Status) : List Status := sts.map (fun x => if x = .ok then st else x)

/-- A request that passed its checks: mirrored first while the device is paired, else applied and answered (R35). While the
twins re-key no MIRROR can be tagged, so it answers NOT_READY (R375, Table 2.8). -/
def State.commitReq (s : State) (r : MirrorReq) (sts : List Status) (back : Back) : State :=
  if s.edge && s.paired then
    if s.twinUp = false ∨ s.get Hid.rekeying = 1 then s.finish back (spoil sts .notReady)
    else
      let n : Nat := (s.getN Hid.mirrorSeq + 1) % 2 ^ 32
      let t := (s.put Hid.mirrorSeq n).sendTwin (.mirror n r)
      { t with mirrorWait := t.mirrorWait ++ [⟨n, r, back, s.tickLf + 264600000, s.nowLT.toNat⟩] }
  else (s.reqApply false s.nowLT.toNat r).finish back sts

/-- A mirror that fails: nothing is applied, INTERNAL, the TW island fault, and a reconciliation (R35, R294, R296). -/
def State.mirrorFails (s : State) (w : MirrorWait) : State :=
  let sts := match w.req with
    | .cancel _ => spoil (s.reqWords false w.at_ w.req) .internal
    | _ => (s.reqWords false w.at_ w.req).map (fun _ => .internal)
  let t := (s.finish w.back sts).raise 191 0 0
  if t.twinUp then t.reconStart else t

/-- A request no longer waits for the twin. -/
def State.unwait (s : State) (w : MirrorWait) : State := { s with mirrorWait := s.mirrorWait.filter (fun x => x.seq != w.seq) }

/-- The requests whose acknowledgement has not come within 5 ms fail: `past` says which deadlines have passed (R35). -/
def State.mirrorsFail (s : State) (past : Int → Bool) : State :=
  s.each (s.mirrorWait.filter (fun w => past w.deadline)) (fun t w => (t.unwait w).mirrorFails w)

/-- The twin's acknowledgement: one that comes after 5 ms finds its request failed (R35, R294, R375). -/
def State.mirrorAck (s : State) (tag : Bool) (seq : Nat) (st : Status) : State :=
  if tag = false then s.bump Reg.TWIN_LINK_TAG_FAILURES
  else
    let s := (s.bump Reg.TWIN_LINK_MESSAGES_RX).mirrorsFail (fun d => decide (d < s.tickLf))
    match s.mirrorWait.find? (fun w => w.seq == seq) with
    | none => s
    | some w =>
      let t := s.unwait w
      let sts := t.reqWords false w.at_ w.req
      if st = .ok then
        (if reqFails w.req sts then (t.reqRefused w.req sts).finish w.back sts else (t.reqApply false w.at_ w.req).finish w.back sts)
      else if st = .notLent then (t.bump Reg.PAIRING_MIRROR_REFUSALS).finish w.back (spoil sts .notLent)
      else (t.bump Reg.PAIRING_MIRROR_REFUSALS).mirrorFails w

/-- No acknowledgement within 5 ms (R35). -/
def State.mirrorTimeout (s : State) : State := s.mirrorsFail (fun d => decide (d ≤ s.tickLf))

/-- A request of WRITE, STAGE, CANCEL or a complete block: checked, then committed (R35, R36). -/
def State.request (s : State) (r : MirrorReq) (back : Back) : State :=
  let sts := s.reqWords false s.nowLT.toNat r
  if reqFails r sts then (s.reqRefused r sts).finish back sts else s.commitReq r sts back

/-- The items of an ARM with its SEQUENCE and LAUNCH as the authority twin sets them (R112). -/
def armItems (items : List Item) (z : Slip) : List Item :=
  let launch := addrOf ⟨0x5010, 0, 3⟩
  let seq := addrOf ⟨0x5010, 0, 7⟩
  items.filter (fun i => i.addr != launch && i.addr != seq) ++ [⟨seq, encodeValue .u64 z.seq⟩, ⟨launch, encodeValue .lt z.launch⟩]

/-- An ARM: checked with guard and lead, then committed (R94 to R101, R112). -/
def State.armRequest (s : State) (n : Nat) (items : List Item) (back : Back) : State :=
  let p := s.armPlan none false n items s.nowLT.toNat
  if p.1 ≠ .ok then (s.armRefused p.1).finish back [p.1] else s.commitReq (.arm n (armItems items p.2) p.2.given) [.ok] back

/-- The prepared response of a request with n words. -/
def backOf (m : Msg) (opcode n : Nat) (key : SessKey) : Back :=
  .answer (wordsResp m opcode (List.replicate n .ok)) key

/-! ### Register writes as commands -/

/-- A write that the lent controller makes through the protocol, taken as one command: its checks, its mirror and its effect are
those of a WRITE with these items (R31, R35, R36, R301). -/
def State.controllerWrite (s : State) (items : List Item) : State :=
  if s.alive = false ∨ s.ready 1 = false then s.send (.result .notReady)
  else
    let s := s.endsDue
    if s.lent = false then s.send (.result .notLent) else s.request (.write items) .command

/-- A quiet, unused flow is weeded at a second boundary: a write of ENABLE = 0 that the device makes itself, mirrored like any (R35, R215). -/
def State.weed (s : State) (f : Nat) : State :=
  if s.weedDue f then s.commitReq (.write [⟨addrOf (Reg.FLOW_ENABLE f), encodeValue .bool 0⟩]) [.ok] .silent else s

/-- The address of a register; an element or sub-index that no address spells names nothing (R29). -/
def regAddr (k : Key) : Nat := if k.el < 65536 ∧ k.sub < 256 then addrOf k else 2 ^ 48

/-- A value of the type of a register. -/
def regItem (k : Key) (v : Int) : Item :=
  ⟨regAddr k, match Cat.fieldOf k with | none => ⟨0, 0, 0⟩ | some f => encodeValue f.ty v⟩

/-! ### Block transfers (R47, R48) -/

/-- Bytes from an offset of a value of n bytes. -/
def cutBytes (raw n offset len : Nat) : Nat := raw / 256 ^ (n - offset - len) % 256 ^ len

/-- The object of a block transfer: only objects of type OCTETS move in blocks. -/
def octetsLen (t : Ty) : Option Nat :=
  match t with
  | .octets n => some n
  | _ => none

/-- A response with a block header, and data for a BLOCK_READ; `more`: bytes of the object follow those it carries. -/
def blockResp (m : Msg) (opcode : Nat) (st : Status) (more : Bool) (addr offset len data : Nat) : Resp :=
  ⟨opcode, st, more, m.hdr.session, m.hdr.sequence, m.hdr.segment, m.hdr.transfer, 1, .block addr offset len data⟩

/-- BLOCK_READ: from the live object with transfer ID 0, else from the snapshot that segment 0 takes (R48). -/
def State.blockRead (s : State) (m : Msg) (addr offset len : Nat) (key : SessKey) : State :=
  let fails (st : Status) : State := s.respond (blockResp m 7 st false addr offset 0 0) (some key)
  match s.readTarget addr with
  | (st, none) => fails st
  | (_, some (k, f)) =>
    match octetsLen f.ty with
    | none => fails .type
    | some n =>
      let answer (t : State) (d : Nat) : State :=
        t.respond (blockResp m 7 .ok (decide (offset + len < n)) addr offset len (cutBytes d n offset len)) (some key)
      if n < offset + len then fails .range
      else if s.payloadLimit < 16 + len then fails .segment
      else if m.hdr.transfer = 0 then answer (s.afterRead k) (encodeValue f.ty (s.view k)).raw
      else
        match s.session with
        | none => s
        | some x =>
          if m.hdr.segment = 0 then
            (let d := (encodeValue f.ty (s.view k)).raw
             let snap : Snap := ⟨m.hdr.transfer, k, n, d, s.tickLf⟩
             answer { s.afterRead k with session := some { x with snaps := snap :: x.snaps.filter (fun p => p.id != m.hdr.transfer) } } d)
          else
            match x.snaps.find? (fun p => p.id == m.hdr.transfer && p.key == k && decide (s.tickLf < p.lastAt + 105840000000)) with
            | none => fails .segment
            | some p =>
              answer { s with session := some { x with snaps := x.snaps.map (fun (q : Snap) => if q.id = p.id then { q with lastAt := s.tickLf } else q) } }
                p.data

/-- The write transfers that `past` says have had no segment for 2 s are discarded (R47). -/
def State.xfersIdle (s : State) (past : Xfer → Bool) : State :=
  match s.session with
  | none => s
  | some x => { s with session := some { x with
      xfers := x.xfers.filter (fun t => !past t), dead := x.dead ++ (x.xfers.filter past).map (fun (t : Xfer) => t.id) } }

/-- A transfer with no segment for 2 s (R47). -/
def State.xferOver (s : State) (t : Xfer) : Bool := decide (t.lastAt + 105840000000 ≤ s.tickLf)

/-- BLOCK_TRANSFER_IDLE: transfer `id` (R47). -/
def State.xferIdle (s : State) (id : Nat) : State := s.xfersIdle (fun t => t.id == id && s.xferOver t)

/-- The value that the segments of a transfer spell. -/
def xferValue (x : Xfer) : Nat := (x.segs.map (fun (g : Nat × Nat × Nat) => g.2.2 % 256 ^ g.2.1 * 256 ^ (x.size - g.1 - g.2.1))).foldl (· + ·) 0

/-- Two spans of bytes share a byte. -/
def spansMeet (a la b lb : Nat) : Bool := decide (a < b + lb) && decide (b < a + la)

/-- The commit of a transfer to an object waits for the twin (R47, Table 2.8). -/
def State.commitWaits (s : State) (addr : Nat) : Bool :=
  s.mirrorWait.any (fun w => match w.req with
    | .block a _ => a == addr
    | _ => false)

/-- The checks of a BLOCK_WRITE segment before it is held: the object's statuses, then BUSY, then SEGMENT (R47, R53). -/
def State.segmentStatus (s : State) (x : Session) (m : Msg) (addr offset len : Nat) : Status × Option (Key × Nat) :=
  match s.lookup addr with
  | none => (.noObject, none)
  | some (k, f) =>
    let n := (octetsLen f.ty).getD 0
    let mine := x.xfers.find? (fun t => t.id == m.hdr.transfer)
    let other := match mine with
      | some t => t.key != k
      | none => false
    let busy := (mine.isNone && (decide (4 ≤ x.xfers.length) || x.xfers.any (fun t => t.key == k))) || s.commitWaits addr
    let clash := match mine with
      | none => false
      | some t => t.segs.any (fun g => spansMeet g.1 g.2.1 offset len) || (t.ended.isSome && !bitOf m.hdr.flags 5)
    let st := firstBad [s.writeMode s false k 0, statusIf (!s.keyReady k || s.refusesItems false) .notReady, statusIf (s.writeDenied k) .readOnly,
      statusIf (s.writeLocked false k) .lockedOut, statusIf (octetsLen f.ty).isNone .type, statusIf (m.hdr.transfer == 0) .range,
      statusIf (busy && !x.dead.contains m.hdr.transfer) .busy,
      statusIf (other || clash || decide (n < offset + len) || x.dead.contains m.hdr.transfer) .segment]
    (st, some (k, n))

/-- BLOCK_WRITE: the segment is held; the one that completes the set commits the object in one step (R47), with or without a segment that
marked the end (log entry 91). -/
def State.blockWrite (s : State) (m : Msg) (addr offset len data : Nat) (key : SessKey) : State :=
  let s := s.xfersIdle s.xferOver
  let back (st : Status) : Resp := blockResp m 8 st false addr offset len 0
  match s.session with
  | none => s
  | some x =>
    match s.segmentStatus x m addr offset len with
    | (_, none) => s.respond (back .noObject) (some key)
    | (st, some (k, n)) =>
      if st ≠ .ok then s.respond (back st) (some key)
      else
        let old : Xfer := (x.xfers.find? (fun t => t.id == m.hdr.transfer)).getD ⟨m.hdr.transfer, k, n, [], none, s.tickLf⟩
        let now : Xfer := { old with
          segs := old.segs ++ [(offset, len, data)], lastAt := s.tickLf
          ended := if bitOf m.hdr.flags 5 then old.ended else some (offset + len) }
        let rest := x.xfers.filter (fun t => t.id != m.hdr.transfer)
        let held := (now.segs.map (fun (g : Nat × Nat × Nat) => g.2.1)).foldl (· + ·) 0
        if held < n then ({ s with session := some { x with xfers := rest ++ [now] } }).respond (back .ok) (some key)
        else
          let t := { s with session := some { x with xfers := rest } }
          if now.ended.getD n ≠ n then t.respond (back .range) (some key)
          else t.request (.block addr (xferValue now)) (.answer (back .ok) key)

/-- A snapshot is held until 2 s after its last segment (R48). -/
def State.snapExpiry (s : State) (id : Nat) : State :=
  match s.session with
  | none => s
  | some x => { s with session := some { x with snaps := x.snaps.filter (fun p => !(p.id == id && decide (p.lastAt + 105840000000 ≤ s.tickLf))) } }

/-! ### Subscriptions (R49) -/

/-- The status of one subscription item. -/
def State.subStatus (s : State) (held : List Sub) (i : SubItem) : Status × Option Key :=
  match s.lookup i.addr with
  | none => (.noObject, none)
  | some (k, f) =>
    let wide := i.interval < 0 ∨ (0 < i.interval ∧ i.interval < 52920000)
    let new := i.mode != 0 && !held.any (fun u => u.key == k)
    (firstBad [statusIf (!s.keyReady k) .notReady, statusIf (f.acc == .wo || f.acc == .wos) .writeOnly,
      statusIf (decide (2 < i.mode) || decide wide || (i.mode == 1 && f.acc == .rc)) .range,
      statusIf (new && decide (1024 ≤ held.length)) .capacity], some k)

/-- One item takes effect: mode OFF ends a subscription, another mode sets one, in place of one the object had (log entry 91); ON_CHANGE
notifies at once. -/
def State.subApply (s : State) (held : List Sub) (i : SubItem) (k : Key) : List Sub :=
  let rest := held.filter (fun u => u.key != k)
  let every : Int := if i.interval = 0 then 529200000 else i.interval
  if i.mode = 0 then rest else rest ++ [⟨k, i.mode, every, s.view k, s.tickLf + every⟩]

/-- The items of a SUBSCRIBE, each by itself: statuses, the subscriptions after them, and the objects to notify at once. -/
def State.subAll (s : State) : List Sub → List SubItem → List Status × List Sub × List Key
  | held, [] => ([], held, [])
  | held, i :: l =>
    match s.subStatus held i with
    | (.ok, some k) =>
      let r := s.subAll (s.subApply held i k) l
      (.ok :: r.1, r.2.1, if i.mode = 1 then k :: r.2.2 else r.2.2)
    | (st, _) =>
      let r := s.subAll held l
      (st :: r.1, r.2)

/-- The bytes an object takes in a notification (R49). -/
def noticeBytes (k : Key) : Nat := 10 + (match Cat.fieldOf k with | none => 0 | some f => tyLen f.ty)

/-- Objects in the messages that their values fill, in order; one too large for any message is left out (R33, log entry 91). -/
def noticePacks (limit : Nat) (keys : List Key) : List (List Key) :=
  let fits := keys.filter (fun k => decide (12 + noticeBytes k ≤ limit))
  let r := fits.foldl (fun (a : List (List Key) × List Key × Nat) k =>
    let n := noticeBytes k
    if a.2.2 + n ≤ limit then (a.1, a.2.1 ++ [k], a.2.2 + n) else (a.1 ++ [a.2.1], [k], 12 + n)) (([], [], 12) : List (List Key) × List Key × Nat)
  if r.2.1 = [] then r.1 else r.1 ++ [r.2.1]

/-- One notification of the values of some objects, of one view; RC objects clear (R45, R49). -/
def State.notifyOne (s : State) (keys : List Key) : State :=
  match s.session with
  | none => s
  | some x =>
    let n : Nat := (s.getN Reg.SESSION_NOTIFY_SEQ + 1) % 2 ^ 32
    let vals := keys.map (fun (k : Key) => (k, s.view k))
    let wire := vals.filterMap (fun (p : Key × Int) => (Cat.fieldOf p.1).map (fun f => (addrOf p.1, encodeValue f.ty p.2)))
    let t := (s.put Reg.SESSION_NOTIFY_SEQ n).each keys (fun u k => u.afterRead k)
    if t.ctlPorts = [] then t
    else t.send (.notify (t.udpHeads t.ctlPorts) x.key n s.nowLT.toNat vals (noticeDatagram x.key x.id n s.nowLT.toNat wire))

/-- The objects due are notified, in as many messages as their values fill (R33, R49). -/
def State.notify (s : State) (keys : List Key) : State := s.each (noticePacks s.payloadLimit keys) (fun t l => t.notifyOne l)

/-- SUBSCRIBE. -/
def State.subscribe (s : State) (m : Msg) (items : List SubItem) (key : SessKey) : State :=
  match s.session with
  | none => s
  | some x =>
    let r := s.subAll x.subs items
    let t := ({ s with session := some { x with subs := r.2.1 } }).put Reg.SESSION_SUBSCRIPTIONS r.2.1.length
    (t.respond (wordsResp m 6 r.1) (some key)).notify r.2.2

/-- Every subscription whose sample is due: PERIODIC notifies, ON_CHANGE where the value differs from the one last sent; an
object whose island is not ready is not sampled. -/
def State.notifyDue (s : State) : State :=
  match s.session with
  | none => s
  | some x =>
    let due (u : Sub) : Bool := decide (u.due ≤ s.tickLf)
    let told := x.subs.filter (fun u => due u && s.keyReady u.key && (u.mode == 2 || u.last != s.view u.key))
    let subs := x.subs.map (fun (u : Sub) => if due u then { u with due := s.tickLf + u.interval, last := if s.keyReady u.key then s.view u.key else u.last } else u)
    (({ s with session := some { x with subs := subs } }).notify (told.map (fun (u : Sub) => u.key)))

/-! ### The loan (R40 to R42, R297 to R302) -/

/-- The session key that a LOAN's own token and session ID give (R39, R40). -/
def State.loanKey (s : State) (sid : Nat) (t : Token) : Option SessKey :=
  (s.keyOf 1).map (fun (k : Nat) => (⟨k, s.getN Reg.COLOPHON_MEASUREMENT, t.salt, sid⟩ : SessKey))

/-- The key under which a LOAN's tag verifies (R40, R43). -/
def State.loanVerifies (s : State) (m : Msg) (t : Token) : Option SessKey :=
  match s.loanKey m.hdr.session t with
  | none => none
  | some k => s.verifyingKey k m 9 t.bytes

/-- A salt and session ID that R40 refuses. -/
def State.sessionRefused (s : State) (sid salt : Nat) : Bool :=
  sid == 0 || (match s.session with | none => false | some x => (x.salt == salt) != (x.id == sid))

/-- The first check of Table 14.5 that a token fails; 0 none. -/
def State.tokenReason (s : State) (sid : Nat) (t : Token) : Nat :=
  let now := s.nowLT
  if t.format ≠ 1 ∨ 1 < t.side ∨ t.flags / 2 ≠ 0 ∨ t.spare ≠ 0 ∨ t.reserved ≠ 0 ∨ ltValid t.notBefore = false ∨ ltValid t.expiry = false then 1
  else if (s.keyOf 0).isNone then 2
  else if t.signedBy ((s.keyOf 0).getD 0) = false then 3
  else if t.serial ≠ s.getN Reg.IDENTITY_SERIAL % 2 ^ 128 then 4
  else if (t.side : Int) ≠ s.get Reg.PAIRING_SIDE then 5
  else if s.timeSet = false ∨ now < t.notBefore ∨ (t.expiry : Int) ≤ now ∨ t.expiry ≤ t.notBefore then 6
  else if ltAddSpan now 529200000000 < t.expiry then 7
  else if (t.epoch : Int) ≤ s.get Reg.SESSION_EPOCH then 8
  else if (t.epoch : Int) ≤ s.get Reg.LOAN_TWIN_EPOCH then 9
  else if t.solo = true ∧ s.twinUp = true then 10
  else if s.sessionRefused sid t.salt then 11
  else 0

/-- A token is accepted: the device is lent (R298 to R301). -/
def State.lend (s : State) (t : Token) : State :=
  let u := ((((s.put Reg.LOAN_STATE 1).put Reg.LOAN_PRESENT 1).put Reg.LOAN_DESK_ID t.deskId).put Reg.LOAN_NOT_BEFORE t.notBefore).put
    Reg.LOAN_EXPIRY t.expiry
  let u := (((u.put Reg.LOAN_SOLO (b2i t.solo)).put Reg.SESSION_EPOCH t.epoch).put Reg.SESSION_EXPIRY t.expiry).put Reg.SESSION_SESSION_STATE 1
  let u := if t.solo = true ∧ u.get Reg.PAIRING_STATE = 1 then u.setPairing 5 else u
  u.sendHealth

/-- A new session opens and closes the one before, whose key is kept 10 s to answer NOT_LENT (R40, R41). Its key is that of the image in
force, whichever key verified the LOAN (R43). -/
def State.openSession (s : State) (m : Msg) (t : Token) (key : SessKey) : State :=
  let old := match s.session with
    | none => s.oldSession
    | some x => some ⟨x.id, x.key, s.tickLf + 529200000000⟩
  let x : Session := ⟨m.hdr.session, { key with measurement := s.getN Reg.COLOPHON_MEASUREMENT }, t.salt,
    [⟨m.hdr.sequence, s.ticks, none⟩], [], [], [], [], s.tickLf, s.tickLf⟩
  ((({ s with session := some x, oldSession := old }).put Reg.SESSION_SESSION_ID m.hdr.session).put
    Reg.SESSION_HIGHEST_SEQ m.hdr.sequence).put Reg.SESSION_NOTIFY_SEQ 0 |>.put Reg.SESSION_SUBSCRIPTIONS 0

/-- A token that fails: its reason and its count, and AUTH_FAIL with a zero tag (R40, R298). -/
def State.tokenFails (s : State) (m : Msg) (reason : Nat) : State :=
  ((s.put Reg.LOAN_LAST_REFUSAL reason).bump Reg.LOAN_REFUSALS).authFail m 9 false

/-- The device checks no token under RUN_ON and SAFE (R337). -/
def State.loanBarred (s : State) : Bool := decide (4 ≤ s.get Reg.SAFE_REACTION)

/-- A LOAN that verified is executed (R40, R298, R337). While SEC restarts no key is derived, so no new session opens (R16, log entry 91). -/
def State.loanExec (s : State) (m : Msg) (t : Token) (key : SessKey) : State :=
  let renew := match s.session with
    | none => false
    | some x => x.id == m.hdr.session && x.salt == t.salt
  if s.loanBarred then s.respond (refusal m 9 .notLent) (some key)
  else
    let reason := s.tokenReason m.hdr.session t
    let st : Status := s.headerStatus m 9 none
    if reason ≠ 0 then s.tokenFails m reason
    else if st ≠ Status.ok then s.respond (refusal m 9 st) (some key)
    else if renew = false ∧ s.up 3 = false then s.respond (refusal m 9 .notReady) (some key)
    else
      let u := if renew then s else s.openSession m t key
      (u.lend t).respond ⟨9, .ok, false, m.hdr.session, m.hdr.sequence, 0, 0, 1, .loan m.hdr.session t.epoch t.expiry⟩ (some key)

/-- A LOAN message. One of the open session is treated by Table 2.6; a copy of a request seen is no new request, and a token that fails
comes before SEQUENCE (R44, R53, R441). -/
def State.loanMsg (s : State) (m : Msg) (t : Token) : State :=
  if s.hears m = false then s
  else if m.hdr.version ≠ 1 ∨ m.hdr.length ≠ 160 then s.malformed m.port
  else
    let s := s.endsDue
    match s.loanVerifies m t with
    | none => s.authFail m 9 true
    | some key =>
      match s.session with
      | none => s.loanExec m t key
      | some x =>
        if x.id = m.hdr.session ∧ x.salt = t.salt then
          (let y : Session := { x with lastMsg := s.tickLf }
           let u : State := { s with session := some y }
           let reason := u.tokenReason m.hdr.session t
           u.sequenced y m 9 key (if u.loanBarred = false ∧ reason ≠ 0 then some (u.tokenFails m reason) else none)
             (fun v => v.loanExec m t key))
        else s.loanExec m t key

end Sys2Proof.Machine
end

