-- ==== Sys2Proof/Machine/Recon.lean ====
section
/-! DEFINITION. What a twin does with the other's messages: a mirrored request, and the receiving side of a reconciliation
(14_twin_and_loan.md, R292, R294 to R296; R346, R375). -/
namespace Sys2Proof.Machine

/-! ### MIRROR (R294, R346, R375) -/

/-- The status a mirrored request meets. A CANCEL is settled slip by slip, as the sender settled it. -/
def State.mirrorStatus (s : State) (r : MirrorReq) : Status :=
  if s.ready 0 = false ∨ s.ready 1 = false ∨ s.get Hid.rekeying = 1 then .notReady
  else if s.lent then .notLent
  else match r with
    | .cancel _ => .ok
    | _ => firstBad (s.reqWords true s.nowLT.toNat r)

/-- A MIRROR from the twin: applied where every check passes, and acknowledged (R294, R295). -/
def State.mirrorIn (s : State) (tag : Bool) (seq : Nat) (r : MirrorReq) : State :=
  if tag = false then s.bump Reg.TWIN_LINK_TAG_FAILURES
  else
    let t := s.bump Reg.TWIN_LINK_MESSAGES_RX
    let st := t.mirrorStatus r
    if st = .ok then (t.reqApply true t.nowLT.toNat r).sendTwin (.mirrorAck seq .ok)
    else (t.bump Reg.PAIRING_MIRROR_REFUSALS).sendTwin (.mirrorAck seq st)

/-! ### Receiving a reconciliation (R296) -/

/-- A value of a RECONCILE as a register and its value. -/
def reconItem (v : Nat × Nat × Nat × Int) : Key × Int := (⟨v.1, v.2.1, v.2.2.1⟩, v.2.2.2)

/-- A value that a reconciliation sets: configuration, and not of the device's own objects. -/
def reconTakes (k : Key) : Bool := decide (k.idx < 0x10000) && configAccess (accessOf k) && !ownObject k

/-- The configuration values that the received ones change; what the source does not list stands at its default. -/
def State.reconChanges (s : State) : List (Key × Int) :=
  let target := ((s.reconBuf.filter (fun p => reconTakes p.1)).foldl (fun (t : Store) (p : Key × Int) => storePut t p.1 p.2) [])
  storeDelta (s.regs.filter (fun p => reconTakes p.1)) target

/-- RW and RWM values of a reconciliation go into force in one step. -/
def State.reconConfig (s : State) (l : List (Key × Int)) : State :=
  let groups := l.filter (fun p => p.1.idx == 0x3200)
  let t := s.applyValues (l.filter (fun p => p.1.idx != 0x3200 && p.1.idx != 0xC000))
  let t := t.each (l.filter (fun p => p.1.idx == 0xC000)) (fun u p => u.put p.1 p.2)
  let t := t.each groups (fun u p => u.restoreItem p)
  if groups = [] then t else (t.each (List.range 96) (fun u n => u.syncSettle n)).refreshAdmission

/-- The kind and target that own an RWS value, in the configuration as it stands, or for a layer or tile that no canvas owns as
the received values set it. -/
def State.reconOwner (s c : State) (k : Key) : Nat × Nat :=
  let o := s.ownerOf k
  if o.1 = 4 ∧ 256 ≤ o.2 then c.ownerOf k else o

/-- The unnumbered slip that puts the received values of one kind and target into force at that kind's next boundary, without
lead or guard checks. A timebase that has no boundary acts at the next millisecond. -/
def State.reconSlip (s : State) (num : Nat) (o : Nat × Nat) (items : List (Key × Int)) : Slip :=
  let x : Slip := { emptySlip num with
    st := .launched, kind := o.1, target := o.2, launch := s.nowLT.toNat, raster := 0xFF, items := items, origin := 1 }
  { x with boundary := some (((s.earliest (s.timebasesFrom x s.nowFine) s.nowFine).map (fun (p : Int × Int) => p.1)).getD (msCeil s.now * 4096)) }

/-- The in-force RWS values of a reconciliation wait for their boundaries; what they take is taken at once (R296). -/
def State.reconStaged (s : State) (l : List (Key × Int)) : State :=
  let c := s.each l (fun t p => t.put p.1 p.2)
  let owners := ((l.map (fun (p : Key × Int) => s.reconOwner c p.1)).filter (fun o => o.1 != 0)).eraseDups
  let slips := (indexed 0 owners).map (fun (p : Nat × Nat × Nat) =>
    s.reconSlip (8192 + p.1) p.2 (l.filter (fun i => s.reconOwner c i.1 == p.2)))
  ({ s with reconSlips := slips }).each slips (fun t x => if x.kind = 11 ∨ x.kind = 8 then t else t.launchEffects x)

/-- The receiver compiles the draft, and installs it at the first 48 kHz boundary that meets the AUDIO_PROGRAM lead. -/
def State.reconAudio (s : State) : State :=
  let t := s.compileStart.compileEnd
  if t.get Reg.AUDIO_COMPILE_STATE ≠ 2 then t
  else
    let x : Slip := { emptySlip (8192 + 4096) with
      st := .launched, kind := 8, origin := 1, launch := t.nowLT.toNat, boundary := some (nominalFrom ((t.now + 63504000) * 4096) 0 (1102500 * 4096)) }
    { t with reconSlips := t.reconSlips ++ [x] }

/-- A slip that the source holds, as the receiver adopts it: boundary and check point on its own timebase (R112, R296). -/
def State.adopted (s : State) (c : SlipCopy) : Slip :=
  let x : Slip := { emptySlip c.num with
    st := if c.launched then .launched else .armed
    kind := c.kind, target := c.target, launch := c.launch, late := c.late, group := c.group, raster := c.raster, seq := c.seq
    trigger := c.trigger, gpi := c.gpi, offset := c.offset, flags := c.flags, given := c.given, armedAt := s.nowLT.toNat
    items := c.items.map reconItem, origin := 1 }
  if c.trigger ≠ 0 ∧ c.launched = false ∧ c.launch = c.given then x
  else
    match s.earliest (s.timebasesFrom x (fineOfLt x.launch)) (fineOfLt x.launch) with
    | none => x
    | some (b, p) => { x with boundary := some b, check := some (b - preparation x.kind p * 4096) }

/-- The receiver's slips: its own ARMED slips that the source lacks are cancelled, its LAUNCHED slips run on, the source's are
adopted (R296). -/
def State.reconTable (s : State) (l : List SlipCopy) : State :=
  let drop := (s.slips.filter (fun x => decide (x.st = .armed) && !l.any (fun c => c.num == x.num))).map (fun (x : Slip) => x.num)
  let t := s.each drop (fun t n => t.cancelSlip n)
  t.each (l.filter (fun c => decide (c.num < 8192) && decide ((s.slip c.num).st ≠ .launched))) (fun t c =>
    let x := t.adopted c
    let u := t.armApply x
    if c.launched then u.launchEffects x else u)

/-- The source's standing order is written to the own journal, the own objects of Table 14.2 kept as they were committed. -/
def State.reconJournal (s : State) (standing : List (Nat × Nat × Nat × Int)) : State :=
  let mine := journalStore s.journal
  let new := (((standing.map reconItem).filter (fun p => !ownObject p.1)) ++ mine.filter (fun p => ownObject p.1)).foldl
    (fun (t : Store) (p : Key × Int) => storePut t p.1 p.2) []
  if new = mine then s else { s with journal := ⟨new, true⟩ :: s.journal }

/-- The receiver is PAIRED once every value has been applied (Table 14.1, R296). -/
def State.reconDone (s : State) : State :=
  if s.get Reg.PAIRING_STATE = 3 ∧ s.get Hid.reconAt ≠ 0 ∧ s.reconBuf = [] ∧ s.reconSlips = [] then
    (((s.setPairing 4).bump Reg.PAIRING_RECONCILES).put Hid.reconAt 0).put Hid.reconRestart 0
  else s

/-- The last block has arrived: every value is applied, or waits for its boundary (R296). -/
def State.reconApply (s : State) (standing : List (Nat × Nat × Nat × Int)) (slips : List SlipCopy) : State :=
  let l := s.reconChanges
  let now := l.filter (fun p => accessOf p.1 != some .rws)
  let later := l.filter (fun p => accessOf p.1 == some .rws)
  let t := ({ s with reconBuf := [] }).reconConfig now
  let t := (t.reconStaged later).reconAudio
  let t := (t.reconTable slips).reconJournal standing
  (t.put Reg.PAIRING_RECONCILE_ITEMS (reconCount : Nat)).reconDone

/-- A RECONCILE message: the twin's measurement, untagged, which re-keys the link; or a block of the configuration (R296,
R375). -/
def State.reconcileIn (s : State) (tag : Bool) (measurement : Option Nat) (last : Bool)
    (values standing : List (Nat × Nat × Nat × Int)) (slips : List SlipCopy) : State :=
  match measurement with
  | some m => (((s.bump Reg.TWIN_LINK_MESSAGES_RX).put Hid.twinM m).put Hid.rekeying 0).reconSend
  | none =>
    if tag = false then s.bump Reg.TWIN_LINK_TAG_FAILURES
    else
      let s := s.bump Reg.TWIN_LINK_MESSAGES_RX
      let s := if s.get Reg.PAIRING_STATE = 4 then ({ s with reconBuf := [], reconSlips := [] }).setPairing 3 |>.put Hid.reconAt s.tickLf else s
      if s.get Reg.PAIRING_STATE ≠ 3 then s
      else
        let t := { s with reconBuf := s.reconBuf ++ values.map reconItem }
        if last then t.reconApply standing slips else t

/-- Whether a received value's boundary has come. -/
def State.reconFires (s : State) (x : Slip) (at_ : Int) : Option Int :=
  let b := x.boundary.getD 0
  let l := s.timebases x b
  if x.kind = 8 ∨ l = [] ∨ l.any s.tbOff = true then (if b / 4096 ≤ at_ then some b else none) else s.firesAt x at_

/-- The received values whose boundary an instant has reached go into force, as a slip's would (R296). -/
def State.reconBoundary (s : State) (at_ : Int) : State :=
  if s.now < at_ ∨ s.reconSlips = [] then s
  else
    let due : List Slip := orderSlips (s.reconSlips.filterMap (fun x => (s.reconFires x at_).map (fun b => { x with boundary := some b })))
    let t := s.each due (fun t x =>
      let b := x.boundary.getD 0
      if x.kind = 8 then ({ t with progNext := some t.progShadow }).programApply (b / 4096)
      else if x.kind = 11 then t.each x.items (fun u i => u.put i.1 i.2)
      else
        let u := t.applySlip x b
        if x.kind = 1 then u.takeRetire x.target else if x.kind = 4 then u.canvasRetire x.target else u)
    (({ t with reconSlips := t.reconSlips.filter (fun x => !due.any (fun y => y.num == x.num)) }).each due
      (fun u x => u.put (Hid.slipApplied x.num) 0)).reconDone

end Sys2Proof.Machine
end

