-- ==== Sys2Proof/Machine/Effects.lean ====
section
/-! DEFINITION. What the commands' meanings share: the outcome of a command on an element, the events of a device that is out of
reset, and the few sequences that several commands begin. -/
namespace Sys2Proof.Machine

/-- The outcome of a command: what the device goes on with. -/
abbrev Out := Host.Outcome State Fault Refusal

/-- An event at an element: one that the part does not have is no event, and changes nothing (log entry 1). -/
def onElement (b : Bool) (s t : State) : Out := .next (if b then t else s)

/-- What an event of the device's own does, with what every command ends with: nothing while the device is held in reset (R310, R413). -/
def State.live (s : State) (f : State → State) : State := if s.alive then (f s).closing s else s

/-- The control ports a datagram can arrive on (`1410`). -/
def portOk (m : Msg) : Bool := decide (m.port < 2)

/-- A control cell on lane l reaches X where the lane takes it (Tables 8.1 and 8.4, R165); a reservation request also while X does not
run (R187). -/
def State.controlIn (s : State) (l : Nat) (crcOk : Bool) (kind : Nat) (f : State → State) : State :=
  s.live (fun s =>
    let r := s.cellIn l crcOk kind
    if r.2 && (s.runs 5 || kind == 8 || kind == 12) then f r.1 else r.1)

/-- What a frame that just came whole brings with it, `old` standing before (R234, R281, R149). -/
def State.arrived (s old : State) : State := s.framesMoved old

/-- A message of the twin link, while the link is up: counted, then taken (R189). -/
def State.twinMessage (s : State) (n : Nat) (f : State → State) : State :=
  s.live (fun t => if t.twinUp then t.twinIn n (fun u => f (u.bump Reg.TWIN_LINK_MESSAGES_RX)) else t)

/-- An SVC request is received while the device is out of reset. -/
def State.svcIn (s : State) (f : State → State) : State := s.live f

end Sys2Proof.Machine
end

