-- ==== Sys2Proof/Machine/ExecFabric.lean ====
section
/-! DEFINITION. The commands of the fabric lanes, cells and calendars (08_fabric.md). Lanes 64 and 65 are the twin lanes. -/
namespace Sys2Proof.Machine

/-- FAB_TRAINING_START (R159). -/
def execFabTrainingStart (l : Nat) (s : State) : Out := onElement (decide (l < 66)) s (s.live (fun t => t.trainStart l))

/-- FAB_TRAINING_DONE (R159, R160, R189): the identity the far end declares, and the lane's delay. -/
def execFabTrainingDone (l role slot lane side delay : Nat) (s : State) : Out :=
  onElement (decide (l < 66)) s (s.live (fun t => t.trainDone l role slot lane side delay))

/-- FAB_TRAINING_TIMEOUT (R159). -/
def execFabTrainingTimeout (l : Nat) (s : State) : Out := onElement (decide (l < 66)) s (s.live (fun t => t.trainTimeout l))

/-- FAB_ALIGNED (R161). -/
def execFabAligned (l : Nat) (s : State) : Out := onElement (decide (l < 66)) s (s.live (fun t => t.aligned l))

/-- FAB_LANE_DOWN (R162). -/
def execFabLaneDown (l : Nat) (s : State) : Out := onElement (decide (l < 66)) s (s.live (fun t => t.laneFail l))

/-- FAB_RETRY (R159). -/
def execFabRetry (l : Nat) (s : State) : Out := onElement (decide (l < 66)) s (s.live (fun t => t.laneRetry l))

/-- CALENDAR_PERIOD (R161, R163, R170, R171, R173, R188): a period begins; `lanes` gives what the period before showed of fabric lanes.
Sources that sent no cell in it send PRESENCE. -/
def execCalendarPeriod (lanes : List LanePeriod) (s : State) : Out :=
  onElement (lanes.all (fun x => decide (x.lane < 64))) s (s.live (fun s =>
    if s.getN Hid.calPeriod = s.period then s else ((s.presenceCells).calendarPeriod lanes).offerChanges))

/-- ESSENCE (R178, R183): a cell in slot `slot` of lane l. -/
def execEssence (l slot : Nat) (crcOk : Bool) (c : Cell) (s : State) : Out :=
  onElement (decide (l < 64) && decide (slot < 4410)) s (s.live (fun t => (t.essence l slot crcOk c).arrived t))

/-- PRESENCE (R170, R178). -/
def execPresence (l slot : Nat) (crcOk : Bool) (c : Cell) (s : State) : Out :=
  onElement (decide (l < 64) && decide (slot < 4410)) s (s.live (fun t => t.presence l slot crcOk c))

/-- RESERVE (R176): at a centre it waits for the next cut-off. -/
def execReserve (l : Nat) (crcOk : Bool) (r : Resv) (s : State) : Out :=
  onElement (decide (l < 64)) s (s.controlIn l crcOk 8 (fun t => t.centreRequest true r))

/-- RESERVATION_CUTOFF (R176, R177): slot 3,528 of the period; while X restarts every request is denied (R187). -/
def execReservationCutoff (s : State) : Out := .next (s.live (fun t => t.cutoff))

/-- GRANT (R176). -/
def execGrant (l : Nat) (crcOk : Bool) (r : Resv) (s : State) : Out :=
  onElement (decide (l < 64)) s (s.controlIn l crcOk 9 (fun t => if t.edge then t.grantCell l r else t))

/-- ASSIGN (R176, R177). -/
def execAssign (l : Nat) (crcOk : Bool) (r : Resv) (s : State) : Out :=
  onElement (decide (l < 64)) s (s.controlIn l crcOk 11 (fun t => if t.edge then t.assignCell l r else t))

/-- DENY (R179). -/
def execDeny (l : Nat) (crcOk : Bool) (r : Resv) (s : State) : Out :=
  onElement (decide (l < 64)) s (s.controlIn l crcOk 10 (fun t => if t.edge then t.denyCell r else t))

/-- RELEASE_CELL (R180): at a centre it waits for the next cut-off, at an origin it ends the uplink pattern. -/
def execReleaseCell (l : Nat) (crcOk : Bool) (r : Resv) (s : State) : Out :=
  onElement (decide (l < 64)) s (s.controlIn l crcOk 12 (fun t => if t.edge then t.releaseAtOrigin l r else t.centreRequest false r))

/-- OFFER (R171): the offer table follows, a centre relays, and uses that waited for the offer reserve (R175). -/
def execOffer (l : Nat) (crcOk : Bool) (stamp : Nat) (recs : List OfferRec) (s : State) : Out :=
  onElement (decide (l < 64)) s (s.controlIn l crcOk 13 (fun t => (t.offerCell stamp recs).wantSubs))

/-- OFFER_RESEND (R171). -/
def execOfferResend (s : State) : Out := .next (s.live State.offerResend)

/-- OFFER_EXPIRY (R171). -/
def execOfferExpiry (shelf : Nat) (s : State) : Out := .next (s.live (fun t => t.offerExpiry shelf))

/-- LANE_STATUS (R160, R161, R173, R188), on a lane that trains, aligns or is UP. -/
def execLaneStatus (l : Nat) (crcOk : Bool) (x : LaneStatus) (s : State) : Out :=
  onElement (decide (l < 64)) s (s.live (fun t =>
    if t.laneState l = 0 ∨ t.laneState l = 4 then t
    else if crcOk = false then t.bump (Reg.FAB_STATS_CRC_ERRORS l)
    else (t.bump (Reg.FAB_STATS_CELLS_RX l)).laneStatus l x))

/-- CELL_HOLD_EXPIRY (R183): subscription element and link. -/
def execCellHoldExpiry (sub link : Nat) (s : State) : Out :=
  onElement (decide (sub < 4096) && decide (link < 4)) s (s.live (fun t => (t.holdExpiry sub link).arrived t))

/-- PLANE_FAILURE (R185). -/
def execPlaneFailure (sub plane : Nat) (s : State) : Out :=
  onElement (decide (sub < 4096) && decide (plane < 2)) s (s.live (fun t => t.planeFailure sub plane))

/-- PATH_RETRY (R179). -/
def execPathRetry (sub : Nat) (s : State) : Out := onElement (decide (sub < 4096)) s (s.live (fun t => t.pathRetry sub))

/-- FAB_UNPROTECTED (R179). -/
def execFabUnprotected (sub : Nat) (s : State) : Out := onElement (decide (sub < 4096)) s (s.live (fun t => t.unprotected sub))

end Sys2Proof.Machine
end

