-- ==== Sys2Proof/Machine/ExecFault.lean ====
section
/-! DEFINITION. The commands of the fault collector (16_faults.md). -/
namespace Sys2Proof.Machine

/-- FAULT_RAISE (R331 to R335): a source raises an event with a 32-bit detail word. -/
def execFaultRaise (source detail : Nat) (s : State) : Out :=
  onElement (!srcReserved source && decide (detail < 2 ^ 32)) s (s.live (fun t => t.raiseAs source detail false false))

/-- FAULT_QUIET_EXPIRY (R332, R340). -/
def execFaultQuietExpiry (source : Nat) (s : State) : Out :=
  onElement (!srcReserved source) s (s.live (fun t => t.quietExpiry source))

/-- COLLECTOR_SELF (R343): the collector's registers and their shadow differ. -/
def execCollectorSelf (s : State) : Out := .next (s.live (fun t => if t.ready 5 then t.raise 0 else t))

/-- KEEPER_WATCHDOG (R344): no service for 50 ms, counted at the earliest from KEEP's return. -/
def execKeeperWatchdog (s : State) : Out :=
  .next (s.live (fun t =>
    if t.ready 0 = true ∧ t.get Hid.watchdogFrom ≠ 0 ∧ t.get Hid.watchdogFrom - 1 + 2646000000 ≤ t.tickLf then t.raise 2 else t))

/-- KEEPER_LOCKSTEP (R344, R367): the processors of the active pair disagree. -/
def execKeeperLockstep (s : State) : Out := .next (s.live (fun t => if t.ready 0 then t.raise 1 else t))

end Sys2Proof.Machine
end

