-- ==== Sys2Proof/Machine/ExecKeys.lean ====
section
/-! DEFINITION. The commands of the key store, of the boot images and of the service port (18_keys_and_update.md). -/
namespace Sys2Proof.Machine

/-- TAMPER (R373): cause 1 to 4 of Table 18.4; 0 is VBAT falling below retention with no zeroisation. It acts in reset too. -/
def execTamper (cause : Nat) (s : State) : Out := onElement (decide (cause ≤ 4)) s (s.tamper cause)

/-- TAMPER_RECORD (R373): the next tick with the core rails up. -/
def execTamperRecord (s : State) : Out := .next s.tamperRecord

/-- KEEP_BOOT (R378, R381): slots with the length and the bytes of what the board's flash holds, read the first time. -/
def execKeepBoot (images : List (Nat × Nat × Nat)) (s : State) : Out := .next (s.keepBoot images)

/-- IDLE_BOOT_COMPLETE (R382). -/
def execIdleBootComplete (s : State) : Out := .next (s.live State.idleBootEnd)

/-- PROBATION_CONFIRM (R384): whether the image's own tests hold. -/
def execProbationConfirm (tests : Bool) (s : State) : Out := .next (s.live (fun t => t.probConfirmed tests))

/-- PROBATION_DEADLINE (R385). -/
def execProbationDeadline (s : State) : Out := .next (s.live State.probDeadline)

/-- FALLBACK (R385): the millisecond boundary after an accepted REJECT. -/
def execFallback (s : State) : Out := .next (s.live State.rejectFall)

/-- HELLO (R379, R380). -/
def execHello (m : SvcMsg) (nonce : Nat) (s : State) : Out := .next (s.svcIn (fun t => t.svcHello m nonce))

/-- COLOPHON (R374, R380). -/
def execColophon (m : SvcMsg) (nonce : Nat) (s : State) : Out := .next (s.svcIn (fun t => t.svcColophon m nonce))

/-- IMAGE_OPEN (R380). -/
def execImageOpen (m : SvcMsg) (slot reserved total : Nat) (s : State) : Out :=
  .next (s.svcIn (fun t => t.svcImageOpen m slot reserved total))

/-- IMAGE_DATA (R380). -/
def execImageData (m : SvcMsg) (offset len data : Nat) (s : State) : Out := .next (s.svcIn (fun t => t.svcImageData m offset len data))

/-- IMAGE_CLOSE (R380, R381). -/
def execImageClose (m : SvcMsg) (digest : Nat) (s : State) : Out := .next (s.svcIn (fun t => t.svcImageClose m digest))

/-- KEY_WRITE of the service port (R370, R371, R380). -/
def execSvcKeyWrite (m : SvcMsg) (slot reserved key : Nat) (s : State) : Out :=
  .next (s.svcIn (fun t => t.svcKeyWrite m slot reserved key))

/-- READ of the service port (R380): read results as READ gives them, while they fit a payload of 1,440 bytes (R379; log entry
50). -/
def State.svcReads (s : State) (m : SvcMsg) (addrs : List Nat) : State :=
  s.svcRun m .read (addrBytes addrs) (fun t k =>
    let r := t.readAll addrs
    if 1440 < t.readBytes addrs then t.svcAnswer m .read k .segment [] else
    r.1.svcAnswer m .read k (firstBad (r.2.map (fun (x : ReadResult) => x.status))) ((Body.reads r.2).bytes 1))

/-- SVC_READ (R380). -/
def execSvcRead (m : SvcMsg) (addrs : List Nat) (s : State) : Out := .next (s.svcIn (fun t => t.svcReads m addrs))

/-- CLOSE (R379, R380). -/
def execClose (m : SvcMsg) (s : State) : Out := .next (s.svcIn (fun t => t.svcClose m))

/-- TIME_SET (R62, R438). -/
def execTimeSet (m : SvcMsg) (lt : Nat) (s : State) : Out := .next (s.svcIn (fun t => (t.svcTimeSet m lt).afterStep t))

/-- SVC_SESSION_TIMEOUT (R379). -/
def execSvcSessionTimeout (s : State) : Out := .next (s.svcIn State.svcTimeout)

end Sys2Proof.Machine
end

