-- ==== Sys2Proof/Machine/ExecMedia.lean ====
section
/-! DEFINITION. The commands of the compositor, of the audio engine and of the memories (11_compositor.md, 12_audio.md,
13_stacks.md). -/
namespace Sys2Proof.Machine

/-- CANVAS_BOUNDARY (R234 to R240): the pictures of the sources the layers show, and the pixels whose composition is asked for. -/
def execCanvasBoundary (k : Nat) (pics : List SrcPic) (probes : List Probe) (s : State) : Out :=
  onElement (decide (k < 256)) s (s.live (fun t => t.canvasBoundary k pics probes))

/-- COMPILE_COMPLETE (R263). -/
def execCompileComplete (s : State) : Out := .next (s.live State.compileEnd)

/-- ENGINE_SAMPLE (R252, R253, R256, R264 to R269): the samples the writers hold, and the frames the AES3 receivers have received. -/
def execEngineSample (ins : List SampleIn) (frames : List AesIn) (s : State) : Out :=
  onElement (ins.all (fun x => writerHere x.writer) && frames.all (fun x => decide (x.r < 32))) s (s.live (fun t => t.engineSample ins frames))

/-- ZC_TIMEOUT (R266): a bus or an edge. -/
def execZcTimeout (bus : Bool) (n : Nat) (s : State) : Out :=
  onElement (if bus then decide (n < 1024) else decide (n < 65536)) s (s.live (fun t => t.zcTimeout bus n))

/-- AES_RX_PREAMBLE (R256). -/
def execAesRxPreamble (r : Nat) (s : State) : Out := onElement (decide (r < 32)) s (s.live (fun t => t.aesPreamble r))

/-- AES_RX_TRACKING (R256): what the receiver measured. -/
def execAesRxTracking (r rate : Nat) (ratio : Int) (fill status : Nat) (s : State) : Out :=
  onElement (decide (r < 32)) s (s.live (fun t => t.aesTracking r rate ratio fill status))

/-- AES_RX_LOSS (R256). -/
def execAesRxLoss (r : Nat) (s : State) : Out := onElement (decide (r < 32)) s (s.live (fun t => t.aesLoss r))

/-- AES_RX_UNDERRUN (R257). -/
def execAesRxUnderrun (r : Nat) (s : State) : Out := onElement (decide (r < 32)) s (s.live (fun t => t.aesSlip r false))

/-- AES_RX_OVERRUN (R257). -/
def execAesRxOverrun (r : Nat) (s : State) : Out := onElement (decide (r < 32)) s (s.live (fun t => t.aesSlip r true))

/-- AES_RX_RECOVERED (R257). -/
def execAesRxRecovered (r : Nat) (s : State) : Out := onElement (decide (r < 32)) s (s.live (fun t => t.aesRecovered r))

/-- TRANSPARENT_SLIP (R258). -/
def execTransparentSlip (r : Nat) (s : State) : Out := onElement (decide (r < 32)) s (s.live (fun t => t.transparentSlip r))

/-- AES_TX_BLOCK_START (R260, R269). -/
def execAesTxBlockStart (t : Nat) (s : State) : Out :=
  onElement (decide (t < 32)) s (s.live (fun u => if u.up 46 then u.aesBlock t else u))

/-- Memory k works: a DDR channel 0 to 15 whose controller runs, or HBM stack 16 or 17 whose island is up (R279, R288). -/
def State.memWorks (s : State) (k : Nat) : Bool := if k < 16 then s.ddrRuns (k / 4) else s.up (32 + (k - 16))

/-- MEM_UNCORRECTABLE (R288, R289): memory k, its row, the pages in use in it, and the unit that became unreadable. -/
def execMemUncorrectable (k row pages : Nat) (unit : MemUnit) (s : State) : Out :=
  onElement (decide (k < 18)) s (s.live (fun t => if t.memWorks k then t.memUncorrectable k row pages unit else t))

/-- MEM_CORRECTED_ERROR (R289). -/
def execMemCorrectedError (k row pages : Nat) (s : State) : Out :=
  onElement (decide (k < 18)) s (s.live (fun t => if t.memWorks k then t.memCorrected k row pages else t))

/-- SCRUB_PASS (R288): every page of memory k has been read and corrected. -/
def execScrubPass (k : Nat) (s : State) : Out :=
  onElement (decide (k < 18)) s (s.live (fun t => if t.memWorks k then t.bump (Reg.MEM_STATS_SCRUB_PASSES k) else t))

/-- CAPTURE_COMPLETE (R285). -/
def execCaptureComplete (k : Nat) (s : State) : Out := onElement (decide (k < 1024)) s (s.live (fun t => t.captureComplete k))

end Sys2Proof.Machine
end

