-- ==== Sys2Proof/Machine/ExecNet.lean ====
section
/-! DEFINITION. The commands of the network ports and of the flows (09_network_ports.md, 10_flows.md). -/
namespace Sys2Proof.Machine

/-- MAC_LINK_UP (R193). -/
def execMacLinkUp (m : Nat) (s : State) : Out := onElement (decide (m < 16)) s (s.live (fun t => t.macUp m))

/-- NET_LINK_DOWN (R193, R208): with the FEC codewords corrected and lost since the MAC's last frame. -/
def execNetLinkDown (m corrected lost : Nat) (s : State) : Out :=
  onElement (decide (m < 16)) s (s.live (fun t => t.macDown m corrected lost))

/-- MAC_FRAME_RX (R194 to R197, R206, R211, R217): a frame reaches MAC m, or CTLA (16), CTLB (17) or SVC (18); a flow's frame may come
whole with it. -/
def execMacFrameRx (m : Nat) (f : NetFrame) (s : State) : Out :=
  onElement (decide (m < 19)) s (s.live (fun t => if m < 16 then (t.frameRx m f).arrived t else t.ctlFrameRx m f))

/-- PACER_RELEASE (R203, R225, R226): packet i of a frame of egress flow j. -/
def execPacerRelease (j : Nat) (frame : Int) (i : Nat) (s : State) : Out :=
  onElement (decide (j < 16384)) s (s.live (fun t => t.pacerRelease j frame i))

/-- MAC_FRAME_START (R198, R200, R206). -/
def execMacFrameStart (m : Nat) (s : State) : Out :=
  onElement (decide (m < 19)) s (s.live (fun t => if m < 16 then t.frameStart m else t.ctlFrameStart m))

/-- GATE_ENTRY (R199). -/
def execGateEntry (m : Nat) (s : State) : Out :=
  onElement (decide (m < 16)) s (s.live (fun t => if t.runs (19 + m / 4) then t.gateStep m else t))

/-- MEMBERSHIP_REPORT (R216). -/
def execMembershipReport (m : Nat) (s : State) : Out := onElement (decide (m < 16)) s (s.live (fun t => t.membershipReport m))

/-- NEED_TIME (R218): the consumer of ingress flow f needs what lies up to the key (t, q); `line` is the raster line of the need. -/
def execNeedTime (f : Nat) (t : Int) (q line : Nat) (s : State) : Out :=
  onElement (decide (f < 16384)) s (s.live (fun u => u.needTimeAt f t q line))

/-- NO_PACKETS (R220): path 0 is A, 1 is B. -/
def execNoPackets (f path : Nat) (s : State) : Out :=
  onElement (decide (f < 16384) && decide (path < 2)) s (s.live (fun t => t.noPackets f (path == 1)))

/-- FLOW_SKEW (R220): at each second the skew of the keys that came on both paths in it. -/
def execFlowSkew (f : Nat) (s : State) : Out := onElement (decide (f < 16384)) s (s.live (fun t => t.flowSkew f))

/-- FLOW_PRESENCE_PUBLISH (R221). -/
def execFlowPresencePublish (f : Nat) (s : State) : Out := onElement (decide (f < 16384)) s (s.live (fun t => t.flowPublish f))

/-- WEED (R215). -/
def execWeed (f : Nat) (s : State) : Out := onElement (decide (f < 16384)) s (s.live (fun t => t.weed f))

/-- COMPRESSED_GAP (R223). -/
def execCompressedGap (f : Nat) (s : State) : Out := onElement (decide (f < 16384)) s (s.live (fun t => t.compressedGap f))

end Sys2Proof.Machine
end

