-- ==== Sys2Proof/Machine/ExecPins.lean ====
section
/-! DEFINITION. The commands of the pins: GPI, SMBus, the TAP, the control links, and the release of held units
(20_fault_injection_and_test.md, 21_electrical_and_package.md, 22_catalogue_index.md). -/
namespace Sys2Proof.Machine

/-- INJECT_DELAY_RELEASE (R402). -/
def execInjectDelayRelease (j : Nat) (s : State) : Out := onElement (decide (j < 64)) s (s.live (fun t => t.injectRelease j))

/-- GPI_RAW_TRANSITION (R432). -/
def execGpiRawTransition (g : Nat) (level : Bool) (s : State) : Out :=
  onElement (decide (g < 16)) s (s.live (fun t => t.gpiRawTransition g level))

/-- GPI_QUALIFY (R72, R109, R110, R432). -/
def execGpiQualify (g : Nat) (s : State) : Out := onElement (decide (g < 16)) s (s.live (fun t => t.gpiQualify g))

/-- GPI_CHATTER_QUIET (R432). -/
def execGpiChatterQuiet (g : Nat) (s : State) : Out := onElement (decide (g < 16)) s (s.live (fun t => t.gpiChatterQuiet g))

/-- GPI_STUCK (R432). -/
def execGpiStuck (g : Nat) (s : State) : Out := onElement (decide (g < 16)) s (s.live (fun t => t.gpiStuckAt g))

/-- SMBUS_READ (R425). -/
def execSmbusRead (address command : Nat) (s : State) : Out := .next (s.smbusRead address command)

/-- SMBUS_WRITE (R425): whatever the address, a write is not acknowledged. -/
def execSmbusWrite (_address : Nat) (s : State) : Out := .next s.smbusWrite

/-- EXTEST (R408). -/
def execExtest (cells : Nat) (s : State) : Out := .next (s.tapExtest 0 0 cells)

/-- IDCODE (R408). -/
def execIdcode (s : State) : Out := .next s.tapIdcode

/-- SAMPLE_PRELOAD (R408). -/
def execSamplePreload (cells : Nat) (s : State) : Out := .next (s.tapPreload cells)

/-- EXTEST_PULSE (R409): code 0x05. -/
def execExtestPulse (cells : Nat) (s : State) : Out := .next (s.tapExtest 5 1 cells)

/-- EXTEST_TRAIN (R409): code 0x06. -/
def execExtestTrain (cells : Nat) (s : State) : Out := .next (s.tapExtest 6 2 cells)

/-- HIGHZ (R408). -/
def execHighz (s : State) : Out := .next s.tapHighz

/-- CLAMP (R408). -/
def execClamp (s : State) : Out := .next s.tapClamp

/-- BYPASS (R408): any code that does not act as an instruction of its own now. -/
def execBypass (code : Nat) (s : State) : Out := .next (s.tapBypass code)

/-- TAP_RESET (R408). -/
def execTapReset (s : State) : Out := .next s.tapReset

/-- CTL_LINK_UP (R312, `1410:06`): the link of CTLA (0), CTLB (1) or SVC (2) comes up while KEEP is ready. -/
def execCtlLinkUp (port : Nat) (s : State) : Out :=
  onElement (decide (port < 3)) s (s.live (fun t =>
    if t.ready 0 = false ∨ t.ready (51 + port) = true then t
    else (t.when (decide (port < 2)) (fun u => u.put (Reg.CTL_PORT_LINK port) 1)).setReady (51 + port) true))

/-- CTL_LINK_DOWN (R45, R330): the link goes down, its bit falls, and source 644 to 646 is raised with LINK_DOWN. -/
def execCtlLinkDown (port : Nat) (s : State) : Out :=
  onElement (decide (port < 3)) s (s.live (fun t =>
    if t.ready (51 + port) = false then t
    else ((t.when (decide (port < 2)) (fun u => u.put (Reg.CTL_PORT_LINK port) 0)).setReady (51 + port) false).raise (644 + port) 1 port))

end Sys2Proof.Machine
end

