-- ==== Sys2Proof/Machine/ExecProtocol.lean ====
section
/-! DEFINITION. The commands that are datagrams of the Catalogue protocol, and the times it keeps
(02_catalogue_protocol.md, 14_twin_and_loan.md). -/
namespace Sys2Proof.Machine

/-- READ (R34, R37): opcode 1, six bytes an address. -/
def execRead (m : Msg) (addrs : List Nat) (s : State) : Out :=
  onElement (portOk m) s (s.live (fun s => s.receive m 1 (addrBytes addrs) (some addrs.length) (fun t k => t.readMsg m addrs k)))

/-- WRITE (R36): opcode 2, all items or none. -/
def execWrite (m : Msg) (items : List Item) (s : State) : Out :=
  onElement (portOk m) s (s.live (fun s => s.receive m 2 (itemBytes m.reserved items) (some items.length)
    (fun t k => t.request (.write items) (backOf m 2 items.length k))))

/-- STAGE (R93): opcode 3, the slip's number and four bytes ahead of the items. -/
def execStage (m : Msg) (slip : Nat) (items : List Item) (s : State) : Out :=
  onElement (portOk m) s (s.live (fun s => s.receive m 3 (slipBytes m.reserved slip items) (some items.length)
    (fun t k => t.request (.stage slip items) (backOf m 3 (max 1 items.length) k))))

/-- ARM (R95): opcode 4. -/
def execArm (m : Msg) (slip : Nat) (items : List Item) (s : State) : Out :=
  onElement (portOk m) s (s.live (fun s => s.receive m 4 (slipBytes m.reserved slip items) (some items.length)
    (fun t k => t.armRequest slip items (backOf m 4 1 k))))

/-- CANCEL (R111): opcode 5, two bytes a slip. -/
def execCancel (m : Msg) (slips : List Nat) (s : State) : Out :=
  onElement (portOk m) s (s.live (fun s => s.receive m 5 (slips.flatMap (fun n => beBytes 2 n)) (some slips.length)
    (fun t k => t.request (.cancel slips) (backOf m 5 slips.length k))))

/-- SUBSCRIBE (R49): opcode 6, sixteen bytes a subscription. -/
def execSubscribe (m : Msg) (subs : List SubItem) (s : State) : Out :=
  onElement (portOk m) s (s.live (fun s => s.receive m 6 (subBytes m.reserved subs) (some subs.length) (fun t k => t.subscribe m subs k)))

/-- BLOCK_READ (R48): opcode 7. -/
def execBlockRead (m : Msg) (addr offset len : Nat) (s : State) : Out :=
  onElement (portOk m) s (s.live (fun s => s.receive m 7 (blockBytes m.reserved addr offset len) none
    (fun t k => t.blockRead m addr offset len k)))

/-- BLOCK_WRITE (R47): opcode 8, the segment's bytes as one number. -/
def execBlockWrite (m : Msg) (addr offset len data : Nat) (s : State) : Out :=
  onElement (portOk m) s (s.live (fun s => s.receive m 8 (blockBytes m.reserved addr offset len ++ beBytes len data) none
    (fun t k => t.blockWrite m addr offset len data k)))

/-- LOAN (R40, R298 to R302): opcode 9, the token. -/
def execLoan (m : Msg) (t : Token) (s : State) : Out := onElement (portOk m) s (s.live (fun s => s.loanMsg m t))

/-- PING (R34): opcode 10. -/
def execPing (m : Msg) (s : State) : Out := onElement (portOk m) s (s.live (fun s => s.pingIn m))

/-- SESSIONLESS_PING (R51): a PING with session 0 and a zero tag; one with a session or a tag is a PING like any other. -/
def execSessionlessPing (m : Msg) (s : State) : Out := onElement (portOk m) s (s.live (fun s => s.pingIn m))

/-- UNDEFINED_OPCODE (R34, R53): an opcode of no operation with its payload; one that Table 2.5 defines is no such event. -/
def execUndefinedOpcode (m : Msg) (opcode : Nat) (payload : List Nat) (s : State) : Out :=
  onElement (portOk m) s (s.live (fun s => if 1 ≤ opcode ∧ opcode ≤ 10 then s else s.receive m opcode payload none (fun t _ => t)))

/-- MALFORMED_DATAGRAM (R33). -/
def execMalformedDatagram (port : Nat) (s : State) : Out := onElement (decide (port < 2)) s (s.live (fun s => s.malformed port))

/-- BLOCK_TRANSFER_IDLE (R47). -/
def execBlockTransferIdle (id : Nat) (s : State) : Out := .next (s.live (fun t => t.xferIdle id))

/-- SNAPSHOT_EXPIRY (R48). -/
def execSnapshotExpiry (id : Nat) (s : State) : Out := .next (s.live (fun t => t.snapExpiry id))

/-- NOTIFICATION_INTERVAL (R49). -/
def execNotificationInterval (s : State) : Out := .next (s.live State.notifyDue)

/-- UNLENT_SESSION_CLOSE (R42). -/
def execUnlentSessionClose (s : State) : Out := .next (s.live State.unlentClose)

/-- OLD_SESSION_KEY_EXPIRY (R41). -/
def execOldSessionKeyExpiry (s : State) : Out := .next (s.live State.oldKeyEnd)

/-- HANDOVER_KEY_GRACE_END (R43). -/
def execHandoverKeyGraceEnd (s : State) : Out := .next (s.live State.graceEnd)

end Sys2Proof.Machine
end

