-- ==== Sys2Proof/Machine/ExecReset.lean ====
section
/-! DEFINITION. The commands of reset, of bring-up and of restarts (15_bringup_and_modes.md, 17_islands_and_crossings.md,
21_electrical_and_package.md). -/
namespace Sys2Proof.Machine

/-- PORST_N_ASSERT (R310): every island enters reset, every object takes its default, the slip table, time state and epoch are
cleared. -/
def execPorstNAssert (s : State) : Out := .next s.porstAssert

/-- PORST_N_RELEASE (R311): straps and GPO levels are sampled, the pairing state starts, islands leave reset. -/
def execPorstNRelease (straps : Straps) (s : State) : Out := .next (s.porstRelease straps)

/-- RAIL_BROWNOUT (R413): a rail (1 to 6 of Table 21.3) below its threshold for 2 µs resets the device as PORST_N does. -/
def execRailBrownout (rail : Nat) (s : State) : Out :=
  onElement (decide (1 ≤ rail) && decide (rail ≤ 6)) s (s.railBrownout rail)

/-- BROWNOUT_RELEASE (R413): the internal reset releases as though PORST_N rose. -/
def execBrownoutRelease (straps : Straps) (s : State) : Out := .next (s.brownoutRelease straps)

/-- ISLAND_READY (R311, R312, R361): a READY bit rises; `dimms` are the RDIMMs a D island finds (R274). -/
def execIslandReady (bit : Nat) (dimms : List (Nat × Nat × Nat)) (s : State) : Out :=
  onElement (decide (bit < 57)) s (s.bitRises bit dimms)

/-- BRINGUP_LATE (R312): a bit not risen by its maximum. -/
def execBringupLate (bit : Nat) (s : State) : Out := onElement (decide (bit < 57)) s (s.bitLate bit)

/-- STANDING_RESTORE (R316 to R318, R345): the newest valid commit is restored; bit i of `bad` says that record i of the journal,
newest first, fails its check. -/
def execStandingRestore (bad : Nat) (s : State) : Out := .next (s.standingRestore bad)

/-- COMMIT_COMPLETE (R319, R320): the journal's write ends, durable or failed. -/
def execCommitComplete (ok : Bool) (s : State) : Out := .next (s.live (fun t => t.commitComplete ok))

/-- RASTER_START_AT_TIME (R318): a raster that waits for time starts. -/
def execRasterStartAtTime (raster : Nat) (s : State) : Out := onElement (decide (raster < 32)) s (s.live (fun t => t.rasterAtTime raster))

/-- ISLAND_RESTART_ORDER (R363): island and cause, 1 BRINGUP_LATE, 2 ISOLATE, 3 BOOKING, 4 WARM. -/
def execIslandRestartOrder (island cause : Nat) (s : State) : Out :=
  onElement (decide (island < 47) && decide (1 ≤ cause) && decide (cause ≤ 4)) s (s.restartOrder island cause)

/-- ISLAND_RESET_RELEASE (R363): reset has been held 1 µs. -/
def execIslandResetRelease (island : Nat) (s : State) : Out := onElement (decide (island < 47)) s (s.resetReleased island)

/-- READY_TOKEN (R360, R361): a ready token crosses from `src` to `dst`. -/
def execReadyToken (src dst : Nat) (s : State) : Out := onElement (decide (src < 47) && decide (dst < 47)) s (s.readyToken src dst)

/-- POINTER_WRONG (R359): `dst` finds a wrong Gray pointer and discards `units`. -/
def execPointerWrong (src dst units : Nat) (s : State) : Out :=
  onElement (decide (src < 47) && decide (dst < 47)) s (s.pointerWrong src dst units)

/-- CROSSING_SATURATION (R355): a hand-off counter stands at 255 and events are lost. -/
def execCrossingSaturation (src dst : Nat) (s : State) : Out :=
  onElement (decide (src < 47) && decide (dst < 47)) s (s.crossingFull src dst)

end Sys2Proof.Machine
end

