-- ==== Sys2Proof/Machine/ExecSlips.lean ====
section
/-! DEFINITION. The commands of the slips' own times and of the twin's word on them (05_slips.md). -/
namespace Sys2Proof.Machine

/-- SLIP_CHECK_POINT (R102 to R104, R108): Ledger time has reached `at_`, a check point. -/
def execSlipCheckPoint (at_ : Int) (s : State) : Out := .next (s.live (fun t => t.checkPoint at_))

/-- SLIP_BOUNDARY (R105, R106, R296): Ledger time has reached `at_`, a boundary: launched slips take effect, and after them the
values of a reconciliation. -/
def execSlipBoundary (at_ : Int) (s : State) : Out := .next (s.live (fun t => (t.slipBoundary at_).reconBoundary at_))

/-- SLIP_RETIRE (R106, R143, R247). -/
def execSlipRetire (slip : Nat) (s : State) : Out := onElement (decide (slip < 8192)) s (s.live (fun t => t.retireLate slip))

/-- GPI_RESOLVE (R110, R112), from the twin. -/
def execGpiResolve (n slip launch seq : Nat) (s : State) : Out :=
  onElement (decide (slip < 8192)) s (s.twinMessage n (fun t => t.gpiResolveIn slip launch seq))

/-- SLIP_OUTCOME (R112), from the twin: the slip, the state it came to by its code, and the index of its boundary. -/
def execSlipOutcome (n slip state : Nat) (index : Int) (s : State) : Out :=
  onElement (decide (slip < 8192)) s (s.twinMessage n (fun t => t.twinOutcomeIn slip state index))

end Sys2Proof.Machine
end

