-- ==== Sys2Proof/Machine/ExecTime.lean ====
section
/-! DEFINITION. The commands of Ledger time, of the reference unit and of the rasters (03_ledger_time.md,
04_reference_unit.md). -/
namespace Sys2Proof.Machine

/-- PTP_EVENT_RX (R65, R70, R71): port 0 to 15 the MACs, 16 CTLA, 17 CTLB, 18 SVC; a step that the servo makes moves the slips
with it (R64), and LX comes and goes with TRACKING (R74). -/
def execPtpEventRx (port : Nat) (m : PtpMsg) (s : State) : Out :=
  onElement (decide (port < 19)) s (s.live (fun t => (t.ptpRx port m).afterStep t))

/-- DELAY_REQ (R68, R71). -/
def execDelayReq (port : Nat) (s : State) : Out := onElement (decide (port < 19)) s (s.live (fun t => t.delayReq port))

/-- MASTER_SELECTED (R65). -/
def execMasterSelected (port clockId : Nat) (s : State) : Out :=
  onElement (decide (port < 19)) s (s.live (fun t => if t.servoUp then t.masterSelected port clockId else t))

/-- SERVO_MEASURE_DONE (R62, R63, R65). -/
def execServoMeasureDone (s : State) : Out := .next (s.live (fun t => if t.servoUp then t.servoDecide.afterStep t else t))

/-- ANNOUNCE_TIMEOUT (R65). -/
def execAnnounceTimeout (s : State) : Out := .next (s.live (fun t => if t.servoUp then t.announceTimeout else t))

/-- TWIN_TIME_COMPARE (R60). -/
def execTwinTimeCompare (s : State) : Out := .next (s.live State.twinCompare)

/-- TIME (R60, Table 8.11): its TWIN_SEQUENCE, and the twin's Ledger time. -/
def execTime (n lt : Nat) (s : State) : Out := .next (s.twinMessage n (fun t => t.timeMessage lt))

/-- TIMESTAMP_CAPTURE (R72): an edge on capture input 0 PPS_IN, 1 HSA_F or 2 HSB_F. An edge of GPI[n − 3] is reported where it
qualifies (R432), so GPI_QUALIFY reports it. -/
def execTimestampCapture (n : Nat) (rising : Bool) (s : State) : Out :=
  onElement (decide (n < 19)) s (s.live (fun t => if n < 3 then (t.capture n rising t.nowLT).pulseSeen n rising else t))

/-- CANDIDATE_LOSS (R73, R78). -/
def execCandidateLoss (c : Nat) (s : State) : Out := onElement (decide (c < 5)) s (s.live (fun t => t.candidateLoss c))

/-- REF_MEASUREMENT (R76 to R81): for each candidate whether its loss conditions are clear and its one-second measurement; what the
clean-up loop and the phase detector of the selected candidate read: the frequency it would follow, and the phase of the output
against it. -/
def execRefMeasurement (readings : List (Bool × Int)) (out fine : Int) (s : State) : Out :=
  onElement (decide (readings.length = 5)) s (s.live (fun t => t.refMeasurement readings out fine))

/-- HOLDOVER_EVALUATION (R82, R83). -/
def execHoldoverEvaluation (s : State) : Out := .next (s.live (fun t => if t.up 2 then t.holdoverEval else t))

/-- XO_CORRECTION (R76). -/
def execXoCorrection (s : State) : Out := .next (s.live (fun t => if t.up 2 then t.xoCorrect else t))

/-- REF_RESTART_RETURN (R84). -/
def execRefRestartReturn (s : State) : Out := .next (s.live State.refReturn)

/-- RASTER_BOUNDARY (R86, R89, R146, R149): raster r, if it runs, produces a boundary now. The raster counters run on through a
restart of REF (R15). -/
def execRasterBoundary (r : Nat) (s : State) : Out :=
  onElement (decide (r < 32)) s (s.live (fun t =>
    if t.rasterPeriod r = 0 ∨ t.get (Hid.rasterWait r) = 1 then t else (t.boundaryWork r).slipsTracked r))

end Sys2Proof.Machine
end

