-- ==== Sys2Proof/Machine/ExecTwin.lean ====
section
/-! DEFINITION. The commands of the twin link, of reconciliation, of the loan's end and of the good-output bus
(14_twin_and_loan.md). -/
namespace Sys2Proof.Machine

/-- MIRROR_ACK (R35, R294): its TWIN_SEQUENCE, whether its tag verifies, the sequence it answers, and the status. -/
def execMirrorAck (n : Nat) (tag : Bool) (seq : Nat) (st : Status) (s : State) : Out := .next (s.live (fun t => t.twinIn n (fun u => u.mirrorAck tag seq st)))

/-- MIRROR_ACK_TIMEOUT (R35). -/
def execMirrorAckTimeout (s : State) : Out := .next (s.live State.mirrorTimeout)

/-- MIRROR (R294, R295, R346). -/
def execMirror (n : Nat) (tag : Bool) (seq : Nat) (req : MirrorReq) (s : State) : Out := .next (s.live (fun t => t.twinIn n (fun u => u.mirrorIn tag seq req)))

/-- HEALTH_SEND (R189, R299). -/
def execHealthSend (s : State) : Out := .next (s.live State.sendHealth)

/-- HEALTH (R189, R270, R298, R299, R398, R399). -/
def execHealth (n : Nat) (h : HealthMsg) (s : State) : Out := .next (s.live (fun t => t.twinIn n (fun u => u.healthIn h)))

/-- TWIN_LINK_UP (R189, R296, R375). -/
def execTwinLinkUp (s : State) : Out := .next (s.live State.twinLinkUp)

/-- TWIN_LINK_DOWN (R60, R189, R291). -/
def execTwinLinkDown (s : State) : Out := .next (s.live State.twinLinkDown)

/-- RECONCILE (R296, R375): a block of the source's configuration, the last with its standing order and slips, or the twin's
measurement. -/
def execReconcile (n : Nat) (tag : Bool) (measurement : Option Nat) (last : Bool) (values standing : List (Nat × Nat × Nat × Int))
    (slips : List SlipCopy) (s : State) : Out :=
  .next (s.live (fun t => t.twinIn n (fun u => u.reconcileIn tag measurement last values standing slips)))

/-- RECONCILE_TIMEOUT (R296). -/
def execReconcileTimeout (s : State) : Out := .next (s.live State.reconTimeout)

/-- RECONCILE_RESTART (R296). -/
def execReconcileRestart (s : State) : Out := .next (s.live State.reconAgain)

/-- LOAN_EXPIRY (R301). -/
def execLoanExpiry (s : State) : Out := .next (s.live State.loanExpiry)

/-- GOB_WORD (R304, R305). -/
def execGobWord (s : State) : Out := .next (s.live State.gobWord)

/-- EGRESS_SWITCH (R205, R339). -/
def execEgressSwitch (s : State) : Out := .next (s.live State.egressSwitch)

end Sys2Proof.Machine
end

