-- ==== Sys2Proof/Machine/ExecVideo.lean ====
section
/-! DEFINITION. The commands of the serial receivers and of the outputs (06_serial_video.md, 07_crosspoint.md). -/
namespace Sys2Proof.Machine

/-- SDI_RAW_TRANSITION (R125, R131): what recovery reports at receive lane n, or nothing. -/
def execSdiRawTransition (n : Nat) (d : Option SdiLink) (s : State) : Out :=
  onElement (decide (n < 96)) s (s.live (fun t => (t.sdiRawTransition n d).cutsShown t))

/-- ACQUIRE_ELAPSED (R131). -/
def execAcquireElapsed (n : Nat) (s : State) : Out := onElement (decide (n < 96)) s (s.live (fun t => t.sdiAcquired n))

/-- LOSS_ELAPSED (R131). -/
def execLossElapsed (n : Nat) (s : State) : Out := onElement (decide (n < 96)) s (s.live (fun t => t.sdiLost n))

/-- CHATTER_WINDOW_QUIET (R131). -/
def execChatterWindowQuiet (n : Nat) (s : State) : Out := onElement (decide (n < 96)) s (s.live (fun t => t.sdiChatterEnd n))

/-- SIGNAL_PUBLISH (R131). -/
def execSignalPublish (n : Nat) (s : State) : Out := onElement (decide (n < 96)) s (s.live (fun t => t.sdiPublish n))

/-- SDI_INPUT_FRAME (R127 to R130, R169, R255): a frame of receive lane n begins; its stamp, checks, packets and samples are
taken, and the frame before it is whole for what keeps whole frames. -/
def execSdiInputFrame (n : Nat) (f : SdiFrame) (s : State) : Out :=
  onElement (decide (n < 96)) s (s.live (fun t => (t.inputFrame n f).arrived t))

/-- OUTPUT_FRAME_BOUNDARY (R146, R150 to R152): output o, serial output 0 to 95 or egress flow o − 96. -/
def execOutputFrameBoundary (o : Nat) (s : State) : Out := onElement (decide (o < 16480)) s (s.live (fun t => t.outputFrame o))

/-- DECISION (R148, R293), from the left twin: its TWIN_SEQUENCE; kind 0 the timing of an output, 1 a synchroniser's frame, 2 a layer's,
3 a promoted source's, 4 a take's at C, 5 a take's at the frame of its switch; the element, the index of the boundary, and the value. -/
def execDecision (n kind el idx : Nat) (value : Int) (s : State) : Out :=
  onElement (decide (kind < 6)) s (s.twinMessage n (fun t => t.decision kind el idx value))

/-- FREEZE_LIMIT_EXPIRY (R152). -/
def execFreezeLimitExpiry (o : Nat) (s : State) : Out := onElement (decide (o < 16480)) s (s.live (fun t => t.freezeExpiry o))

end Sys2Proof.Machine
end

