-- ==== Sys2Proof/Machine/ExecWear.lean ====
section
/-! DEFINITION. The commands of the monitors, of the Almanac, of the supplies and of bookings (19_ageing_and_maintenance.md,
21_electrical_and_package.md). -/
namespace Sys2Proof.Machine

/-- WEAR_SAMPLE (R386): monitors with SLACK and SHIFT. -/
def execWearSample (readings : List (Nat × Nat × Int)) (s : State) : Out :=
  onElement (readings.all (fun r => decide (r.1 < 256))) s (s.live (fun t => t.wearSample readings))

/-- THERMAL_SAMPLE (R386, R387): the sensors in order, in 0.1 °C. -/
def execThermalSample (temps : List Int) (s : State) : Out :=
  onElement (decide (temps.length ≤ 64)) s (s.live (fun t => t.thermalSample temps))

/-- EYE_SAMPLE (R386): lanes with their margins and whether adaptation is at the end of its range. -/
def execEyeSample (readings : List (Nat × Nat × Nat × Bool)) (s : State) : Out :=
  onElement (readings.all (fun r => decide (r.1 < 181))) s (s.live (fun t => t.eyeSample readings))

/-- ALMANAC_INTERVAL (R388 to R391): written while bit 55 reads 1. -/
def execAlmanacInterval (s : State) : Out := .next (s.live (fun t => if t.ready 55 then t.almanacBoundary else t))

/-- AVS_STEP (R390). -/
def execAvsStep (s : State) : Out := .next (s.live (fun t => if t.ready 0 then t.avsStep else t))

/-- AVS_LIMIT (R415, R417): measured VDD in 0.1 mV. -/
def execAvsLimit (vdd : Nat) (s : State) : Out := .next (s.live (fun t => t.avsJudge vdd))

/-- POWER_OVER_CAP (R324, R418): MEASURED in W. -/
def execPowerOverCap (watts : Nat) (s : State) : Out := .next (s.live (fun t => t.powerJudge watts))

/-- BOOKING_START (R393, R396, R397, R401). -/
def execBookingStart (b : Nat) (s : State) : Out :=
  onElement (decide (b < 32)) s (s.live (fun t => (t.bookingCommand (fun u => u.startBooking b)).injectFlush))

/-- BOOKING_DONE (R393, R398): `eyes` are the openings an EYE_SCAN found. -/
def execBookingDone (b : Nat) (eyes : List (Nat × Nat × Nat)) (s : State) : Out :=
  onElement (decide (b < 32) && eyes.all (fun e => decide (e.1 < 181))) s
    (s.live (fun t => (t.bookingCommand (fun u => u.bookingDone b eyes)).injectFlush))

/-- BOOKING_WINDOW_END (R393). -/
def execBookingWindowEnd (b : Nat) (s : State) : Out :=
  onElement (decide (b < 32)) s (s.live (fun t => (t.bookingCommand (fun u => u.bookingWindowEnd b)).injectFlush))

end Sys2Proof.Machine
end

