-- ==== Sys2Proof/Machine/ExecWrites.lean ====
section
/-! DEFINITION. The writes of single registers that the table of operations lists as commands of their own: each is the lent
controller's WRITE of that register, with the checks, the mirror and the effect of a WRITE (R31, R35, R36, R53). -/
namespace Sys2Proof.Machine

/-- The lent controller's WRITE of these items, with what every command ends with; a device in reset answers NOT_READY. -/
def State.takeWrite (s : State) (items : List Item) : State :=
  if s.alive then (s.controllerWrite items).closing s else s.controllerWrite items

/-- REGISTER_WRITE (R31): a value at an address. -/
def execRegisterWrite (addr : Nat) (v : Value) (s : State) : Out := .next (s.takeWrite [⟨addr, v⟩])

/-- TIME_INCREMENT_WRITE (R58): `2010`. -/
def execTimeIncrementWrite (v : Nat) (s : State) : Out := .next (s.takeWrite [regItem Reg.TIME_INCREMENT v])

/-- TIME_STEP_WRITE (R63): `2020:01`, with `2020:02` where FORCE is given. -/
def execTimeStepWrite (amount : Int) (force : Bool) (s : State) : Out :=
  .next (s.takeWrite ([regItem Reg.TIME_STEP_AMOUNT amount] ++ (if force then [regItem Reg.TIME_STEP_FORCE 1] else [])))

/-- OWNER_WRITE (R59): `2030:01`. -/
def execOwnerWrite (v : Nat) (s : State) : Out := .next (s.takeWrite [regItem Reg.DISCIPLINE_OWNER v])

/-- SLIP_CANCEL_GROUP (R111): `5030:01`. -/
def execSlipCancelGroup (g : Nat) (s : State) : Out := .next (s.takeWrite [regItem Reg.SLIP_CANCEL_GROUP g])

/-- SLIP_CANCEL_ALL (R111): `5030:02`. -/
def execSlipCancelAll (s : State) : Out := .next (s.takeWrite [regItem Reg.SLIP_CANCEL_ALL 1])

/-- COMMIT (R319): `1500:01`. -/
def execCommit (s : State) : Out := .next (s.takeWrite [regItem Reg.STANDING_COMMIT_COMMIT 1])

/-- RELEASE (R301): `1300:08`. -/
def execRelease (s : State) : Out := .next (s.takeWrite [regItem Reg.LOAN_RELEASE 1])

/-- COMPILE (R263): `8400:01`. -/
def execCompile (s : State) : Out := .next (s.takeWrite [regItem Reg.AUDIO_COMPILE_COMPILE 1])

/-- BUNDLE_IN_ENABLE (R259): `8810[i]:01`. -/
def execBundleInEnable (i : Nat) (v : Value) (s : State) : Out :=
  .next (s.takeWrite [⟨regAddr (Reg.BUNDLE_IN_ENABLE i), v⟩])

/-- CAPTURE (R285): `9300[k]:05`. -/
def execCapture (k : Nat) (s : State) : Out :=
  .next (s.takeWrite [regItem (Reg.CLIP_CAPTURE k) 1])

/-- DELETE (R285): `9300[k]:06`. -/
def execDelete (k : Nat) (s : State) : Out :=
  .next (s.takeWrite [regItem (Reg.CLIP_DELETE k) 1])

/-- BOOT_IDLE (R382): `C000:01`. -/
def execBootIdle (v : Value) (s : State) : Out := .next (s.takeWrite [⟨regAddr Reg.UPDATE_BOOT_IDLE, v⟩])

/-- CONFIRM (R384): `C200:01`. -/
def execConfirm (v : Value) (s : State) : Out := .next (s.takeWrite [⟨regAddr Reg.HEALTH_CONFIRM_CONFIRM, v⟩])

/-- REJECT (R385): `C200:03`. -/
def execReject (v : Value) (s : State) : Out := .next (s.takeWrite [⟨regAddr Reg.HEALTH_CONFIRM_REJECT, v⟩])

/-- KEY_WRITE (R370, R371): `B000[n]:01`. -/
def execKeyWrite (n : Nat) (v : Value) (s : State) : Out :=
  .next (s.takeWrite [⟨regAddr (Reg.KEY_SLOT_KEY n), v⟩])

/-- SUBMIT (R392): `D200[b]:0C`. -/
def execSubmit (b : Nat) (s : State) : Out :=
  .next (s.takeWrite [regItem (Reg.BOOKING_SUBMIT b) 1])

/-- BOOKING_CANCEL (R393): `D200[b]:0D`. -/
def execBookingCancel (b : Nat) (s : State) : Out :=
  .next (s.takeWrite [regItem (Reg.BOOKING_CANCEL b) 1])

/-- FORCE (R350, R406): `E100[source]:01`. -/
def execForce (source : Nat) (s : State) : Out :=
  .next (s.takeWrite [regItem (Reg.FAULT_FORCE_FORCE source) 1])

/-- INJECT_ENABLE (R401): `E000[j]:01`. -/
def execInjectEnable (j : Nat) (v : Bool) (s : State) : Out :=
  .next (s.takeWrite [regItem (Reg.INJECT_ENABLE j) (b2i v)])

/-- ACCESSION (R212): a WRITE of fields of ingress flows. -/
def execAccession (items : List Item) (s : State) : Out := .next (s.takeWrite items)

/-- LINK_GROUP_WRITE (R121, R124): `3200[n]:01` or `:02`. -/
def execLinkGroupWrite (n : Nat) (tx : Bool) (v : Value) (s : State) : Out :=
  .next (s.takeWrite [⟨regAddr (if tx then Reg.LINK_GROUP_TX_SIZE n else Reg.LINK_GROUP_RX_SIZE n), v⟩])

/-- NET_PORT_MODE_WRITE (R191): `4000[n]:01` MODE, `:02` MEDIA or `:03` AUTONEG. -/
def execNetPortModeWrite (n sub : Nat) (v : Value) (s : State) : Out :=
  .next (s.takeWrite [⟨regAddr ⟨0x4000, n, sub⟩, v⟩])

/-- GPO_LEVEL_WRITE (R434): `1610[g]:01`. -/
def execGpoLevelWrite (g : Nat) (v : Value) (s : State) : Out :=
  .next (s.takeWrite [⟨regAddr (Reg.GPO_LEVEL g), v⟩])

/-- GPI_POLARITY_WRITE (R432): `1600[g]:01`. -/
def execGpiPolarityWrite (g : Nat) (v : Value) (s : State) : Out :=
  .next (s.takeWrite [⟨regAddr (Reg.GPI_POLARITY g), v⟩])

/-- TEST_GEN_WRITE (R407): `E200[g]:01` to `:09`. -/
def execTestGenWrite (g sub : Nat) (v : Int) (s : State) : Out :=
  .next (s.takeWrite [regItem ⟨0xE200, g, sub⟩ v])

/-- REF_RASTER_WRITE (R149, R277): `3000[n]:09`. -/
def execRefRasterWrite (n : Nat) (v : Value) (s : State) : Out :=
  .next (s.takeWrite [⟨regAddr (Reg.SDI_RX_REF_RASTER n), v⟩])

/-- RATE_MODE_WRITE (R126): `3000[n]:01` RATE_MODE, or `:02` POLARITY. -/
def execRateModeWrite (n : Nat) (polarity : Bool) (v : Value) (s : State) : Out :=
  .next (s.takeWrite [⟨regAddr (if polarity then Reg.SDI_RX_POLARITY n else Reg.SDI_RX_RATE_MODE n), v⟩])

end Sys2Proof.Machine
end

