-- ==== Sys2Proof/Machine/Dispatch.lean ====
section
/-! DEFINITION. The meaning of each command: one arm for each constructor, each a direct call of its definition. -/
namespace Sys2Proof.Machine

/-- The effect of a command on everything but the queue. -/
def exec (i : Instr) (s : State) : Host.Outcome State Fault Refusal :=
  match i with
  | .porstNAssert => Sys2Proof.Machine.execPorstNAssert s
  | .porstNRelease straps => Sys2Proof.Machine.execPorstNRelease straps s
  | .railBrownout rail => Sys2Proof.Machine.execRailBrownout rail s
  | .brownoutRelease straps => Sys2Proof.Machine.execBrownoutRelease straps s
  | .islandReady bit dimms => Sys2Proof.Machine.execIslandReady bit dimms s
  | .bringupLate bit => Sys2Proof.Machine.execBringupLate bit s
  | .standingRestore bad => Sys2Proof.Machine.execStandingRestore bad s
  | .rasterStartAtTime raster => Sys2Proof.Machine.execRasterStartAtTime raster s
  | .read m addrs => Sys2Proof.Machine.execRead m addrs s
  | .write m items => Sys2Proof.Machine.execWrite m items s
  | .stage m slip items => Sys2Proof.Machine.execStage m slip items s
  | .arm m slip items => Sys2Proof.Machine.execArm m slip items s
  | .cancel m slips => Sys2Proof.Machine.execCancel m slips s
  | .subscribe m subs => Sys2Proof.Machine.execSubscribe m subs s
  | .blockRead m addr offset len => Sys2Proof.Machine.execBlockRead m addr offset len s
  | .blockWrite m addr offset len data => Sys2Proof.Machine.execBlockWrite m addr offset len data s
  | .loan m t => Sys2Proof.Machine.execLoan m t s
  | .ping m => Sys2Proof.Machine.execPing m s
  | .sessionlessPing m => Sys2Proof.Machine.execSessionlessPing m s
  | .undefinedOpcode m opcode payload => Sys2Proof.Machine.execUndefinedOpcode m opcode payload s
  | .malformedDatagram port => Sys2Proof.Machine.execMalformedDatagram port s
  | .mirrorAck n tag seq st => Sys2Proof.Machine.execMirrorAck n tag seq st s
  | .mirrorAckTimeout => Sys2Proof.Machine.execMirrorAckTimeout s
  | .mirror n tag seq req => Sys2Proof.Machine.execMirror n tag seq req s
  | .blockTransferIdle id => Sys2Proof.Machine.execBlockTransferIdle id s
  | .snapshotExpiry id => Sys2Proof.Machine.execSnapshotExpiry id s
  | .notificationInterval => Sys2Proof.Machine.execNotificationInterval s
  | .unlentSessionClose => Sys2Proof.Machine.execUnlentSessionClose s
  | .oldSessionKeyExpiry => Sys2Proof.Machine.execOldSessionKeyExpiry s
  | .handoverKeyGraceEnd => Sys2Proof.Machine.execHandoverKeyGraceEnd s
  | .registerWrite addr v => Sys2Proof.Machine.execRegisterWrite addr v s
  | .timeIncrementWrite v => Sys2Proof.Machine.execTimeIncrementWrite v s
  | .timeStepWrite amount force => Sys2Proof.Machine.execTimeStepWrite amount force s
  | .ownerWrite v => Sys2Proof.Machine.execOwnerWrite v s
  | .slipCancelGroup g => Sys2Proof.Machine.execSlipCancelGroup g s
  | .slipCancelAll => Sys2Proof.Machine.execSlipCancelAll s
  | .commit => Sys2Proof.Machine.execCommit s
  | .commitComplete ok => Sys2Proof.Machine.execCommitComplete ok s
  | .release => Sys2Proof.Machine.execRelease s
  | .compile => Sys2Proof.Machine.execCompile s
  | .compileComplete => Sys2Proof.Machine.execCompileComplete s
  | .bundleInEnable n v => Sys2Proof.Machine.execBundleInEnable n v s
  | .capture k => Sys2Proof.Machine.execCapture k s
  | .captureComplete k => Sys2Proof.Machine.execCaptureComplete k s
  | .delete k => Sys2Proof.Machine.execDelete k s
  | .bootIdle v => Sys2Proof.Machine.execBootIdle v s
  | .idleBootComplete => Sys2Proof.Machine.execIdleBootComplete s
  | .confirm v => Sys2Proof.Machine.execConfirm v s
  | .reject v => Sys2Proof.Machine.execReject v s
  | .keyWrite n v => Sys2Proof.Machine.execKeyWrite n v s
  | .submit b => Sys2Proof.Machine.execSubmit b s
  | .bookingCancel b => Sys2Proof.Machine.execBookingCancel b s
  | .force source => Sys2Proof.Machine.execForce source s
  | .injectEnable j v => Sys2Proof.Machine.execInjectEnable j v s
  | .accession items => Sys2Proof.Machine.execAccession items s
  | .linkGroupWrite n tx v => Sys2Proof.Machine.execLinkGroupWrite n tx v s
  | .netPortModeWrite n sub v => Sys2Proof.Machine.execNetPortModeWrite n sub v s
  | .gpoLevelWrite g v => Sys2Proof.Machine.execGpoLevelWrite g v s
  | .testGenWrite g sub v => Sys2Proof.Machine.execTestGenWrite g sub v s
  | .refRasterWrite n v => Sys2Proof.Machine.execRefRasterWrite n v s
  | .rateModeWrite n polarity v => Sys2Proof.Machine.execRateModeWrite n polarity v s
  | .gpiPolarityWrite g v => Sys2Proof.Machine.execGpiPolarityWrite g v s
  | .ptpEventRx port m => Sys2Proof.Machine.execPtpEventRx port m s
  | .delayReq port => Sys2Proof.Machine.execDelayReq port s
  | .masterSelected port clockId => Sys2Proof.Machine.execMasterSelected port clockId s
  | .servoMeasureDone => Sys2Proof.Machine.execServoMeasureDone s
  | .announceTimeout => Sys2Proof.Machine.execAnnounceTimeout s
  | .twinTimeCompare => Sys2Proof.Machine.execTwinTimeCompare s
  | .time n lt => Sys2Proof.Machine.execTime n lt s
  | .timestampCapture n rising => Sys2Proof.Machine.execTimestampCapture n rising s
  | .candidateLoss c => Sys2Proof.Machine.execCandidateLoss c s
  | .refMeasurement readings out fine => Sys2Proof.Machine.execRefMeasurement readings out fine s
  | .holdoverEvaluation => Sys2Proof.Machine.execHoldoverEvaluation s
  | .xoCorrection => Sys2Proof.Machine.execXoCorrection s
  | .refRestartReturn => Sys2Proof.Machine.execRefRestartReturn s
  | .rasterBoundary r => Sys2Proof.Machine.execRasterBoundary r s
  | .slipCheckPoint at_ => Sys2Proof.Machine.execSlipCheckPoint at_ s
  | .slipBoundary at_ => Sys2Proof.Machine.execSlipBoundary at_ s
  | .slipRetire slip => Sys2Proof.Machine.execSlipRetire slip s
  | .gpiResolve n slip launch seq => Sys2Proof.Machine.execGpiResolve n slip launch seq s
  | .slipOutcome n slip state index => Sys2Proof.Machine.execSlipOutcome n slip state index s
  | .sdiRawTransition n d => Sys2Proof.Machine.execSdiRawTransition n d s
  | .acquireElapsed n => Sys2Proof.Machine.execAcquireElapsed n s
  | .lossElapsed n => Sys2Proof.Machine.execLossElapsed n s
  | .chatterWindowQuiet n => Sys2Proof.Machine.execChatterWindowQuiet n s
  | .signalPublish n => Sys2Proof.Machine.execSignalPublish n s
  | .sdiInputFrame n f => Sys2Proof.Machine.execSdiInputFrame n f s
  | .outputFrameBoundary o => Sys2Proof.Machine.execOutputFrameBoundary o s
  | .decision n kind el idx value => Sys2Proof.Machine.execDecision n kind el idx value s
  | .freezeLimitExpiry o => Sys2Proof.Machine.execFreezeLimitExpiry o s
  | .fabTrainingStart l => Sys2Proof.Machine.execFabTrainingStart l s
  | .fabTrainingDone l role slot lane side delay => Sys2Proof.Machine.execFabTrainingDone l role slot lane side delay s
  | .fabTrainingTimeout l => Sys2Proof.Machine.execFabTrainingTimeout l s
  | .fabAligned l => Sys2Proof.Machine.execFabAligned l s
  | .fabLaneDown l => Sys2Proof.Machine.execFabLaneDown l s
  | .fabRetry l => Sys2Proof.Machine.execFabRetry l s
  | .calendarPeriod lanes => Sys2Proof.Machine.execCalendarPeriod lanes s
  | .essence l slot crcOk c => Sys2Proof.Machine.execEssence l slot crcOk c s
  | .presence l slot crcOk c => Sys2Proof.Machine.execPresence l slot crcOk c s
  | .reserve l crcOk r => Sys2Proof.Machine.execReserve l crcOk r s
  | .reservationCutoff => Sys2Proof.Machine.execReservationCutoff s
  | .grant l crcOk r => Sys2Proof.Machine.execGrant l crcOk r s
  | .assign l crcOk r => Sys2Proof.Machine.execAssign l crcOk r s
  | .deny l crcOk r => Sys2Proof.Machine.execDeny l crcOk r s
  | .releaseCell l crcOk r => Sys2Proof.Machine.execReleaseCell l crcOk r s
  | .offer l crcOk stamp recs => Sys2Proof.Machine.execOffer l crcOk stamp recs s
  | .offerResend => Sys2Proof.Machine.execOfferResend s
  | .offerExpiry shelf => Sys2Proof.Machine.execOfferExpiry shelf s
  | .laneStatus l crcOk x => Sys2Proof.Machine.execLaneStatus l crcOk x s
  | .cellHoldExpiry sub link => Sys2Proof.Machine.execCellHoldExpiry sub link s
  | .planeFailure sub plane => Sys2Proof.Machine.execPlaneFailure sub plane s
  | .pathRetry sub => Sys2Proof.Machine.execPathRetry sub s
  | .fabUnprotected sub => Sys2Proof.Machine.execFabUnprotected sub s
  | .healthSend => Sys2Proof.Machine.execHealthSend s
  | .health n h => Sys2Proof.Machine.execHealth n h s
  | .twinLinkUp => Sys2Proof.Machine.execTwinLinkUp s
  | .twinLinkDown => Sys2Proof.Machine.execTwinLinkDown s
  | .reconcile n tag measurement last values standing slips => Sys2Proof.Machine.execReconcile n tag measurement last values standing slips s
  | .reconcileTimeout => Sys2Proof.Machine.execReconcileTimeout s
  | .reconcileRestart => Sys2Proof.Machine.execReconcileRestart s
  | .loanExpiry => Sys2Proof.Machine.execLoanExpiry s
  | .gobWord => Sys2Proof.Machine.execGobWord s
  | .egressSwitch => Sys2Proof.Machine.execEgressSwitch s
  | .macLinkUp m => Sys2Proof.Machine.execMacLinkUp m s
  | .netLinkDown m corrected lost => Sys2Proof.Machine.execNetLinkDown m corrected lost s
  | .macFrameRx m f => Sys2Proof.Machine.execMacFrameRx m f s
  | .pacerRelease j frame p => Sys2Proof.Machine.execPacerRelease j frame p s
  | .macFrameStart m => Sys2Proof.Machine.execMacFrameStart m s
  | .gateEntry m => Sys2Proof.Machine.execGateEntry m s
  | .membershipReport m => Sys2Proof.Machine.execMembershipReport m s
  | .needTime f t q line => Sys2Proof.Machine.execNeedTime f t q line s
  | .noPackets f path => Sys2Proof.Machine.execNoPackets f path s
  | .flowSkew f => Sys2Proof.Machine.execFlowSkew f s
  | .flowPresencePublish f => Sys2Proof.Machine.execFlowPresencePublish f s
  | .weed f => Sys2Proof.Machine.execWeed f s
  | .compressedGap f => Sys2Proof.Machine.execCompressedGap f s
  | .canvasBoundary k pics probes => Sys2Proof.Machine.execCanvasBoundary k pics probes s
  | .engineSample ins frames => Sys2Proof.Machine.execEngineSample ins frames s
  | .zcTimeout bus n => Sys2Proof.Machine.execZcTimeout bus n s
  | .aesRxPreamble r => Sys2Proof.Machine.execAesRxPreamble r s
  | .aesRxTracking r rate ratio fill status => Sys2Proof.Machine.execAesRxTracking r rate ratio fill status s
  | .aesRxLoss r => Sys2Proof.Machine.execAesRxLoss r s
  | .aesRxUnderrun r => Sys2Proof.Machine.execAesRxUnderrun r s
  | .aesRxOverrun r => Sys2Proof.Machine.execAesRxOverrun r s
  | .aesRxRecovered r => Sys2Proof.Machine.execAesRxRecovered r s
  | .transparentSlip r => Sys2Proof.Machine.execTransparentSlip r s
  | .aesTxBlockStart t => Sys2Proof.Machine.execAesTxBlockStart t s
  | .memUncorrectable k row pages unit => Sys2Proof.Machine.execMemUncorrectable k row pages unit s
  | .memCorrectedError k row pages => Sys2Proof.Machine.execMemCorrectedError k row pages s
  | .scrubPass k => Sys2Proof.Machine.execScrubPass k s
  | .faultRaise source detail => Sys2Proof.Machine.execFaultRaise source detail s
  | .faultQuietExpiry source => Sys2Proof.Machine.execFaultQuietExpiry source s
  | .collectorSelf => Sys2Proof.Machine.execCollectorSelf s
  | .keeperWatchdog => Sys2Proof.Machine.execKeeperWatchdog s
  | .keeperLockstep => Sys2Proof.Machine.execKeeperLockstep s
  | .keepBoot images => Sys2Proof.Machine.execKeepBoot images s
  | .islandRestartOrder island cause => Sys2Proof.Machine.execIslandRestartOrder island cause s
  | .islandResetRelease island => Sys2Proof.Machine.execIslandResetRelease island s
  | .readyToken src dst => Sys2Proof.Machine.execReadyToken src dst s
  | .pointerWrong src dst units => Sys2Proof.Machine.execPointerWrong src dst units s
  | .crossingSaturation src dst => Sys2Proof.Machine.execCrossingSaturation src dst s
  | .tamper cause => Sys2Proof.Machine.execTamper cause s
  | .tamperRecord => Sys2Proof.Machine.execTamperRecord s
  | .probationConfirm tests => Sys2Proof.Machine.execProbationConfirm tests s
  | .probationDeadline => Sys2Proof.Machine.execProbationDeadline s
  | .hello m nonce => Sys2Proof.Machine.execHello m nonce s
  | .colophon m nonce => Sys2Proof.Machine.execColophon m nonce s
  | .imageOpen m slot reserved total => Sys2Proof.Machine.execImageOpen m slot reserved total s
  | .imageData m offset len data => Sys2Proof.Machine.execImageData m offset len data s
  | .imageClose m digest => Sys2Proof.Machine.execImageClose m digest s
  | .svcKeyWrite m slot reserved key => Sys2Proof.Machine.execSvcKeyWrite m slot reserved key s
  | .svcRead m addrs => Sys2Proof.Machine.execSvcRead m addrs s
  | .close m => Sys2Proof.Machine.execClose m s
  | .timeSet m lt => Sys2Proof.Machine.execTimeSet m lt s
  | .svcSessionTimeout => Sys2Proof.Machine.execSvcSessionTimeout s
  | .wearSample readings => Sys2Proof.Machine.execWearSample readings s
  | .thermalSample temps => Sys2Proof.Machine.execThermalSample temps s
  | .eyeSample readings => Sys2Proof.Machine.execEyeSample readings s
  | .almanacInterval => Sys2Proof.Machine.execAlmanacInterval s
  | .avsStep => Sys2Proof.Machine.execAvsStep s
  | .avsLimit vdd => Sys2Proof.Machine.execAvsLimit vdd s
  | .powerOverCap watts => Sys2Proof.Machine.execPowerOverCap watts s
  | .bookingStart b => Sys2Proof.Machine.execBookingStart b s
  | .bookingDone b eyes => Sys2Proof.Machine.execBookingDone b eyes s
  | .bookingWindowEnd b => Sys2Proof.Machine.execBookingWindowEnd b s
  | .injectDelayRelease j => Sys2Proof.Machine.execInjectDelayRelease j s
  | .gpiRawTransition g level => Sys2Proof.Machine.execGpiRawTransition g level s
  | .gpiQualify g => Sys2Proof.Machine.execGpiQualify g s
  | .gpiChatterQuiet g => Sys2Proof.Machine.execGpiChatterQuiet g s
  | .gpiStuck g => Sys2Proof.Machine.execGpiStuck g s
  | .smbusRead address command => Sys2Proof.Machine.execSmbusRead address command s
  | .smbusWrite address => Sys2Proof.Machine.execSmbusWrite address s
  | .extest cells => Sys2Proof.Machine.execExtest cells s
  | .idcode => Sys2Proof.Machine.execIdcode s
  | .samplePreload cells => Sys2Proof.Machine.execSamplePreload cells s
  | .extestPulse cells => Sys2Proof.Machine.execExtestPulse cells s
  | .extestTrain cells => Sys2Proof.Machine.execExtestTrain cells s
  | .highz => Sys2Proof.Machine.execHighz s
  | .clamp => Sys2Proof.Machine.execClamp s
  | .bypass code => Sys2Proof.Machine.execBypass code s
  | .ctlLinkUp port => Sys2Proof.Machine.execCtlLinkUp port s
  | .ctlLinkDown port => Sys2Proof.Machine.execCtlLinkDown port s
  | .fallback => Sys2Proof.Machine.execFallback s
  | .tapReset => Sys2Proof.Machine.execTapReset s

end Sys2Proof.Machine
end

