-- ==== Sys2Proof/Safety.lean ====
section
/-! DEFINITION. What counts as a sound state and a sound run of the block, in the terms the statements use. -/
namespace Sys2Proof.Machine

/-- The register store holds its canonical form, so that equal contents are equal data (`storeWf`). -/
def State.wf (s : State) : Prop := storeWf s.regs = true

/-- The tables that have a bound or an order keep it: the slips not EMPTY stand by rising number (R91), the Logbook holds at most
64 entries (R347), and the Almanac at most 8,192 interval records (R388). -/
def State.tablesWf (s : State) : Prop :=
  (s.slips.map Slip.num).Pairwise (· < ·) ∧ s.log.length ≤ 64 ∧ s.almIntervals.length ≤ 8192

/-- Every command that waits is one the part can receive. -/
def State.queueWf (s : State) : Prop := s.pending.all Instr.wellFormed = true

/-- A step that does not stop. -/
def State.stepsOn (s : State) : Prop := ∃ t, step s = .next t

/-- The register write command of these items takes effect at once: the device is out of reset, the Catalogue engine answers, the
device is lent, no time of its loan or session has run out (R34, R41 to R43), no twin has to be asked first (R35), and every item passes
every check of R53. -/
def State.takesWrite (s : State) (items : List Item) : Prop :=
  s.alive = true ∧ s.ready 1 = true ∧ s.lent = true ∧ s.endsDue = s ∧ (s.edge && s.paired) = false ∧
    ∀ st ∈ s.writePlan false items, st = Status.ok

/-- The state in which a verified request of the open session `x` is judged: the session has been heard of now, and the sequence is noted. -/
def State.takenUp (s : State) (x : Session) (q : Nat) : State :=
  ({ s with session := some { x with lastMsg := s.tickLf } } : State).noted { x with lastMsg := s.tickLf } q

/-- A message of the open session is heard, sound, new in its sequence and verified (R33, R38, R44): `payload` its payload's bytes, `key`
the key that verified it, `u` the state in which its header is judged. -/
def State.hearsMsg (s : State) (m : Msg) (opcode : Nat) (payload : List Nat) (key : SessKey) (u : State) : Prop :=
  s.alive = true ∧ portOk m = true ∧ s.hears m = true ∧ m.hdr.version = 1 ∧ m.hdr.length = payload.length ∧
    ∃ x, s.endsDue.session = some x ∧ x.id = m.hdr.session ∧ s.endsDue.verifyingKey x.key m opcode payload = some key ∧
      x.seen.find? (fun r => r.seq == m.hdr.sequence) = none ∧ s.endsDue.seqOld x m.hdr.sequence = false ∧
      u = s.endsDue.takenUp x m.hdr.sequence

/-- A message of the open session passes every check before its items (R53): it is executed in state `u`, under `key`. -/
def State.takesMsg (s : State) (m : Msg) (opcode : Nat) (payload : List Nat) (count : Option Nat) (key : SessKey) (u : State) : Prop :=
  s.hearsMsg m opcode payload key u ∧ u.headerStatus m opcode count = Status.ok

/-- A twin message with TWIN_SEQUENCE n is taken: the twin link is up and the message is no copy of one seen (R189). -/
def State.hearsTwin (s : State) (n : Nat) : Prop :=
  s.alive = true ∧ s.twinUp = true ∧ s.edge = true ∧ s.get Reg.TWIN_LINK_LANES ≠ 0 ∧ s.twinSeen.contains n = false

/-- The state in which a twin message acts: its sequence is kept and it is counted (R189). -/
def State.heardTwin (s : State) (n : Nat) : State :=
  ({ s with twinSeen := (n :: s.twinSeen).take 64 } : State).bump Reg.TWIN_LINK_MESSAGES_RX

end Sys2Proof.Machine

namespace Sys2Proof

/-- The commands that act while the device is held in reset: the edges of PORST_N and what the rail monitors do, the key store
and its record (R373), the SMBus target (R425) and the TAP (R408). -/
def Instr.actsInReset (c : Instr) : Bool :=
  match c with
  | .porstNAssert | .porstNRelease _ | .railBrownout _ | .brownoutRelease _ | .tamper _ | .tamperRecord | .smbusRead _ _
  | .smbusWrite _ | .extest _ | .idcode | .samplePreload _ | .extestPulse _ | .extestTrain _ | .highz | .clamp | .bypass _
  | .tapReset => true
  | _ => false

end Sys2Proof
end

