-- ==== Sys2Proof/Certificates/Slice0/Obligations.lean ====
section
/-! DEFINITION. The statements about the block that the provers prove: what a step is, what the commands leave alone, and for each
family of commands where it completes and what it does. -/
open Sys2Proof Sys2Proof.Machine

/-- A step runs the command at the front of the queue. For every command c and every state whose queue begins with c, step is
exec of c on the state with the queue's rest. The queue is the model's (log entry 2). -/
def Obligations.StepRunsFront : Prop :=
  ∀ (c : Instr) (rest : List Instr) (s : State), s.pending = c :: rest → step s = exec c { s with pending := rest }

/-- On an empty queue a step is one tick of the Ledger counter, and the residue falls on the pattern of R56. With no command
waiting, a device out of reset adds the increment of 2010 and the residue to its counter and counts a tick; nothing else
changes. A device in reset stays as it is. That the idle step is the tick is the model's choice (log entry 2). Tick t
carries the residue unit exactly when t mod 25 is 3, 6, 9, 12, 15, 18, 21 or 24, and any 25 ticks in a row carry 8 units, so
that at the nominal increment 25 ticks add exactly 1,323 leaves. -/
def Obligations.IdleStepTicks : Prop :=
  (∀ s : State, s.pending = [] →
    (s.alive = true → ∃ t, step s = .next t ∧ t.ticks = s.ticks + 1 ∧
      (t.ledger : Int) = max 0 ((s.ledger : Int) + s.get Reg.TIME_INCREMENT + residue s.ticks) ∧
      { t with ledger := s.ledger, ticks := s.ticks } = s) ∧
    (s.alive = false → step s = .next s)) ∧
  (∀ t : Nat, residue t = if t % 25 ∈ [3, 6, 9, 12, 15, 18, 21, 24] then 1 else 0) ∧
  (∀ t : Nat, ((List.range 25).map (fun i => residue (t + i))).sum = 8) ∧
  (∀ t : Nat, ((List.range 25).map (fun i => 0x34EB851EB8 + residue (t + i))).sum = 1323 * 2 ^ 32)

/-- Every step keeps the register store in its canonical form. If the store of a state lists its registers by strictly rising
call number and none at its default, then so does the store of the state after any step. The store is the model's form of
the registers (log entry 51). -/
def Obligations.StepKeepsForm : Prop :=
  ∀ s t : State, s.wf → step s = .next t → t.wf

/-- Every step keeps the slip table in order, the Logbook within 64 entries and the Almanac within 8,192 intervals. If in a
state the slips not EMPTY stand by strictly rising number, the Logbook holds at most 64 entries and the Almanac at most
8,192 interval records, then the same holds after any step. -/
def Obligations.StepKeepsTables : Prop :=
  ∀ s t : State, s.tablesWf → step s = .next t → t.tablesWf

/-- Right after reset every register reads its default and nothing is held. In the state of reset the store has its canonical
form and the tables theirs, every register reads the default of its call number, PORST_N is low, Ledger time is 0 and UNSET,
no session is open, no slip is staged, and no command waits. -/
def Obligations.ResetState : Prop :=
  State.reset.wf ∧ State.reset.tablesWf ∧ (∀ k, State.reset.get k = dfltOf k) ∧ State.reset.held = .porst ∧ State.reset.ledger = 0 ∧
    State.reset.timeSet = false ∧ State.reset.session = none ∧ State.reset.slips = [] ∧ State.reset.journal = [] ∧
    State.reset.pending = []

/-- No command touches the queue, and every step takes exactly its front. Whatever command is executed on whatever state, the
commands that wait stay as they are. So a step that goes on leaves exactly the rest of the queue. -/
def Obligations.CommandsKeepQueue : Prop :=
  (∀ (c : Instr) (s t : State), exec c s = .next t → t.pending = s.pending) ∧
    (∀ s t : State, step s = .next t → t.pending = s.pending.tail)

/-- Every command has a next state, and one that names an element the part lacks changes nothing. Whatever command is executed on
whatever state, exec answers a next state: it never faults and never refuses, and so no step does. Lanes, MACs, rasters, slips, flows
and the like beyond those the part has are no event, one of each kind of element shown. What a command of a running device
ends with (State.closing) changes nothing where no slip has fallen untold, REF is not ready and no message was sent to the twin. -/
def Obligations.WellFormedNeverStops : Prop :=
  (∀ (c : Instr) (s : State), ∃ t, exec c s = .next t) ∧ (∀ s : State, s.stepsOn) ∧
  (∀ s : State,
    (∀ n x, 96 ≤ n → exec (.sdiRawTransition n x) s = .next s) ∧
    (∀ l, 66 ≤ l → exec (.fabLaneDown l) s = .next s) ∧
    (∀ m, 16 ≤ m → exec (.macLinkUp m) s = .next s) ∧
    (∀ r, 32 ≤ r → exec (.rasterBoundary r) s = .next s) ∧
    (∀ n, 8192 ≤ n → exec (.slipRetire n) s = .next s) ∧
    (∀ f, 16384 ≤ f → exec (.weed f) s = .next s) ∧
    (∀ e, 4096 ≤ e → exec (.pathRetry e) s = .next s) ∧
    (∀ i c, 47 ≤ i → exec (.islandRestartOrder i c) s = .next s) ∧
    (∀ g v, 16 ≤ g → exec (.gpiRawTransition g v) s = .next s) ∧
    (∀ r, r < 1 ∨ 6 < r → exec (.railBrownout r) s = .next s)) ∧
  (∀ u old : State, u.regs.all (fun p => p.1.idx != (Hid.slipFell 0).idx) = true → u.up 2 = false →
    (u.out.drop old.out.length).all (fun e => match e with | .twin _ _ _ _ => false | _ => true) = true → u.closing old = u)

/-- A queue of commands is worked off without a stop. From every state, stepping as often as commands wait reaches a state with an
empty queue, every step on the way going on. -/
def Obligations.QueueOfSoundCommandsRuns : Prop :=
  ∀ s : State,
    ∃ t : State, (List.range s.pending.length).foldl (fun (r : Option State) _ =>
        r.bind (fun u => match step u with | .next v => some v | _ => none)) (some s) = some t ∧ t.pending = []

/-- While the device is held in reset no command of its own functions changes anything. In reset, a command other than an edge of
PORST_N, what the rail monitors do, a TAMPER event or its record, an SMBus transfer or a TAP instruction (Instr.actsInReset)
leaves the state exactly as it is, or, where it is a register write command, is answered NOT_READY and changes nothing else. -/
def Obligations.HeldInReset : Prop :=
  ∀ (c : Instr) (s : State), s.alive = false → c.actsInReset = false →
    exec c s = .next s ∨ exec c s = .next (s.send (.result .notReady))

/-- PORST_N and a brown-out return every object to its default but what they do not touch. An assertion of PORST_N on a running
device, and a rail's brown-out, leave the device held in reset with every register outside the kept ones at its default,
Ledger time 0, no session, no slip, no offer, no pattern, an empty Logbook; the journal, the Almanac, the flash and every
kept register that the assertion itself does not record stay as they were. Which registers count as kept follows R310 and
R373 (keptKey). -/
def Obligations.PorstClearsDevice : Prop :=
  ∀ (s : State) (rail : Nat), s.held = .running → 1 ≤ rail → rail ≤ 6 →
    ∃ t u, exec .porstNAssert s = .next t ∧ exec (.railBrownout rail) s = .next u ∧
      t.held = .porst ∧ u.held = .brownout ∧
      (∀ k, keptKey k = false → t.get k = dfltOf k ∧ (k ≠ Reg.SUPPLY_BROWNOUTS → u.get k = dfltOf k)) ∧
      t.get Reg.SUPPLY_RESET_CAUSE = 0 ∧ u.get Reg.SUPPLY_RESET_CAUSE = rail ∧ u.get Reg.SUPPLY_BROWNOUTS = 1 ∧
      (∀ k, keptKey k = true → k ∉ [Hid.fallCause, Reg.SUPPLY_RESET_CAUSE, Reg.ALMANAC_POWERED] → k.idx ≠ 0xC100 →
        t.get k = s.get k ∧ u.get k = s.get k) ∧
      (∀ x, x = t ∨ x = u → x.ledger = 0 ∧ x.ticks = 0 ∧ x.session = none ∧ x.oldSession = none ∧ x.slips = [] ∧ x.log = [] ∧
        x.offers = [] ∧ x.patterns = [] ∧ x.fabSubs = [] ∧ x.recordings = [] ∧ x.clips = [] ∧ x.twin = none ∧
        x.journal = s.journal ∧ x.almIntervals = s.almIntervals ∧ x.almDays = s.almDays ∧ x.flash = s.flash ∧
        x.pending = s.pending)

/-- The release of PORST_N or of a brown-out samples the straps and starts the device. From the reset the release ends, the
device runs; ROLE, SLOT_ID, SVC_EN and SIDE read the sampled straps, every GPO its strap level, every island of the role
stands in its start-up, and the pairing state is PAIRED_DOWN where an edge device's SLOT_ID and TWIN_SIDE agree, else
STRAP_SOLO (0, also read in the centre role: log entry 52). No release has any effect out of that reset. The premise that
the fault collector is not ready holds in every reset: READY reads 0 there (PorstClearsDevice, HeldInReset). -/
def Obligations.ReleaseSamplesStraps : Prop :=
  ∀ (s : State) (x : Straps),
    (s.held = .porst ∨ s.held = .brownout → s.ready 5 = false →
      ∃ t, exec (if s.held = .porst then .porstNRelease x else .brownoutRelease x) s = .next t ∧ t.held = .running ∧
        t.get Reg.ROLE = b2i x.centre ∧ t.get Reg.IDENTITY_SLOT_ID = (x.slot % 32 : Nat) ∧
        t.get Reg.IDENTITY_SVC_EN = b2i x.svcEn ∧ t.get Reg.PAIRING_SIDE = b2i x.right ∧
        (∀ g, g < 16 → t.get (Reg.GPO_STRAP g) = b2i (bitOf x.gpo g) ∧ t.get (Reg.GPO_LEVEL g) = b2i (bitOf x.gpo g)) ∧
        (∀ i, i < 47 → (x.centre = false ∨ centreHeld i = false) → t.get (Reg.ISLAND_STATE i) = 3) ∧
        t.get Reg.PAIRING_STATE = b2i (!x.centre && ((x.slot % 2 == 1) == x.right))) ∧
    (s.held ≠ .porst → exec (.porstNRelease x) s = .next s) ∧ (s.held ≠ .brownout → exec (.brownoutRelease x) s = .next s)

/-- A READY bit that changes is recorded with its tick time, its Ledger time and a count. When bit b of READY takes a new level,
it alone changes; ELAPSED of b holds the ticks since the release at 52.92 lf each, AT the Ledger time as it then stood, and
CHANGES has counted one more; a bit that keeps its level changes nothing. ELAPSED reads the tick count and neither the
counter nor the increment. -/
def Obligations.ReadyBitChange : Prop :=
  ∀ (s : State) (b : Nat) (v : Bool), b < 64 → 0 ≤ s.get Reg.READY → s.get Reg.READY < 2 ^ 64 →
    (s.ready b = v → s.setReady b v = s) ∧
    (s.ready b ≠ v →
      (∀ c, c < 64 → (s.setReady b v).ready c = if c = b then v else s.ready c) ∧
      (s.setReady b v).get (Reg.READY_TIME_ELAPSED b) = (s.ticks * 5292 / 100 : Nat) ∧
      (s.setReady b v).get (Reg.READY_TIME_AT b) = s.nowLT ∧
      (s.setReady b v).get (Reg.READY_TIME_CHANGES b) = min (s.get (Reg.READY_TIME_CHANGES b) + 1) (2 ^ 32 - 1))

/-- An island whose checks and crossings are done raises its READY bit; a late one is restarted, and held at the third time.
ISLAND_READY of an island that may rise, D islands apart, sets its bit, clears its late count, and puts it RUNNING or GATED as the
mode lists it, before what its return brings (State.islandReturned, State.afterRise); a D island first trains its RDIMMs
(State.ddrRises). The function bits 1, 54 and 55 of KEEP rise once KEEP is ready, bit 1 also needing STANDING. BRINGUP_LATE counts,
raises source 3 with the bit number, and restarts the island, or from the third time in a row holds it in reset. -/
def Obligations.IslandsRise : Prop :=
  ∀ (s : State) (i : Nat) (dimms : List (Nat × Nat × Nat)), i < 47 →
    (s.mayRise i = true → ¬(34 ≤ i ∧ i ≤ 37) →
      exec (.islandReady (islandBit i) dimms) s = .next
        (((((((s.setReady (islandBit i) true).put (Hid.restarting i) 0).put (Hid.lateCount i) 0).put (Reg.ISLAND_STATE i)
          (if s.islandListed (s.getN Reg.MODE_ACTIVE) i then 0 else 1)).islandReturned i).afterRise i).when
            (i == 6 || (decide (19 ≤ i) && decide (i ≤ 22))) (fun u => u.refreshGroups s))) ∧
    (s.mayRise i = true → 34 ≤ i → i ≤ 37 → exec (.islandReady (islandBit i) dimms) s = .next (s.ddrRises (i - 34) dimms)) ∧
    (s.alive = true → s.ready 0 = true →
      (s.ready 1 = false → s.ready 56 = true → s.get Hid.imageRecovery = 0 →
        exec (.islandReady 1 dimms) s = .next (s.setReady 1 true)) ∧
      (s.ready 54 = false → exec (.islandReady 54 dimms) s = .next (s.setReady 54 true).gpioReady) ∧
      (s.ready 55 = false → exec (.islandReady 55 dimms) s = .next (s.setReady 55 true).refreshTarget)) ∧
    (s.alive = true → s.hasIsland i = true → s.up i = false → s.get (Hid.heldReset i) = 0 →
      exec (.bringupLate (islandBit i)) s = .next
        (if 3 ≤ s.get (Hid.lateCount i) + 1 then
          ((((s.put (Hid.lateCount i) (s.get (Hid.lateCount i) + 1)).raise 3 0 (islandBit i)).put (Hid.heldReset i) 2).put
            (Hid.restarting i) 0).put (Reg.ISLAND_STATE i) 5
        else ((((s.put (Hid.lateCount i) (s.get (Hid.lateCount i) + 1)).raise 3 0 (islandBit i)).put
          (Hid.restarting i) 0).restartIsland i 1).settleQueue))

/-- The restore takes the newest commit that checks out, reports what it used, and raises STANDING. While KEEP is ready and
STANDING is not, STANDING_RESTORE puts into RESTORED_FROM and SKIPPED what the journal gives and the number of items
skipped, restores the rest (all of it the first time, KEEP's own objects after a restart of KEEP), raises source 4
unless the whole journal passed, and bit 56 reads 1 after it. An empty journal gives DEFAULTS (0). A raster that waits for time
starts once Ledger time is set: it no longer waits, and does a boundary's work. -/
def Obligations.StandingOrderRestored : Prop :=
  (∀ (s : State) (bad : Nat), s.alive = true → s.ready 0 = true → s.ready 56 = false → s.get Hid.imageRecovery ≠ 1 →
    let all := journalStore (journalPick s.journal bad).2
    let l := all.filter (fun p => !s.skipsItem p)
    let u := (s.put Reg.STANDING_COMMIT_RESTORED_FROM (journalPick s.journal bad).1).put Reg.STANDING_COMMIT_SKIPPED
      (all.length - l.length : Nat)
    ∃ t, exec (.standingRestore bad) s = .next t ∧ t.ready 56 = true ∧
      t = ((if s.get Hid.restored = 1 then u.restoreKeep l
        else ((u.each l (fun v p => v.restoreItem p)).settleRestored s).put Hid.restored 1).when
          ((journalPick s.journal bad).1 != 1) (fun v => v.raise 4 0 0)).setReady 56 true) ∧
    (∀ bad, journalPick [] bad = (0, [])) ∧
    (∀ (s : State) (r : Nat), r < 32 → s.alive = true → s.get (Hid.rasterWait r) = 1 → s.timeSet = true →
      exec (.rasterStartAtTime r) s = .next (((s.put (Hid.rasterWait r) 0).boundaryWork r).closing s))

/-- A commit in progress ends DURABLE with its record in the journal, or FAILED with the journal as it was. COMMIT_COMPLETE on a
commit that is being written adds one record, newest first, and gives STATE DURABLE and LAST_COMMIT the Ledger time, or on
failure gives STATE FAILED and leaves the journal; with what every command ends with. The record is the whole copy or what it
changes of the store the journal gives, which of the two free (log entry 3). -/
def Obligations.CommitBecomesDurable : Prop :=
  ∀ (s : State) (copy : Store), s.alive = true → s.commitCopy = some copy → s.get Reg.STANDING_COMMIT_STATE = 1 →
    exec (.commitComplete false) s = .next ((({ s with commitCopy := none } : State).put Reg.STANDING_COMMIT_STATE 3).closing s) ∧
    ∃ r, (r = ⟨copy, true⟩ ∨ r = ⟨storeDelta (journalStore s.journal) copy, false⟩) ∧
      exec (.commitComplete true) s = .next (((({ s.drawn with commitCopy := none, journal := r :: s.journal } : State).put
        Reg.STANDING_COMMIT_STATE 2).put Reg.STANDING_COMMIT_LAST_COMMIT s.nowLT).closing s)

/-- A restart order, the release of the island's reset, tokens, wrong pointers and full hand-offs act as their rules say. A
running island that is ordered to restart flushes its crossings, fails the launched slips it carries, loses what it carries, drops
its bit, stands DOWN with the cause recorded and counted, and the collector settles what that raised. Its reset, held for 1 us, is
released into STARTING. A ready token of an island that waits, to one that is up, puts it in JOINING. A wrong pointer
resynchronises, counts the discarded units and raises CROSSING; a full hand-off counts and raises it at the source. -/
def Obligations.IslandRestartsAndCrossings : Prop :=
  ∀ s : State, s.alive = true →
    (∀ i c, i < 47 → 1 ≤ c → c ≤ 4 → s.hasIsland i = true → s.up i = true → s.get (Hid.restarting i) ≠ 1 →
      exec (.islandRestartOrder i c) s = .next
        ((((((((((s.flushPartners i).failLaunched i).islandLoses i).dropReady (islandBit i)).put (Hid.restarting i) 1).put
          (Reg.ISLAND_STATE i) 2).put (Reg.ISLAND_CAUSE i) c).put (Reg.ISLAND_LAST_RESTART i) s.nowLT).bump (Reg.ISLAND_RESTARTS i)).put
            (Hid.restartAt i) s.tickLf).settleQueue) ∧
    (∀ i, i < 47 → s.get (Hid.restarting i) = 1 → s.get (Reg.ISLAND_STATE i) = 2 → s.get (Hid.heldReset i) = 0 →
      s.get (Hid.restartAt i) + 52920 ≤ s.tickLf →
      exec (.islandResetRelease i) s = .next ((s.put (Hid.heldReset i) 0).put (Reg.ISLAND_STATE i) 3)) ∧
    (∀ a b, a < 47 → b < 47 → crossingOf a b = true → s.up b = true → s.get (Reg.ISLAND_STATE a) = 3 →
      exec (.readyToken a b) s = .next ((s.put (crossKey a b) 1).put (Reg.ISLAND_STATE a) 4)) ∧
    (∀ a b n, a < 47 → b < 47 → crossingOf a b = true → s.up a = true → s.up b = true →
      exec (.pointerWrong a b n) s = .next
        ((((s.bump (Reg.ISLAND_RESYNCS b)).bumpBy (Reg.ISLAND_FLUSHED b) n).put (crossKey a b) 0).raise (64 + 4 * b + 1))) ∧
    (∀ a b, a < 47 → b < 47 → crossingOf a b = true → s.up a = true →
      exec (.crossingSaturation a b) s = .next ((s.bump (Reg.ISLAND_SATURATIONS a)).raise (64 + 4 * a + 1) 0 (islandBit b)))

/-- READ, PING and BLOCK_READ of the open session are executed and answered. A READ that passes the checks of R53 and whose
results fit the payload answers one result for each address, read in order from one state. A PING answers the Ledger time,
role, session state and highest sequence. A BLOCK_READ with transfer 0 answers the bytes of the live object. Each answer
leaves on the control ports that are up, as the datagram tagged under the key that verified the request, changes no register
and no slip, and is kept with the request's sequence for a retransmission. -/
def Obligations.ReadsAndPings : Prop :=
  (∀ (s u : State) (m : Msg) (key : SessKey),
    (∀ addrs, s.takesMsg m 1 (addrBytes addrs) (some addrs.length) key u → u.readBytes addrs ≤ u.payloadLimit →
      exec (.read m addrs) s = .next (((u.readAll addrs).1.respond
        ⟨1, firstBad ((u.readAll addrs).2.map (fun (x : ReadResult) => x.status)), false, m.hdr.session, m.hdr.sequence, 0, 0,
          addrs.length, .reads (u.readAll addrs).2⟩ (some key)).closing s)) ∧
    (s.takesMsg m 10 [] none key u → ¬(m.hdr.session = 0 ∧ m.tag = 0) →
      exec (.ping m) s = .next ((u.respond ⟨10, .ok, false, m.hdr.session, m.hdr.sequence, 0, 0, 1,
        .ping u.nowLT.toNat (u.getN Reg.ROLE) (u.getN Reg.SESSION_SESSION_STATE) (u.getN Reg.SESSION_HIGHEST_SEQ)⟩ (some key)).closing s)) ∧
    (∀ addr offset len k f n, s.takesMsg m 7 (blockBytes m.reserved addr offset len) none key u → m.hdr.transfer = 0 →
      u.readTarget addr = (.ok, some (k, f)) → octetsLen f.ty = some n → offset + len ≤ n → 16 + len ≤ u.payloadLimit →
      exec (.blockRead m addr offset len) s = .next (((u.afterRead k).respond
        (blockResp m 7 .ok (decide (offset + len < n)) addr offset len (cutBytes (encodeValue f.ty (u.view k)).raw n offset len))
          (some key)).closing s))) ∧
  (∀ (u : State) (r : Resp) (key : Option SessKey),
    (u.respond r key).regs = u.regs ∧ (u.respond r key).slips = u.slips ∧
    (u.respond r key).out = u.out ++ (if u.ctlPorts = [] then [] else [.response (u.udpHeads u.ctlPorts) key r (r.datagram key)]) ∧
    (∀ x q, u.session = some x → x.id = r.session → q ∈ x.seen → q.seq = r.sequence → q.resp = none →
      ∃ y, (u.respond r key).session = some y ∧ { q with resp := some (key, r) } ∈ y.seen))

/-- Reading one register gives its status and value, and clears it only where its access is RC. An address that names nothing
answers NO_OBJECT, one whose island is not ready NOT_READY, a write-only one WRITE_ONLY, each with an empty value and no
effect. Any other answers OK with the value the register shows; an RC register then holds 0, and every other register keeps
its value. -/
def Obligations.RegisterRead : Prop :=
  ∀ (s : State) (addr : Nat),
    (s.lookup addr = none → s.readOne addr = (s, ⟨.noObject, 0, 0, 0⟩)) ∧
    (∀ k f, s.lookup addr = some (k, f) →
      (s.keyReady k = false → s.readOne addr = (s, ⟨.notReady, 0, 0, 0⟩)) ∧
      (s.keyReady k = true → f.acc = .wo ∨ f.acc = .wos → s.readOne addr = (s, ⟨.writeOnly, 0, 0, 0⟩)) ∧
      (s.keyReady k = true → f.acc ≠ .wo → f.acc ≠ .wos →
        (s.readOne addr).2 = ⟨.ok, (encodeValue f.ty (s.view k)).code, (encodeValue f.ty (s.view k)).len,
          (encodeValue f.ty (s.view k)).raw⟩ ∧
        ((s.readOne addr).1.get k = if f.acc = .rc then 0 else s.get k) ∧
        (∀ l, l ≠ k → (s.readOne addr).1.get l = s.get l) ∧
        (s.readOne addr).1.slips = s.slips ∧ (s.readOne addr).1.session = s.session ∧ (s.readOne addr).1.out = s.out))

/-- A written LT whose Leaves field is a second or more is refused with RANGE and nothing is written. A value of the type LT
whose Leaves field is 52,920,000,000 or more decodes as RANGE whatever the field, so a register write command with such a
value on any RW object whose island is ready, that no check before the value refuses, answers RANGE and changes nothing else. -/
def Obligations.LtBeyondSecondRefused : Prop :=
  (∀ (f : FieldDef) (v : Value), f.ty = .lt → v.code = tyCode .lt → v.len = 12 → v.raw < 2 ^ 96 →
    52920000000 ≤ v.raw / 2 ^ 12 % 2 ^ 36 → (decodeValue f v).1 = .range) ∧
    (∀ (s : State) (addr : Nat) (v : Value) (k : Key) (f : FieldDef), s.alive = true → s.ready 1 = true → s.endsDue = s →
      s.lent = true → s.lookup addr = some (k, f) → f.acc = .rw → k.idx ∉ [0x2010, 0x4100, 0x8400, 0x8810, 0x9300, 0xB000] →
      s.keyReady k = true → s.get Reg.PAIRING_STATE ≠ 2 → f.ty = .lt → v.code = tyCode .lt → v.len = 12 → v.raw < 2 ^ 96 →
      52920000000 ≤ v.raw / 2 ^ 12 % 2 ^ 36 →
      exec (.registerWrite addr v) s = .next ((s.send (.result .range)).closing s))

/-- A PING with session 0 and a zero tag is answered with zeros and no tag, at most 100 times a second on each port. A PING of
session 0 with a zero tag and a sound header, heard on a port, is answered with a zero tag, session state 0 and highest sequence
0, on those ports that have answered fewer than 100 in the second ending now; no register, session or slip changes but what
every command ends with, and the ports answered are noted. -/
def Obligations.SessionlessPing : Prop :=
  ∀ (s : State) (m : Msg), s.alive = true → portOk m = true → s.hears m = true → m.hdr.version = 1 → m.hdr.length = 0 →
    m.hdr.session = 0 → m.tag = 0 → s.headerStatus m 10 none = .ok →
    let ports := s.ctlPorts.filter (fun p => decide ((s.pingAnswers.filter (fun q => q.1 == p &&
      decide (s.ticks < q.2 + 1000000000))).length < 100))
    let r : Resp := ⟨10, .ok, false, 0, m.hdr.sequence, 0, 0, 1, .ping s.nowLT.toNat (s.getN Reg.ROLE) 0 0⟩
    let asked := s.pingAnswers.filter (fun p => decide (s.ticks < p.2 + 1000000000)) ++ ports.map (fun (p : Nat) => (p, s.ticks))
    let t := ({ s with pingAnswers := asked } : State).answerOn ports none r
    (∀ c, c = Instr.sessionlessPing m ∨ c = Instr.ping m → exec c s = .next (t.closing s)) ∧
      t.out = s.out ++ (if ports = [] then [] else [.response (s.udpHeads ports) none r (r.datagram none)]) ∧
      t.regs = s.regs ∧ t.session = s.session ∧ t.slips = s.slips ∧ (∀ p ∈ ports, (p, s.ticks) ∈ t.pingAnswers)

/-- WRITE, STAGE, ARM and CANCEL whose checks pass take effect and answer OK. While no twin has to be asked first, a WRITE all
of whose items pass applies them as one unit, a STAGE stages its items in its slip, an ARM that passes arms its slip with
the record its checks made, and a CANCEL one of whose slips may be cancelled cancels those; each answers its status words
under the session's key. -/
def Obligations.RequestsTakeEffect : Prop :=
  ∀ (s u : State) (m : Msg) (key : SessKey), (u.edge && u.paired) = false →
    (∀ items, s.takesMsg m 2 (itemBytes m.reserved items) (some items.length) key u →
      (∀ st ∈ u.writePlan false items, st = Status.ok) →
      exec (.write m items) s =
        .next (((u.writeApply false items).finish (backOf m 2 items.length key) (u.writePlan false items)).closing s)) ∧
    (∀ n items, items ≠ [] → s.takesMsg m 3 (slipBytes m.reserved n items) (some items.length) key u →
      (∀ st ∈ u.stagePlan false n items, st = Status.ok) →
      exec (.stage m n items) s = .next (((u.setSlip { (u.slip n).cleared with
        st := .staged, items := u.stagedAfter n (u.stageable items) }).finish (backOf m 3 (max 1 items.length) key)
          (u.stagePlan false n items)).closing s)) ∧
    (∀ n items, s.takesMsg m 4 (slipBytes m.reserved n items) (some items.length) key u →
      (u.armPlan none false n items u.nowLT.toNat).1 = .ok →
      exec (.arm m n items) s = .next (((u.reqApply false u.nowLT.toNat
        (.arm n (armItems items (u.armPlan none false n items u.nowLT.toNat).2)
          (u.armPlan none false n items u.nowLT.toNat).2.given)).finish (backOf m 4 1 key) [.ok]).closing s)) ∧
    (∀ slips, s.takesMsg m 5 (slips.flatMap (fun n => beBytes 2 n)) (some slips.length) key u →
      (∃ st ∈ u.cancelPlan false slips, st = Status.ok) →
      exec (.cancel m slips) s =
        .next (((u.cancelApply false slips).finish (backOf m 5 slips.length key) (u.cancelPlan false slips)).closing s))

/-- Cancelling frees a staged or armed slip and leaves every other; the cancel of a group or of all does the same. A cancelled
slip holds no items and counts once; slips in any other state stay. A write of the group register cancels exactly the armed
members of the group, a write of ALL every staged and armed slip; each leaves launched slips alone. The premise on the
table's order is kept by every step (StepKeepsTables). -/
def Obligations.SlipCommandsOnTheTable : Prop :=
  ∀ (s : State), (s.slips.map Slip.num).Pairwise (· < ·) →
    (∀ n x, x ∈ s.slips → x.num = n → (x.st = .staged ∨ x.st = .armed) →
      (s.cancelSlip n).slip n = { x with st := .cancelled, items := [] } ∧
      (s.cancelSlip n).get Reg.SLIP_COUNT_CANCELLED = min (s.get Reg.SLIP_COUNT_CANCELLED + 1) (2 ^ 64 - 1) ∧
      (∀ k, k ≠ n → (s.cancelSlip n).slip k = s.slip k)) ∧
    (∀ n, (s.slip n).st ≠ .staged → (s.slip n).st ≠ .armed → s.cancelSlip n = s) ∧
    (∀ x ∈ s.slips, x.st = .launched → (s.cancelAll).slip x.num = x ∧ ∀ g, (s.cancelGroup g).slip x.num = x) ∧
    (∀ x ∈ s.slips, (x.st = .staged ∨ x.st = .armed) → ((s.cancelAll).slip x.num).st = .cancelled) ∧
    (∀ g, ∀ x ∈ s.slips, ((s.cancelGroup g).slip x.num).st = if x.st = .armed ∧ x.group = g then .cancelled else x.st)

/-- SUBSCRIBE and the segments of a BLOCK_WRITE are taken, and the times of transfers, snapshots, subscriptions and keys run
out. SUBSCRIBE treats its items one by one, answers a word for each and notifies ON_CHANGE objects at once. A segment of a
BLOCK_WRITE that passes and leaves bytes missing is held and answered OK. At their times a transfer, a snapshot, the unlent
session, the key of the session before and the HANDOVER grace end. -/
def Obligations.SubscriptionsAndBlocks : Prop :=
  (∀ (s u : State) (m : Msg) (key : SessKey) (x : Session), u.session = some x →
    (∀ subs, s.takesMsg m 6 (subBytes m.reserved subs) (some subs.length) key u →
      exec (.subscribe m subs) s = .next ((((({ u with session := some { x with subs := (u.subAll x.subs subs).2.1 } }).put
        Reg.SESSION_SUBSCRIPTIONS (u.subAll x.subs subs).2.1.length).respond (wordsResp m 6 (u.subAll x.subs subs).1)
          (some key)).notify (u.subAll x.subs subs).2.2).closing s)) ∧
    (∀ addr offset len data k n, s.takesMsg m 8 (blockBytes m.reserved addr offset len ++ beBytes len data) none key u →
      (∀ t ∈ x.xfers, u.xferOver t = false) → u.segmentStatus x m addr offset len = (Status.ok, some (k, n)) →
      (x.xfers.find? (fun (t : Xfer) => t.id == m.hdr.transfer)) = none → len < n →
      exec (.blockWrite m addr offset len data) s = .next ((({ u with session := some { x with
        xfers := x.xfers.filter (fun (t : Xfer) => t.id != m.hdr.transfer) ++ [(⟨m.hdr.transfer, k, n, [(offset, len, data)],
          if bitOf m.hdr.flags 5 then none else some (offset + len), u.tickLf⟩ : Xfer)] } }).respond
            (blockResp m 8 .ok false addr offset len 0) (some key)).closing s))) ∧
    (∀ (s : State) (x : Session) (id : Nat), s.alive = true → s.session = some x →
      exec (.blockTransferIdle id) s = .next (({ s with session := some { x with
        xfers := x.xfers.filter (fun t => !(t.id == id && decide (t.lastAt + 105840000000 ≤ s.tickLf)))
        dead := x.dead ++ (x.xfers.filter (fun t => t.id == id && decide (t.lastAt + 105840000000 ≤ s.tickLf))).map
          (fun (t : Xfer) => t.id) } } : State).closing s) ∧
      exec (.snapshotExpiry id) s = .next (({ s with session := some { x with
        snaps := x.snaps.filter (fun p => !(p.id == id && decide (p.lastAt + 105840000000 ≤ s.tickLf))) } } : State).closing s) ∧
      (s.lent = false → max x.unlentAt x.lastMsg + 529200000000 ≤ s.tickLf →
        exec .unlentSessionClose s = .next (({ (s.put Reg.SESSION_SESSION_STATE 0).put Reg.SESSION_SUBSCRIPTIONS 0 with
          session := none } : State).closing s))) ∧
    (∀ (s : State) (o : OldSession), s.alive = true → s.oldSession = some o → o.until_ ≤ s.tickLf →
      exec .oldSessionKeyExpiry s = .next (({ s with oldSession := none } : State).closing s)) ∧
    (∀ (s : State) (n : Nat) (e : Int), s.alive = true → s.grace = some (n, e) → e ≤ s.now →
      exec .handoverKeyGraceEnd s = .next (({ s with grace := none } : State).closing s))

/-- A subscription that is due is sampled, sent where it must be, and rescheduled. At a notification time with due subscriptions
to tell that fill one message, and a control link up, one notification leaves: the next notification sequence, the Ledger time,
and the value of every due PERIODIC object and of every due ON_CHANGE object that differs from what was last sent, under the
session's key. Each due subscription is next due one interval on. -/
def Obligations.NotificationsDue : Prop :=
  ∀ (s : State) (x : Session), s.alive = true → s.session = some x → s.ctlPorts ≠ [] →
    let told := x.subs.filter (fun u => decide (u.due ≤ s.tickLf) && s.keyReady u.key && (u.mode == 2 || u.last != s.view u.key))
    let keys := told.map (fun (u : Sub) => u.key)
    noticePacks s.payloadLimit keys = [keys] → (∀ u ∈ told, accessOf u.key ≠ some .rc) →
    (∀ u ∈ told, u.key ≠ Reg.TAMPER_TAMPER_N ∧ u.key ≠ Reg.TAMPER_VBAT) →
    ∃ (t : State) (y : Session), exec .notificationInterval s = .next (t.closing s) ∧ t.session = some y ∧
      t.get Reg.SESSION_NOTIFY_SEQ = ((s.getN Reg.SESSION_NOTIFY_SEQ + 1) % 2 ^ 32 : Nat) ∧
      (∃ vals bytes, t.out = s.out ++ [.notify (s.udpHeads s.ctlPorts) x.key ((s.getN Reg.SESSION_NOTIFY_SEQ + 1) % 2 ^ 32)
          s.nowLT.toNat vals bytes] ∧ vals.map (fun v => v.1) = keys) ∧
      y.subs.map (fun u => u.due) = x.subs.map (fun u => if u.due ≤ s.tickLf then s.tickLf + u.interval else u.due) ∧
      (∀ k, k ≠ Reg.SESSION_NOTIFY_SEQ → t.get k = s.get k)

/-- A LOAN whose token passes every check opens a session and lends the device. A sound LOAN for a new session, whose tag
verifies under the key that its own token gives, is accepted while no reaction of RUN_ON or SAFE stands and SEC runs: the device
reads LENT, the session is open under the key that the image in force gives, with this request as its first sequence, the epoch
and expiry are the token's, the session before is kept only to answer NOT_LENT, and LOAN_EXPIRY later ends the loan but not
the session. -/
def Obligations.LoanOpensSession : Prop :=
  (∀ (s : State) (m : Msg) (tok : Token) (key : SessKey), s.alive = true → portOk m = true → s.hears m = true →
    m.hdr.version = 1 → m.hdr.length = 160 → s.endsDue = s → s.loanVerifies m tok = some key →
    s.session.map Session.id ≠ some m.hdr.session → s.get Reg.SAFE_REACTION < 4 → s.tokenReason m.hdr.session tok = 0 →
    s.headerStatus m 9 none = .ok → s.up 3 = true →
    ∃ (t : State) (x : Session), exec (.loan m tok) s = .next (t.closing s) ∧ t.session = some x ∧ x.id = m.hdr.session ∧
      x.key = { key with measurement := s.getN Reg.COLOPHON_MEASUREMENT } ∧ x.salt = tok.salt ∧
      x.subs = [] ∧ x.xfers = [] ∧ t.lent = true ∧ t.get Reg.LOAN_PRESENT = 1 ∧
      t.get Reg.LOAN_EXPIRY = tok.expiry ∧ t.get Reg.SESSION_EPOCH = tok.epoch ∧ t.get Reg.SESSION_SESSION_STATE = 1 ∧
      t.get Reg.SESSION_HIGHEST_SEQ = m.hdr.sequence ∧
      (∀ y, s.session = some y → t.oldSession = some ⟨y.id, y.key, s.tickLf + 529200000000⟩) ∧ t.slips = s.slips) ∧
  (∀ (s : State) (x : Session), s.alive = true → s.lent = true → s.session = some x → s.get Reg.LOAN_EXPIRY ≤ s.nowLT →
    ∃ t : State, exec .loanExpiry s = .next (t.closing s) ∧ t.lent = false ∧ t.get Reg.LOAN_PRESENT = 0 ∧ t.get Reg.SESSION_SESSION_STATE = 2 ∧
      t.session = some { x with unlentAt := s.tickLf } ∧
      (∀ k, k ∉ [Reg.LOAN_STATE, Reg.LOAN_PRESENT, Reg.SESSION_SESSION_STATE] → t.get k = s.get k))

/-- A malformed datagram is dropped and counted, an undefined opcode of the open session is refused with TYPE, and a tag
that nothing verifies with AUTH_FAIL. A malformed datagram on a port that listens counts one in 1400:09 and has no other effect. An
opcode that Table 2.5 does not define, in a message that is heard, verified and new, with a sound header, is answered with
TYPE. A PING of a session while none is known, past the limits, is answered AUTH_FAIL with a zero tag on the ports that sent
fewer than 10 in a second, and counted. -/
def Obligations.BadMessagesRefused : Prop :=
  (∀ (s : State) (port : Nat), s.alive = true → port < 2 → s.listens port = true →
    exec (.malformedDatagram port) s = .next ((s.bump Reg.SESSION_AUTH_FAILS).closing s)) ∧
  (∀ (s u : State) (m : Msg) (op : Nat) (payload : List Nat) (key : SessKey), s.hearsMsg m op payload key u → (op = 0 ∨ 10 < op) →
    headerBad m op = false → m.hdr.length ≤ u.payloadLimit →
    exec (.undefinedOpcode m op payload) s = .next ((u.respond (refusal m op .type) (some key)).closing s)) ∧
  (∀ (s : State) (m : Msg), s.alive = true → portOk m = true → s.hears m = true → m.hdr.version = 1 → m.hdr.length = 0 →
    s.endsDue = s → s.session = none → s.oldSession = none → (m.hdr.session ≠ 0 ∨ m.tag ≠ 0) →
    exec (.ping m) s = .next ((s.authFail m 10 true).closing s) ∧
    (s.authFail m 10 true).get Reg.SESSION_AUTH_FAILS = min (s.get Reg.SESSION_AUTH_FAILS + 1) (2 ^ 64 - 1) ∧
    (let ports := s.ctlPorts.filter (fun p => decide ((s.authAnswers.filter (fun q => q.1 == p &&
        decide (s.ticks < q.2 + 1000000000))).length < 10))
     (s.authFail m 10 true).out = s.out ++ (if ports = [] then [] else
       [.response (s.udpHeads ports) none (refusal m 10 .authFail) ((refusal m 10 .authFail).datagram none)])))

/-- A register write of a plain object writes that object and nothing else. Where every check of a register write command
passes, it answers OK and takes effect as the object's rules say. An object with no effect of its own then holds the value,
and every other register, the slips, the session and the tables stay as they were, but for what every command ends with. -/
def Obligations.PlainRegisterWrite : Prop :=
  (∀ (s : State) (addr : Nat) (v : Value), s.takesWrite [⟨addr, v⟩] →
    exec (.registerWrite addr v) s = .next (((s.writeApply false [⟨addr, v⟩]).send (.result .ok)).closing s)) ∧
  (∀ (s : State) (addr : Nat) (v : Value) (k : Key) (x : Int), s.takesWrite [⟨addr, v⟩] → s.decoded [⟨addr, v⟩] = [(k, x)] →
    k.idx ≠ 0x2020 → k.idx ≠ 0x4100 → (∀ u : State, u.applyItem false k x = u.put k x) →
    ∃ t : State, exec (.registerWrite addr v) s = .next (t.closing s) ∧ t = (s.put k x).send (.result .ok) ∧ t.get k = x ∧
      (∀ l, l ≠ k → t.get l = s.get l) ∧ t.slips = s.slips ∧ t.session = s.session ∧ t.log = s.log ∧ t.ledger = s.ledger) ∧
  (∀ (u : State) (k : Key) (x : Int), k.idx ∈ [0x2021, 0x2110, 0x5040, 0x6010, 0xA200] → u.applyItem false k x = u.put k x)

/-- A register write command that fails any check changes no configuration. Unlent it answers NOT_LENT, with the Catalogue
engine not ready NOT_READY, and nothing changes. An item that fails for any reason but a refused step or an admission
leaves every register as it was, and the answer is the first failing item's status; each with what every command ends with. -/
def Obligations.RefusedWriteChangesNothing : Prop :=
  ∀ (s : State) (addr : Nat) (v : Value), s.alive = true →
    (s.ready 1 = false → exec (.registerWrite addr v) s = .next ((s.send (.result .notReady)).closing s)) ∧
    (s.ready 1 = true → s.endsDue = s → s.lent = false →
      exec (.registerWrite addr v) s = .next ((s.send (.result .notLent)).closing s)) ∧
    (∀ st, s.ready 1 = true → s.endsDue = s → s.lent = true → s.writePlan false [⟨addr, v⟩] = [st] → st ≠ .ok → st ≠ .stepRefused →
      st ≠ .capacity → exec (.registerWrite addr v) s = .next ((s.send (.result st)).closing s))

/-- Writes of the increment, a step, the owner and the slip cancels take effect. The increment takes the value written and the
one before it is noted for the mean of HOLDING. A step within its limits is applied with the tick that follows, recorded,
and moves the slips. OWNER takes its value: CONTROLLER idles the servo. A write of a group or of ALL cancels its slips. -/
def Obligations.TimeWrites : Prop :=
  ∀ s : State,
    (∀ v : Nat, v < 2 ^ 64 → s.takesWrite [regItem Reg.TIME_INCREMENT v] →
      exec (.timeIncrementWrite v) s = .next (((s.setIncrement v).send (.result .ok)).closing s)) ∧
    (∀ a : Int, -(2 ^ 63) ≤ a → a < 2 ^ 63 → s.takesWrite [regItem Reg.TIME_STEP_AMOUNT a] →
      exec (.timeStepWrite a false) s = .next ((((s.applyStep a 1 1).afterStep s).send (.result .ok)).closing s)) ∧
    (∀ a : Int, -(2 ^ 63) ≤ a → a < 2 ^ 63 → s.takesWrite [regItem Reg.TIME_STEP_AMOUNT a, regItem Reg.TIME_STEP_FORCE 1] →
      exec (.timeStepWrite a true) s =
        .next ((((s.applyStep a (if s.get Reg.STEP_LIMIT < a.natAbs then 3 else 1) 1).afterStep s).send (.result .ok)).closing s)) ∧
    (∀ v : Nat, v < 256 → s.takesWrite [regItem Reg.DISCIPLINE_OWNER v] →
      exec (.ownerWrite v) s = .next ((((s.ownerWrite v).refPresence).send (.result .ok)).closing s) ∧
      (s.ownerWrite v).get Reg.DISCIPLINE_OWNER = v ∧ (s.ownerWrite 1).get Reg.DISCIPLINE_SERVO_STATE = 0) ∧
    (∀ g : Nat, g < 65536 → s.takesWrite [regItem Reg.SLIP_CANCEL_GROUP g] →
      exec (.slipCancelGroup g) s = .next (((s.cancelGroup g).send (.result .ok)).closing s)) ∧
    (s.takesWrite [regItem Reg.SLIP_CANCEL_ALL 1] → exec .slipCancelAll s = .next ((s.cancelAll.send (.result .ok)).closing s))

/-- An applied step moves the counter once, is recorded after it, and a refused one leaves the counter. An applied step adds its
amount with the tick that follows; 2022 records amount, result and source, with the Ledger time after the step. A step over
the limit without FORCE is refused, recorded with result 2 and counted, and the counter stays. The result of the first step,
exempt, sets TIME_STATE. -/
def Obligations.StepsOfLedgerTime : Prop :=
  ∀ (s : State) (a result source : Int), s.stepFits a = true → -(2 ^ 63) ≤ a → a < 2 ^ 63 →
    (s.applyStep a result source).ledger = (s.tickWith a).ledger ∧
    (s.applyStep a result source).ticks = s.ticks + 1 ∧
    (s.applyStep a result source).get Reg.STEP_STATUS_LAST_AMOUNT = a ∧
    (s.applyStep a result source).get Reg.STEP_STATUS_RESULT = result ∧
    (s.applyStep a result source).get Reg.STEP_STATUS_SOURCE = source ∧
    (s.applyStep a result source).get Reg.STEP_STATUS_AT = (s.tickWith a).nowLT ∧
    (s.applyStep a 4 source).get Reg.TIME_STATE = 1 ∧
    (s.refuseStep a source).ledger = s.ledger ∧ (s.refuseStep a source).get Reg.STEP_STATUS_RESULT = 2 ∧
    (s.refuseStep a source).get Reg.STEP_STATUS_REFUSED_COUNT = min (s.get Reg.STEP_STATUS_REFUSED_COUNT + 1) (2 ^ 32 - 1) ∧
    (s.get Reg.STEP_LIMIT < a.natAbs → s.stepStatus a false = .stepRefused) ∧
    (0 ≤ s.get Reg.TIME_INCREMENT →
      (s.tickWith a).now = s.now + a + ((s.ledger % 2 ^ 32 : Nat) + s.get Reg.TIME_INCREMENT + residue s.ticks) / 2 ^ 32)

/-- Commands that write a control register have that register's effect. COMMIT starts the write of a copy, RELEASE ends the
loan, COMPILE starts the compiler, CAPTURE and DELETE act on their clip, BOOT_IDLE, CONFIRM and REJECT on the images,
KEY_WRITE on its key slot, SUBMIT and CANCEL on their booking, FORCE raises its source, INJECT_ENABLE arms or stops its
entry; each answers OK once its effect stands. -/
def Obligations.ControlWrites : Prop :=
  ∀ s : State,
    (s.takesWrite [regItem Reg.STANDING_COMMIT_COMMIT 1] → exec .commit s = .next ((s.commitStart.send (.result .ok)).closing s)) ∧
    (s.takesWrite [regItem Reg.LOAN_RELEASE 1] → exec .release s = .next ((s.releaseLoan.send (.result .ok)).closing s)) ∧
    (s.takesWrite [regItem Reg.AUDIO_COMPILE_COMPILE 1] →
      exec .compile s = .next (((s.put Reg.AUDIO_COMPILE_STATE 1).send (.result .ok)).closing s)) ∧
    (∀ k, k < 1024 → s.takesWrite [regItem (Reg.CLIP_CAPTURE k) 1] →
      exec (.capture k) s = .next (((s.clipCapture k).send (.result .ok)).closing s)) ∧
    (∀ k, k < 1024 → s.takesWrite [regItem (Reg.CLIP_DELETE k) 1] →
      exec (.delete k) s = .next (((s.clipDelete k).send (.result .ok)).closing s)) ∧
    (∀ v x, s.takesWrite [⟨addrOf Reg.UPDATE_BOOT_IDLE, v⟩] →
      s.decoded [⟨addrOf Reg.UPDATE_BOOT_IDLE, v⟩] = [(Reg.UPDATE_BOOT_IDLE, x)] →
      exec (.bootIdle v) s = .next (((s.bootIdle x).send (.result .ok)).closing s)) ∧
    (∀ v x, s.takesWrite [⟨addrOf Reg.HEALTH_CONFIRM_CONFIRM, v⟩] →
      s.decoded [⟨addrOf Reg.HEALTH_CONFIRM_CONFIRM, v⟩] = [(Reg.HEALTH_CONFIRM_CONFIRM, x)] →
      exec (.confirm v) s = .next (((s.confirmWrite x).send (.result .ok)).closing s)) ∧
    (∀ v x, s.takesWrite [⟨addrOf Reg.HEALTH_CONFIRM_REJECT, v⟩] →
      s.decoded [⟨addrOf Reg.HEALTH_CONFIRM_REJECT, v⟩] = [(Reg.HEALTH_CONFIRM_REJECT, x)] →
      exec (.reject v) s = .next (((s.rejectWrite x).send (.result .ok)).closing s)) ∧
    (∀ n v x, n < 16 → s.takesWrite [⟨addrOf (Reg.KEY_SLOT_KEY n), v⟩] →
      s.decoded [⟨addrOf (Reg.KEY_SLOT_KEY n), v⟩] = [(Reg.KEY_SLOT_KEY n, x)] →
      exec (.keyWrite n v) s = .next (((s.keyWrite n x.toNat).send (.result .ok)).closing s)) ∧
    (∀ b, b < 32 → s.takesWrite [regItem (Reg.BOOKING_SUBMIT b) 1] →
      exec (.submit b) s = .next (((s.bookingCommand (fun t => t.submit b)).send (.result .ok)).closing s)) ∧
    (∀ b, b < 32 → s.takesWrite [regItem (Reg.BOOKING_CANCEL b) 1] →
      exec (.bookingCancel b) s = .next (((s.bookingCommand (fun t => t.cancelBooking b)).send (.result .ok)).closing s)) ∧
    (∀ n, n < 1024 → s.takesWrite [regItem (Reg.FAULT_FORCE_FORCE n) 1] →
      exec (.force n) s = .next (((s.raiseAs n 0xFFFFFF false true).send (.result .ok)).closing s)) ∧
    (∀ j v, j < 64 → s.takesWrite [regItem (Reg.INJECT_ENABLE j) (b2i v)] →
      exec (.injectEnable j v) s = .next (((((s.put (Reg.INJECT_ENABLE j) (b2i v)).refreshInject).injectFlush).send (.result .ok)).closing s))

/-- Commands that write ports, lanes, pins, groups, bundles and flows have those objects' effects. Each command takes effect as
a WRITE of its register: link groups, receive modes and reference rasters restructure their lanes, a port's mode restarts
its MACs, a GPO takes its level, a GPI its polarity with a fresh debounce, a generator's field its value, a
bundle its subscription, and a write of flow records accedes or leaves the flows. -/
def Obligations.ConfigurationWrites : Prop :=
  ∀ s : State,
    (∀ items, s.takesWrite items → exec (.accession items) s = .next (((s.writeApply false items).send (.result .ok)).closing s)) ∧
    (∀ i v x, i < 256 → s.takesWrite [⟨addrOf (Reg.BUNDLE_IN_ENABLE i), v⟩] →
      s.decoded [⟨addrOf (Reg.BUNDLE_IN_ENABLE i), v⟩] = [(Reg.BUNDLE_IN_ENABLE i, x)] →
      exec (.bundleInEnable i v) s = .next (((s.bundleWrite i 1 x).send (.result .ok)).closing s)) ∧
    (∀ n v x, n < 96 → s.takesWrite [⟨addrOf (Reg.LINK_GROUP_RX_SIZE n), v⟩] →
      s.decoded [⟨addrOf (Reg.LINK_GROUP_RX_SIZE n), v⟩] = [(Reg.LINK_GROUP_RX_SIZE n, x)] →
      exec (.linkGroupWrite n false v) s = .next (((((s.groupApply false n x.toNat).each (List.range 96)
        (fun u m => u.syncSettle m)).refreshAdmission).send (.result .ok)).closing s)) ∧
    (∀ n v x, n < 96 → s.takesWrite [⟨addrOf (Reg.LINK_GROUP_TX_SIZE n), v⟩] →
      s.decoded [⟨addrOf (Reg.LINK_GROUP_TX_SIZE n), v⟩] = [(Reg.LINK_GROUP_TX_SIZE n, x)] →
      exec (.linkGroupWrite n true v) s = .next (((((s.groupApply true n x.toNat).each (List.range 96)
        (fun u m => u.syncSettle m)).refreshAdmission).send (.result .ok)).closing s)) ∧
    (∀ n sub v x, n < 4 → 1 ≤ sub → sub ≤ 3 → s.takesWrite [⟨addrOf ⟨0x4000, n, sub⟩, v⟩] →
      s.decoded [⟨addrOf ⟨0x4000, n, sub⟩, v⟩] = [(⟨0x4000, n, sub⟩, x)] →
      exec (.netPortModeWrite n sub v) s = .next (((s.portApply n sub x).send (.result .ok)).closing s)) ∧
    (∀ g v x, g < 16 → s.takesWrite [⟨addrOf (Reg.GPO_LEVEL g), v⟩] →
      s.decoded [⟨addrOf (Reg.GPO_LEVEL g), v⟩] = [(Reg.GPO_LEVEL g, x)] →
      exec (.gpoLevelWrite g v) s = .next (((s.gpoWrite g x).send (.result .ok)).closing s) ∧
      (s.gpoWrite g x).get (Reg.GPO_LEVEL g) = x) ∧
    (∀ g v x, g < 16 → s.takesWrite [⟨addrOf (Reg.GPI_POLARITY g), v⟩] →
      s.decoded [⟨addrOf (Reg.GPI_POLARITY g), v⟩] = [(Reg.GPI_POLARITY g, x)] →
      exec (.gpiPolarityWrite g v) s = .next (((s.gpiPolarity g x).send (.result .ok)).closing s)) ∧
    (∀ g sub (v : Int), g < 256 → 1 ≤ sub → sub ≤ 9 → s.takesWrite [regItem ⟨0xE200, g, sub⟩ v] →
      s.decoded [regItem ⟨0xE200, g, sub⟩ v] = [(⟨0xE200, g, sub⟩, v)] →
      exec (.testGenWrite g sub v) s = .next (((s.put ⟨0xE200, g, sub⟩ v).send (.result .ok)).closing s)) ∧
    (∀ n v x, n < 96 → s.takesWrite [⟨addrOf (Reg.SDI_RX_REF_RASTER n), v⟩] →
      s.decoded [⟨addrOf (Reg.SDI_RX_REF_RASTER n), v⟩] = [(Reg.SDI_RX_REF_RASTER n, x)] →
      exec (.refRasterWrite n v) s =
        .next (((((s.put (Reg.SDI_RX_REF_RASTER n) x).syncSettle n).refreshAdmission).send (.result .ok)).closing s)) ∧
    (∀ n v x, n < 96 → s.takesWrite [⟨addrOf (Reg.SDI_RX_RATE_MODE n), v⟩] →
      s.decoded [⟨addrOf (Reg.SDI_RX_RATE_MODE n), v⟩] = [(Reg.SDI_RX_RATE_MODE n, x)] →
      exec (.rateModeWrite n false v) s = .next (((s.rateModeApply n 1 x).send (.result .ok)).closing s)) ∧
    (∀ n v x, n < 96 → s.takesWrite [⟨addrOf (Reg.SDI_RX_POLARITY n), v⟩] →
      s.decoded [⟨addrOf (Reg.SDI_RX_POLARITY n), v⟩] = [(Reg.SDI_RX_POLARITY n, x)] →
      exec (.rateModeWrite n true v) s = .next (((s.rateModeApply n 2 x).send (.result .ok)).closing s))

/-- A paired device sends a write to its twin and applies it only once the twin acknowledges. With every check passed in a
paired device, a register write command waits: it is sent to the twin under the next mirror sequence with 5 ms to answer. With
the twin link down it answers NOT_READY. An acknowledgement of OK in time checks the request again and applies it; NOT_LENT
applies nothing; one whose tag fails is counted and dropped; 5 ms without one answers INTERNAL and raises the TW fault. -/
def Obligations.MirrorBeforeWrite : Prop :=
  (∀ (s : State) (addr : Nat) (v : Value), s.alive = true → s.ready 1 = true → s.endsDue = s → s.lent = true → s.edge = true →
    s.paired = true → (∀ st ∈ s.writePlan false [⟨addr, v⟩], st = Status.ok) →
    (s.twinUp = false → exec (.registerWrite addr v) s = .next ((s.send (.result .notReady)).closing s)) ∧
    (s.twinUp = true → s.get Hid.rekeying ≠ 1 → ∃ t : State, exec (.registerWrite addr v) s = .next (t.closing s) ∧
      t.mirrorWait = s.mirrorWait ++ [⟨(s.getN Hid.mirrorSeq + 1) % 2 ^ 32, .write [⟨addr, v⟩], .command, s.tickLf + 264600000,
        s.nowLT.toNat⟩])) ∧
  (∀ (s : State) (n seq : Nat) (w : MirrorWait), s.alive = true → s.edge = true → s.get Reg.TWIN_LINK_LANES ≠ 0 →
    s.twinSeen.contains n = false → (∀ x ∈ s.mirrorWait, s.tickLf ≤ x.deadline) →
    s.mirrorWait.find? (fun x => x.seq == seq) = some w →
    let u : State := { s with twinSeen := (n :: s.twinSeen).take 64 }
    let r : State := (u.bump Reg.TWIN_LINK_MESSAGES_RX).unwait w
    (reqFails w.req (r.reqWords false w.at_ w.req) = false →
      exec (.mirrorAck n true seq .ok) s =
        .next (((r.reqApply false w.at_ w.req).finish w.back (r.reqWords false w.at_ w.req)).closing s)) ∧
    exec (.mirrorAck n true seq .notLent) s = .next (((r.bump Reg.PAIRING_MIRROR_REFUSALS).finish w.back
      (spoil (r.reqWords false w.at_ w.req) .notLent)).closing s) ∧
    exec (.mirrorAck n false seq .ok) s = .next ((u.bump Reg.TWIN_LINK_TAG_FAILURES).closing s)) ∧
  (∀ (s : State) (w : MirrorWait), s.alive = true → s.mirrorWait = [w] → w.deadline ≤ s.tickLf →
    exec .mirrorAckTimeout s = .next (((s.unwait w).mirrorFails w).closing s) ∧
    (∀ items, w.req = .write items → (s.unwait w).mirrorFails w =
      (let t := ((s.unwait w).finish w.back (((s.unwait w).reqWords false w.at_ w.req).map (fun _ => Status.internal))).raise 191 0 0
       if t.twinUp then t.reconStart else t)))

/-- Adding a SPAN to an LT carries and borrows in the Seconds and keeps the Fraction. A SPAN is a signed 64-bit two's-complement
count of leaves, about 5.5 years either way. When one is added to an LT the leaf count moves by exactly it, the Leaves field
stays below one second, and the Fraction field is unchanged. The example of R7 comes out as written. -/
def Obligations.SpanArithmetic : Prop :=
  (∀ v : Int, -(2 ^ 63) ≤ v → v < 2 ^ 63 → fromSigned 64 v < 2 ^ 64 ∧ toSigned 64 (fromSigned 64 v) = v) ∧
  (∀ n : Nat, n < 2 ^ 64 → -(2 ^ 63) ≤ toSigned 64 n ∧ toSigned 64 n < 2 ^ 63) ∧
  (∀ r d : Int, lfOfLt (ltAddSpan r d) = lfOfLt r + d ∧ ltAddSpan r d % 2 ^ 12 = r % 2 ^ 12 ∧
    0 ≤ ltAddSpan r d / 2 ^ 12 % 2 ^ 36 ∧ ltAddSpan r d / 2 ^ 12 % 2 ^ 36 < lfSec) ∧
  (∀ n : Int, 0 ≤ n → n < lfLimit → ltValid (ltOfLf n) = true ∧ lfOfLt (ltOfLf n) = n) ∧
  ltOfLf (1700000000 * lfSec + 13230000000) = 0x6553F10031491C780000 ∧
  lfOfLt (ltAddSpan (ltOfLf (1700000000 * lfSec + 13230000000)) (-2249100000000)) = 1699999957 * lfSec + 39690000000

/-- Nanoseconds and leaves convert to the nearest unit, ties to even, both ways. q units of 2^-16 ns become the integer nearest
q x 1,323 / 400, and u units of 1/4,096 lf the integer nearest u x 400 / 1,323, ties to even. A signed interval has its
magnitude rounded and its sign kept. Seconds carry unchanged: a message's time is its seconds, its nanoseconds and its
correction so converted, and back the nanoseconds stay below 10^9 with the carry of Table 3.5. A time on the nanosecond grid
survives the way there and back. -/
def Obligations.PtpConversions : Prop :=
  (∀ q : Nat, 2 * (400 * (nsToLf q : Int) - 1323 * q).natAbs ≤ 400 ∧
    (2 * (400 * (nsToLf q : Int) - 1323 * q).natAbs = 400 → nsToLf q % 2 = 0)) ∧
  (∀ u : Nat, 2 * (1323 * (lfToNs u : Int) - 400 * u).natAbs ≤ 1323 ∧
    (2 * (1323 * (lfToNs u : Int) - 400 * u).natAbs = 1323 → lfToNs u % 2 = 0)) ∧
  (∀ q : Int, (nsToLfSigned q).natAbs = nsToLf q.natAbs ∧ (0 ≤ q → 0 ≤ nsToLfSigned q) ∧ (q ≤ 0 → nsToLfSigned q ≤ 0)) ∧
  (∀ m : PtpMsg, ptpTime m = (m.secs : Int) * 52920000000 * 4096 + nsToLf (m.nanos * 65536) + nsToLfSigned m.correction) ∧
  (∀ n : Nat, n < 1000000000 → lfToNs (nsToLf (n * 65536)) = n * 65536) ∧
  (∀ u : Nat, let sec := u / (52920000000 * 4096)
    let q := lfToNs (u % (52920000000 * 4096))
    (ptpFields u).2.1 < 1000000000 ∧ (ptpFields u).2.2 < 65536 ∧
    (q < 1000000000 * 65536 → ptpFields u = (sec, q / 65536, q % 65536)) ∧
    (1000000000 * 65536 ≤ q → ptpFields u = (sec + 1, 0, 0)))

/-- A truncated stamp restores to the nearest congruent leaf count, of two the earlier. The restored count agrees with the stamp
modulo 2^k, no congruent count lies nearer to the receiver's own, and of two equally near it is the earlier. A 40-bit stamp
of a true time within 2^39 lf of the receiver's own restores to that time; of the two ends of that range, equally near, the
earlier is the one restored. -/
def Obligations.TruncatedStamps : Prop :=
  (∀ (k : Nat) (st now : Int),
    restoreStamp k st now % 2 ^ k = st % 2 ^ k ∧
    (∀ n : Int, n % 2 ^ k = st % 2 ^ k →
      (restoreStamp k st now - now).natAbs ≤ (n - now).natAbs ∧
      ((n - now).natAbs = (restoreStamp k st now - now).natAbs → restoreStamp k st now ≤ n))) ∧
  (∀ t now : Int, -(2 ^ 39) ≤ t - now → t - now < 2 ^ 39 → restoreStamp 40 (t % 2 ^ 40) now = t)

/-- A raster boundary is measured against its nearest nominal point. A boundary that a raster produces is stamped with the
Ledger time, its FRAME_INDEX names the nominal point o + k P nearest to it, of two the earlier, and PHASE_ERROR is the stamp
less that point. The first nominal point at or after a time is the least such point. A boundary beyond 10 us of its point
marks its raster as drifting. -/
def Obligations.NominalPoints : Prop :=
  (∀ n o p : Int, 0 < p → (∀ k : Int, (n - (o + nominalIndex n o p * p)).natAbs ≤ (n - (o + k * p)).natAbs) ∧
    2 * (n - (o + nominalIndex n o p * p)) ≤ p ∧ -p < 2 * (n - (o + nominalIndex n o p * p))) ∧
  (∀ n o p : Int, 0 < p → n ≤ nominalFrom n o p ∧ nominalFrom n o p < n + p ∧ (nominalFrom n o p - o) % p = 0) ∧
  (∀ (s : State) (r : Nat), r < 32 →
    let k := nominalIndex s.now (s.get (Reg.RASTER_OFFSET r)) (s.rasterPeriod r)
    let t := s.rasterTick r
    t.get (Reg.RASTER_LAST_BOUNDARY r) = s.nowLT ∧ t.get (Reg.RASTER_FRAME_INDEX r) = k ∧
    t.get (Reg.RASTER_PHASE_ERROR r) = s.now - (s.get (Reg.RASTER_OFFSET r) + k * s.rasterPeriod r) ∧
    t.get (Hid.rasterRun r) = 1 ∧
    t.get (Hid.driftOn r) = b2i (decide (529200 < (s.now - (s.get (Reg.RASTER_OFFSET r) + k * s.rasterPeriod r)).natAbs)))

/-- PTP messages measure, a new master makes the servo acquire, and its decision tracks, steps or refuses. A message of its domain
at an enabled port is measured there. A Delay_Req leaves CTLA, CTLB or SVC at once, and joins the queue of a MAC in class 7. A
fresh master under owner SERVO starts ACQUIRING. After 8 Sync intervals the servo tracks within the slew threshold, steps
within the limit, makes the exempt first step while UNSET, and refuses a step over the limit, back at the increment it held.
An announce timeout enters HOLDING at the mean increment. Slips follow the steps. -/
def Obligations.ServoAndPtp : Prop :=
  ∀ (s : State) (port : Nat), s.alive = true → s.up 1 = true → port < 19 →
    (∀ m : PtpMsg, exec (.ptpEventRx port m) s = .next (((s.ptpRx port m).afterStep s).closing s) ∧
      (s.ptpOn port = true → s.get (Reg.PTP_PORT_DOMAIN port) = m.domain → m.kind = 0 →
        (s.ptpRx port m).get (Reg.PTP_PORT_PORT_OFFSET port) = (s.ptpMeasure port m).portOffset port) ∧
      (s.ptpOn port = false → s.ptpRx port m = s)) ∧
    (s.ptpOn port = true → s.up 0 = true → s.ptpLink port = true →
      let seq := (s.getN (Hid.ptpReqSeq port) + 1) % 65536
      let t := s.put (Hid.ptpReqSeq port) seq
      (port < 3 → exec (.delayReq port) s =
        .next (((t.put (Hid.ptpT3 port) (s.portStamp port)).sendFrame (16 + port) 7 (t.delayReqFrame port seq)).closing s)) ∧
      (3 ≤ port → exec (.delayReq port) s = .next (({ t with txQueue := t.txQueue ++ [⟨port - 3, 7, s.now, 0,
        s.frameBytes (port - 3) (delayReqBytes (s.getN (Hid.ptpVia port))), t.delayReqFrame port seq, false⟩] } : State).closing s))) ∧
    (∀ clockId : Nat, s.up 0 = true → exec (.masterSelected port clockId) s = .next ((s.masterSelected port clockId).closing s) ∧
      (s.ptpOn port = true → s.get Reg.DISCIPLINE_OWNER = 0 → s.get Hid.lastClockId ≠ clockId →
        let t := s.masterSelected port clockId
        t.get Reg.DISCIPLINE_SELECTED_PORT = port ∧ t.get (Reg.PTP_PORT_MASTER port) = clockId ∧
        t.get (Reg.PTP_PORT_PORT_STATE port) = 2 ∧ t.get Reg.DISCIPLINE_SERVO_STATE = 1 ∧ t.get Hid.syncCount = 0 ∧
        t.get Hid.holdInc = s.get Reg.TIME_INCREMENT ∧ t.get Reg.TIME_INCREMENT = s.get Reg.TIME_INCREMENT ∧ t.ledger = s.ledger)) ∧
    (s.up 0 = true → s.get Reg.DISCIPLINE_OWNER = 0 → s.get Reg.DISCIPLINE_SERVO_STATE = 1 → 8 ≤ s.get Hid.syncCount →
      s.get Reg.DISCIPLINE_SELECTED_PORT = port → s.stepFits (s.get Reg.DISCIPLINE_OFFSET) = true →
      let o := s.get Reg.DISCIPLINE_OFFSET
      let t := s.put (Reg.PTP_PORT_PORT_STATE port) 3
      (s.timeSet = true → o.natAbs ≤ s.get Reg.DISCIPLINE_SLEW_THRESHOLD →
        exec .servoMeasureDone s = .next ((t.put Reg.DISCIPLINE_SERVO_STATE 2).closing s)) ∧
      (s.timeSet = true → s.get Reg.DISCIPLINE_SLEW_THRESHOLD < o.natAbs → o.natAbs ≤ s.get Reg.STEP_LIMIT →
        exec .servoMeasureDone s = .next ((((t.applyStep o 1 0).put Reg.DISCIPLINE_SERVO_STATE 2).afterStep s).closing s)) ∧
      (s.timeSet = false →
        exec .servoMeasureDone s = .next ((((t.applyStep o 4 0).put Reg.DISCIPLINE_SERVO_STATE 2).afterStep s).closing s)) ∧
      (s.timeSet = true → s.get Reg.DISCIPLINE_SLEW_THRESHOLD < o.natAbs → s.get Reg.STEP_LIMIT < o.natAbs →
        exec .servoMeasureDone s = .next ((((((t.refuseStep o 0).put Reg.STEP_STATUS_PENDING_OFFSET o).put
          Reg.DISCIPLINE_SERVO_STATE 4).setIncrement (s.get Hid.holdInc)).afterStep s).closing s))) ∧
    (s.up 0 = true → s.get Reg.DISCIPLINE_OWNER = 0 → s.get Reg.DISCIPLINE_SELECTED_PORT = port →
      exec .announceTimeout s = .next ((((((s.put (Reg.PTP_PORT_PORT_STATE port) 1).put Reg.DISCIPLINE_SELECTED_PORT 255).put
        Hid.lastClockId 0).setIncrement s.meanIncrement).put Reg.DISCIPLINE_SERVO_STATE 3).closing s))

/-- The twin's time is compared, and captures stamp the edges they are set to. A TIME message over a link that is up gives the
difference of the two Ledger times less the lane's delay, which the next comparison shows in 2030:06; a second copy is only counted;
with the link down no comparison is made. An edge on PPS_IN, HSA_F or HSB_F that EDGE names is stamped into LAST and counted;
any other is not. A rising edge of HSA_F or HSB_F is also kept as the frame pulse's stamp (the model's choice of edge, log
entry 54). Edges of GPI are reported where they qualify. -/
def Obligations.TwinTimeAndCaptures : Prop :=
  ∀ s : State, s.alive = true →
    (∀ n lt : Nat, s.hearsTwin n → exec (.time n lt) s = .next ((((s.heardTwin n).put Hid.twinStamp
      (lfOfLt lt - s.get Reg.TWIN_LINK_DELAY - s.now)).put Hid.twinStampNew 1).closing s)) ∧
    (∀ n lt : Nat, s.twinUp = true → s.edge = true → s.get Reg.TWIN_LINK_LANES ≠ 0 → s.twinSeen.contains n = true →
      exec (.time n lt) s = .next ((s.bump Reg.TWIN_LINK_DUPLICATES).closing s)) ∧
    (s.twinUp = true → s.get Hid.twinStampNew ≠ 0 → exec .twinTimeCompare s = .next (s.twinCompare.closing s) ∧
      s.twinCompare.get Reg.DISCIPLINE_TWIN_OFFSET = s.get Hid.twinStamp) ∧
    (s.twinUp = false → exec .twinTimeCompare s = .next (s.closing s)) ∧
    (∀ (n : Nat) (rising : Bool), n < 3 → s.up 1 = true →
      (s.get (Reg.TIMESTAMP_CAPTURE_EDGE n) = 3 ∨ s.get (Reg.TIMESTAMP_CAPTURE_EDGE n) = (if rising then 1 else 2) →
        exec (.timestampCapture n rising) s =
          .next ((((s.put (Reg.TIMESTAMP_CAPTURE_LAST n) s.nowLT).bump (Reg.TIMESTAMP_CAPTURE_COUNT n)).pulseSeen n rising).closing s)) ∧
      (s.get (Reg.TIMESTAMP_CAPTURE_EDGE n) = 0 ∨ s.get (Reg.TIMESTAMP_CAPTURE_EDGE n) = (if rising then 2 else 1) →
        exec (.timestampCapture n rising) s = .next ((s.pulseSeen n rising).closing s)) ∧
      (n = 0 ∨ rising = false → s.pulseSeen n rising = s) ∧
      (1 ≤ n → (s.pulseSeen n true).get (Hid.pulseStamp (n - 1)) = s.now + 1)) ∧
    (∀ (n : Nat) (rising : Bool), 3 ≤ n → n < 19 → exec (.timestampCapture n rising) s = .next (s.closing s))

/-- Measurements and losses move the candidates, holdover keeps its clock, and rasters tick. A measurement is evaluated by the unit
(State.refMeasurement). The loss of a candidate makes it ABSENT, and the disagreement, the selectable set and the selection
follow at once. In HOLDOVER each second gives the phase estimate, and LOST at either limit of time or phase. After an hour
LOCKED the mean becomes XO_CORRECTION. REF's return selects no candidate, and from ACQUIRING,
LOCKED or HOLDOVER enters HOLDOVER at the frequency in force. A raster that runs does a boundary's work, and the slips held on it
follow its boundaries. -/
def Obligations.ReferenceUnit : Prop :=
  ∀ s : State, s.alive = true → s.up 2 = true →
    (∀ (l : List (Bool × Int)) (out fine : Int), l.length = 5 →
      exec (.refMeasurement l out fine) s = .next ((s.refMeasurement l out fine).closing s)) ∧
    (∀ c : Nat, c < 5 → 2 ≤ s.get (Reg.REF_CANDIDATE_STATUS c) →
      exec (.candidateLoss c) s = .next (((((s.refAbsent c).refDisagree false).refSelectables).refMove none).closing s) ∧
      (s.refAbsent c).get (Reg.REF_CANDIDATE_STATUS c) = 1 ∧
      (s.refAbsent c).get (Reg.REF_CANDIDATE_LOSSES c) =
        min (s.get (Reg.REF_CANDIDATE_LOSSES c) + 1) (counterMax (Reg.REF_CANDIDATE_LOSSES c))) ∧
    (s.get Reg.REF_STATE_STATE = 3 → s.get Hid.leftLocked ≠ 0 →
      let el := s.tickLf - (s.get Hid.leftLocked - 1)
      let e := phaseEstimate (s.get Reg.HOLDOVER_RESIDUAL) (s.get Reg.HOLDOVER_DRIFT) (el / lfSec)
      let t := s.put Reg.HOLDOVER_ESTIMATED_ERROR e
      (el < s.get Reg.HOLDOVER_TIME_LIMIT → e < s.get Reg.HOLDOVER_PHASE_LIMIT → exec .holdoverEvaluation s = .next (t.closing s)) ∧
      (s.get Reg.HOLDOVER_TIME_LIMIT ≤ el ∨ s.get Reg.HOLDOVER_PHASE_LIMIT ≤ e →
        exec .holdoverEvaluation s = .next ((t.refEnter 4).closing s) ∧ (t.refEnter 4).get Reg.REF_STATE_STATE = 4)) ∧
    (s.get Reg.REF_STATE_STATE = 2 → 3600 ≤ s.get Hid.lockN →
      exec .xoCorrection s = .next ((((s.put Reg.REF_STATE_XO_CORRECTION (s.get Hid.lockSum / s.get Hid.lockN)).put
        Hid.lockSum 0).put Hid.lockN 0).closing s)) ∧
    (s.get Hid.refRestartAt ≠ 0 → exec .refRestartReturn s = .next (s.refReturn.closing s) ∧
      s.refReturn.get Reg.REF_SELECTED_CANDIDATE = 255 ∧
      (1 ≤ s.get Reg.REF_STATE_STATE → s.get Reg.REF_STATE_STATE ≤ 3 →
        s.refReturn.get Reg.REF_STATE_STATE = 3 ∧ s.refReturn.get Reg.HOLDOVER_HELD_OFFSET = s.get Reg.REF_STATE_OUTPUT_OFFSET)) ∧
    (∀ r : Nat, r < 32 → s.rasterPeriod r ≠ 0 → s.get (Hid.rasterWait r) ≠ 1 →
      exec (.rasterBoundary r) s = .next (((s.boundaryWork r).slipsTracked r).closing s))

/-- Check points settle slips, boundaries put their values in force, and late time-lines retire. With nothing due, a check point or
a boundary changes no slip. An armed slip alone at its check point is settled with its unit, a launched one alone at its
boundary takes effect with the stamp of that boundary and retires there. A TAKE or CANVAS retires a period later. The twin's
resolution and outcome act only over a link that is up, and once. -/
def Obligations.SlipTimes : Prop :=
  ∀ s : State, s.alive = true →
    (∀ a : Int, exec (.slipCheckPoint a) s = .next ((s.checkPoint a).closing s) ∧
      ((∀ x ∈ s.slips, x.st = .armed → ∀ c, x.check = some c → a < c / 4096 ∨ s.nowFine < c) → s.checkPoint a = s) ∧
      (∀ (x : Slip) (c : Int), s.slips = [x] → s.up 1 = true → x.st = .armed → x.check = some c → c / 4096 ≤ a → c ≤ s.nowFine →
        s.checkPoint a = s.settleUnit s (s.unitOf x))) ∧
    (∀ a : Int, exec (.slipBoundary a) s = .next (((s.slipBoundary a).reconBoundary a).closing s) ∧
      ((∀ x ∈ s.slips, s.firings x a = []) → s.slipBoundary a = s) ∧
      (∀ (x : Slip) (b : Int), s.slips = [x] → x.st = .launched → x.kind ≠ 11 → s.get (Hid.slipApplied x.num) = 0 →
        s.firesAt x a = some b → retiresAtB x.kind = true →
        s.slipBoundary a = (s.applySlip { x with boundary := some b } b).retire x.num)) ∧
    (∀ n : Nat, n < 8192 → (s.slip n).st = .launched → s.get (Hid.slipApplied n) = 1 →
      (s.slip n).boundary.getD 0 + s.slipPeriod (s.slip n) * 4096 ≤ s.nowFine →
      ((s.slip n).kind = 1 → exec (.slipRetire n) s = .next (((s.retire n).takeRetire (s.slip n).target).closing s)) ∧
      ((s.slip n).kind = 4 → exec (.slipRetire n) s = .next (((s.retire n).canvasRetire (s.slip n).target).closing s))) ∧
    (∀ k n launch seq : Nat, n < 8192 →
      (s.hearsTwin k → exec (.gpiResolve k n launch seq) s = .next (((s.heardTwin k).gpiResolveIn n launch seq).closing s)) ∧
      (s.twinUp = false → exec (.gpiResolve k n launch seq) s = .next (s.closing s))) ∧
    (∀ (k n st : Nat) (i : Int), n < 8192 →
      (s.hearsTwin k → exec (.slipOutcome k n st i) s =
        .next ((((s.heardTwin k).put (Hid.twinOutcome n) (outcomeOf st i)).compareOutcome n).closing s)) ∧
      (s.twinUp = false → exec (.slipOutcome k n st i) s = .next (s.closing s)))

/-- A receive lane's presence is timed, decided and then published. A signal that is recovered starts ACQUIRE, its loss starts
LOSS, and as many transitions within the window as CHATTER_EDGES are CHATTER. ACQUIRE elapsed decides PRESENT or
UNSUPPORTED, LOSS elapsed or a quiet window ABSENT. A decision is published at its millisecond: SIGNAL and SINCE show it,
and a loss is counted. -/
def Obligations.SerialPresence : Prop :=
  ∀ (s : State) (n : Nat), s.alive = true → n < 96 →
    (∀ d, exec (.sdiRawTransition n d) s = .next (((s.sdiRawTransition n d).cutsShown s).closing s)) ∧
    (∀ x : SdiLink, s.sdiListens n = true → s.sdiLocks n x = true → s.get (Hid.sdiRaw n) = 0 → s.get (Hid.sdiLane n) = 0 →
      ((s.sdiNote n).sdiEdgeCount n : Int) < s.get (Reg.SDI_RX_CHATTER_EDGES n) →
      let t := s.sdiRawTransition n (some x)
      t.get (Hid.sdiDue n) = s.tickLf + s.get (Reg.SDI_RX_ACQUIRE n) ∧
        t.get (Hid.sdiRaw n) = 1 ∧ t.get (Reg.SDI_RX_RATE n) = x.rate ∧ t.get (Reg.SDI_RX_SIGNAL n) = s.get (Reg.SDI_RX_SIGNAL n)) ∧
    (s.sdiListens n = true → s.get (Hid.sdiRaw n) = 1 → s.get (Hid.sdiLane n) = 1 →
      let t := s.sdiRawTransition n none
      (((s.sdiNote n).sdiEdgeCount n : Int) < s.get (Reg.SDI_RX_CHATTER_EDGES n) →
        t.get (Hid.sdiDue n) = s.tickLf + s.get (Reg.SDI_RX_LOSS n) ∧ t.get (Hid.sdiRaw n) = 0) ∧
      (s.get (Reg.SDI_RX_CHATTER_EDGES n) ≤ (s.sdiNote n).sdiEdgeCount n →
        t.get (Hid.sdiLane n) = 3 ∧ t.get (Hid.sdiQuiet n) = s.tickLf + s.get (Reg.SDI_RX_CHATTER_WINDOW n))) ∧
    (s.get (Hid.sdiDue n) ≠ 0 → s.get (Hid.sdiDue n) ≤ s.tickLf →
      (s.get (Hid.sdiRaw n) = 1 → s.get (Hid.sdiLane n) = 0 → exec (.acquireElapsed n) s =
        .next (((s.sdiDecide n (if s.sdiSupported n then 1 else 2)).put (Hid.sdiDue n) 0).closing s)) ∧
      (s.get (Hid.sdiRaw n) = 0 → s.get (Hid.sdiLane n) = 1 ∨ s.get (Hid.sdiLane n) = 2 → exec (.lossElapsed n) s =
        .next (((s.sdiDecide n 0).put (Hid.sdiDue n) 0).closing s))) ∧
    (s.get (Hid.sdiLane n) = 3 → s.get (Hid.sdiQuiet n) ≤ s.tickLf → exec (.chatterWindowQuiet n) s =
      .next (((s.sdiDecide n 0).put (Hid.sdiDue n)
        (if s.get (Hid.sdiRaw n) = 1 then s.get (Hid.sdiRawAt n) + s.get (Reg.SDI_RX_ACQUIRE n) else 0)).closing s)) ∧
    (s.get (Hid.sdiPubAt n) ≠ 0 → s.get (Hid.sdiPubAt n) - 1 ≤ s.now → exec (.signalPublish n) s = .next ((s.sdiPublish n).closing s) ∧
      (s.get (Reg.LINK_GROUP_RX_SIZE n) = 1 → s.get (Reg.LINK_GROUP_RX_BASE n) = n →
        (s.get (Hid.sdiDecided n) = 2 → s.get (Hid.sdiSig n) = 0 → s.get (Reg.SDI_RX_SIGNAL n) = 0 →
          (s.sdiPublish n).get (Reg.SDI_RX_SIGNAL n) = 1 ∧ (s.sdiPublish n).get (Reg.SDI_RX_SINCE n) = s.nowLT) ∧
        (s.get (Hid.sdiDecided n) = 1 → s.get (Hid.sdiSig n) = 1 → s.get (Reg.SDI_RX_SIGNAL n) = 1 →
          (s.sdiPublish n).get (Reg.SDI_RX_SIGNAL n) = 0 ∧ (s.sdiPublish n).get (Reg.SDI_RX_SINCE n) = s.nowLT ∧
          (s.sdiPublish n).get (Reg.SDI_RX_AUDIO_PRESENT n) = 0 ∧
          (s.sdiPublish n).get (Reg.SDI_STATS_LOSSES n) =
            min (s.get (Reg.SDI_STATS_LOSSES n) + 1) (counterMax (Reg.SDI_STATS_LOSSES n)))))

/-- Input frames are stamped and counted, outputs show a picture at each of their boundaries. A frame at a receive lane of its own is
stamped with the Ledger time and counted while PRESENT, then goes on to whatever takes it. An output that sends does its
frame's work at its raster's boundary and sends what it shows from line 1; a raster that is OFF gives none. A freeze at its limit
goes black. The left twin's decision is kept by a follower until it is used, and nothing comes over a link that is down. -/
def Obligations.FramesInAndOut : Prop :=
  ∀ s : State, s.alive = true →
    (∀ (n : Nat) (f : SdiFrame), n < 96 → exec (.sdiInputFrame n f) s = .next (((s.inputFrame n f).arrived s).closing s) ∧
      (s.sdiListens n = true → s.get (Hid.sdiRaw n) = 1 → s.get (Reg.LINK_GROUP_RX_SIZE n) = 1 →
        s.get (Reg.LINK_GROUP_RX_BASE n) = n →
        (s.sdiInputFrame n f).get (Reg.SDI_RX_FRAME_STAMP n) = ltOfLf s.now ∧
        (s.get (Hid.sdiSig n) = 1 → (s.sdiInputFrame n f).get (Reg.SDI_STATS_FRAMES_RX n) =
          min (s.get (Reg.SDI_STATS_FRAMES_RX n) + 1) (counterMax (Reg.SDI_STATS_FRAMES_RX n))))) ∧
    (∀ o : Nat, o < 16480 → exec (.outputFrameBoundary o) s = .next ((s.outputFrame o).closing s) ∧
      (let w := (s.txWake o).when (decide (o < 96) && (s.txWake o).get Reg.PAIRING_STATE != 3 && (s.txWake o).reconSlips == [])
        (fun u => u.put (Hid.reconHold o) 0)
       (s.rasterPeriod (s.outRaster o) ≠ 0 → w.outputSends o = true → (96 ≤ o ∨ s.txBase o = o) →
        ∃ u : State, s.outputFrame o = (u.emitOutput o 1).takeLook o (lfOfLt (s.get (Reg.RASTER_LAST_BOUNDARY (s.outRaster o))))) ∧
       (s.rasterPeriod (s.outRaster o) = 0 → s.outputFrame o = w))) ∧
    (∀ (u : State) (o line : Nat), (u.emitOutput o line).out = u.out ++ [.output (u.outputPicture o line).1]) ∧
    (∀ o : Nat, o < 16480 → s.get (Hid.outShow o) = 2 → s.get (Hid.outSince o) ≠ 0 → (s.policyOf o).2.2.2 ≠ 0 →
      s.get (Hid.outSince o) - 1 + (s.policyOf o).2.2.2 ≤ s.now →
      let t := s.put (Hid.outShow o) 0
      exec (.freezeLimitExpiry o) s = .next ((if t.outputSends o then
        t.emitOutput o (t.lineFrom o (s.get (Hid.outSince o) - 1 + (s.policyOf o).2.2.2)) else t).closing s)) ∧
    (∀ (k kind el idx : Nat) (v : Int), kind < 6 →
      (s.hearsTwin k → exec (.decision k kind el idx v) s = .next (((s.heardTwin k).decision kind el idx v).closing s) ∧
        ((s.heardTwin k).follower = true → (kind, el, idx, v) ∈ ((s.heardTwin k).decision kind el idx v).decisions)) ∧
      (s.twinUp = false → exec (.decision k kind el idx v) s = .next (s.closing s)))

/-- A fabric lane trains, checks who is at the far end, aligns, goes up, fails and tries again. An allowed lane leaves OFF.
Training done records the far end and the delay, and leads to ALIGNING where identity and delay are right, to FAILED with its
fault where the identity is wrong and to FAILED where the delay is over 3,600 lf; a twin lane goes UP. Training for 500 ms fails.
Ten aligned periods bring UP, a failure of an UP lane FAILED with a fault, and 100 ms later it trains again, or goes OFF.
LANE_STATUS of a good CRC shows the far end and moves an edge's advance by at most 20 lf, one of a wrong CRC is counted. -/
def Obligations.FabricLanes : Prop :=
  (∀ (s : State) (l : Nat), s.alive = true → l < 66 →
    (s.laneState l = 0 → s.laneAllowed l = true →
      exec (.fabTrainingStart l) s = .next (((s.laneEnter l 1).put (Hid.alignRun l) 0).closing s)) ∧
    (s.laneState l = 1 →
      (s.get (Hid.laneAt l) + 26460000000 ≤ s.tickLf → exec (.fabTrainingTimeout l) s = .next ((s.laneEnter l 4).closing s)) ∧
      (s.tickLf < s.get (Hid.laneAt l) + 26460000000 → exec (.fabTrainingTimeout l) s = .next (s.closing s)) ∧
      (∀ role slot lane side delay : Nat,
        let t := (((s.put (Reg.FAB_LANE_PEER_ROLE l) role).put (Reg.FAB_LANE_PEER_SLOT l) slot).put (Reg.FAB_LANE_PEER_LANE l)
          lane).put (Reg.FAB_LANE_DELAY l) delay
        let u := (s.put Reg.TWIN_LINK_DELAY delay).put Reg.PAIRING_PARTNER_SLOT slot
        (l < 64 → s.identityOk l role slot lane side = true → exec (.fabTrainingDone l role slot lane side delay) s =
          .next ((t.laneEnter l (if 3600 < delay then 4 else 2)).closing s)) ∧
        (l < 64 → s.identityOk l role slot lane side = false → exec (.fabTrainingDone l role slot lane side delay) s =
          .next (((t.laneEnter l 4).raise (496 + l) 2 l).closing s)) ∧
        (64 ≤ l → s.identityOk l role slot lane side = true → exec (.fabTrainingDone l role slot lane side delay) s =
          .next ((u.laneEnter l (if 3600 < delay then 4 else 3)).closing s)))) ∧
    (s.laneState l = 2 → l < 64 → 10 ≤ s.get (Hid.alignRun l) → exec (.fabAligned l) s = .next ((s.laneEnter l 3).closing s)) ∧
    (s.laneState l = 3 →
      (l < 64 → exec (.fabLaneDown l) s = .next (((s.laneEnter l 4).raise (496 + l) 1 l).closing s)) ∧
      (64 ≤ l → exec (.fabLaneDown l) s = .next ((s.laneEnter l 4).closing s))) ∧
    (s.laneState l ≠ 3 → exec (.fabLaneDown l) s = .next (s.closing s)) ∧
    (s.laneState l = 4 → s.get (Hid.laneAt l) + 5292000000 ≤ s.tickLf →
      (s.laneAllowed l = true → exec (.fabRetry l) s = .next (((s.laneEnter l 1).put (Hid.alignRun l) 0).closing s)) ∧
      (s.laneAllowed l = false → exec (.fabRetry l) s = .next ((s.laneEnter l 0).closing s))) ∧
    (∀ x : LaneStatus, l < 64 → 1 ≤ s.laneState l → s.laneState l ≤ 3 →
      exec (.laneStatus l false x) s = .next ((s.bump (Reg.FAB_STATS_CRC_ERRORS l)).closing s) ∧
      (let t := (s.bump (Reg.FAB_STATS_CELLS_RX l)).laneStatus l x
       exec (.laneStatus l true x) s = .next (t.closing s) ∧ t.get (Reg.FAB_LANE_PEER_ROLE l) = x.role ∧
       t.get (Reg.FAB_LANE_PEER_SLOT l) = x.slot ∧ t.get (Reg.FAB_LANE_PEER_LANE l) = x.lane ∧ t.laneState l = s.laneState l ∧
       (t.get (Reg.FAB_LANE_ADVANCE l) - s.get (Reg.FAB_LANE_ADVANCE l)).natAbs ≤ 20))) ∧
  (∀ (s : State) (l : Nat) (st : Int), l < 64 → s.up 2 = false →
    (s.laneEnter l st).laneState l = st ∧ (s.laneEnter l st).get (Hid.laneAt l) = s.tickLf ∧
    (st = 3 → (s.laneEnter l st).get (Reg.FAB_LANE_UP_SINCE l) = s.nowLT))

/-- A pattern's slots are as many as its count, all different, and a mask in three parts loses no slot. For any phase, a pattern
of count slots, one to all 4,410 of the period, has exactly that many, each below 4,410 and no two alike. A full mask cut
into its three parts of LANE_STATUS and put together over any mask is that mask. -/
def Obligations.PatternSlots : Prop :=
  (∀ phase count : Nat, count ≤ 4410 → (patSlots phase count).length = count ∧ (patSlots phase count).Nodup ∧
    ∀ t ∈ patSlots phase count, t < 4410) ∧
  (∀ m b : Nat, m < 2 ^ 4416 → b < 2 ^ 4416 →
    maskWithPart (maskWithPart (maskWithPart b 0 (maskPart m 0)) 1 (maskPart m 1)) 2 (maskPart m 2) = m) ∧
  (∀ m k : Nat, k < 3 → maskPart m k < 2 ^ 1792)

/-- Control cells that an UP lane delivers act at the island X they are for. On an UP lane a centre keeps RESERVE and RELEASE for its
cut-off, also while X does not run, and an edge device ends the pattern a RELEASE names; with X running an edge device loads a
GRANT, sends what an ASSIGN gives it and moves on after a DENY, and an OFFER enters the table. The cell is counted. A cell of a
wrong CRC is counted and dropped. On a lane that is not UP nothing happens; with X not running the others are only counted. -/
def Obligations.ControlCells : Prop :=
  ∀ (s : State) (l stamp : Nat) (r : Resv) (recs : List OfferRec), s.alive = true → l < 64 →
    (s.laneUp l = true →
      let t := s.bump (Reg.FAB_STATS_CELLS_RX l)
      (t.edge = false →
        exec (.reserve l true r) s = .next (({ t with requests := s.requests ++ [(true, r)] } : State).closing s) ∧
        exec (.releaseCell l true r) s = .next (({ t with requests := s.requests ++ [(false, r)] } : State).closing s)) ∧
      (t.edge = true → exec (.releaseCell l true r) s = .next ((t.releaseAtOrigin l r).closing s) ∧
        exec (.reserve l true r) s = .next (t.closing s)) ∧
      (s.runs 5 = true →
        (t.edge = true → exec (.grant l true r) s = .next ((t.grantCell l r).closing s) ∧
          exec (.assign l true r) s = .next ((t.assignCell l r).closing s) ∧
          exec (.deny l true r) s = .next ((t.denyCell r).closing s)) ∧
        exec (.offer l true stamp recs) s = .next (((t.offerCell stamp recs).wantSubs).closing s)) ∧
      (s.runs 5 = false → exec (.grant l true r) s = .next (t.closing s) ∧ exec (.offer l true stamp recs) s = .next (t.closing s)) ∧
      (let e := s.bump (Reg.FAB_STATS_CRC_ERRORS l)
       exec (.reserve l false r) s = .next (e.closing s) ∧ exec (.releaseCell l false r) s = .next (e.closing s) ∧
       exec (.grant l false r) s = .next (e.closing s) ∧ exec (.assign l false r) s = .next (e.closing s) ∧
       exec (.deny l false r) s = .next (e.closing s) ∧ exec (.offer l false stamp recs) s = .next (e.closing s))) ∧
    (∀ crc : Bool, s.laneUp l = false → exec (.reserve l crc r) s = .next (s.closing s) ∧
      exec (.releaseCell l crc r) s = .next (s.closing s) ∧ exec (.grant l crc r) s = .next (s.closing s) ∧
      exec (.assign l crc r) s = .next (s.closing s) ∧ exec (.deny l crc r) s = .next (s.closing s) ∧
      exec (.offer l crc stamp recs) s = .next (s.closing s))

/-- Periods begin once, cut-offs settle, essence is merged or forwarded, and planes fail over. A calendar period begins once. A
cut-off from slot 3,528 on settles at a centre. An ESSENCE or PRESENCE cell of a wrong CRC is counted and dropped; a good
one is taken at its subscription, or forwarded by a centre. The offers are resent, a second's worth in proportion, and one not
refreshed for 3 s leaves the table. A held cell, a failed plane, a plane with no path and a subscription long on one plane are
dealt with at their times. -/
def Obligations.EssenceAndPeriods : Prop :=
  ∀ s : State, s.alive = true →
    (∀ lanes : List LanePeriod, (∀ x ∈ lanes, x.lane < 64) →
      (s.getN Hid.calPeriod ≠ s.period →
        exec (.calendarPeriod lanes) s = .next ((((s.presenceCells).calendarPeriod lanes).offerChanges).closing s)) ∧
      (s.getN Hid.calPeriod = s.period → exec (.calendarPeriod lanes) s = .next (s.closing s))) ∧
    (exec .reservationCutoff s = .next (s.cutoff.closing s) ∧ (s.edge = true → s.cutoff = s) ∧
      (s.now % calLf < 4233600 → s.cutoff = s)) ∧
    (∀ (l slot : Nat) (c : Cell), l < 64 → slot < 4410 → ¬(3 ≤ c.kind ∧ c.kind ≤ 7) → c.kind ≠ 0 → s.laneUp l = true →
      (∀ crc : Bool, exec (.essence l slot crc c) s = .next (((s.essence l slot crc c).arrived s).closing s)) ∧
      s.essence l slot false c = s.bump (Reg.FAB_STATS_CRC_ERRORS l) ∧
      exec (.presence l slot false c) s = .next ((s.bump (Reg.FAB_STATS_CRC_ERRORS l)).closing s) ∧
      (s.runs 5 = true →
        let t := s.bump (Reg.FAB_STATS_CELLS_RX l)
        (s.edge = false → s.essence l slot true c = t.forward l slot c ∧
          exec (.presence l slot true c) s = .next ((t.forward l slot c).closing s)) ∧
        (∀ x : FabSub, s.edge = true → t.subOf c.shelf = some x → exec (.presence l slot true c) s =
          .next ((t.setSub ((x.withPlane c.plane { x.plane c.plane with lastCell := s.tickLf }).learn
            (restoreStamp 40 c.stamp s.now) (cellSrc c))).closing s)))) ∧
    (s.edge = true → s.runs 5 = true →
      let sec := s.period / 10000 + 1
      let done := if s.getN Hid.offerSec = sec then s.getN Hid.offerDone else 0
      let due := s.localOffers.length * (s.period % 10000 + 1) / 10000
      exec .offerResend s = .next ((((s.put Hid.offerSec (sec : Nat)).put Hid.offerDone (max done due : Nat)).sendOffers
        ((s.localOffers.take due).drop done)).closing s)) ∧
    (∀ m : Nat, exec (.offerExpiry m) s = .next ((s.offerExpiry m).closing s) ∧
      ∀ o ∈ s.offers, (o ∈ (s.offerExpiry m).offers ↔ o.1.shelf ≠ m ∨ s.tickLf < o.2 + 3 * lfSec)) ∧
    (∀ (el link : Nat), el < 4096 → link < 4 → exec (.cellHoldExpiry el link) s = .next (((s.holdExpiry el link).arrived s).closing s)) ∧
    (∀ (el p : Nat) (x : FabSub), el < 4096 → p < 2 → s.fabSubs.find? (fun y => y.el == el) = some x →
      (s.planeFailed x p = true → (x.plane (1 - p)).st = 2 → s.planeFailed x (1 - p) = false →
        let y := x.withPlane p { x.plane p with
          st := 0, start := (((x.plane p).centre + 32 - firstCentre x.shelf p) % 32 + 1) % 32, tried := 0, move := none, old := none }
        exec (.planeFailure el p) s =
          .next (((((s.releasePlane x p).bump (Reg.FAB_SUB_REPLANS el)).setSub y).reservePlane y p).closing s)) ∧
      (s.planeFailed x p = false → exec (.planeFailure el p) s = .next (s.closing s))) ∧
    (∀ (el : Nat) (x : FabSub), el < 4096 → s.fabSubs.find? (fun y => y.el == el) = some x → x.protect = false →
      ((x.plane 0).st = 3 → (x.plane 0).since + 100 * calLf ≤ s.tickLf → x.users ≠ [] →
        exec (.pathRetry el) s = .next ((s.reservePlane (x.withPlane 0 { x.plane 0 with start := 0, tried := 0 }) 0).closing s)) ∧
      exec (.fabUnprotected el) s = .next ((s.setSub { x with singleAt := 0, unprotected := false }).closing s)) ∧
    (∀ (el : Nat) (x : FabSub), el < 4096 → s.fabSubs.find? (fun y => y.el == el) = some x → x.protect = true →
      x.plane0.st = 2 → x.plane1.st ≠ 2 → x.singleAt ≠ 0 → x.unprotected = false → x.singleAt + 529200000 ≤ s.tickLf →
      exec (.fabUnprotected el) s = .next (((s.setSub { x with unprotected := true }).raise 18).closing s))

/-- Messages of the twin link are counted, checked and acted on, and the link goes up and down by them. A MIRROR with a bad tag
is counted and dropped; a good one is applied where every check passes, and acknowledged. HEALTH leaves with a sequence of its
own and, received, is taken. A second copy is only counted. The link comes up with a lane UP and a fresh HEALTH, re-keys and
reconciles; without them it goes down, counts it, and a reconciling device is PAIRED_DOWN. A reconciliation overdue raises its
fault and starts again 10 s later. With no lane UP, messages do nothing. -/
def Obligations.TwinMessages : Prop :=
  ∀ s : State, s.alive = true → s.edge = true →
    (s.get Reg.TWIN_LINK_LANES ≠ 0 →
      (∀ n : Nat, s.twinSeen.contains n = false →
        let u : State := { s with twinSeen := (n :: s.twinSeen).take 64 }
        let t := u.bump Reg.TWIN_LINK_MESSAGES_RX
        (∀ (seq : Nat) (r : MirrorReq),
          exec (.mirror n false seq r) s = .next ((u.bump Reg.TWIN_LINK_TAG_FAILURES).closing s) ∧
          (t.mirrorStatus r = .ok →
            exec (.mirror n true seq r) s = .next (((t.reqApply true t.nowLT.toNat r).sendTwin (.mirrorAck seq .ok)).closing s)) ∧
          (t.mirrorStatus r ≠ .ok → exec (.mirror n true seq r) s =
            .next (((t.bump Reg.PAIRING_MIRROR_REFUSALS).sendTwin (.mirrorAck seq (t.mirrorStatus r))).closing s))) ∧
        (∀ h : HealthMsg, exec (.health n h) s = .next ((u.healthIn h).closing s)) ∧
        (∀ (m : Nat) (tag last : Bool) (values standing : List (Nat × Nat × Nat × Int)) (slips : List SlipCopy),
          exec (.reconcile n tag (some m) last values standing slips) s =
            .next ((((t.put Hid.twinM m).put Hid.rekeying 0).reconSend).closing s) ∧
          exec (.reconcile n false none last values standing slips) s = .next ((u.bump Reg.TWIN_LINK_TAG_FAILURES).closing s) ∧
          (s.get Reg.PAIRING_STATE = 3 → last = false → exec (.reconcile n true none last values standing slips) s =
            .next (({ t with reconBuf := s.reconBuf ++ values.map reconItem } : State).closing s)) ∧
          (s.get Reg.PAIRING_STATE = 3 → last = true → exec (.reconcile n true none last values standing slips) s =
            .next ((({ t with reconBuf := s.reconBuf ++ values.map reconItem } : State).reconApply standing slips).closing s)))) ∧
      (∀ (n : Nat) (h : HealthMsg), s.twinSeen.contains n = true →
        exec (.health n h) s = .next ((s.bump Reg.TWIN_LINK_DUPLICATES).closing s)) ∧
      exec .healthSend s = .next ((s.twinSend (.health s.ownHealth)).closing s)) ∧
    (s.get Reg.TWIN_LINK_LANES = 0 → (∀ (n : Nat) (h : HealthMsg), exec (.health n h) s = .next (s.closing s)) ∧
      exec .healthSend s = .next (s.closing s) ∧
      ∀ (n : Nat) (tag : Bool) (seq : Nat) (r : MirrorReq), exec (.mirror n tag seq r) s = .next (s.closing s)) ∧
    (s.twinUp = false → s.twinAlive = true → exec .twinLinkUp s =
      .next (((s.put Reg.TWIN_LINK_STATE 1).rekey.reconStart).closing s)) ∧
    (s.twinAlive = true → exec .twinLinkDown s = .next (s.closing s)) ∧
    (s.twinUp = true → s.twinAlive = false → exec .twinLinkDown s = .next (s.linkFalls.settleQueue.closing s) ∧
      s.linkFalls.get Reg.TWIN_LINK_STATE = 0 ∧
      (2 ≤ s.get Reg.PAIRING_STATE → s.get Reg.PAIRING_STATE ≤ 4 → s.linkFalls.get Reg.PAIRING_STATE = 1) ∧
      s.linkFalls.get Reg.TWIN_LINK_DOWN_EVENTS =
        min (s.get Reg.TWIN_LINK_DOWN_EVENTS + 1) (counterMax Reg.TWIN_LINK_DOWN_EVENTS)) ∧
    (s.reconciling = true →
      (s.get Hid.reconRestart = 0 → s.get Hid.reconAt + 105840000000 ≤ s.tickLf →
        exec .reconcileTimeout s = .next (((s.raise 191).put Hid.reconRestart (s.tickLf + 529200000000)).closing s)) ∧
      (s.get Hid.reconRestart ≠ 0 → s.get Hid.reconRestart ≤ s.tickLf → s.twinUp = true →
        exec .reconcileRestart s = .next (s.reconStart.closing s) ∧
        s.reconStart.get Reg.PAIRING_STATE = (if s.isSource then 2 else 3)))

/-- Words of the good-output bus carry the good bits, and egress moves at its millisecond. With X running in the edge role a
word is sent: GOOD shows the good bits, WORDS counts, and the word holds them with its count, loan, SAFE, side and pairing
under a CRC. With X not running none is sent. A change of the egress MACs waits for its millisecond boundary. -/
def Obligations.GoodOutputs : Prop :=
  ∀ s : State, s.alive = true →
    (s.edge = true → s.runs 5 = true → exec .gobWord s = .next (((((s.put Reg.GOB_GOOD (s.goodBits : Nat)).bump Reg.GOB_WORDS).put
        Hid.gobCount ((s.get Hid.gobCount + 1) % 256)).send (.pin 1 0 (s.gobWordValue : Nat))).closing s)) ∧
    (let w := s.gobWordValue
     (s.get Hid.gobCount < 256 → w / 256 / 2 ^ 16 % 2 ^ 96 = s.goodBits % 2 ^ 96) ∧ w / 256 % 2 ^ 4 = 0 ∧
     bitOf w 12 = s.paired ∧ bitOf w 13 = !s.left ∧ bitOf w 15 = s.lent) ∧
    (s.edge = false ∨ s.runs 5 = false → exec .gobWord s = .next (s.closing s)) ∧
    (s.get Hid.egressMuted = 0 →
      (s.get Hid.egressAt ≠ 0 → s.get Hid.egressAt - 1 ≤ s.now →
        exec .egressSwitch s = .next (((s.put Hid.egressAt 0).refreshEgress).closing s)) ∧
      (s.get Hid.egressAt = 0 ∨ s.now < s.get Hid.egressAt - 1 → exec .egressSwitch s = .next (s.closing s))) ∧
    (s.get Hid.egressMuted = 1 → s.get Hid.safeExitAt ≠ 0 → msCeil (s.get Hid.safeExitAt) ≤ s.now → s.get Hid.egressAt = 0 →
      exec .egressSwitch s = .next ((s.put Hid.egressMuted 0).closing s))

/-- MACs come up and down, check what they receive, and send at their gates' times. An active MAC comes UP with its time; the
loss of an UP link is counted and queued to be raised, and the MAC trains anew. A frame on an UP MAC that fails a check is dropped
and counted under it alone beside the FEC's counts, in the order FCS, length, PAUSE, tag, filter. A frame starts only on an UP
MAC that is not busy, and lasts its wire time rounded up. The control ports receive and send too. Gate entries take over where
the island runs, and reports of what changed leave at their interval. -/
def Obligations.NetworkPorts : Prop :=
  (∀ (s : State) (m : Nat), s.alive = true → m < 16 →
    (s.macActive m = true → s.runs (19 + m / 4) = true → s.get (Reg.MAC_LINK m) ≠ 2 →
      exec (.macLinkUp m) s =
        .next ((((s.put (Reg.MAC_LINK m) 2).put (Reg.MAC_UP_SINCE m) s.nowLT).put (Hid.macUpAt m) s.tickLf).closing s)) ∧
    (∀ corrected lost : Nat,
      (s.get (Reg.MAC_LINK m) = 2 → exec (.netLinkDown m corrected lost) s =
        .next (((((s.fecCount m corrected lost).macFalls m).settleQueue).macTrain m).closing s)) ∧
      (s.get (Reg.MAC_LINK m) ≠ 2 → exec (.netLinkDown m corrected lost) s = .next (s.closing s))) ∧
    (s.get (Reg.MAC_LINK m) = 2 → (s.macFalls m).get (Reg.MAC_LINK m) = 0 ∧
      (s.macFalls m).get (Reg.NET_STATS_LINK_DOWNS m) =
        min (s.get (Reg.NET_STATS_LINK_DOWNS m) + 1) (counterMax (Reg.NET_STATS_LINK_DOWNS m)) ∧
      (∀ x ∈ (s.macFalls m).txQueue, x.mac = m → 5 < x.cls)) ∧
    (∀ f : NetFrame, exec (.macFrameRx m f) s = .next (((s.frameRx m f).arrived s).closing s) ∧
      (s.macActive m = true → s.get (Reg.MAC_LINK m) = 2 → s.runs (19 + m / 4) = true →
        let u := s.fecCount m f.corrected f.lost
        (f.fcsOk = false ∨ f.spoiled = true → s.frameRx m f = u.bump (Reg.NET_STATS_RX_FCS_ERRORS m)) ∧
        (f.fcsOk = true → f.spoiled = false → f.bytes < 64 ∨ 9216 < f.bytes →
          s.frameRx m f = u.bump (Reg.NET_STATS_RX_LENGTH_ERRORS m)) ∧
        (f.fcsOk = true → f.spoiled = false → 64 ≤ f.bytes → f.bytes ≤ 9216 →
          (f.kind = .pause → s.frameRx m f = u.bump (Reg.NET_STATS_RX_PAUSE m)) ∧
          (f.kind ≠ .pause → u.tagOk m f.tags = false → s.frameRx m f = u.bump (Reg.NET_STATS_RX_VLAN_DROPS m)) ∧
          (f.kind ≠ .pause → u.tagOk m f.tags = true → u.filterPass m f.dest = false → s.frameRx m f =
            ((u.bump (Reg.NET_STATS_RX_FRAMES m)).bumpBy (Reg.NET_STATS_RX_BYTES m) f.bytes).bump (Reg.NET_STATS_RX_FILTERED m)))) ∧
      (s.get (Reg.MAC_LINK m) ≠ 2 → s.frameRx m f = s)) ∧
    (exec (.macFrameStart m) s = .next ((s.frameStart m).closing s) ∧
      (s.get (Reg.MAC_LINK m) ≠ 2 ∨ s.tickLf < s.get (Hid.macBusy m) → s.frameStart m = s)) ∧
    (∀ p : Nat, 16 ≤ p → p < 19 → (∀ f : NetFrame, exec (.macFrameRx p f) s = .next ((s.ctlFrameRx p f).closing s)) ∧
      exec (.macFrameStart p) s = .next ((s.ctlFrameStart p).closing s)) ∧
    (∀ (j : Nat) (left : Int), s.runs (19 + m / 4) = true →
      gateAt (s.gates m) 0 (s.now - s.cycleStart m s.now) = some (j, left) →
      exec (.gateEntry m) s =
        .next (((s.put (Reg.GATE_LIST_CYCLE_START m) (ltOfLf (s.cycleStart m s.now))).put (Hid.gateIndex m) j).closing s)) ∧
    (0 < s.get (Hid.reports m) →
      (1 < s.get (Hid.reports m) → s.get (Hid.reportAt m) = 0 ∨ s.get (Hid.reportAt m) + s.get Reg.MEMBERSHIP_INTERVAL ≤ s.tickLf →
        exec (.membershipReport m) s = .next ((((s.each (s.memNews.filter (fun x => x.1 == m)) (fun t x => t.report m x.2.1 x.2.2)).put
          (Hid.reports m) (s.get (Hid.reports m) - 1)).put (Hid.reportAt m) (max s.tickLf 1)).closing s)) ∧
      (s.get (Hid.reportAt m) ≠ 0 → s.tickLf < s.get (Hid.reportAt m) + s.get Reg.MEMBERSHIP_INTERVAL →
        exec (.membershipReport m) s = .next (s.closing s)))) ∧
  (∀ bytes : Nat, 10000 * wireTime 400 bytes - ((bytes + 20) * 8 * 1323 : Nat) < 10000 ∧
    (((bytes + 20) * 8 * 1323 : Nat) : Int) ≤ 10000 * wireTime 400 bytes ∧ wireTime 200 bytes ≤ 2 * wireTime 400 bytes ∧
    wireTime 100 bytes ≤ 4 * wireTime 400 bytes)

/-- A first copy of a packet is held, a second is a duplicate, and one past its need time is late. On a flow whose Concordance
is empty a well-formed packet that fits and comes in time is held under its key, counted FIRST on its path. The same key again
is counted as a duplicate and not held. A packet at or before the key consumed last is LATE. A packet of another version, or of
a wrong length, is malformed. Serial numbers order around their wrap: a number is never after itself, and of two not half the
range apart just one is after the other. -/
def Obligations.PacketConcordance : Prop :=
  (∀ (s : State) (f : Nat) (p : Rtp), f < 16384 → s.get (Reg.FLOW_TYPE f) ≠ 5 →
    s.get (Reg.FLOW_PATH_STATE f) = 2 →
    let key := (s.keyTime f p.ts, s.keySeq f p)
    let b := s.bufOf f
    (p.version ≠ 2 ∨ p.fits = false → (s.flowPacket f false p).bufOf f = b ∧
      (s.flowPacket f false p).get (Reg.CONCORDANCE_MALFORMED f) =
        min (s.get (Reg.CONCORDANCE_MALFORMED f) + 1) (counterMax (Reg.CONCORDANCE_MALFORMED f))) ∧
    (p.version = 2 → p.fits = true → b.held = [] → b.any = false → s.now ≤ s.lastNeed f key.1 → p.bytes ≤ s.bufferBytes f →
      ((s.flowPacket f false p).bufOf f).held = [⟨key.1, key.2, p.bytes, false, s.tickLf, p.marker⟩] ∧
      (s.flowPacket f false p).get (Reg.CONCORDANCE_FIRST_A f) =
        min (s.get (Reg.CONCORDANCE_FIRST_A f) + 1) (counterMax (Reg.CONCORDANCE_FIRST_A f))) ∧
    (p.version = 2 → p.fits = true → (∃ h ∈ b.held, h.t = key.1 ∧ h.q = key.2) →
      (s.flowPacket f false p).bufOf f = b ∧ (s.flowPacket f false p).get (Reg.CONCORDANCE_DUPLICATES f) =
        min (s.get (Reg.CONCORDANCE_DUPLICATES f) + 1) (counterMax (Reg.CONCORDANCE_DUPLICATES f))) ∧
    (p.version = 2 → p.fits = true → b.held = [] → b.any = true → flowKeyLe (s.seqBits f) key (b.t, b.q) = true →
      (s.flowPacket f false p).bufOf f = b ∧ (s.flowPacket f false p).get (Reg.CONCORDANCE_LATE f) =
        min (s.get (Reg.CONCORDANCE_LATE f) + 1) (counterMax (Reg.CONCORDANCE_LATE f)))) ∧
  (∀ w a b : Nat, 0 < w → a < 2 ^ w → b < 2 ^ w → serialAfter w a a = false ∧
    ¬(serialAfter w a b = true ∧ serialAfter w b a = true) ∧
    (a ≠ b → (a + 2 ^ w - b) % 2 ^ w ≠ 2 ^ (w - 1) → serialAfter w a b = true ∨ serialAfter w b a = true)) ∧
  (∀ w a b : Nat, 0 < w → a < 2 ^ w → b < 2 ^ w → (a + seqGap w a b) % 2 ^ w = b)

/-- A flow's times take what is needed, watch its paths, publish its presence and weed it. At its need time, not before, a
flow's consumer takes up to the key, and counts what misses. A path silent for 10 ms reads NO_PACKETS, with FLOW_PATH_LOSS
while the other receives. The mean skew of the second is shown. A change of presence is published at its millisecond with SINCE.
A quiet, unused flow of a lent device is weeded at a second, one of a device that is not lent is not. A pacer releases only a
packet that is planned and due. A gap of a COMPRESSED flow waits 1 ms. -/
def Obligations.FlowCommands : Prop :=
  ∀ (s : State) (f : Nat), s.alive = true → f < 16384 →
    (∀ (t : Int) (q line : Nat), s.get (Reg.FLOW_ENABLE f) ≠ 0 → s.get (Reg.FLOW_TYPE f) ≠ 5 → s.runs 6 = true →
      (s.needTime f t line ≤ s.now → exec (.needTime f t q line) s = .next ((s.consume f t q).closing s)) ∧
      (s.now < s.needTime f t line → exec (.needTime f t q line) s = .next (s.closing s))) ∧
    (s.get (Reg.FLOW_PATH_STATE f) = 2 → s.get (Hid.flowLastA f) - 1 + 529200000 ≤ s.tickLf →
      (s.get (Reg.FLOW_PATH_STATE (f + 16384)) = 2 → exec (.noPackets f 0) s =
        .next ((((s.put (Reg.FLOW_PATH_STATE f) 1).flowPubDue f).raise (578 + s.getN (Reg.FLOW_MAC f)) 1 f).closing s)) ∧
      (s.get (Reg.FLOW_PATH_STATE (f + 16384)) ≠ 2 → exec (.noPackets f 0) s =
        .next (((s.put (Reg.FLOW_PATH_STATE f) 1).flowPubDue f).closing s))) ∧
    (s.get (Reg.FLOW_PATH_STATE (f + 16384)) = 2 → s.get (Hid.flowLastB f) - 1 + 529200000 ≤ s.tickLf →
      s.get (Reg.FLOW_PATH_STATE f) = 2 → exec (.noPackets f 1) s =
        .next ((((s.put (Reg.FLOW_PATH_STATE (f + 16384)) 1).flowPubDue f).raise
          (578 + s.getN (Reg.FLOW_MAC (f + 16384))) 1 f).closing s)) ∧
    (let l := s.skewLags f
     let t : State := { s with skews := s.skews.filter (fun x => x.flow != f || (!(x.a.isSome && x.b.isSome) &&
       decide (s.tickLf < max (x.a.getD 0) (x.b.getD 0) + 10 * lfSec))) }
     (s.get (Reg.FLOW_ENABLE f) = 0 → exec (.flowSkew f) s = .next (t.closing s)) ∧
     (s.get (Reg.FLOW_ENABLE f) ≠ 0 → s.get (Reg.FLOW_PATH_STATE f) = 2 → s.get (Reg.FLOW_PATH_STATE (f + 16384)) = 2 →
       (∃ d ∈ l, -d ≤ 7938000000) → (∃ d ∈ l, d ≤ 7938000000) →
       exec (.flowSkew f) s = .next ((t.put (Reg.CONCORDANCE_SKEW f) (l.foldl (· + ·) 0 / (l.length : Int))).closing s))) ∧
    (s.get (Hid.flowPubAt f) ≠ 0 → s.get (Hid.flowPubAt f) - 1 ≤ s.now → s.get (Reg.FLOW_ENABLE f) ≠ 0 →
      let v : Int := if (s.pathsOf f).any (fun e => s.get (Reg.FLOW_PATH_STATE e) == 2) then 1 else 2
      (s.get (Reg.FLOW_STATE f) ≠ v → exec (.flowPresencePublish f) s =
        .next ((((s.put (Hid.flowPubAt f) 0).put (Reg.FLOW_STATE f) v).put (Reg.CONCORDANCE_SINCE f) s.nowLT).closing s)) ∧
      (s.get (Reg.FLOW_STATE f) = v → exec (.flowPresencePublish f) s = .next ((s.put (Hid.flowPubAt f) 0).closing s))) ∧
    (s.now % lfSec < 53 → s.get (Reg.FLOW_WEED f) ≠ 0 → s.get (Reg.FLOW_STATE f) = 2 →
      lfOfLt (s.get (Reg.CONCORDANCE_SINCE f)) + s.get (Reg.FLOW_WEED f) ≤ s.now → s.flowUsers f = 0 → s.paired = false →
      (s.lent = true → exec (.weed f) s =
        .next ((s.writeApply false [⟨addrOf (Reg.FLOW_ENABLE f), encodeValue .bool 0⟩]).closing s)) ∧
      (s.lent = false → exec (.weed f) s = .next (s.closing s))) ∧
    (∀ (frame : Int) (i : Nat), exec (.pacerRelease f frame i) s = .next ((s.pacerRelease f frame i).closing s) ∧
      (s.paced (32768 + f) frame i = none → s.pacerRelease f frame i = s) ∧
      (∀ r plan, s.paced (32768 + f) frame i = some (r, plan) → s.now < plan.release → s.pacerRelease f frame i = s)) ∧
    (s.get (Reg.FLOW_TYPE f) = 5 →
      (∀ h, firstKey 16 (s.bufOf f).held = some h → s.tickLf < h.at_ + lfMs → exec (.compressedGap f) s = .next (s.closing s)) ∧
      (∀ h, firstKey 16 (s.bufOf f).held = some h → h.at_ + lfMs ≤ s.tickLf → (s.bufOf f).any = false →
        exec (.compressedGap f) s = .next ((((s.bumpBy (Reg.CONCORDANCE_LOST f) 0).setBuf
          { s.bufOf f with any := true, t := h.t, q := (h.q + 65535) % 65536 }).compressedDrain f ((s.bufOf f).held.length + 1)).closing s)))

/-- Canvases compose at their boundaries, compiles end, captures complete, and memories count their errors. A running canvas
counts its frame with its boundary; one that does not run only shows its state. A compile that was asked for ends READY with
the shadow, or FAILED with none. A capture is complete once its recorder has passed OUT. An uncorrectable error is counted and
raised, a corrected one counted, a scrub pass counted, each only while its memory works. -/
def Obligations.CanvasesAndMemories : Prop :=
  ∀ s : State, s.alive = true →
    (∀ (k : Nat) (pics : List SrcPic) (probes : List Probe), k < 256 →
      let t := s.canvasBoundary k pics probes
      exec (.canvasBoundary k pics probes) s = .next (t.closing s) ∧
      (s.canvasStateOf k ≠ 1 → t = s.put (Reg.CANVAS_STATE k) (s.canvasStateOf k)) ∧
      (s.canvasStateOf k = 1 → t.get (Reg.CANVAS_STATE k) = 1 ∧
        t.get (Reg.CANVAS_LAST_BOUNDARY k) = s.get (Reg.RASTER_LAST_BOUNDARY (s.getN (Reg.CANVAS_RASTER k))) ∧
        t.get (Reg.CANVAS_FRAMES k) = min (s.get (Reg.CANVAS_FRAMES k) + 1) (counterMax (Reg.CANVAS_FRAMES k)))) ∧
    (s.get Reg.AUDIO_COMPILE_STATE = 1 → ∃ t : State, exec .compileComplete s = .next (t.closing s) ∧
      t.get Reg.AUDIO_COMPILE_RESULT = s.compileVerdict.1.code ∧ t.get Reg.AUDIO_COMPILE_FAULT_ITEM = s.compileVerdict.2 ∧
      t.get Reg.AUDIO_COMPILE_OPERATIONS = operations s.draftBuses s.draftEdges ∧
      (s.compileVerdict.1 = .ok → t.get Reg.AUDIO_COMPILE_STATE = 2 ∧ t.progShadow = s.compiled ∧
        t.get Reg.AUDIO_COMPILE_PROGRAM_ID = progId s.compiled) ∧
      (s.compileVerdict.1 ≠ .ok → t.get Reg.AUDIO_COMPILE_STATE = 3 ∧ t.progShadow = ⟨0, [], [], 0⟩ ∧
        t.get Reg.AUDIO_COMPILE_PROGRAM_ID = 0) ∧ t.progRun = s.progRun) ∧
    (s.get Reg.AUDIO_COMPILE_STATE ≠ 1 → exec .compileComplete s = .next (s.closing s)) ∧
    (∀ k r : Nat, k < 1024 → s.get (Hid.clipRec k) = r + 1 → s.get (Reg.CLIP_STATE k) = 1 →
      (fineOfLt (s.get (Reg.CLIP_OUT k)) ≤ fineOfLt (s.get (Reg.RECORDER_NEWEST r)) → exec (.captureComplete k) s =
        .next ((((s.put (Reg.CLIP_STATE k) 2).put (Reg.CLIP_PAGES k)
          (((s.clipFrames k).filter (fun e => !e.marker)).length * s.get (Reg.RECORDER_FOLIO_PAGES r))).refreshAdmission).closing s)) ∧
      (fineOfLt (s.get (Reg.RECORDER_NEWEST r)) < fineOfLt (s.get (Reg.CLIP_OUT k)) → exec (.captureComplete k) s =
        .next (s.closing s))) ∧
    (∀ (k row pages : Nat) (u : MemUnit), k < 18 →
      (s.memWorks k = true →
        exec (.memUncorrectable k row pages u) s =
          .next (((((s.bump (Reg.MEM_STATS_UNCORRECTABLE k)).raise (memSource k) 1 k).memUnit u).rowCandidate k row pages).closing s) ∧
        exec (.memCorrectedError k row pages) s = .next ((s.memCorrected k row pages).closing s) ∧
        (s.memCorrected k row pages).get (Reg.MEM_STATS_CORRECTED k) =
          min (s.get (Reg.MEM_STATS_CORRECTED k) + 1) (counterMax (Reg.MEM_STATS_CORRECTED k)) ∧
        exec (.scrubPass k) s = .next ((s.bump (Reg.MEM_STATS_SCRUB_PASSES k)).closing s)) ∧
      (s.memWorks k = false → exec (.memUncorrectable k row pages u) s = .next (s.closing s) ∧
        exec (.memCorrectedError k row pages) s = .next (s.closing s) ∧ exec (.scrubPass k) s = .next (s.closing s)))

/-- Audio rounds to nearest even, ramps between their ends, and saturates, never wraps. Division rounds to the nearest, ties to
even, for negative values too. A gain ramp starts at its old value, ends at its new one, and stays between them. Every
node's sum stays within 48 bits less one, whatever its edges, and a bus within 32 bits. A value within 32 bits is not
changed by the saturation. -/
def Obligations.AudioArithmetic : Prop :=
  (∀ (n : Int) (d : Nat), 0 < d → 2 * (n - d * roundEven n d).natAbs ≤ d ∧
    (2 * (n - d * roundEven n d).natAbs = d → roundEven n d % 2 = 0)) ∧
  (∀ a b i n : Int, 0 < n → rampAt a b 0 n = a ∧ rampAt a b n n = b ∧ min a b ≤ rampAt a b i n ∧ rampAt a b i n ≤ max a b) ∧
  (∀ (s : State) (p : Prog) (ins buses : List (Nat × Int)) (node : Nat) (at_ : Int),
    -(2 ^ 47 - 1) ≤ (s.nodeSum p ins buses node at_).1 ∧ (s.nodeSum p ins buses node at_).1 ≤ 2 ^ 47 - 1) ∧
  (∀ (s : State) (p : Prog) (ins : List (Nat × Int)) (at_ : Int) (fuel : Nat), ∀ x ∈ s.busValues p ins at_ fuel,
    -(2 ^ 31) ≤ x.2 ∧ x.2 < 2 ^ 31) ∧
  (∀ v : Int, -(2 ^ 31) ≤ v → v < 2 ^ 31 → sat32 v = v)

/-- The engine takes each instant, and AES3 ports lock, lose, slip, recover and start their blocks. With AUD running an edge
device's instant is taken and delivered two sample periods on; with AUD not running nothing but silence is delivered. A
waiting path ramps at its deadline. A receiver goes ACQUIRING at a preamble, TRACKING when fill, rate and offset hold, and idle
at a loss, counted and raised if it tracked; an underrun or overrun of a PCM receiver is counted and its slots fade, and
recovery fades them back; a transparent receiver's slip is counted and raised. A transmitter takes its state at a block start. -/
def Obligations.AudioPorts : Prop :=
  ∀ s : State, s.alive = true →
    (∀ (ins : List SampleIn) (frames : List AesIn), (∀ x ∈ ins, writerHere x.writer = true) → (∀ x ∈ frames, x.r < 32) →
      let ps := sampleLf s.progRun.rate
      let t := s.engineSample ins frames
      exec (.engineSample ins frames) s = .next (t.closing s) ∧
      (s.edge = true → s.runs 46 = true → t.get Hid.audInstant = s.now / ps * ps + 1 ∧
        ∃ given, Emit.audio (s.now / ps * ps + 2 * ps) given ∈ t.out) ∧
      (s.edge = true → s.runs 46 = false →
        t = (s.send (.audio (s.now / ps * ps + 2 * ps) [])).bundleCells (s.now / ps * ps + 2 * ps) []) ∧
      (s.edge = false → t = s)) ∧
    (∀ (bus : Bool) (n : Nat) (p : PathSt), (bus = true → n < 1024) → n < 65536 → s.pathOf bus n = some p →
      let ps := sampleLf s.progRun.rate
      (p.ramp = none → p.deadline ≤ s.now → exec (.zcTimeout bus n) s =
        .next (((s.setPath bus n (some { p with ramp := some ((p.deadline + ps - 1) / ps * ps) })).bump
          Reg.ENGINE_STATS_ZC_TIMEOUTS).closing s)) ∧
      (p.ramp ≠ none ∨ s.now < p.deadline → exec (.zcTimeout bus n) s = .next (s.closing s))) ∧
    (∀ r : Nat, r < 32 →
      (s.aesRuns r = true → s.get (Reg.AES_RX_STATE r) = 0 →
        exec (.aesRxPreamble r) s = .next ((s.put (Reg.AES_RX_STATE r) 1).closing s)) ∧
      (∀ (rate : Nat) (ratio : Int) (fill status : Nat), s.aesRuns r = true → s.get (Reg.AES_RX_STATE r) = 1 →
        s.get (Reg.AES_RX_MODE r) = 0 → 1 ≤ rate → rate ≤ 4 →
        ∃ t : State, exec (.aesRxTracking r rate ratio fill status) s = .next (t.closing s) ∧
          t.get (Reg.AES_RX_RATE r) = rate ∧ t.get (Reg.AES_RX_RATIO_OFFSET r) = ratio ∧ t.get (Reg.AES_RX_FILL r) = fill ∧
          t.get (Reg.AES_RX_STATE r) = (if 28 ≤ fill ∧ fill ≤ 36 ∧ ratio.natAbs ≤ 50000 then 2 else 1)) ∧
      (let t := (((s.put (Reg.AES_RX_STATE r) 0).put (Reg.AES_RX_RATE r) 0).put (Reg.AES_RX_FILL r) 0).bump (Reg.AUDIO_STATS_LOSSES r)
       (s.get (Reg.AES_RX_STATE r) = 1 ∨ s.get (Reg.AES_RX_STATE r) = 3 → exec (.aesRxLoss r) s = .next (t.closing s)) ∧
       (s.get (Reg.AES_RX_STATE r) = 2 → exec (.aesRxLoss r) s = .next ((t.raise (594 + r) 1 r).closing s))) ∧
      (s.get (Reg.AES_RX_STATE r) = 0 → exec (.aesRxLoss r) s = .next (s.closing s)) ∧
      (s.aesRuns r = true → s.get (Reg.AES_RX_MODE r) = 0 → s.get (Reg.AES_RX_STATE r) = 2 ∨ s.get (Reg.AES_RX_STATE r) = 3 →
        exec (.aesRxUnderrun r) s = .next ((((((s.bump (Reg.AUDIO_STATS_UNDERRUNS r)).put (Reg.AES_RX_FILL r) 0).put
          (Reg.AES_RX_STATE r) 3).slotFade (3072 + 2 * r) 2 false).raise (594 + r) 2 r).closing s) ∧
        exec (.aesRxOverrun r) s = .next ((((((s.bump (Reg.AUDIO_STATS_OVERRUNS r)).put (Reg.AES_RX_FILL r) 64).put
          (Reg.AES_RX_STATE r) 3).slotFade (3072 + 2 * r) 2 false).raise (594 + r) 2 r).closing s)) ∧
      (s.get (Reg.AES_RX_STATE r) = 3 → exec (.aesRxRecovered r) s = .next (((((s.put (Reg.AES_RX_STATE r) 2).put
        (Reg.AES_RX_FILL r) 32).put (Hid.aesTrackAt r) s.tickLf).slotFade (3072 + 2 * r) 2 true).closing s)) ∧
      (s.aesRuns r = true → s.get (Reg.AES_RX_MODE r) = 1 → s.get (Reg.AES_RX_STATE r) = 2 → exec (.transparentSlip r) s =
        .next (((s.bump (Reg.AUDIO_STATS_TRANSPARENT_SLIPS r)).raise (594 + r) 2 r).closing s)) ∧
      (s.up 46 = true → ∃ t : State, exec (.aesTxBlockStart r) s = .next (t.closing s) ∧
        (s.get (Reg.AES_TX_CLOCK r) = 0 → t.get (Reg.AES_TX_STATE r) = s.aesTxTarget r ∧
          t.get (Hid.aesTxRate r) = s.get (Reg.AES_TX_RATE r))) ∧
      (s.up 46 = false → exec (.aesTxBlockStart r) s = .next (s.closing s)))

/-- A raising is settled with its count, stamp and detail, or waits, and the Logbook merges, drops and stays at 64. With FLT
ready a raising counts in RAISES and stands in LAST_RAISED and LAST_DETAIL; else it waits with its stamp. At the end of its
quiet period a source of a severity up to NOTE is CLEAR. The collector's own check, the watchdog at 50 ms and the lockstep raise
their sources. A Logbook entry equal to the newest is merged, one over the rate is dropped and counted, and any other is the
newest of at most 64. -/
def Obligations.FaultCollector : Prop :=
  (∀ s : State, s.alive = true →
    (∀ n d : Nat, srcReserved n = false → d < 2 ^ 32 →
      let t := s.settleRaise n d false false s.nowLT.toNat
      (s.ready 5 = true → exec (.faultRaise n d) s = .next ((t.settleQueue).closing s)) ∧
      t.get (Reg.FAULT_SOURCE_RAISES n) = min (s.get (Reg.FAULT_SOURCE_RAISES n) + 1) (counterMax (Reg.FAULT_SOURCE_RAISES n)) ∧
      t.get (Reg.FAULT_SOURCE_LAST_DETAIL n) = d ∧ t.get (Reg.FAULT_SOURCE_LAST_RAISED n) = (s.nowLT.toNat : Int) ∧
      (s.ready 5 = false → exec (.faultRaise n d) s = .next
        (({ s with heldRaises := s.heldRaises ++ [⟨n, d, false, false, s.nowLT.toNat⟩] } : State).closing s))) ∧
    (∀ n : Nat, srcReserved n = false → n ≠ 1 → n ≠ 2 → s.get Hid.collectorSelf ≠ 1 → s.ready 5 = true →
      s.get (Reg.FAULT_SOURCE_STATE n) = 2 → s.get (Reg.FAULT_SOURCE_IN_FORCE n) ≤ 1 →
      (s.get (Hid.quietFrom n) + s.get (Hid.quietLen n) ≤ s.tickLf → exec (.faultQuietExpiry n) s =
        .next (((((s.put (Reg.FAULT_SOURCE_STATE n) 0).put (Reg.FAULT_SOURCE_IN_FORCE n) 0)).settleReaction n).closing s)) ∧
      (s.tickLf < s.get (Hid.quietFrom n) + s.get (Hid.quietLen n) → exec (.faultQuietExpiry n) s = .next (s.closing s))) ∧
    (s.ready 5 = true → exec .collectorSelf s = .next ((s.raise 0).closing s)) ∧
    (s.ready 0 = true →
      exec .keeperLockstep s = .next ((s.raise 1).closing s) ∧
      (s.get Hid.watchdogFrom ≠ 0 → s.get Hid.watchdogFrom - 1 + 2646000000 ≤ s.tickLf →
        exec .keeperWatchdog s = .next ((s.raise 2).closing s)) ∧
      (s.get Hid.watchdogFrom = 0 ∨ s.tickLf < s.get Hid.watchdogFrom - 1 + 2646000000 →
        exec .keeperWatchdog s = .next (s.closing s))) ∧
    (s.ready 0 = false → exec .keeperLockstep s = .next (s.closing s) ∧ exec .keeperWatchdog s = .next (s.closing s))) ∧
  (∀ (s : State) (src sev flags detail lt : Nat),
    (∀ (l : List LogEntry) (e : LogEntry), s.log = l ++ [e] → e.source = src → e.detail = detail → e.severity = sev →
      e.flags = flags → flags < 2 →
      s.addLog src sev flags detail lt = { s with log := l ++ [{ e with repeats := min (e.repeats + 1) (2 ^ 32 - 1) }] }) ∧
    (s.log = [] ∨ 2 ≤ flags →
      (256 ≤ (s.logTicks.filter (fun t => decide (s.ticks < t + 1000000000))).length →
        s.addLog src sev flags detail lt = s.bump Reg.LOGBOOK_DROPPED) ∧
      ((s.logTicks.filter (fun t => decide (s.ticks < t + 1000000000))).length < 256 →
        (s.addLog src sev flags detail lt).log.getLast? = some ⟨s.getN Reg.LOGBOOK_NEXT, lt, src, sev, flags, detail, 0⟩ ∧
        (s.addLog src sev flags detail lt).log.length ≤ 64 ∧
        (s.addLog src sev flags detail lt).get Reg.LOGBOOK_NEXT = (s.get Reg.LOGBOOK_NEXT + 1) % 2 ^ 32)))

/-- Tampering zeroes every key in reset too, and images boot, hand over, are confirmed or fall back. A tamper cause zeroes both
banks of all 16 slots and waits to be recorded, whatever the device's state but for the power of cause 4; the record counts one
fuse up to 255, names the cause and raises TAMPER. A boot of KEEP happens once per start. The idle pair's boot ends READY or
REFUSED. A probation that has held for a minute and is confirmed leaves its image in force; one past its deadline, or rejected,
falls back: the pairs exchange and the slot reads REJECTED. Out of probation nothing falls back. -/
def Obligations.TamperAndBoot : Prop :=
  (∀ (s : State) (c n b : Nat), 1 ≤ c → c ≤ 4 → (c = 4 → s.held ≠ .brownout) → n < 16 → b < 2 → ∃ t, exec (.tamper c) s = .next t ∧
    t.get (Hid.bankKey n b) = 0 ∧ t.get (Hid.bankGen n b) = 0 ∧ t.get (Hid.bankCrc n b) = 0 ∧ t.get Hid.tamperCause = c ∧
    t.get Hid.tamperAt = (if s.up 1 then s.nowLT else 0)) ∧
  (∀ s : State, exec (.tamper 0) s = .next s.keysLost ∧ (s.held = .brownout → exec (.tamper 4) s = .next s)) ∧
  (∀ s : State, s.held ≠ .brownout →
    (s.get Hid.tamperCause ≠ 0 → exec .tamperRecord s =
      .next (((((s.put Reg.TAMPER_COUNT (min 255 (s.get Reg.TAMPER_COUNT + 1))).put Reg.TAMPER_LAST_CAUSE (s.get Hid.tamperCause)).put
        Reg.TAMPER_LAST_AT (s.get Hid.tamperAt)).put Hid.tamperCause 0).raise 25 0 (s.get Hid.tamperCause).toNat)) ∧
    (s.get Hid.tamperCause = 0 → exec .tamperRecord s = .next s)) ∧
  (∀ s : State, s.alive = true →
    (∀ images : List (Nat × Nat × Nat), exec (.keepBoot images) s = .next (s.keepBoot images) ∧
      (s.ready 0 = true → s.keepBoot images = s)) ∧
    (let order := (if s.getN Hid.dirActive = 0 then [] else [s.getN Hid.dirActive - 1]) ++
       (if s.getN Hid.dirPrevious = 0 then [] else [s.getN Hid.dirPrevious - 1]) ++ [2]
     s.ready 0 = false → (s.fallRecord.bootFirst order).2 = none → s.keepBoot [] =
       (((s.fallRecord.bootFirst order).1.put Hid.imageRecovery 1).put Reg.COLOPHON_MEASUREMENT 0).put Reg.UPDATE_IDLE_STATE 0) ∧
    (s.get Reg.UPDATE_IDLE_STATE = 1 → ∃ t : State, exec .idleBootComplete s = .next (t.closing s) ∧
      ((s.bootCheck (s.getN Reg.UPDATE_IDLE_SLOT)).2 ≠ .ok → t.get Reg.UPDATE_IDLE_STATE = 3 ∧
        t.get Reg.UPDATE_IDLE_RESULT = ((s.bootCheck (s.getN Reg.UPDATE_IDLE_SLOT)).2.code : Nat)) ∧
      ((s.bootCheck (s.getN Reg.UPDATE_IDLE_SLOT)).2 = .ok → t.get Reg.UPDATE_IDLE_STATE = 2 ∧
        t.get (Reg.IMAGE_WINDOW_STATE (s.getN Reg.UPDATE_IDLE_SLOT)) = 3)) ∧
    (s.get Reg.UPDATE_IDLE_STATE ≠ 1 → exec .idleBootComplete s = .next (s.closing s)) ∧
    (s.get Reg.HEALTH_CONFIRM_STATE = 1 →
      (∀ b : Bool, exec (.probationConfirm b) s = .next ((s.probConfirmed b).closing s) ∧
        let t := s.probTest b
        (t.get Hid.probFrom = 0 ∨ t.tickLf < t.get Hid.probFrom - 1 + 3175200000000 → s.probConfirmed b = t) ∧
        (t.get Hid.probFrom ≠ 0 → t.get Hid.probFrom - 1 + 3175200000000 ≤ t.tickLf →
          t.get Reg.HEALTH_CONFIRM_REQUIRE_CONTROLLER = 0 ∨ t.get Hid.probConfirm ≠ 0 →
          (s.probConfirmed b).get Reg.HEALTH_CONFIRM_STATE = 2 ∧
          (s.probConfirmed b).get Hid.dirActive = (s.getN Reg.UPDATE_ACTIVE_SLOT + 1 : Nat) ∧
          (s.probConfirmed b).get (Reg.IMAGE_WINDOW_STATE (s.getN Reg.UPDATE_ACTIVE_SLOT)) = 4)) ∧
      (msCeil (lfOfLt (s.get Reg.HEALTH_CONFIRM_DEADLINE)) ≤ s.now →
        exec .probationDeadline s = .next ((s.fallBack 1).closing s)) ∧
      (s.now < msCeil (lfOfLt (s.get Reg.HEALTH_CONFIRM_DEADLINE)) → exec .probationDeadline s = .next (s.closing s)) ∧
      (s.get Hid.rejectAt ≠ 0 → msCeil (s.get Hid.rejectAt - 1) ≤ s.now → exec .fallback s = .next ((s.fallBack 3).closing s)) ∧
      (∀ c : Nat, (s.fallBack c).get Reg.UPDATE_ACTIVE_SLOT = s.get Reg.UPDATE_IDLE_SLOT ∧
        (s.fallBack c).get Reg.HEALTH_CONFIRM_STATE = 3 ∧
        (s.fallBack c).get (Reg.IMAGE_WINDOW_STATE (s.getN Reg.UPDATE_ACTIVE_SLOT)) = 5)) ∧
    (s.get Reg.HEALTH_CONFIRM_STATE ≠ 1 → exec .probationDeadline s = .next (s.closing s) ∧ exec .fallback s = .next (s.closing s) ∧
      ∀ b : Bool, exec (.probationConfirm b) s = .next (s.closing s)))

/-- A service request is dropped, answered again, locked out or executed, and each operation acts as its row says. A request
that fails its header, session or key is dropped; a sequence already executed gets the recorded response; an operation its
level does not accept gets LOCKED_OUT. Executed: HELLO opens a keyed session while slot 3 holds a key, COLOPHON answers the
colophon, IMAGE_OPEN erases a slot, IMAGE_DATA adds its bytes, IMAGE_CLOSE ends an image, written where its length and digest match
and else with RANGE, KEY_WRITE writes a key, READ reads, CLOSE ends the session, and TIME_SET makes the first step. 60 s of silence
ends the session. -/
def Obligations.ServicePort : Prop :=
  (∀ (s : State) (m : SvcMsg) (a b c : Nat) (l : List Nat), s.alive = true → s.svcTimeout = s →
    ∀ p ∈ [(SvcOp.hello, beBytes 16 a, Instr.hello m a), (.colophon, beBytes 32 a, .colophon m a),
      (.imageOpen, [a % 256] ++ beBytes 3 b ++ beBytes 4 c, .imageOpen m a b c),
      (.imageData, beBytes 4 a ++ beBytes b c, .imageData m a b c), (.imageClose, beBytes 48 a, .imageClose m a),
      (.keyWrite, [a % 256] ++ beBytes 3 b ++ beBytes 128 c, .svcKeyWrite m a b c), (.read, addrBytes l, .svcRead m l),
      (.close, [], .close m), (.timeSet, beBytes 12 a, .timeSet m a)],
      (s.svcWay m p.1 p.2.1 = .drop → exec p.2.2 s = .next (s.closing s)) ∧
      (∀ k r, s.svcWay m p.1 p.2.1 = .again k r → exec p.2.2 s = .next (((s.svcTouch k).svcSend k r).closing s)) ∧
      (∀ k, s.svcWay m p.1 p.2.1 = .locked k → exec p.2.2 s =
        .next (((s.svcTouch k).svcSend k ⟨p.1.code, .lockedOut, m.session, m.seq, []⟩).closing s))) ∧
  (∀ (s : State) (m : SvcMsg) (k : Bool), s.alive = true → s.svcTimeout = s →
    let u := s.svcTouch k
    (∀ nonce : Nat, s.svcWay m .hello (beBytes 16 nonce) = .run k →
      (s.up 3 = false → exec (.hello m nonce) s = .next ((u.svcAnswer m .hello k .notReady []).closing s)) ∧
      (s.up 3 = true → s.keyOf 3 = none → exec (.hello m nonce) s = .next ((u.svcAnswer m .hello k .lockedOut []).closing s)) ∧
      (∀ key, s.up 3 = true → s.keyOf 3 = some key → ∃ (t : State) (id dn : Nat), exec (.hello m nonce) s = .next (t.closing s) ∧
        t.svc = some ⟨id, ⟨key, nonce % 2 ^ 128, dn⟩, none, s.tickLf⟩ ∧ id ≠ 0 ∧ id < 2 ^ 32 ∧ dn < 2 ^ 128 ∧
        ∃ e d, Emit.svc e ⟨SvcOp.hello.code, .ok, m.session, m.seq, beBytes 16 dn ++ beBytes 4 id⟩ d ∈ t.out)) ∧
    (∀ nonce : Nat, s.svcWay m .colophon (beBytes 32 nonce) = .run k → s.up 3 = true →
      exec (.colophon m nonce) s = .next ((u.svcAnswer m .colophon k .ok (beBytes 352 (u.colophon (nonce % 2 ^ 256)))).closing s)) ∧
    (∀ slot reserved total : Nat, s.svcWay m .imageOpen ([slot % 256] ++ beBytes 3 reserved ++ beBytes 4 total) = .run k →
      (s.imageOpenStatus slot reserved total = .ok → ∃ t : State, exec (.imageOpen m slot reserved total) s = .next (t.closing s) ∧
        t.flashOf slot = some ⟨slot, total, []⟩ ∧ t.get (Reg.IMAGE_WINDOW_STATE slot) = 1 ∧
        t.get (Reg.IMAGE_WINDOW_LENGTH slot) = total ∧ t.get Hid.imgOpen = slot + 1) ∧
      (s.imageOpenStatus slot reserved total ≠ .ok → exec (.imageOpen m slot reserved total) s =
        .next ((u.svcAnswer m .imageOpen k (s.imageOpenStatus slot reserved total) []).closing s))) ∧
    (∀ (offset len data : Nat) (x : FlashImage), s.svcWay m .imageData (beBytes 4 offset ++ beBytes len data) = .run k →
      s.get Hid.imgOpen ≠ 0 → s.flashOf (s.getN Hid.imgOpen - 1) = some x → x.pieces = [] → offset + len ≤ x.total → len ≤ 1436 →
      exec (.imageData m offset len data) s =
        .next (((u.setFlash { x with pieces := [(offset, len, data % 256 ^ len)] }).svcAnswer m .imageData k .ok []).closing s)) ∧
    (∀ (d : Nat) (x : FlashImage), s.svcWay m .imageClose (beBytes 48 d) = .run k →
      (s.get Hid.imgOpen = 0 → exec (.imageClose m d) s = .next ((u.svcAnswer m .imageClose k .range []).closing s)) ∧
      (s.get Hid.imgOpen ≠ 0 → s.flashOf (s.getN Hid.imgOpen - 1) = some x →
        (¬(x.held = x.total ∧ d = beNat (sha384 (beBytes x.total x.bytes))) → exec (.imageClose m d) s =
          .next ((((u.put Hid.imgOpen 0).put (Reg.IMAGE_WINDOW_STATE x.slot) 0).svcAnswer m .imageClose k .range []).closing s)) ∧
        (x.held = x.total → d = beNat (sha384 (beBytes x.total x.bytes)) → s.get Hid.imageRecovery ≠ 1 → exec (.imageClose m d) s =
          .next (((((u.put Hid.imgOpen 0).put (Reg.IMAGE_WINDOW_STATE x.slot) 2).put (Reg.IMAGE_WINDOW_WRITTEN_AT x.slot)
            s.nowLT).svcAnswer m .imageClose k .ok []).closing s)))) ∧
    (∀ slot key : Nat, s.svcWay m .keyWrite ([slot % 256] ++ beBytes 3 0 ++ beBytes 128 key) = .run k → slot < 16 → s.up 3 = true →
      s.keyStatus slot key = .ok →
      exec (.svcKeyWrite m slot 0 key) s = .next (((u.keyWrite slot key).svcAnswer m .keyWrite k .ok []).closing s)) ∧
    (∀ l : List Nat, s.svcWay m .read (addrBytes l) = .run k → u.readBytes l ≤ 1440 → exec (.svcRead m l) s =
      .next (((u.readAll l).1.svcAnswer m .read k (firstBad ((u.readAll l).2.map (fun (x : ReadResult) => x.status)))
        ((Body.reads (u.readAll l).2).bytes 1)).closing s)) ∧
    (s.svcWay m .close [] = .run k → ∃ t : State, exec (.close m) s = .next (t.closing s) ∧ t.svc = none) ∧
    (∀ lt : Nat, s.svcWay m .timeSet (beBytes 12 lt) = .run k →
      let amount := (fineOfLt lt - s.nowFine) / 4096
      (s.timeSet = true → exec (.timeSet m lt) s = .next ((u.svcAnswer m .timeSet k .range []).closing s)) ∧
      (s.timeSet = false → ltValid lt = true → s.stepFits amount = true → exec (.timeSet m lt) s =
        .next ((((u.svcAnswer m .timeSet k .ok []).timeSetStep amount).afterStep s).closing s)))) ∧
  (∀ (s : State) (x : SvcSession), s.alive = true → s.svc = some x →
    (x.lastAt + 3175200000000 ≤ s.tickLf → exec .svcSessionTimeout s = .next (({ s with svc := none } : State).closing s)) ∧
    (s.tickLf < x.lastAt + 3175200000000 → exec .svcSessionTimeout s = .next (s.closing s)))

/-- Monitors report, the Almanac records, the supplies are judged, and bookings start and end at their times. Samples stand in
their registers: VDD, MEASURED, and each monitor, sensor and eye margin of an island that runs. An interval record is written only
while bit 55 reads 1 and one is due, and the newest is kept first. A HELD booking of this device starts at Ts if its conditions
hold and fails if they do not, and a RUNNING one ends with its window. -/
def Obligations.WearAndBookings : Prop :=
  ∀ s : State, s.alive = true →
    (∀ l : List (Nat × Nat × Int), (∀ r ∈ l, r.1 < 256) → exec (.wearSample l) s = .next ((s.wearSample l).closing s)) ∧
    (∀ (k slack : Nat) (shift : Int), k < 256 → s.runs (s.wearIsland k) = true →
      (s.wearSample [(k, slack, shift)]).get (Reg.WEAR_SLACK k) = slack ∧
      (s.wearSample [(k, slack, shift)]).get (Reg.WEAR_SHIFT k) = shift) ∧
    (∀ l : List Int, l.length ≤ 64 → exec (.thermalSample l) s = .next ((s.thermalSample l).closing s)) ∧
    (∀ v : Int, s.runs (s.getN (Reg.THERMAL_ISLAND 0)) = true → (s.thermalSample [v]).get (Reg.THERMAL_NOW 0) = v ∧
      (s.thermalSample [v]).get (Reg.THERMAL_MAX 0) = max v (s.get (Reg.THERMAL_MAX 0))) ∧
    (∀ l : List (Nat × Nat × Nat × Bool), (∀ r ∈ l, r.1 < 181) → exec (.eyeSample l) s = .next ((s.eyeSample l).closing s)) ∧
    (∀ (k h v : Nat) (a : Bool), k < 181 → s.runs (eyeIsland k) = true →
      let t := s.eyeSample [(k, h, v, a)]
      t.get (Reg.EYE_H_MARGIN k) = h ∧ t.get (Reg.EYE_V_MARGIN k) = v ∧ t.get (Reg.EYE_ADAPT_LIMIT k) = b2i a) ∧
    (s.ready 55 = true →
      (s.almDue = none → exec .almanacInterval s = .next (s.closing s)) ∧
      (∀ n, s.almDue = some n → let t := s.put Hid.almIndex (n + 1)
        exec .almanacInterval s = .next (t.almanacInterval.closing s) ∧
        t.almanacInterval.almIntervals = (t.intervalRec :: s.almIntervals).take 8192)) ∧
    (s.ready 55 = false → exec .almanacInterval s = .next (s.closing s)) ∧
    (s.ready 0 = true → exec .avsStep s = .next (s.avsStep.closing s) ∧
      (s.avsStep.get Reg.MARGIN_CONTROL_AVS_OFFSET - s.get Reg.MARGIN_CONTROL_AVS_OFFSET).natAbs ≤ 25 ∧
      (s.get Reg.MARGIN_CONTROL_SILENT = 0 →
        s.avsStep.get Reg.MARGIN_CONTROL_AVS_OFFSET = s.get Reg.MARGIN_CONTROL_AVS_OFFSET)) ∧
    (∀ v : Nat, exec (.avsLimit v) s = .next ((s.avsJudge v).closing s) ∧ (s.avsJudge v).get Reg.SUPPLY_VDD = v) ∧
    (∀ w : Nat, exec (.powerOverCap w) s = .next ((s.powerJudge w).closing s) ∧ (s.powerJudge w).get Reg.POWER_MEASURED = w) ∧
    (∀ b : Nat, b < 32 →
      exec (.bookingStart b) s = .next (((s.bookingCommand (fun u => u.startBooking b)).injectFlush).closing s) ∧
      (∀ eyes : List (Nat × Nat × Nat), (∀ e ∈ eyes, e.1 < 181) →
        exec (.bookingDone b eyes) s = .next (((s.bookingCommand (fun u => u.bookingDone b eyes)).injectFlush).closing s)) ∧
      exec (.bookingWindowEnd b) s = .next (((s.bookingCommand (fun u => u.bookingWindowEnd b)).injectFlush).closing s)) ∧
    (∀ b : Nat, b < 32 → s.get (Reg.BOOKING_STATE b) = 1 → s.bookingActs b = true → s.get (Hid.bookTs b) ≤ s.now →
      (s.get (Reg.BOOKING_CLASS b) ≠ 2 ∨ s.get Reg.MODE_ACTIVE = 7 →
        (s.bookingConflict b (s.get (Hid.bookTs b)) = false → s.drainOk b = true → s.bookingHealthy b = true →
          s.startBooking b = (s.put (Reg.BOOKING_STATE b) 2).bookingActivity b) ∧
        (s.bookingHealthy b = false → (s.startBooking b).get (Reg.BOOKING_STATE b) = 4 ∧
          (s.startBooking b).get (Reg.BOOKING_RESULT b) = (Status.maintConflict.code : Nat))) ∧
      (s.get (Reg.BOOKING_CLASS b) = 2 → s.get Reg.MODE_ACTIVE ≠ 7 → (s.startBooking b).get (Reg.BOOKING_STATE b) = 4 ∧
        (s.startBooking b).get (Reg.BOOKING_RESULT b) = (Status.wrongMode.code : Nat))) ∧
    (∀ b : Nat, b < 32 → s.get (Reg.BOOKING_STATE b) = 2 → s.bookingActs b = true →
      s.get (Hid.bookTs b) + s.get (Reg.BOOKING_DURATION b) ≤ s.now →
      (s.bookingWindowEnd b).get (Reg.BOOKING_STATE b) =
        (if s.get (Reg.BOOKING_KIND b) = 1 ∨ s.get (Reg.BOOKING_KIND b) = 9 then 3 else 5))

/-- Inputs are debounced and judged, the SMBus target answers reads only, and the TAP acts as its codes say. A raw transition
restarts its debounce; after DEBOUNCE the level qualifies and its edge is an event. Chatter and stuck are judged at their
times. SMBus writes are not acknowledged and reads answered once KEEP is ready. IDCODE reads 0x1060086B; EXTEST, its AC
forms, HIGHZ and CLAMP act in reset and are BYPASS out of it. A control link's bit rises and falls with its link. Held units
are released when due. -/
def Obligations.PinsAndBoundaryScan : Prop :=
  (∀ s : State, s.alive = true →
    (∀ (g : Nat) (v : Bool), g < 16 → exec (.gpiRawTransition g v) s = .next ((s.gpiRawTransition g v).closing s) ∧
      (s.ready 54 = true → s.get (Hid.gpiRaw g) ≠ b2i v → s.get (Reg.GPI_STATE g) = 1 →
        (s.gpiRawTransition g v).get (Hid.gpiRaw g) = b2i v ∧
        (s.gpiRawTransition g v).get (Hid.gpiDue g) = s.tickLf + s.get (Reg.GPI_DEBOUNCE g) + 1 ∧
        (s.gpiRawTransition g v).get (Hid.gpiStamp g) = s.nowLT)) ∧
    (∀ g : Nat, g < 16 → s.ready 54 = true →
      (s.get (Hid.gpiDue g) ≠ 0 → s.get (Hid.gpiDue g) - 1 ≤ s.tickLf →
        exec (.gpiQualify g) s = .next ((s.gpiQualify g).closing s) ∧
        (s.get (Reg.GPI_LEVEL g) = b2i (s.get (Hid.gpiRaw g) != s.get (Reg.GPI_POLARITY g)) →
          s.gpiQualify g = s.put (Hid.gpiDue g) 0) ∧
        (s.get (Reg.GPI_LEVEL g) = 0 → s.get (Hid.gpiRaw g) ≠ s.get (Reg.GPI_POLARITY g) → s.get (Reg.GPI_STATE g) = 0 →
          s.get (Hid.gpiSilent g) = 0 → s.gpiQualify g =
            ((((s.put (Hid.gpiDue g) 0).put (Reg.GPI_LEVEL g) 1).put (Hid.gpiFrom g) s.tickLf)).gpiEvent g true)) ∧
      (s.tickLf < s.get (Hid.gpiDue g) - 1 → exec (.gpiQualify g) s = .next (s.closing s)) ∧
      (s.get (Reg.GPI_STATE g) = 1 → s.get (Hid.gpiQuiet g) ≤ s.tickLf →
        (s.gpiStuckNow g = false → exec (.gpiChatterQuiet g) s = .next ((s.put (Reg.GPI_STATE g) 0).closing s)) ∧
        (s.gpiStuckNow g = true → exec (.gpiChatterQuiet g) s = .next ((s.gpiToStuck g).closing s))) ∧
      (s.get (Reg.GPI_STATE g) = 0 → s.gpiStuckNow g = true → exec (.gpiStuck g) s =
        .next (((s.put (Reg.GPI_STATE g) 2).raise (647 + g) 2 g).closing s)) ∧
      (s.get (Reg.GPI_STATE g) = 0 → s.gpiStuckNow g = false → exec (.gpiStuck g) s = .next (s.closing s))) ∧
    (∀ j : Nat, j < 64 → exec (.injectDelayRelease j) s = .next ((s.injectRelease j).closing s) ∧
      (s.injectHeld j = [] → (s.injectDue j).2 = [])) ∧
    (∀ p : Nat, p < 3 →
      (s.ready 0 = true → s.ready (51 + p) = false → exec (.ctlLinkUp p) s =
        .next (((if p < 2 then s.put (Reg.CTL_PORT_LINK p) 1 else s).setReady (51 + p) true).closing s)) ∧
      (s.ready (51 + p) = true → exec (.ctlLinkDown p) s =
        .next ((((if p < 2 then s.put (Reg.CTL_PORT_LINK p) 0 else s).setReady (51 + p) false).raise (644 + p) 1 p).closing s)))) ∧
  (∀ (s : State) (a c : Nat),
    exec (.smbusWrite a) s = .next (s.send (.smbus none)) ∧
    (s.alive = true → s.ready 0 = true → exec (.smbusRead 0x4A c) s = .next (s.send (.smbus (s.smbusBytes c)))) ∧
    (a ≠ 0x4A ∨ s.alive = false ∨ s.ready 0 = false → exec (.smbusRead a c) s = .next (s.send (.smbus none))) ∧
    exec .idcode s = .next ((s.tapSelect 1).send (.pin 6 1 0x1060086B)) ∧
    exec .tapReset s = .next (s.tapSelect 1) ∧
    (∃ t, exec (.samplePreload c) s = .next t ∧ t.get Hid.tapCells = c ∧ t.get Hid.tapSel = 1) ∧
    (s.porstLow = true →
      exec (.extest c) s = .next (((s.tapSelect 0).put Hid.tapCells c).send (.pin 7 0 c)) ∧
      exec (.extestPulse c) s = .next ((((s.tapSelect 5).put Hid.tapCells c).send (.pin 7 0 c)).send (.pin 8 0 c)) ∧
      exec (.extestTrain c) s = .next ((((s.tapSelect 6).put Hid.tapCells c).send (.pin 7 0 c)).send (.pin 8 1 c)) ∧
      exec .highz s = .next ((s.tapSelect 7).send (.pin 9 0 0)) ∧
      exec .clamp s = .next ((s.tapSelect 8).send (.pin 7 0 (s.get Hid.tapCells)))) ∧
    (s.porstLow = false → exec (.extest c) s = .next (s.tapSelect 0xFF) ∧ exec (.extestPulse c) s = .next (s.tapSelect 0xFF) ∧
      exec (.extestTrain c) s = .next (s.tapSelect 0xFF) ∧ exec .highz s = .next (s.tapSelect 0xFF) ∧
      exec .clamp s = .next (s.tapSelect 0xFF)) ∧
    (s.tapActs c = false → exec (.bypass c) s = .next (s.tapSelect 0xFF)) ∧
    (s.tapActs c = true → exec (.bypass c) s = .next s))
end

