-- ==== Sys2Proof/Laws/Store.lean ====
section
/-! SUPPORT. What the store's operations do: reading after writing, and the canonical form every write keeps. -/
namespace Sys2Proof.Machine

theorem storeFind_drop_same (t : Store) (k : Key) : storeFind (storeDrop t k) k = none := by
  induction t with
  | nil => rfl
  | cons p t ih =>
    obtain ⟨a, v⟩ := p
    by_cases h : a = k
    · simpa [storeDrop, h] using ih
    · simpa [storeDrop, storeFind, h] using ih

theorem storeFind_drop_ne (t : Store) {k l : Key} (h : k ≠ l) : storeFind (storeDrop t k) l = storeFind t l := by
  induction t with
  | nil => rfl
  | cons p t ih =>
    obtain ⟨a, v⟩ := p
    by_cases h1 : a = k
    · have h2 : a ≠ l := h1 ▸ h
      simp [storeDrop, storeFind, h1, h, ih]
    · by_cases h2 : a = l
      · have h3 : l ≠ k := fun e => h e.symm
        simp [storeDrop, storeFind, h2, h3]
      · simp [storeDrop, storeFind, h1, h2, ih]

theorem storeFind_ins_same (t : Store) (k : Key) (v : Int) (h : storeFind t k = none) : storeFind (storeIns t k v) k = some v := by
  induction t with
  | nil => simp [storeIns, storeFind]
  | cons p t ih =>
    obtain ⟨a, w⟩ := p
    by_cases h1 : keyLt k a = true
    · simp [storeIns, storeFind, h1]
    · by_cases h2 : a = k
      · simp [storeFind, h2] at h
      · simp only [storeFind, h2, if_false] at h
        simp [storeIns, storeFind, h1, h2, ih h]

theorem storeFind_ins_ne (t : Store) {k l : Key} (v : Int) (h : k ≠ l) : storeFind (storeIns t k v) l = storeFind t l := by
  induction t with
  | nil => simp [storeIns, storeFind, h]
  | cons p t ih =>
    obtain ⟨a, w⟩ := p
    by_cases h1 : keyLt k a = true
    · simp [storeIns, storeFind, h1, h]
    · simp [storeIns, storeFind, h1, ih]

/-- Reading a key after a write of it gives the value written. -/
theorem storeGet_put_same (t : Store) (k : Key) (v : Int) : storeGet (storePut t k v) k = v := by
  by_cases h : v = dfltOf k
  · simp [storePut, storeGet, h, storeFind_drop_same]
  · simp [storePut, storeGet, h, storeFind_ins_same _ k v (storeFind_drop_same t k)]

/-- A write leaves every other key as it was. -/
theorem storeGet_put_ne (t : Store) {k l : Key} (v : Int) (h : k ≠ l) : storeGet (storePut t k v) l = storeGet t l := by
  by_cases hv : v = dfltOf k
  · simp [storePut, storeGet, hv, storeFind_drop_ne t h]
  · simp [storePut, storeGet, hv, storeFind_ins_ne _ v h, storeFind_drop_ne t h]

/-! ### The canonical form -/

theorem keyLt_trans {a b c : Key} (h1 : keyLt a b = true) (h2 : keyLt b c = true) : keyLt a c = true := by
  simp only [keyLt, Bool.or_eq_true, Bool.and_eq_true, decide_eq_true_eq, beq_iff_eq] at *
  omega

theorem keyLt_total {a b : Key} (h : a ≠ b) (h1 : keyLt a b = false) : keyLt b a = true := by
  obtain ⟨i, e, s⟩ := a
  obtain ⟨j, f, u⟩ := b
  simp only [keyLt, Bool.or_eq_false_iff, Bool.or_eq_true, Bool.and_eq_true, Bool.and_eq_false_iff, decide_eq_true_eq,
    decide_eq_false_iff_not, beq_iff_eq, beq_eq_false_iff_ne, ne_eq, Key.mk.injEq, not_and] at *
  omega

theorem storeAbove_of_lt {a b : Key} (t : Store) (h : keyLt a b = true) (h1 : storeAbove b t = true) : storeAbove a t = true := by
  induction t with
  | nil => rfl
  | cons p t ih =>
    obtain ⟨c, v⟩ := p
    simp only [storeAbove, Bool.and_eq_true] at *
    exact ⟨keyLt_trans h h1.1, ih h1.2⟩

theorem storeAbove_drop (a k : Key) (t : Store) (h : storeAbove a t = true) : storeAbove a (storeDrop t k) = true := by
  induction t with
  | nil => rfl
  | cons p t ih =>
    obtain ⟨c, v⟩ := p
    simp only [storeAbove, Bool.and_eq_true] at h
    by_cases hc : c = k
    · simpa [storeDrop, hc] using ih h.2
    · simp [storeDrop, hc, storeAbove, h.1, ih h.2]

theorem storeWf_drop (t : Store) (k : Key) (h : storeWf t = true) : storeWf (storeDrop t k) = true := by
  induction t with
  | nil => rfl
  | cons p t ih =>
    obtain ⟨c, v⟩ := p
    simp only [storeWf, Bool.and_eq_true] at h
    by_cases hc : c = k
    · simpa [storeDrop, hc] using ih h.2
    · simp only [storeDrop, hc, if_false, storeWf, Bool.and_eq_true]
      exact ⟨⟨storeAbove_drop c k t h.1.1, h.1.2⟩, ih h.2⟩

theorem storeAbove_ins (a k : Key) (v : Int) (t : Store) (h : keyLt a k = true) (ht : storeAbove a t = true) :
    storeAbove a (storeIns t k v) = true := by
  induction t with
  | nil => simp [storeIns, storeAbove, h]
  | cons p t ih =>
    obtain ⟨c, w⟩ := p
    simp only [storeAbove, Bool.and_eq_true] at ht
    by_cases hc : keyLt k c = true
    · simp [storeIns, storeAbove, hc, h, ht.1, ht.2]
    · simp [storeIns, storeAbove, hc, ht.1, ih ht.2]

theorem storeWf_ins (t : Store) (k : Key) (v : Int) (hv : v ≠ dfltOf k) (hn : storeFind t k = none) (h : storeWf t = true) :
    storeWf (storeIns t k v) = true := by
  induction t with
  | nil => simp [storeIns, storeWf, storeAbove, hv]
  | cons p t ih =>
    obtain ⟨c, w⟩ := p
    have hck : c ≠ k := fun e => by simp [storeFind, e] at hn
    have hn' : storeFind t k = none := by simpa [storeFind, hck] using hn
    have hw := h
    simp only [storeWf, Bool.and_eq_true] at h
    by_cases hc : keyLt k c = true
    · simp only [storeIns, hc, if_true, storeWf, storeAbove, Bool.and_eq_true, decide_eq_true_eq, Bool.true_and]
      exact ⟨⟨storeAbove_of_lt t hc h.1.1, hv⟩, ⟨h.1.1, by simpa using h.1.2⟩, h.2⟩
    · have hlt : keyLt c k = true := keyLt_total (fun e => hck e.symm) (by simpa using hc)
      have hb : keyLt k c = false := by simpa using hc
      simp only [storeIns, hb, Bool.false_eq_true, if_false, storeWf, Bool.and_eq_true]
      exact ⟨⟨storeAbove_ins c k v t hlt h.1.1, h.1.2⟩, ih hn' h.2⟩

/-- A write keeps the canonical form. -/
theorem storeWf_put (t : Store) (k : Key) (v : Int) (h : storeWf t = true) : storeWf (storePut t k v) = true := by
  by_cases hv : v = dfltOf k
  · simpa [storePut, hv] using storeWf_drop t k h
  · simpa [storePut, hv] using storeWf_ins _ k v hv (storeFind_drop_same t k) (storeWf_drop t k h)

theorem storeAbove_keep (p : Key → Bool) (a : Key) (t : Store) (h : storeAbove a t = true) : storeAbove a (storeKeep p t) = true := by
  induction t with
  | nil => rfl
  | cons q t ih =>
    obtain ⟨c, v⟩ := q
    simp only [storeAbove, Bool.and_eq_true] at h
    by_cases hc : p c = true
    · simp [storeKeep, hc, storeAbove, h.1, ih h.2]
    · simpa [storeKeep, hc] using ih h.2

/-- Keeping the entries of some keys keeps the canonical form. -/
theorem storeWf_keep (p : Key → Bool) (t : Store) (h : storeWf t = true) : storeWf (storeKeep p t) = true := by
  induction t with
  | nil => rfl
  | cons q t ih =>
    obtain ⟨c, v⟩ := q
    simp only [storeWf, Bool.and_eq_true] at h
    by_cases hc : p c = true
    · simp only [storeKeep, hc, if_true, storeWf, Bool.and_eq_true]
      exact ⟨⟨storeAbove_keep p c t h.1.1, h.1.2⟩, ih h.2⟩
    · simpa [storeKeep, hc] using ih h.2

theorem storeFind_above (t : Store) (a k : Key) (h : storeAbove a t = true) (hk : keyLt a k = false) : storeFind t k = none := by
  induction t with
  | nil => rfl
  | cons q t ih =>
    obtain ⟨c, v⟩ := q
    simp only [storeAbove, Bool.and_eq_true] at h
    have hc : c ≠ k := fun e => by simp [e, hk] at h
    simpa [storeFind, hc] using ih h.2

end Sys2Proof.Machine
end

