-- ==== Sys2Proof/Laws/State.lean ====
section
/-! SUPPORT. Reading a state after an update: one lemma for each update and what it leaves, so that no proof unfolds a record
update. -/
namespace Sys2Proof.Machine

/-! ### Registers -/

/-- Reading a register after a write of any register. -/
@[simp] theorem State.get_put (s : State) (k l : Key) (v : Int) : (s.put k v).get l = if k = l then v else s.get l := by
  by_cases h : k = l
  · subst h; simp [State.put, State.get, storeGet_put_same]
  · simp [State.put, State.get, h, storeGet_put_ne _ v h]

theorem State.get_put_same (s : State) (k : Key) (v : Int) : (s.put k v).get k = v := by simp
theorem State.get_put_ne (s : State) {k l : Key} (v : Int) (h : k ≠ l) : (s.put k v).get l = s.get l := by simp [h]

@[simp] theorem State.getN_put (s : State) (k l : Key) (v : Int) : (s.put k v).getN l = if k = l then v.toNat else s.getN l := by
  simp only [State.getN, State.get_put]; split <;> rfl

/-- A counter after a count. -/
@[simp] theorem State.get_bumpBy (s : State) (k l : Key) (n : Int) :
    (s.bumpBy k n).get l = if k = l then min (s.get k + n) (counterMax k) else s.get l := by simp [State.bumpBy]

@[simp] theorem State.get_bump (s : State) (k l : Key) :
    (s.bump k).get l = if k = l then min (s.get k + 1) (counterMax k) else s.get l := by simp [State.bump]

@[simp] theorem State.get_send (s : State) (e : Emit) (k : Key) : (s.send e).get k = s.get k := rfl
@[simp] theorem State.getN_send (s : State) (e : Emit) (k : Key) : (s.send e).getN k = s.getN k := rfl
@[simp] theorem State.get_drawn (s : State) (k : Key) : s.drawn.get k = s.get k := rfl

/-! ### What a write of a register leaves -/

@[simp] theorem State.put_pending (s : State) (k : Key) (v : Int) : (s.put k v).pending = s.pending := rfl
@[simp] theorem State.put_out (s : State) (k : Key) (v : Int) : (s.put k v).out = s.out := rfl
@[simp] theorem State.put_free (s : State) (k : Key) (v : Int) : (s.put k v).free = s.free := rfl
@[simp] theorem State.put_held (s : State) (k : Key) (v : Int) : (s.put k v).held = s.held := rfl
@[simp] theorem State.put_ledger (s : State) (k : Key) (v : Int) : (s.put k v).ledger = s.ledger := rfl
@[simp] theorem State.put_ticks (s : State) (k : Key) (v : Int) : (s.put k v).ticks = s.ticks := rfl
@[simp] theorem State.put_incLog (s : State) (k : Key) (v : Int) : (s.put k v).incLog = s.incLog := rfl
@[simp] theorem State.put_session (s : State) (k : Key) (v : Int) : (s.put k v).session = s.session := rfl
@[simp] theorem State.put_oldSession (s : State) (k : Key) (v : Int) : (s.put k v).oldSession = s.oldSession := rfl
@[simp] theorem State.put_grace (s : State) (k : Key) (v : Int) : (s.put k v).grace = s.grace := rfl
@[simp] theorem State.put_slips (s : State) (k : Key) (v : Int) : (s.put k v).slips = s.slips := rfl
@[simp] theorem State.put_log (s : State) (k : Key) (v : Int) : (s.put k v).log = s.log := rfl
@[simp] theorem State.put_logTicks (s : State) (k : Key) (v : Int) : (s.put k v).logTicks = s.logTicks := rfl
@[simp] theorem State.put_recoveries (s : State) (k : Key) (v : Int) : (s.put k v).recoveries = s.recoveries := rfl
@[simp] theorem State.put_heldRaises (s : State) (k : Key) (v : Int) : (s.put k v).heldRaises = s.heldRaises := rfl
@[simp] theorem State.put_journal (s : State) (k : Key) (v : Int) : (s.put k v).journal = s.journal := rfl
@[simp] theorem State.put_commitCopy (s : State) (k : Key) (v : Int) : (s.put k v).commitCopy = s.commitCopy := rfl
@[simp] theorem State.put_mirrorWait (s : State) (k : Key) (v : Int) : (s.put k v).mirrorWait = s.mirrorWait := rfl
@[simp] theorem State.put_twin (s : State) (k : Key) (v : Int) : (s.put k v).twin = s.twin := rfl
@[simp] theorem State.put_patterns (s : State) (k : Key) (v : Int) : (s.put k v).patterns = s.patterns := rfl
@[simp] theorem State.put_offers (s : State) (k : Key) (v : Int) : (s.put k v).offers = s.offers := rfl
@[simp] theorem State.put_requests (s : State) (k : Key) (v : Int) : (s.put k v).requests = s.requests := rfl
@[simp] theorem State.put_fabSubs (s : State) (k : Key) (v : Int) : (s.put k v).fabSubs = s.fabSubs := rfl
@[simp] theorem State.put_txQueue (s : State) (k : Key) (v : Int) : (s.put k v).txQueue = s.txQueue := rfl
@[simp] theorem State.put_svc (s : State) (k : Key) (v : Int) : (s.put k v).svc = s.svc := rfl
@[simp] theorem State.put_flash (s : State) (k : Key) (v : Int) : (s.put k v).flash = s.flash := rfl

/-! ### What an emission leaves -/

@[simp] theorem State.send_out (s : State) (e : Emit) : (s.send e).out = s.out ++ [e] := rfl
@[simp] theorem State.send_pending (s : State) (e : Emit) : (s.send e).pending = s.pending := rfl
@[simp] theorem State.send_regs (s : State) (e : Emit) : (s.send e).regs = s.regs := rfl
@[simp] theorem State.send_held (s : State) (e : Emit) : (s.send e).held = s.held := rfl
@[simp] theorem State.send_ledger (s : State) (e : Emit) : (s.send e).ledger = s.ledger := rfl
@[simp] theorem State.send_ticks (s : State) (e : Emit) : (s.send e).ticks = s.ticks := rfl
@[simp] theorem State.send_free (s : State) (e : Emit) : (s.send e).free = s.free := rfl
@[simp] theorem State.send_session (s : State) (e : Emit) : (s.send e).session = s.session := rfl
@[simp] theorem State.send_slips (s : State) (e : Emit) : (s.send e).slips = s.slips := rfl
@[simp] theorem State.send_log (s : State) (e : Emit) : (s.send e).log = s.log := rfl
@[simp] theorem State.send_heldRaises (s : State) (e : Emit) : (s.send e).heldRaises = s.heldRaises := rfl

@[simp] theorem State.bump_out (s : State) (k : Key) : (s.bump k).out = s.out := rfl
@[simp] theorem State.bump_pending (s : State) (k : Key) : (s.bump k).pending = s.pending := rfl
@[simp] theorem State.bump_held (s : State) (k : Key) : (s.bump k).held = s.held := rfl
@[simp] theorem State.bump_ledger (s : State) (k : Key) : (s.bump k).ledger = s.ledger := rfl
@[simp] theorem State.bump_ticks (s : State) (k : Key) : (s.bump k).ticks = s.ticks := rfl
@[simp] theorem State.bump_session (s : State) (k : Key) : (s.bump k).session = s.session := rfl
@[simp] theorem State.bump_slips (s : State) (k : Key) : (s.bump k).slips = s.slips := rfl

/-! ### Time, readiness and the like read registers and counters alone -/

@[simp] theorem State.put_now (s : State) (k : Key) (v : Int) : (s.put k v).now = s.now := rfl
@[simp] theorem State.put_nowLT (s : State) (k : Key) (v : Int) : (s.put k v).nowLT = s.nowLT := rfl
@[simp] theorem State.put_tickLf (s : State) (k : Key) (v : Int) : (s.put k v).tickLf = s.tickLf := rfl
@[simp] theorem State.put_alive (s : State) (k : Key) (v : Int) : (s.put k v).alive = s.alive := rfl
@[simp] theorem State.send_now (s : State) (e : Emit) : (s.send e).now = s.now := rfl
@[simp] theorem State.send_alive (s : State) (e : Emit) : (s.send e).alive = s.alive := rfl
@[simp] theorem State.bump_now (s : State) (k : Key) : (s.bump k).now = s.now := rfl
@[simp] theorem State.bump_alive (s : State) (k : Key) : (s.bump k).alive = s.alive := rfl

/-! ### The canonical form of the store -/

theorem State.put_wf (s : State) (k : Key) (v : Int) (h : storeWf s.regs = true) : storeWf (s.put k v).regs = true :=
  storeWf_put s.regs k v h

theorem State.each_induct {α : Type} (P : State → Prop) (l : List α) (f : State → α → State) (s : State) (h : P s)
    (hf : ∀ t a, P t → P (f t a)) : P (s.each l f) := by
  induction l generalizing s with
  | nil => simpa [State.each] using h
  | cons a l ih => simpa [State.each] using ih (f s a) (hf s a h)

end Sys2Proof.Machine
end

