-- ==== Sys2Proof/Laws/Keep.lean ====
section
/-! SUPPORT. What every operation keeps: the queue of waiting commands, the canonical form of the register store, and
the order and bounds of the tables. This file holds the notion and the rules for the constructs that operations are built from. -/
namespace Sys2Proof.Machine

/-- The state's queue is `q`, its register store has the canonical form, and its tables their order and bounds. -/
def State.Ok (q : List Instr) (s : State) : Prop := s.pending = q ∧ s.wf ∧ s.tablesWf

variable {q : List Instr} {s : State}

theorem ok_ite {c : Prop} [Decidable c] {a b : State} (ha : a.Ok q) (hb : b.Ok q) : (if c then a else b).Ok q := by
  split <;> assumption

theorem put_ok (h : s.Ok q) (k : Key) (v : Int) : (s.put k v).Ok q := ⟨h.1, storeWf_put s.regs k v h.2.1, h.2.2⟩

theorem each_ok {α : Type} (h : s.Ok q) (l : List α) (f : State → α → State) (hf : ∀ t a, t.Ok q → (f t a).Ok q) :
    (s.each l f).Ok q := State.each_induct (State.Ok q) l f s h hf

theorem foldl_ok {α : Type} (h : s.Ok q) (l : List α) (f : State → α → State) (hf : ∀ t a, t.Ok q → (f t a).Ok q) :
    (l.foldl f s).Ok q := each_ok h l f hf

theorem foldl_fst_ok {α β : Type} (l : List α) (f : State × β → α → State × β) (p : State × β) (h : p.1.Ok q)
    (hf : ∀ (t : State × β) a, t.1.Ok q → (f t a).1.Ok q) : (l.foldl f p).1.Ok q := by
  induction l generalizing p with
  | nil => exact h
  | cons a l ih => exact ih (f p a) (hf p a h)

theorem repeat_ok (h : s.Ok q) (f : State → State) (n : Nat) (hf : ∀ t, t.Ok q → (f t).Ok q) : (Nat.repeat f n s).Ok q := by
  induction n with
  | zero => exact h
  | succ n ih => exact hf _ ih

theorem when_ok (h : s.Ok q) (b : Bool) (f : State → State) (hf : ∀ t, t.Ok q → (f t).Ok q) : (s.when b f).Ok q := by
  unfold State.when; split
  · exact hf s h
  · exact h

/-- An update of any fields but the queue, the registers, the slips, the Logbook and the Almanac's intervals. -/
theorem mk_ok {q : List Instr} {s : State} (h : s.Ok q) (x2 : List Emit) (x3 : Nat) (x4 : Held) (x5 : Nat) (x6 : Nat)
    (x7 : List (Nat × Nat)) (x8 : Option Session) (x9 : Option OldSession) (x10 : Option (Nat × Int)) (x11 : List (Nat
    × Nat)) (x12 : List (Nat × Nat)) (x13 : List MirrorWait) (x16 : List Nat) (x17 : List (Nat × Int)) (x18 : List
    HeldRaise) (x19 : List CommitRec) (x20 : Option Store) (x21 : Option HealthMsg) (x22 : List (Key × Int)) (x24 :
    List AlmRec) (x25 : List (List Int)) (x26 : List Int) (x27 : List (Option Int)) (x28 : List (Nat × Int)) (x29 :
    List (Nat × Int)) (x30 : List (Nat × SdiLink)) (x31 : List (Nat × Int × List AncPkt)) (x32 : List Cut) (x33 : List
    (Nat × List Int)) (x34 : List Promo) (x35 : List (Nat × Nat × Nat × Int)) (x36 : List (OfferRec × Int)) (x37 :
    List OfferRec) (x38 : List FabSub) (x39 : List Pattern) (x40 : List (Bool × Resv)) (x41 : List FlowBuf) (x42 :
    List SkewKey) (x43 : List FlowTail) (x44 : List (Nat × Bool × Nat × Option Nat)) (x45 : List Nat) (x46 : List
    TxFrame) (x47 : List LayerStore) (x48 : List Recording) (x49 : List Recording) (x50 : List MemErr) (x51 : List
    (Nat × Nat × Nat)) (x52 : Prog) (x53 : Prog) (x54 : Option Prog) (x55 : List PathSt) (x56 : List LimSt) (x57 :
    List SlotFade) (x58 : Option AudFade) (x59 : List (Nat × Int)) (x60 : List Nat) (x61 : List InjHeld) (x62 : Option
    SvcSession) (x63 : Option SvcResp) (x64 : List FlashImage) (x65 : List Slip) :
    State.Ok q (State.mk s.pending s.regs x2 x3 x4 x5 x6 x7 x8 x9 x10 x11 x12 x13 s.slips s.log x16 x17 x18 x19 x20
    x21 x22 s.almIntervals x24 x25 x26 x27 x28 x29 x30 x31 x32 x33 x34 x35 x36 x37 x38 x39 x40 x41 x42 x43 x44 x45 x46
    x47 x48 x49 x50 x51 x52 x53 x54 x55 x56 x57 x58 x59 x60 x61 x62 x63 x64 x65) := ⟨h.1, h.2⟩

end Sys2Proof.Machine
end

