-- ==== Sys2Proof/Laws/KeepDevice.lean ====
section
/-! SUPPORT. The operations of the registers, islands, faults, monitors, Ledger time, the reference unit, the serial receivers and the injection table keep the queue, the canonical form of the register store, and the order and bounds of the tables (`State.Ok`). -/
namespace Sys2Proof.Machine

/-! ### Ops -/

theorem send_ok {que : List Instr} {s : State} (hok : State.Ok que s) (e : Emit) :
    State.Ok que (State.send s e) := by
  unfold State.send
  repeat' (with_reducible first | assumption | intro _ | apply ok_ite | apply put_ok | split | apply mk_ok)

theorem bumpBy_ok {que : List Instr} {s : State} (hok : State.Ok que s) (k : Key) (n : Int) :
    State.Ok que (State.bumpBy s k n) := by
  unfold State.bumpBy
  repeat' (with_reducible first | assumption | intro _ | apply ok_ite | apply put_ok | split)

theorem bump_ok {que : List Instr} {s : State} (hok : State.Ok que s) (k : Key) :
    State.Ok que (State.bump s k) := by
  unfold State.bump
  repeat' (with_reducible first | assumption | intro _ | apply bumpBy_ok | apply ok_ite | apply put_ok | split)

theorem drawn_ok {que : List Instr} {s : State} (hok : State.Ok que s) :
    State.Ok que (State.drawn s) := by
  unfold State.drawn
  repeat' (with_reducible first | assumption | intro _ | apply ok_ite | apply put_ok | split | apply mk_ok)

theorem sendFrame_ok {que : List Instr} {s : State} (hok : State.Ok que s) (port : Nat) (cls : Nat) (p : Packet) :
    State.Ok que (State.sendFrame s port cls p) := by
  unfold State.sendFrame
  repeat' (with_reducible first | assumption | intro _ | apply send_ok | apply ok_ite | apply put_ok | split)

/-! ### SlipTable -/

theorem putSlip_nums (x : Slip) (l : List Slip) (n : Nat) (hn : n < x.num) (h : ∀ y ∈ l, n < y.num) : ∀ y ∈ putSlip x l,
    n < y.num := by
  induction l with
  | nil =>
    intro y hy
    simp only [putSlip] at hy
    split at hy
    · cases hy
    · simp only [List.mem_singleton] at hy
      exact hy ▸ hn
  | cons a l ih =>
    intro y hy
    have ha := h a (by simp)
    have hl : ∀ z ∈ l, n < z.num := fun z hz => h z (by simp [hz])
    simp only [putSlip] at hy
    split at hy
    · split at hy
      · exact h y hy
      · rcases List.mem_cons.1 hy with e | e
        · exact e ▸ hn
        · exact h y e
    · split at hy
      · split at hy
        · exact hl y hy
        · rcases List.mem_cons.1 hy with e | e
          · exact e ▸ hn
          · exact hl y e
      · rcases List.mem_cons.1 hy with e | e
        · exact e ▸ ha
        · exact ih hl y e

theorem putSlip_sorted (x : Slip) (l : List Slip) (h : (l.map Slip.num).Pairwise (· < ·)) :
    ((putSlip x l).map Slip.num).Pairwise (· < ·) := by
  induction l with
  | nil => simp only [putSlip]; split <;> simp
  | cons a l ih =>
    simp only [List.map_cons, List.pairwise_cons, List.mem_map, forall_exists_index, and_imp, forall_apply_eq_imp_iff₂] at h
    simp only [putSlip]
    split
    · rename_i hlt
      split
      · simpa using h
      · simp only [List.map_cons, List.pairwise_cons, List.mem_cons, List.mem_map, forall_eq_or_imp, forall_exists_index, and_imp,
          forall_apply_eq_imp_iff₂]
        exact ⟨⟨hlt, fun y hy => Nat.lt_trans hlt (h.1 y hy)⟩, h⟩
    · split
      · rename_i he
        split
        · exact h.2
        · simp only [List.map_cons, List.pairwise_cons, List.mem_map, forall_exists_index, and_imp, forall_apply_eq_imp_iff₂]
          exact ⟨fun y hy => he ▸ h.1 y hy, h.2⟩
      · rename_i h1 h2
        simp only [List.map_cons, List.pairwise_cons, List.mem_map, forall_exists_index, and_imp, forall_apply_eq_imp_iff₂]
        exact ⟨putSlip_nums x l a.num (by omega) h.1, ih h.2⟩

theorem setSlip_ok {que : List Instr} {s : State} (hok : s.Ok que) (x : Slip) : State.Ok que (s.setSlip x) :=
  ⟨hok.1, hok.2.1, putSlip_sorted x s.slips hok.2.2.1, hok.2.2.2⟩

theorem rearm_ok {que : List Instr} {s : State} (hok : State.Ok que s) (n : Nat) (items : List (Key × Int)) :
    State.Ok que (State.rearm s n items) := by
  unfold State.rearm
  repeat' (first
    | (with_reducible first | assumption | intro _ | apply setSlip_ok | apply ok_ite | apply put_ok | split | apply mk_ok | apply_assumption)
    | (extract_lets +onlyGivenNames t1; first
      | (refine_lift have h1 : State.Ok que t1 := ?_; ?_; on_goal 2 => clear_value t1; on_goal 1 => unfold t1; try dsimp only)
      | (refine_lift have h1 : State.Ok que t1.1 := ?_; ?_; on_goal 2 => clear_value t1; on_goal 1 => unfold t1; try dsimp only)
      | clear_value t1)
    | dsimp only)

theorem failRecord_ok {que : List Instr} {s : State} (hok : State.Ok que s) (n : Nat) (st : Status) (cause : Nat) :
    State.Ok que (State.failRecord s n st cause) := by
  unfold State.failRecord
  repeat' (with_reducible first | assumption | intro _ | apply bump_ok | apply setSlip_ok | apply ok_ite | apply put_ok | apply when_ok | split | apply mk_ok)

/-! ### Islands -/

theorem probTouch_ok {que : List Instr} {s : State} (hok : State.Ok que s) :
    State.Ok que (State.probTouch s) := by
  unfold State.probTouch
  repeat' (with_reducible first | assumption | intro _ | apply ok_ite | apply put_ok | split)

theorem setReady_ok {que : List Instr} {s : State} (hok : State.Ok que s) (b : Nat) (v : Bool) :
    State.Ok que (State.setReady s b v) := by
  unfold State.setReady
  repeat' (with_reducible first | assumption | intro _ | apply bump_ok | apply probTouch_ok | apply ok_ite | apply put_ok | split)

theorem dropReady_ok {que : List Instr} {s : State} (hok : State.Ok que s) (b : Nat) :
    State.Ok que (State.dropReady s b) := by
  unfold State.dropReady
  repeat' (with_reducible first | assumption | intro _ | apply setReady_ok | apply ok_ite | apply put_ok | apply each_ok | split)

theorem releaseLoan_ok {que : List Instr} {s : State} (hok : State.Ok que s) :
    State.Ok que (State.releaseLoan s) := by
  unfold State.releaseLoan
  repeat' (first
    | (with_reducible first | assumption | intro _ | apply ok_ite | apply put_ok | split | apply mk_ok | apply_assumption)
    | (extract_lets +onlyGivenNames t1; first
      | (refine_lift have h1 : State.Ok que t1 := ?_; ?_; on_goal 2 => clear_value t1; on_goal 1 => unfold t1; try dsimp only)
      | (refine_lift have h1 : State.Ok que t1.1 := ?_; ?_; on_goal 2 => clear_value t1; on_goal 1 => unfold t1; try dsimp only)
      | clear_value t1)
    | dsimp only)

theorem closeSession_ok {que : List Instr} {s : State} (hok : State.Ok que s) :
    State.Ok que (State.closeSession s) := by
  unfold State.closeSession
  repeat' (with_reducible first | assumption | intro _ | apply ok_ite | apply put_ok | split | apply mk_ok)

theorem sdiDecide_ok {que : List Instr} {s : State} (hok : State.Ok que s) (n : Nat) (st : Nat) :
    State.Ok que (State.sdiDecide s n st) := by
  unfold State.sdiDecide
  repeat' (first
    | (with_reducible first | assumption | intro _ | apply ok_ite | apply put_ok | apply when_ok | split | apply_assumption)
    | (extract_lets +onlyGivenNames t1; first
      | (refine_lift have h1 : State.Ok que t1 := ?_; ?_; on_goal 2 => clear_value t1; on_goal 1 => unfold t1; try dsimp only)
      | (refine_lift have h1 : State.Ok que t1.1 := ?_; ?_; on_goal 2 => clear_value t1; on_goal 1 => unfold t1; try dsimp only)
      | clear_value t1)
    | dsimp only)

theorem sdiDrop_ok {que : List Instr} {s : State} (hok : State.Ok que s) (n : Nat) :
    State.Ok que (State.sdiDrop s n) := by
  unfold State.sdiDrop
  repeat' (with_reducible first | assumption | intro _ | apply sdiDecide_ok | apply ok_ite | apply put_ok | apply when_ok | split)

theorem startQuiet_ok {que : List Instr} {s : State} (hok : State.Ok que s) (n : Nat) :
    State.Ok que (State.startQuiet s n) := by
  unfold State.startQuiet
  repeat' (first
    | (with_reducible first | assumption | intro _ | apply ok_ite | apply put_ok | split | apply_assumption)
    | (extract_lets +onlyGivenNames t1; first
      | (refine_lift have h1 : State.Ok que t1 := ?_; ?_; on_goal 2 => clear_value t1; on_goal 1 => unfold t1; try dsimp only)
      | (refine_lift have h1 : State.Ok que t1.1 := ?_; ?_; on_goal 2 => clear_value t1; on_goal 1 => unfold t1; try dsimp only)
      | clear_value t1)
    | dsimp only)

theorem endCond_ok {que : List Instr} {s : State} (hok : State.Ok que s) (n : Nat) :
    State.Ok que (State.endCond s n) := by
  unfold State.endCond
  repeat' (first
    | (with_reducible first | assumption | intro _ | apply startQuiet_ok | apply ok_ite | apply put_ok | split | apply mk_ok | apply_assumption)
    | (extract_lets +onlyGivenNames t1; first
      | (refine_lift have h1 : State.Ok que t1 := ?_; ?_; on_goal 2 => clear_value t1; on_goal 1 => unfold t1; try dsimp only)
      | (refine_lift have h1 : State.Ok que t1.1 := ?_; ?_; on_goal 2 => clear_value t1; on_goal 1 => unfold t1; try dsimp only)
      | clear_value t1)
    | dsimp only)

theorem queueRaise_ok {que : List Instr} {s : State} (hok : State.Ok que s) (n : Nat) (cause : Nat) (context : Nat) (cond : Bool) :
    State.Ok que (State.queueRaise s n cause context cond) := by
  unfold State.queueRaise
  repeat' (with_reducible first | assumption | intro _ | apply ok_ite | apply put_ok | split | apply mk_ok)

theorem failLaunched_ok {que : List Instr} {s : State} (hok : State.Ok que s) (i : Nat) :
    State.Ok que (State.failLaunched s i) := by
  unfold State.failLaunched
  repeat' (first
    | (with_reducible first | assumption | intro _ | apply rearm_ok | apply failRecord_ok | apply queueRaise_ok | apply ok_ite | apply put_ok | apply each_ok | split | apply_assumption)
    | (extract_lets +onlyGivenNames t1; first
      | (refine_lift have h1 : State.Ok que t1 := ?_; ?_; on_goal 2 => clear_value t1; on_goal 1 => unfold t1; try dsimp only)
      | (refine_lift have h1 : State.Ok que t1.1 := ?_; ?_; on_goal 2 => clear_value t1; on_goal 1 => unfold t1; try dsimp only)
      | clear_value t1)
    | dsimp only)

theorem egressDue_ok {que : List Instr} {s : State} (hok : State.Ok que s) :
    State.Ok que (State.egressDue s) := by
  unfold State.egressDue
  repeat' (with_reducible first | assumption | intro _ | apply ok_ite | apply put_ok | split)

theorem setPairing_ok {que : List Instr} {s : State} (hok : State.Ok que s) (v : Int) :
    State.Ok que (State.setPairing s v) := by
  unfold State.setPairing
  repeat' (first
    | (with_reducible first | assumption | intro _ | apply egressDue_ok | apply ok_ite | apply put_ok | apply each_ok | apply when_ok | split | apply_assumption)
    | (extract_lets +onlyGivenNames t1; first
      | (refine_lift have h1 : State.Ok que t1 := ?_; ?_; on_goal 2 => clear_value t1; on_goal 1 => unfold t1; try dsimp only)
      | (refine_lift have h1 : State.Ok que t1.1 := ?_; ?_; on_goal 2 => clear_value t1; on_goal 1 => unfold t1; try dsimp only)
      | clear_value t1)
    | dsimp only)

theorem linkFalls_ok {que : List Instr} {s : State} (hok : State.Ok que s) :
    State.Ok que (State.linkFalls s) := by
  unfold State.linkFalls
  repeat' (first
    | (with_reducible first | assumption | intro _ | apply bump_ok | apply endCond_ok | apply queueRaise_ok | apply setPairing_ok | apply ok_ite | apply put_ok | split | apply mk_ok | apply_assumption)
    | (extract_lets +onlyGivenNames t1; first
      | (refine_lift have h1 : State.Ok que t1 := ?_; ?_; on_goal 2 => clear_value t1; on_goal 1 => unfold t1; try dsimp only)
      | (refine_lift have h1 : State.Ok que t1.1 := ?_; ?_; on_goal 2 => clear_value t1; on_goal 1 => unfold t1; try dsimp only)
      | clear_value t1)
    | dsimp only)

theorem macFalls_ok {que : List Instr} {s : State} (hok : State.Ok que s) (m : Nat) :
    State.Ok que (State.macFalls s m) := by
  unfold State.macFalls
  repeat' (first
    | (with_reducible first | assumption | intro _ | apply bumpBy_ok | apply bump_ok | apply queueRaise_ok | apply ok_ite | apply put_ok | split | apply mk_ok | apply_assumption)
    | (extract_lets +onlyGivenNames t1; first
      | (refine_lift have h1 : State.Ok que t1 := ?_; ?_; on_goal 2 => clear_value t1; on_goal 1 => unfold t1; try dsimp only)
      | (refine_lift have h1 : State.Ok que t1.1 := ?_; ?_; on_goal 2 => clear_value t1; on_goal 1 => unfold t1; try dsimp only)
      | clear_value t1)
    | dsimp only)

theorem txIdle_ok {que : List Instr} {s : State} (hok : State.Ok que s) (n : Nat) :
    State.Ok que (State.txIdle s n) := by
  unfold State.txIdle
  repeat' (with_reducible first | assumption | intro _ | apply send_ok | apply ok_ite | apply put_ok | split)

theorem flowsLost_ok {que : List Instr} {s : State} (hok : State.Ok que s) :
    State.Ok que (State.flowsLost s) := by
  unfold State.flowsLost
  repeat' (with_reducible first | assumption | intro _ | apply ok_ite | apply put_ok | apply each_ok | apply when_ok | split | apply mk_ok)

theorem logLost_ok {que : List Instr} {s : State} (hok : State.Ok que s) (other : Nat) :
    State.Ok que (State.logLost s other) := by
  unfold State.logLost
  split
  · exact hok
  · exact ⟨hok.1, hok.2.1, hok.2.2.1, by simp, hok.2.2.2.2⟩

theorem keepLoses_ok {que : List Instr} {s : State} (hok : State.Ok que s) :
    State.Ok que (State.keepLoses s) := by
  unfold State.keepLoses
  repeat' (first
    | (with_reducible first | assumption | intro _ | apply releaseLoan_ok | apply closeSession_ok | apply ok_ite | apply put_ok | apply when_ok | split | apply mk_ok | apply_assumption)
    | (extract_lets +onlyGivenNames t1; first
      | (refine_lift have h1 : State.Ok que t1 := ?_; ?_; on_goal 2 => clear_value t1; on_goal 1 => unfold t1; try dsimp only)
      | (refine_lift have h1 : State.Ok que t1.1 := ?_; ?_; on_goal 2 => clear_value t1; on_goal 1 => unfold t1; try dsimp only)
      | clear_value t1)
    | dsimp only)

theorem islandLoses_ok {que : List Instr} {s : State} (hok : State.Ok que s) (i : Nat) :
    State.Ok que (State.islandLoses s i) := by
  unfold State.islandLoses
  repeat' (first
    | (with_reducible first | assumption | intro _ | apply sdiDrop_ok | apply linkFalls_ok | apply macFalls_ok | apply txIdle_ok | apply flowsLost_ok | apply logLost_ok | apply keepLoses_ok | apply ok_ite | apply put_ok | apply each_ok | apply when_ok | split | apply mk_ok | apply_assumption)
    | (extract_lets +onlyGivenNames t1; first
      | (refine_lift have h1 : State.Ok que t1 := ?_; ?_; on_goal 2 => clear_value t1; on_goal 1 => unfold t1; try dsimp only)
      | (refine_lift have h1 : State.Ok que t1.1 := ?_; ?_; on_goal 2 => clear_value t1; on_goal 1 => unfold t1; try dsimp only)
      | clear_value t1)
    | dsimp only)

theorem flushPartners_ok {que : List Instr} {s : State} (hok : State.Ok que s) (i : Nat) :
    State.Ok que (State.flushPartners s i) := by
  unfold State.flushPartners
  repeat' (with_reducible first | assumption | intro _ | apply bumpBy_ok | apply drawn_ok | apply ok_ite | apply put_ok | apply each_ok | split)

theorem restartIsland_ok {que : List Instr} {s : State} (hok : State.Ok que s) (i : Nat) (cause : Nat) :
    State.Ok que (State.restartIsland s i cause) := by
  unfold State.restartIsland
  repeat' (with_reducible first | assumption | intro _ | apply bump_ok | apply dropReady_ok | apply failLaunched_ok | apply islandLoses_ok | apply flushPartners_ok | apply ok_ite | apply put_ok | apply when_ok | split)

theorem addLog_ok {que : List Instr} {s : State} (hok : s.Ok que) (src sev flags detail lt : Nat) :
    State.Ok que (s.addLog src sev flags detail lt) := by
  have merged : ∀ e r l, s.log.reverse = e :: r →
      some ((({ e with repeats := min (e.repeats + 1) (2 ^ 32 - 1) } : LogEntry) :: r).reverse) = some l → l.length ≤ 64 := by
    intro e r l hr hl
    simp only [Option.some.injEq] at hl
    have h1 := congrArg List.length hr
    simp only [List.length_reverse, List.length_cons] at h1
    have h2 := hok.2.2.2.1
    subst hl
    simp only [List.length_reverse, List.length_cons]
    omega
  unfold State.addLog
  extract_lets +onlyGivenNames m
  have hm : ∀ l, m = some l → l.length ≤ 64 := by
    intro l h
    unfold m at h
    split at h
    · cases h
    · rename_i e' r hr
      split at h
      · exact merged e' r l hr h
      · cases h
  clear_value m
  dsimp only
  split
  · rename_i l
    exact ⟨hok.1, hok.2.1, hok.2.2.1, hm l rfl, hok.2.2.2.2⟩
  · split
    · exact bump_ok hok _
    · refine ⟨hok.1, storeWf_put _ _ _ hok.2.1, hok.2.2.1, ?_, hok.2.2.2.2⟩
      simp only [List.length_drop]
      omega

theorem driveAlert_ok {que : List Instr} {s : State} (hok : State.Ok que s) :
    State.Ok que (State.driveAlert s) := by
  unfold State.driveAlert
  repeat' (first
    | (with_reducible first | assumption | intro _ | apply send_ok | apply ok_ite | apply put_ok | split | apply_assumption)
    | (extract_lets +onlyGivenNames t1; first
      | (refine_lift have h1 : State.Ok que t1 := ?_; ?_; on_goal 2 => clear_value t1; on_goal 1 => unfold t1; try dsimp only)
      | (refine_lift have h1 : State.Ok que t1.1 := ?_; ?_; on_goal 2 => clear_value t1; on_goal 1 => unfold t1; try dsimp only)
      | clear_value t1)
    | dsimp only)

theorem settleReaction_ok {que : List Instr} {s : State} (hok : State.Ok que s) (n : Nat) :
    State.Ok que (State.settleReaction s n) := by
  unfold State.settleReaction
  repeat' (first
    | (with_reducible first | assumption | intro _ | apply probTouch_ok | apply driveAlert_ok | apply ok_ite | apply put_ok | apply foldl_ok | apply foldl_fst_ok | split | apply_assumption)
    | (extract_lets +onlyGivenNames t1; first
      | (refine_lift have h1 : State.Ok que t1 := ?_; ?_; on_goal 2 => clear_value t1; on_goal 1 => unfold t1; try dsimp only)
      | (refine_lift have h1 : State.Ok que t1.1 := ?_; ?_; on_goal 2 => clear_value t1; on_goal 1 => unfold t1; try dsimp only)
      | clear_value t1)
    | dsimp only)

theorem runOn_ok {que : List Instr} {s : State} (hok : State.Ok que s) :
    State.Ok que (State.runOn s) := by
  unfold State.runOn
  repeat' (with_reducible first | assumption | intro _ | apply releaseLoan_ok | apply closeSession_ok | apply ok_ite | apply put_ok | split)

theorem safeEntry_ok {que : List Instr} {s : State} (hok : State.Ok que s) :
    State.Ok que (State.safeEntry s) := by
  unfold State.safeEntry
  repeat' (with_reducible first | assumption | intro _ | apply ok_ite | apply put_ok | apply each_ok | apply when_ok | split)

theorem react_ok {que : List Instr} {s : State} (hok : State.Ok que s) (n : Nat) (detail : Nat) :
    State.Ok que (State.react s n detail) := by
  unfold State.react
  repeat' (first
    | (with_reducible first | assumption | intro _ | apply restartIsland_ok | apply runOn_ok | apply safeEntry_ok | apply ok_ite | apply put_ok | split | apply mk_ok | apply_assumption)
    | (extract_lets +onlyGivenNames t1; first
      | (refine_lift have h1 : State.Ok que t1 := ?_; ?_; on_goal 2 => clear_value t1; on_goal 1 => unfold t1; try dsimp only)
      | (refine_lift have h1 : State.Ok que t1.1 := ?_; ?_; on_goal 2 => clear_value t1; on_goal 1 => unfold t1; try dsimp only)
      | clear_value t1)
    | dsimp only)

theorem settleRaise_ok {que : List Instr} {s : State} (hok : State.Ok que s) (n : Nat) (detail : Nat) (cond : Bool) (forced : Bool) (lt : Nat) :
    State.Ok que (State.settleRaise s n detail cond forced lt) := by
  unfold State.settleRaise
  repeat' (first
    | (with_reducible first | assumption | intro _ | apply bump_ok | apply startQuiet_ok | apply addLog_ok | apply settleReaction_ok | apply react_ok | apply ok_ite | apply put_ok | apply when_ok | split | apply_assumption)
    | (extract_lets +onlyGivenNames t1; first
      | (refine_lift have h1 : State.Ok que t1 := ?_; ?_; on_goal 2 => clear_value t1; on_goal 1 => unfold t1; try dsimp only)
      | (refine_lift have h1 : State.Ok que t1.1 := ?_; ?_; on_goal 2 => clear_value t1; on_goal 1 => unfold t1; try dsimp only)
      | clear_value t1)
    | dsimp only)

theorem settleHeld_ok {que : List Instr} {s : State} (hok : State.Ok que s) :
    State.Ok que (State.settleHeld s) := by
  unfold State.settleHeld
  repeat' (first
    | (with_reducible first | assumption | intro _ | apply settleRaise_ok | apply ok_ite | apply put_ok | apply each_ok | apply foldl_ok | apply foldl_fst_ok | split | apply mk_ok | apply_assumption)
    | (extract_lets +onlyGivenNames t1; first
      | (refine_lift have h1 : State.Ok que t1 := ?_; ?_; on_goal 2 => clear_value t1; on_goal 1 => unfold t1; try dsimp only)
      | (refine_lift have h1 : State.Ok que t1.1 := ?_; ?_; on_goal 2 => clear_value t1; on_goal 1 => unfold t1; try dsimp only)
      | (refine_lift have h1 : ∀ u, State.Ok que u → State.Ok que (t1 u) := ?_; ?_; on_goal 2 => clear_value t1; on_goal 1 => unfold t1; try dsimp only)
      | (refine_lift have h1 : ∀ u a, State.Ok que u → State.Ok que (t1 u a) := ?_; ?_; on_goal 2 => clear_value t1; on_goal 1 => unfold t1; try dsimp only)
      | (refine_lift have h1 : ∀ u a b, State.Ok que u → State.Ok que (t1 u a b) := ?_; ?_; on_goal 2 => clear_value t1; on_goal 1 => unfold t1; try dsimp only)
      | (refine_lift have h1 : ∀ u a b c, State.Ok que u → State.Ok que (t1 u a b c) := ?_; ?_; on_goal 2 => clear_value t1; on_goal 1 => unfold t1; try dsimp only)
      | clear_value t1)
    | dsimp only)

theorem settleRounds_ok (n : Nat) {que : List Instr} {s : State} (hok : State.Ok que s) :
    State.Ok que (State.settleRounds n s) := by
  induction n generalizing s with
  | zero => exact hok
  | succ n ih =>
    simp only [State.settleRounds]
    split
    · exact ih (settleHeld_ok hok)
    · exact hok

theorem settleQueue_ok {que : List Instr} {s : State} (hok : State.Ok que s) :
    State.Ok que (State.settleQueue s) := settleRounds_ok 47 hok

theorem raiseAs_ok {que : List Instr} {s : State} (hok : State.Ok que s) (n : Nat) (detail : Nat) (cond : Bool) (forced : Bool) :
    State.Ok que (State.raiseAs s n detail cond forced) := by
  unfold State.raiseAs
  repeat' (with_reducible first | assumption | intro _ | apply settleRaise_ok | apply settleQueue_ok | apply ok_ite | apply put_ok | split | apply mk_ok)

theorem raise_ok {que : List Instr} {s : State} (hok : State.Ok que s) (n : Nat) (cause : Nat) (context : Nat) :
    State.Ok que (State.raise s n cause context) := by
  unfold State.raise
  repeat' (with_reducible first | assumption | intro _ | apply raiseAs_ok | apply ok_ite | apply put_ok | split)

theorem raiseCond_ok {que : List Instr} {s : State} (hok : State.Ok que s) (n : Nat) (context : Nat) :
    State.Ok que (State.raiseCond s n context) := by
  unfold State.raiseCond
  repeat' (with_reducible first | assumption | intro _ | apply raiseAs_ok | apply ok_ite | apply put_ok | split)

theorem holdIsland_ok {que : List Instr} {s : State} (hok : State.Ok que s) (i : Nat) :
    State.Ok que (State.holdIsland s i) := by
  unfold State.holdIsland
  repeat' (with_reducible first | assumption | intro _ | apply dropReady_ok | apply ok_ite | apply put_ok | split)

theorem countRecovery_ok {que : List Instr} {s : State} (hok : State.Ok que s) (n : Nat) :
    State.Ok que (State.countRecovery s n) := by
  unfold State.countRecovery
  repeat' (first
    | (with_reducible first | assumption | intro _ | apply bump_ok | apply addLog_ok | apply holdIsland_ok | apply ok_ite | apply put_ok | split | apply mk_ok | apply_assumption)
    | (extract_lets +onlyGivenNames t1; first
      | (refine_lift have h1 : State.Ok que t1 := ?_; ?_; on_goal 2 => clear_value t1; on_goal 1 => unfold t1; try dsimp only)
      | (refine_lift have h1 : State.Ok que t1.1 := ?_; ?_; on_goal 2 => clear_value t1; on_goal 1 => unfold t1; try dsimp only)
      | clear_value t1)
    | dsimp only)

theorem islandReturned_ok {que : List Instr} {s : State} (hok : State.Ok que s) (i : Nat) :
    State.Ok que (State.islandReturned s i) := by
  unfold State.islandReturned
  repeat' (first
    | (with_reducible first | assumption | intro _ | apply startQuiet_ok | apply settleReaction_ok | apply countRecovery_ok | apply ok_ite | apply put_ok | apply each_ok | split | apply_assumption)
    | (extract_lets +onlyGivenNames t1; first
      | (refine_lift have h1 : State.Ok que t1 := ?_; ?_; on_goal 2 => clear_value t1; on_goal 1 => unfold t1; try dsimp only)
      | (refine_lift have h1 : State.Ok que t1.1 := ?_; ?_; on_goal 2 => clear_value t1; on_goal 1 => unfold t1; try dsimp only)
      | clear_value t1)
    | dsimp only)

theorem quietExpiry_ok {que : List Instr} {s : State} (hok : State.Ok que s) (n : Nat) :
    State.Ok que (State.quietExpiry s n) := by
  unfold State.quietExpiry
  repeat' (first
    | (with_reducible first | assumption | intro _ | apply settleReaction_ok | apply countRecovery_ok | apply ok_ite | apply put_ok | split | apply_assumption)
    | (extract_lets +onlyGivenNames t1; first
      | (refine_lift have h1 : State.Ok que t1 := ?_; ?_; on_goal 2 => clear_value t1; on_goal 1 => unfold t1; try dsimp only)
      | (refine_lift have h1 : State.Ok que t1.1 := ?_; ?_; on_goal 2 => clear_value t1; on_goal 1 => unfold t1; try dsimp only)
      | clear_value t1)
    | dsimp only)

/-! ### Power -/

theorem refreshTarget_ok {que : List Instr} {s : State} (hok : State.Ok que s) :
    State.Ok que (State.refreshTarget s) := by
  unfold State.refreshTarget
  repeat' (with_reducible first | assumption | intro _ | apply ok_ite | apply put_ok | split)

/-! ### Wear -/

theorem submit_ok {que : List Instr} {s : State} (hok : State.Ok que s) (b : Nat) :
    State.Ok que (State.submit s b) := by
  unfold State.submit
  repeat' (with_reducible first | assumption | intro _ | apply ok_ite | apply put_ok | split)

theorem refreshInject_ok {que : List Instr} {s : State} (hok : State.Ok que s) :
    State.Ok que (State.refreshInject s) := by
  unfold State.refreshInject
  repeat' (first
    | (with_reducible first | assumption | intro _ | apply ok_ite | apply put_ok | apply each_ok | split | apply_assumption)
    | (extract_lets +onlyGivenNames t1; first
      | (refine_lift have h1 : State.Ok que t1 := ?_; ?_; on_goal 2 => clear_value t1; on_goal 1 => unfold t1; try dsimp only)
      | (refine_lift have h1 : State.Ok que t1.1 := ?_; ?_; on_goal 2 => clear_value t1; on_goal 1 => unfold t1; try dsimp only)
      | clear_value t1)
    | dsimp only)

theorem endBooking_ok {que : List Instr} {s : State} (hok : State.Ok que s) (b : Nat) (st : Int) (r : Status) :
    State.Ok que (State.endBooking s b st r) := by
  unfold State.endBooking
  repeat' (with_reducible first | assumption | intro _ | apply refreshInject_ok | apply ok_ite | apply put_ok | split)

theorem cancelBooking_ok {que : List Instr} {s : State} (hok : State.Ok que s) (b : Nat) :
    State.Ok que (State.cancelBooking s b) := by
  unfold State.cancelBooking
  repeat' (with_reducible first | assumption | intro _ | apply endBooking_ok | apply ok_ite | apply put_ok | split)

theorem checkBookings_ok {que : List Instr} {s : State} (hok : State.Ok que s) :
    State.Ok que (State.checkBookings s) := by
  unfold State.checkBookings
  repeat' (with_reducible first | assumption | intro _ | apply endBooking_ok | apply ok_ite | apply put_ok | apply each_ok | split)

theorem bookingDone_ok {que : List Instr} {s : State} (hok : State.Ok que s) (b : Nat) (eyes : List (Nat × Nat × Nat)) :
    State.Ok que (State.bookingDone s b eyes) := by
  unfold State.bookingDone
  repeat' (first
    | (with_reducible first | assumption | intro _ | apply bumpBy_ok | apply endBooking_ok | apply ok_ite | apply put_ok | apply each_ok | apply foldl_ok | apply foldl_fst_ok | split | apply mk_ok | apply_assumption)
    | (extract_lets +onlyGivenNames t1; first
      | (refine_lift have h1 : State.Ok que t1 := ?_; ?_; on_goal 2 => clear_value t1; on_goal 1 => unfold t1; try dsimp only)
      | (refine_lift have h1 : State.Ok que t1.1 := ?_; ?_; on_goal 2 => clear_value t1; on_goal 1 => unfold t1; try dsimp only)
      | clear_value t1)
    | dsimp only)

theorem bookingWindowEnd_ok {que : List Instr} {s : State} (hok : State.Ok que s) (b : Nat) :
    State.Ok que (State.bookingWindowEnd s b) := by
  unfold State.bookingWindowEnd
  repeat' (first
    | (with_reducible first | assumption | intro _ | apply endBooking_ok | apply ok_ite | apply put_ok | split | apply_assumption)
    | (extract_lets +onlyGivenNames t1; first
      | (refine_lift have h1 : State.Ok que t1 := ?_; ?_; on_goal 2 => clear_value t1; on_goal 1 => unfold t1; try dsimp only)
      | (refine_lift have h1 : State.Ok que t1.1 := ?_; ?_; on_goal 2 => clear_value t1; on_goal 1 => unfold t1; try dsimp only)
      | clear_value t1)
    | dsimp only)

theorem adoptBookings_ok {que : List Instr} {s : State} (hok : State.Ok que s) (h : HealthMsg) :
    State.Ok que (State.adoptBookings s h) := by
  unfold State.adoptBookings
  repeat' (first
    | (with_reducible first | assumption | intro _ | apply drawn_ok | apply refreshInject_ok | apply ok_ite | apply put_ok | apply each_ok | split | apply_assumption)
    | (extract_lets +onlyGivenNames t1; first
      | (refine_lift have h1 : State.Ok que t1 := ?_; ?_; on_goal 2 => clear_value t1; on_goal 1 => unfold t1; try dsimp only)
      | (refine_lift have h1 : State.Ok que t1.1 := ?_; ?_; on_goal 2 => clear_value t1; on_goal 1 => unfold t1; try dsimp only)
      | clear_value t1)
    | dsimp only)

theorem timeCond_ok {que : List Instr} {s : State} (hok : State.Ok que s) (k : Key) (c : Bool) :
    State.Ok que (State.timeCond s k c) := by
  unfold State.timeCond
  repeat' (with_reducible first | assumption | intro _ | apply ok_ite | apply put_ok | split)

theorem wearSample_ok {que : List Instr} {s : State} (hok : State.Ok que s) (readings : List (Nat × Nat × Int)) :
    State.Ok que (State.wearSample s readings) := by
  unfold State.wearSample
  repeat' (first
    | (with_reducible first | assumption | intro _ | apply timeCond_ok | apply ok_ite | apply put_ok | apply each_ok | split | apply mk_ok | apply_assumption)
    | (extract_lets +onlyGivenNames t1; first
      | (refine_lift have h1 : State.Ok que t1 := ?_; ?_; on_goal 2 => clear_value t1; on_goal 1 => unfold t1; try dsimp only)
      | (refine_lift have h1 : State.Ok que t1.1 := ?_; ?_; on_goal 2 => clear_value t1; on_goal 1 => unfold t1; try dsimp only)
      | clear_value t1)
    | dsimp only)

theorem memHot_ok {que : List Instr} {s : State} (hok : State.Ok que s) (k : Nat) :
    State.Ok que (State.memHot s k) := by
  unfold State.memHot
  repeat' (with_reducible first | assumption | intro _ | apply ok_ite | apply put_ok | split)

theorem memTemps_ok {que : List Instr} {s : State} (hok : State.Ok que s) :
    State.Ok que (State.memTemps s) := by
  unfold State.memTemps
  repeat' (with_reducible first | assumption | intro _ | apply memHot_ok | apply ok_ite | apply put_ok | apply each_ok | split)

theorem thermalSample_ok {que : List Instr} {s : State} (hok : State.Ok que s) (temps : List Int) :
    State.Ok que (State.thermalSample s temps) := by
  unfold State.thermalSample
  repeat' (first
    | (with_reducible first | assumption | intro _ | apply endCond_ok | apply raiseCond_ok | apply timeCond_ok | apply memTemps_ok | apply ok_ite | apply put_ok | apply each_ok | apply foldl_ok | apply foldl_fst_ok | split | apply_assumption)
    | (extract_lets +onlyGivenNames t1; first
      | (refine_lift have h1 : State.Ok que t1 := ?_; ?_; on_goal 2 => clear_value t1; on_goal 1 => unfold t1; try dsimp only)
      | (refine_lift have h1 : State.Ok que t1.1 := ?_; ?_; on_goal 2 => clear_value t1; on_goal 1 => unfold t1; try dsimp only)
      | clear_value t1)
    | dsimp only)

theorem eyeSample_ok {que : List Instr} {s : State} (hok : State.Ok que s) (readings : List (Nat × Nat × Nat × Bool)) :
    State.Ok que (State.eyeSample s readings) := by
  unfold State.eyeSample
  repeat' (first
    | (with_reducible first | assumption | intro _ | apply ok_ite | apply put_ok | apply each_ok | split | apply_assumption)
    | (extract_lets +onlyGivenNames t1; first
      | (refine_lift have h1 : State.Ok que t1 := ?_; ?_; on_goal 2 => clear_value t1; on_goal 1 => unfold t1; try dsimp only)
      | (refine_lift have h1 : State.Ok que t1.1 := ?_; ?_; on_goal 2 => clear_value t1; on_goal 1 => unfold t1; try dsimp only)
      | clear_value t1)
    | dsimp only)

theorem marginJudge_ok {que : List Instr} {s : State} (hok : State.Ok que s) :
    State.Ok que (State.marginJudge s) := by
  unfold State.marginJudge
  repeat' (first
    | (with_reducible first | assumption | intro _ | apply endCond_ok | apply raiseCond_ok | apply ok_ite | apply put_ok | split | apply mk_ok | apply_assumption)
    | (extract_lets +onlyGivenNames t1; first
      | (refine_lift have h1 : State.Ok que t1 := ?_; ?_; on_goal 2 => clear_value t1; on_goal 1 => unfold t1; try dsimp only)
      | (refine_lift have h1 : State.Ok que t1.1 := ?_; ?_; on_goal 2 => clear_value t1; on_goal 1 => unfold t1; try dsimp only)
      | clear_value t1)
    | dsimp only)

theorem refit_ok {que : List Instr} {s : State} (hok : State.Ok que s) :
    State.Ok que (State.refit s) := by
  unfold State.refit
  repeat' (with_reducible first | assumption | intro _ | apply marginJudge_ok | apply ok_ite | apply put_ok | apply each_ok | split)

theorem almanacInterval_ok {que : List Instr} {s : State} (hok : s.Ok que) : State.Ok que s.almanacInterval := by
  unfold State.almanacInterval
  extract_lets +onlyGivenNames r iv t0 t1 t2
  have h0 : State.Ok que t0 := ⟨hok.1, hok.2.1, hok.2.2.1, hok.2.2.2.1, by simp only [t0, iv, List.length_take]; omega⟩
  clear_value t0 iv
  have h1 : State.Ok que t1 := put_ok (put_ok (put_ok (put_ok h0 _ _) _ _) _ _) _ _
  clear_value t1
  have h2 : State.Ok que t2 := each_ok h1 _ _ (fun t i ht => put_ok (put_ok (put_ok ht _ _) _ _) _ _)
  clear_value t2
  extract_lets +onlyGivenNames t3 t4 t5 t6
  have h3 : State.Ok que t3 := each_ok h2 _ _ (fun t i ht => put_ok ht _ _)
  clear_value t3
  have h4 : State.Ok que t4 := each_ok h3 _ _ (fun t i ht => put_ok ht _ _)
  clear_value t4
  have h5 : State.Ok que t5 := each_ok h4 _ _ (fun t i ht => put_ok ht _ _)
  clear_value t5
  have h6 : State.Ok que t6 := put_ok (put_ok (put_ok (put_ok (put_ok (memTemps_ok h5) _ _) _ _) _ _) _ _) _ _
  clear_value t6
  dsimp only
  split
  · split
    · exact h6
    · exact refit_ok (put_ok (put_ok (mk_ok h6 ..) _ _) _ _)
  · exact h6

theorem almanacBoundary_ok {que : List Instr} {s : State} (hok : State.Ok que s) :
    State.Ok que (State.almanacBoundary s) := by
  unfold State.almanacBoundary
  repeat' (with_reducible first | assumption | intro _ | apply almanacInterval_ok | apply ok_ite | apply put_ok | split | apply mk_ok)

theorem avsStep_ok {que : List Instr} {s : State} (hok : State.Ok que s) :
    State.Ok que (State.avsStep s) := by
  unfold State.avsStep
  repeat' (first
    | (with_reducible first | assumption | intro _ | apply bump_ok | apply refreshTarget_ok | apply ok_ite | apply put_ok | split | apply_assumption)
    | (extract_lets +onlyGivenNames t1; first
      | (refine_lift have h1 : State.Ok que t1 := ?_; ?_; on_goal 2 => clear_value t1; on_goal 1 => unfold t1; try dsimp only)
      | (refine_lift have h1 : State.Ok que t1.1 := ?_; ?_; on_goal 2 => clear_value t1; on_goal 1 => unfold t1; try dsimp only)
      | clear_value t1)
    | dsimp only)

theorem avsJudge_ok {que : List Instr} {s : State} (hok : State.Ok que s) (vdd : Nat) :
    State.Ok que (State.avsJudge s vdd) := by
  unfold State.avsJudge
  repeat' (first
    | (with_reducible first | assumption | intro _ | apply bumpBy_ok | apply endCond_ok | apply raiseCond_ok | apply timeCond_ok | apply ok_ite | apply put_ok | split | apply_assumption)
    | (extract_lets +onlyGivenNames t1; first
      | (refine_lift have h1 : State.Ok que t1 := ?_; ?_; on_goal 2 => clear_value t1; on_goal 1 => unfold t1; try dsimp only)
      | (refine_lift have h1 : State.Ok que t1.1 := ?_; ?_; on_goal 2 => clear_value t1; on_goal 1 => unfold t1; try dsimp only)
      | clear_value t1)
    | dsimp only)

theorem powerJudge_ok {que : List Instr} {s : State} (hok : State.Ok que s) (watts : Nat) :
    State.Ok que (State.powerJudge s watts) := by
  unfold State.powerJudge
  repeat' (first
    | (with_reducible first | assumption | intro _ | apply bumpBy_ok | apply endCond_ok | apply raiseCond_ok | apply timeCond_ok | apply ok_ite | apply put_ok | split | apply_assumption)
    | (extract_lets +onlyGivenNames t1; first
      | (refine_lift have h1 : State.Ok que t1 := ?_; ?_; on_goal 2 => clear_value t1; on_goal 1 => unfold t1; try dsimp only)
      | (refine_lift have h1 : State.Ok que t1.1 := ?_; ?_; on_goal 2 => clear_value t1; on_goal 1 => unfold t1; try dsimp only)
      | clear_value t1)
    | dsimp only)

/-! ### Time -/

theorem tickWith_ok {que : List Instr} {s : State} (hok : State.Ok que s) (amount : Int) :
    State.Ok que (State.tickWith s amount) := by
  unfold State.tickWith
  repeat' (with_reducible first | assumption | intro _ | apply ok_ite | apply put_ok | split | apply mk_ok)

theorem refreshSlipBit_ok {que : List Instr} {s : State} (hok : State.Ok que s) :
    State.Ok que (State.refreshSlipBit s) := by
  unfold State.refreshSlipBit
  repeat' (with_reducible first | assumption | intro _ | apply setReady_ok | apply ok_ite | apply put_ok | split)

theorem recordStep_ok {que : List Instr} {s : State} (hok : State.Ok que s) (amount : Int) (result : Int) (source : Int) :
    State.Ok que (State.recordStep s amount result source) := by
  unfold State.recordStep
  repeat' (with_reducible first | assumption | intro _ | apply ok_ite | apply put_ok | split)

theorem applyStep_ok {que : List Instr} {s : State} (hok : State.Ok que s) (amount : Int) (result : Int) (source : Int) :
    State.Ok que (State.applyStep s amount result source) := by
  unfold State.applyStep
  repeat' (with_reducible first | assumption | intro _ | apply raise_ok | apply tickWith_ok | apply refreshSlipBit_ok | apply recordStep_ok | apply ok_ite | apply put_ok | split)

theorem refuseStep_ok {que : List Instr} {s : State} (hok : State.Ok que s) (amount : Int) (source : Int) :
    State.Ok que (State.refuseStep s amount source) := by
  unfold State.refuseStep
  repeat' (with_reducible first | assumption | intro _ | apply bump_ok | apply raise_ok | apply recordStep_ok | apply ok_ite | apply put_ok | split)

theorem stepWrite_ok {que : List Instr} {s : State} (hok : State.Ok que s) (amount : Int) (force : Bool) :
    State.Ok que (State.stepWrite s amount force) := by
  unfold State.stepWrite
  repeat' (with_reducible first | assumption | intro _ | apply applyStep_ok | apply refuseStep_ok | apply force_ok | apply ok_ite | apply put_ok | split | apply mk_ok)

theorem setIncrement_ok {que : List Instr} {s : State} (hok : State.Ok que s) (v : Int) :
    State.Ok que (State.setIncrement s v) := by
  unfold State.setIncrement
  repeat' (with_reducible first | assumption | intro _ | apply ok_ite | apply put_ok | split | apply mk_ok)

theorem servoStep_ok {que : List Instr} {s : State} (hok : State.Ok que s) (offset : Int) :
    State.Ok que (State.servoStep s offset) := by
  unfold State.servoStep
  repeat' (with_reducible first | assumption | intro _ | apply applyStep_ok | apply refuseStep_ok | apply ok_ite | apply put_ok | split)

theorem acquire_ok {que : List Instr} {s : State} (hok : State.Ok que s) :
    State.Ok que (State.acquire s) := by
  unfold State.acquire
  repeat' (with_reducible first | assumption | intro _ | apply ok_ite | apply put_ok | split)

theorem masterSelected_ok {que : List Instr} {s : State} (hok : State.Ok que s) (port : Nat) (clockId : Nat) :
    State.Ok que (State.masterSelected s port clockId) := by
  unfold State.masterSelected
  repeat' (first
    | (with_reducible first | assumption | intro _ | apply acquire_ok | apply ok_ite | apply put_ok | apply when_ok | split | apply_assumption)
    | (extract_lets +onlyGivenNames t1; first
      | (refine_lift have h1 : State.Ok que t1 := ?_; ?_; on_goal 2 => clear_value t1; on_goal 1 => unfold t1; try dsimp only)
      | (refine_lift have h1 : State.Ok que t1.1 := ?_; ?_; on_goal 2 => clear_value t1; on_goal 1 => unfold t1; try dsimp only)
      | clear_value t1)
    | dsimp only)

theorem servoDecide_ok {que : List Instr} {s : State} (hok : State.Ok que s) :
    State.Ok que (State.servoDecide s) := by
  unfold State.servoDecide
  repeat' (first
    | (with_reducible first | assumption | intro _ | apply setIncrement_ok | apply servoStep_ok | apply ok_ite | apply put_ok | split | apply_assumption)
    | (extract_lets +onlyGivenNames t1; first
      | (refine_lift have h1 : State.Ok que t1 := ?_; ?_; on_goal 2 => clear_value t1; on_goal 1 => unfold t1; try dsimp only)
      | (refine_lift have h1 : State.Ok que t1.1 := ?_; ?_; on_goal 2 => clear_value t1; on_goal 1 => unfold t1; try dsimp only)
      | clear_value t1)
    | dsimp only)

theorem announceTimeout_ok {que : List Instr} {s : State} (hok : State.Ok que s) :
    State.Ok que (State.announceTimeout s) := by
  unfold State.announceTimeout
  repeat' (first
    | (with_reducible first | assumption | intro _ | apply setIncrement_ok | apply ok_ite | apply put_ok | split | apply_assumption)
    | (extract_lets +onlyGivenNames t1; first
      | (refine_lift have h1 : State.Ok que t1 := ?_; ?_; on_goal 2 => clear_value t1; on_goal 1 => unfold t1; try dsimp only)
      | (refine_lift have h1 : State.Ok que t1.1 := ?_; ?_; on_goal 2 => clear_value t1; on_goal 1 => unfold t1; try dsimp only)
      | clear_value t1)
    | dsimp only)

theorem ownerWrite_ok {que : List Instr} {s : State} (hok : State.Ok que s) (v : Int) :
    State.Ok que (State.ownerWrite s v) := by
  unfold State.ownerWrite
  repeat' (first
    | (with_reducible first | assumption | intro _ | apply acquire_ok | apply ok_ite | apply put_ok | split | apply_assumption)
    | (extract_lets +onlyGivenNames t1; first
      | (refine_lift have h1 : State.Ok que t1 := ?_; ?_; on_goal 2 => clear_value t1; on_goal 1 => unfold t1; try dsimp only)
      | (refine_lift have h1 : State.Ok que t1.1 := ?_; ?_; on_goal 2 => clear_value t1; on_goal 1 => unfold t1; try dsimp only)
      | clear_value t1)
    | dsimp only)

theorem ptpMeasure_ok {que : List Instr} {s : State} (hok : State.Ok que s) (n : Nat) (m : PtpMsg) :
    State.Ok que (State.ptpMeasure s n m) := by
  unfold State.ptpMeasure
  repeat' (first
    | (with_reducible first | assumption | intro _ | apply ok_ite | apply put_ok | split | apply_assumption)
    | (extract_lets +onlyGivenNames t1; first
      | (refine_lift have h1 : State.Ok que t1 := ?_; ?_; on_goal 2 => clear_value t1; on_goal 1 => unfold t1; try dsimp only)
      | (refine_lift have h1 : State.Ok que t1.1 := ?_; ?_; on_goal 2 => clear_value t1; on_goal 1 => unfold t1; try dsimp only)
      | clear_value t1)
    | dsimp only)

theorem rateMeasured_ok {que : List Instr} {s : State} (hok : State.Ok que s) :
    State.Ok que (State.rateMeasured s) := by
  unfold State.rateMeasured
  repeat' (with_reducible first | assumption | intro _ | apply drawn_ok | apply ok_ite | apply put_ok | split)

theorem servoFeed_ok {que : List Instr} {s : State} (hok : State.Ok que s) :
    State.Ok que (State.servoFeed s) := by
  unfold State.servoFeed
  repeat' (first
    | (with_reducible first | assumption | intro _ | apply drawn_ok | apply setIncrement_ok | apply acquire_ok | apply rateMeasured_ok | apply ok_ite | apply put_ok | split | apply_assumption)
    | (extract_lets +onlyGivenNames t1; first
      | (refine_lift have h1 : State.Ok que t1 := ?_; ?_; on_goal 2 => clear_value t1; on_goal 1 => unfold t1; try dsimp only)
      | (refine_lift have h1 : State.Ok que t1.1 := ?_; ?_; on_goal 2 => clear_value t1; on_goal 1 => unfold t1; try dsimp only)
      | clear_value t1)
    | dsimp only)

theorem ptpRx_ok {que : List Instr} {s : State} (hok : State.Ok que s) (n : Nat) (m : PtpMsg) :
    State.Ok que (State.ptpRx s n m) := by
  unfold State.ptpRx
  repeat' (first
    | (with_reducible first | assumption | intro _ | apply ptpMeasure_ok | apply servoFeed_ok | apply ok_ite | apply put_ok | split | apply_assumption)
    | (extract_lets +onlyGivenNames t1; first
      | (refine_lift have h1 : State.Ok que t1 := ?_; ?_; on_goal 2 => clear_value t1; on_goal 1 => unfold t1; try dsimp only)
      | (refine_lift have h1 : State.Ok que t1.1 := ?_; ?_; on_goal 2 => clear_value t1; on_goal 1 => unfold t1; try dsimp only)
      | clear_value t1)
    | dsimp only)

theorem delayReq_ok {que : List Instr} {s : State} (hok : State.Ok que s) (n : Nat) :
    State.Ok que (State.delayReq s n) := by
  unfold State.delayReq
  repeat' (first
    | (with_reducible first | assumption | intro _ | apply sendFrame_ok | apply ok_ite | apply put_ok | split | apply mk_ok | apply_assumption)
    | (extract_lets +onlyGivenNames t1; first
      | (refine_lift have h1 : State.Ok que t1 := ?_; ?_; on_goal 2 => clear_value t1; on_goal 1 => unfold t1; try dsimp only)
      | (refine_lift have h1 : State.Ok que t1.1 := ?_; ?_; on_goal 2 => clear_value t1; on_goal 1 => unfold t1; try dsimp only)
      | clear_value t1)
    | dsimp only)

theorem timeMessage_ok {que : List Instr} {s : State} (hok : State.Ok que s) (lt : Nat) :
    State.Ok que (State.timeMessage s lt) := by
  unfold State.timeMessage
  repeat' (with_reducible first | assumption | intro _ | apply ok_ite | apply put_ok | split)

theorem twinCompare_ok {que : List Instr} {s : State} (hok : State.Ok que s) :
    State.Ok que (State.twinCompare s) := by
  unfold State.twinCompare
  repeat' (first
    | (with_reducible first | assumption | intro _ | apply endCond_ok | apply raiseCond_ok | apply timeCond_ok | apply ok_ite | apply put_ok | split | apply_assumption)
    | (extract_lets +onlyGivenNames t1; first
      | (refine_lift have h1 : State.Ok que t1 := ?_; ?_; on_goal 2 => clear_value t1; on_goal 1 => unfold t1; try dsimp only)
      | (refine_lift have h1 : State.Ok que t1.1 := ?_; ?_; on_goal 2 => clear_value t1; on_goal 1 => unfold t1; try dsimp only)
      | clear_value t1)
    | dsimp only)

theorem capture_ok {que : List Instr} {s : State} (hok : State.Ok que s) (n : Nat) (rising : Bool) (stamp : Int) :
    State.Ok que (State.capture s n rising stamp) := by
  unfold State.capture
  repeat' (first
    | (with_reducible first | assumption | intro _ | apply bump_ok | apply ok_ite | apply put_ok | split | apply_assumption)
    | (extract_lets +onlyGivenNames t1; first
      | (refine_lift have h1 : State.Ok que t1 := ?_; ?_; on_goal 2 => clear_value t1; on_goal 1 => unfold t1; try dsimp only)
      | (refine_lift have h1 : State.Ok que t1.1 := ?_; ?_; on_goal 2 => clear_value t1; on_goal 1 => unfold t1; try dsimp only)
      | clear_value t1)
    | dsimp only)

theorem pulseSeen_ok {que : List Instr} {s : State} (hok : State.Ok que s) (n : Nat) (rising : Bool) :
    State.Ok que (State.pulseSeen s n rising) := by
  unfold State.pulseSeen
  repeat' (with_reducible first | assumption | intro _ | apply ok_ite | apply put_ok | split)

theorem timeSetStep_ok {que : List Instr} {s : State} (hok : State.Ok que s) (amount : Int) :
    State.Ok que (State.timeSetStep s amount) := by
  unfold State.timeSetStep
  repeat' (with_reducible first | assumption | intro _ | apply applyStep_ok | apply ok_ite | apply put_ok | split)

/-! ### Ref -/

theorem refAbsent_ok {que : List Instr} {s : State} (hok : State.Ok que s) (c : Nat) :
    State.Ok que (State.refAbsent s c) := by
  unfold State.refAbsent
  repeat' (first
    | (with_reducible first | assumption | intro _ | apply bump_ok | apply ok_ite | apply put_ok | split | apply mk_ok | apply_assumption)
    | (extract_lets +onlyGivenNames t1; first
      | (refine_lift have h1 : State.Ok que t1 := ?_; ?_; on_goal 2 => clear_value t1; on_goal 1 => unfold t1; try dsimp only)
      | (refine_lift have h1 : State.Ok que t1.1 := ?_; ?_; on_goal 2 => clear_value t1; on_goal 1 => unfold t1; try dsimp only)
      | clear_value t1)
    | dsimp only)

theorem noteMeas_ok {que : List Instr} {s : State} (hok : State.Ok que s) (c : Nat) (v : Int) :
    State.Ok que (State.noteMeas s c v) := by
  unfold State.noteMeas
  repeat' (first
    | (with_reducible first | assumption | intro _ | apply ok_ite | apply put_ok | split | apply mk_ok | apply_assumption)
    | (extract_lets +onlyGivenNames t1; first
      | (refine_lift have h1 : State.Ok que t1 := ?_; ?_; on_goal 2 => clear_value t1; on_goal 1 => unfold t1; try dsimp only)
      | (refine_lift have h1 : State.Ok que t1.1 := ?_; ?_; on_goal 2 => clear_value t1; on_goal 1 => unfold t1; try dsimp only)
      | clear_value t1)
    | dsimp only)

theorem refStatus_ok {que : List Instr} {s : State} (hok : State.Ok que s) (c : Nat) (clear : Bool) (v : Int) :
    State.Ok que (State.refStatus s c clear v) := by
  unfold State.refStatus
  repeat' (first
    | (with_reducible first | assumption | intro _ | apply raise_ok | apply refAbsent_ok | apply noteMeas_ok | apply ok_ite | apply put_ok | split | apply_assumption)
    | (extract_lets +onlyGivenNames t1; first
      | (refine_lift have h1 : State.Ok que t1 := ?_; ?_; on_goal 2 => clear_value t1; on_goal 1 => unfold t1; try dsimp only)
      | (refine_lift have h1 : State.Ok que t1.1 := ?_; ?_; on_goal 2 => clear_value t1; on_goal 1 => unfold t1; try dsimp only)
      | clear_value t1)
    | dsimp only)

theorem refDisagree_ok {que : List Instr} {s : State} (hok : State.Ok que s) (measured : Bool) :
    State.Ok que (State.refDisagree s measured) := by
  unfold State.refDisagree
  repeat' (first
    | (with_reducible first | assumption | intro _ | apply endCond_ok | apply raiseCond_ok | apply ok_ite | apply put_ok | apply each_ok | split | apply_assumption)
    | (extract_lets +onlyGivenNames t1; first
      | (refine_lift have h1 : State.Ok que t1 := ?_; ?_; on_goal 2 => clear_value t1; on_goal 1 => unfold t1; try dsimp only)
      | (refine_lift have h1 : State.Ok que t1.1 := ?_; ?_; on_goal 2 => clear_value t1; on_goal 1 => unfold t1; try dsimp only)
      | clear_value t1)
    | dsimp only)

theorem refSelectables_ok {que : List Instr} {s : State} (hok : State.Ok que s) :
    State.Ok que (State.refSelectables s) := by
  unfold State.refSelectables
  repeat' (first
    | (with_reducible first | assumption | intro _ | apply ok_ite | apply put_ok | apply each_ok | apply foldl_ok | apply foldl_fst_ok | split | apply_assumption)
    | (extract_lets +onlyGivenNames t1; first
      | (refine_lift have h1 : State.Ok que t1 := ?_; ?_; on_goal 2 => clear_value t1; on_goal 1 => unfold t1; try dsimp only)
      | (refine_lift have h1 : State.Ok que t1.1 := ?_; ?_; on_goal 2 => clear_value t1; on_goal 1 => unfold t1; try dsimp only)
      | clear_value t1)
    | dsimp only)

theorem refEnter_ok {que : List Instr} {s : State} (hok : State.Ok que s) (st : Int) :
    State.Ok que (State.refEnter s st) := by
  unfold State.refEnter
  repeat' (first
    | (with_reducible first | assumption | intro _ | apply bump_ok | apply raise_ok | apply ok_ite | apply put_ok | split | apply_assumption)
    | (extract_lets +onlyGivenNames t1; first
      | (refine_lift have h1 : State.Ok que t1 := ?_; ?_; on_goal 2 => clear_value t1; on_goal 1 => unfold t1; try dsimp only)
      | (refine_lift have h1 : State.Ok que t1.1 := ?_; ?_; on_goal 2 => clear_value t1; on_goal 1 => unfold t1; try dsimp only)
      | clear_value t1)
    | dsimp only)

theorem enterHoldover_ok {que : List Instr} {s : State} (hok : State.Ok que s) :
    State.Ok que (State.enterHoldover s) := by
  unfold State.enterHoldover
  repeat' (first
    | (with_reducible first | assumption | intro _ | apply refEnter_ok | apply ok_ite | apply put_ok | split | apply_assumption)
    | (extract_lets +onlyGivenNames t1; first
      | (refine_lift have h1 : State.Ok que t1 := ?_; ?_; on_goal 2 => clear_value t1; on_goal 1 => unfold t1; try dsimp only)
      | (refine_lift have h1 : State.Ok que t1.1 := ?_; ?_; on_goal 2 => clear_value t1; on_goal 1 => unfold t1; try dsimp only)
      | clear_value t1)
    | dsimp only)

theorem refMove_ok {que : List Instr} {s : State} (hok : State.Ok que s) (lock : Option Bool) :
    State.Ok que (State.refMove s lock) := by
  unfold State.refMove
  repeat' (first
    | (with_reducible first | assumption | intro _ | apply refEnter_ok | apply enterHoldover_ok | apply ok_ite | apply put_ok | split | apply mk_ok | apply_assumption)
    | (extract_lets +onlyGivenNames t1; first
      | (refine_lift have h1 : State.Ok que t1 := ?_; ?_; on_goal 2 => clear_value t1; on_goal 1 => unfold t1; try dsimp only)
      | (refine_lift have h1 : State.Ok que t1.1 := ?_; ?_; on_goal 2 => clear_value t1; on_goal 1 => unfold t1; try dsimp only)
      | clear_value t1)
    | dsimp only)

theorem refPresence_ok {que : List Instr} {s : State} (hok : State.Ok que s) :
    State.Ok que (State.refPresence s) := by
  unfold State.refPresence
  repeat' (first
    | (with_reducible first | assumption | intro _ | apply refAbsent_ok | apply refDisagree_ok | apply refSelectables_ok | apply refMove_ok | apply ok_ite | apply put_ok | apply each_ok | split | apply_assumption)
    | (extract_lets +onlyGivenNames t1; first
      | (refine_lift have h1 : State.Ok que t1 := ?_; ?_; on_goal 2 => clear_value t1; on_goal 1 => unfold t1; try dsimp only)
      | (refine_lift have h1 : State.Ok que t1.1 := ?_; ?_; on_goal 2 => clear_value t1; on_goal 1 => unfold t1; try dsimp only)
      | clear_value t1)
    | dsimp only)

theorem refMeasurement_ok {que : List Instr} {s : State} (hok : State.Ok que s) (readings : List (Bool × Int)) (loop : Int) (fine : Int) :
    State.Ok que (State.refMeasurement s readings loop fine) := by
  unfold State.refMeasurement
  repeat' (first
    | (with_reducible first | assumption | intro _ | apply refStatus_ok | apply refDisagree_ok | apply refSelectables_ok | apply refMove_ok | apply refPresence_ok | apply ok_ite | apply put_ok | apply each_ok | split | apply mk_ok | apply_assumption)
    | (extract_lets +onlyGivenNames t1; first
      | (refine_lift have h1 : State.Ok que t1 := ?_; ?_; on_goal 2 => clear_value t1; on_goal 1 => unfold t1; try dsimp only)
      | (refine_lift have h1 : State.Ok que t1.1 := ?_; ?_; on_goal 2 => clear_value t1; on_goal 1 => unfold t1; try dsimp only)
      | clear_value t1)
    | dsimp only)

theorem candidateLoss_ok {que : List Instr} {s : State} (hok : State.Ok que s) (c : Nat) :
    State.Ok que (State.candidateLoss s c) := by
  unfold State.candidateLoss
  repeat' (with_reducible first | assumption | intro _ | apply refAbsent_ok | apply refDisagree_ok | apply refSelectables_ok | apply refMove_ok | apply ok_ite | apply put_ok | split)

theorem holdoverEval_ok {que : List Instr} {s : State} (hok : State.Ok que s) :
    State.Ok que (State.holdoverEval s) := by
  unfold State.holdoverEval
  repeat' (first
    | (with_reducible first | assumption | intro _ | apply refEnter_ok | apply ok_ite | apply put_ok | split | apply_assumption)
    | (extract_lets +onlyGivenNames t1; first
      | (refine_lift have h1 : State.Ok que t1 := ?_; ?_; on_goal 2 => clear_value t1; on_goal 1 => unfold t1; try dsimp only)
      | (refine_lift have h1 : State.Ok que t1.1 := ?_; ?_; on_goal 2 => clear_value t1; on_goal 1 => unfold t1; try dsimp only)
      | clear_value t1)
    | dsimp only)

theorem xoCorrect_ok {que : List Instr} {s : State} (hok : State.Ok que s) :
    State.Ok que (State.xoCorrect s) := by
  unfold State.xoCorrect
  repeat' (with_reducible first | assumption | intro _ | apply ok_ite | apply put_ok | split)

theorem refReturn_ok {que : List Instr} {s : State} (hok : State.Ok que s) :
    State.Ok que (State.refReturn s) := by
  unfold State.refReturn
  repeat' (first
    | (with_reducible first | assumption | intro _ | apply refAbsent_ok | apply refDisagree_ok | apply refSelectables_ok | apply refEnter_ok | apply ok_ite | apply put_ok | apply each_ok | split | apply mk_ok | apply_assumption)
    | (extract_lets +onlyGivenNames t1; first
      | (refine_lift have h1 : State.Ok que t1 := ?_; ?_; on_goal 2 => clear_value t1; on_goal 1 => unfold t1; try dsimp only)
      | (refine_lift have h1 : State.Ok que t1.1 := ?_; ?_; on_goal 2 => clear_value t1; on_goal 1 => unfold t1; try dsimp only)
      | clear_value t1)
    | dsimp only)

theorem refRanks_ok {que : List Instr} {s : State} (hok : State.Ok que s) :
    State.Ok que (State.refRanks s) := by
  unfold State.refRanks
  repeat' (first
    | (with_reducible first | assumption | intro _ | apply refAbsent_ok | apply refDisagree_ok | apply refSelectables_ok | apply refMove_ok | apply ok_ite | apply put_ok | apply each_ok | split | apply_assumption)
    | (extract_lets +onlyGivenNames t1; first
      | (refine_lift have h1 : State.Ok que t1 := ?_; ?_; on_goal 2 => clear_value t1; on_goal 1 => unfold t1; try dsimp only)
      | (refine_lift have h1 : State.Ok que t1.1 := ?_; ?_; on_goal 2 => clear_value t1; on_goal 1 => unfold t1; try dsimp only)
      | clear_value t1)
    | dsimp only)

theorem loadRefBlock_ok {que : List Instr} {s : State} (hok : State.Ok que s) (image : Nat) :
    State.Ok que (State.loadRefBlock s image) := by
  unfold State.loadRefBlock
  repeat' (first
    | (with_reducible first | assumption | intro _ | apply refRanks_ok | apply ok_ite | apply put_ok | apply each_ok | split | apply_assumption)
    | (extract_lets +onlyGivenNames t1; first
      | (refine_lift have h1 : State.Ok que t1 := ?_; ?_; on_goal 2 => clear_value t1; on_goal 1 => unfold t1; try dsimp only)
      | (refine_lift have h1 : State.Ok que t1.1 := ?_; ?_; on_goal 2 => clear_value t1; on_goal 1 => unfold t1; try dsimp only)
      | clear_value t1)
    | dsimp only)

theorem fpulseIdle_ok {que : List Instr} {s : State} (hok : State.Ok que s) (n : Nat) :
    State.Ok que (State.fpulseIdle s n) := by
  unfold State.fpulseIdle
  repeat' (with_reducible first | assumption | intro _ | apply send_ok | apply ok_ite | apply put_ok | split)

theorem fpulse_ok {que : List Instr} {s : State} (hok : State.Ok que s) (r : Nat) :
    State.Ok que (State.fpulse s r) := by
  unfold State.fpulse
  repeat' (with_reducible first | assumption | intro _ | apply send_ok | apply ok_ite | apply put_ok | apply each_ok | split)

theorem fpulseOff_ok {que : List Instr} {s : State} (hok : State.Ok que s) (r : Nat) :
    State.Ok que (State.fpulseOff s r) := by
  unfold State.fpulseOff
  repeat' (with_reducible first | assumption | intro _ | apply fpulseIdle_ok | apply ok_ite | apply put_ok | apply each_ok | split)

theorem fpulseWrite_ok {que : List Instr} {s : State} (hok : State.Ok que s) (n : Nat) (sub : Nat) (v : Int) :
    State.Ok que (State.fpulseWrite s n sub v) := by
  unfold State.fpulseWrite
  repeat' (first
    | (with_reducible first | assumption | intro _ | apply fpulseIdle_ok | apply ok_ite | apply put_ok | apply when_ok | split | apply_assumption)
    | (extract_lets +onlyGivenNames t1; first
      | (refine_lift have h1 : State.Ok que t1 := ?_; ?_; on_goal 2 => clear_value t1; on_goal 1 => unfold t1; try dsimp only)
      | (refine_lift have h1 : State.Ok que t1.1 := ?_; ?_; on_goal 2 => clear_value t1; on_goal 1 => unfold t1; try dsimp only)
      | clear_value t1)
    | dsimp only)

theorem rasterDrift_ok {que : List Instr} {s : State} (hok : State.Ok que s) (r : Nat) (beyond : Bool) :
    State.Ok que (State.rasterDrift s r beyond) := by
  unfold State.rasterDrift
  repeat' (first
    | (with_reducible first | assumption | intro _ | apply endCond_ok | apply raiseAs_ok | apply raiseCond_ok | apply ok_ite | apply put_ok | split | apply_assumption)
    | (extract_lets +onlyGivenNames t1; first
      | (refine_lift have h1 : State.Ok que t1 := ?_; ?_; on_goal 2 => clear_value t1; on_goal 1 => unfold t1; try dsimp only)
      | (refine_lift have h1 : State.Ok que t1.1 := ?_; ?_; on_goal 2 => clear_value t1; on_goal 1 => unfold t1; try dsimp only)
      | clear_value t1)
    | dsimp only)

theorem rasterTick_ok {que : List Instr} {s : State} (hok : State.Ok que s) (r : Nat) :
    State.Ok que (State.rasterTick s r) := by
  unfold State.rasterTick
  repeat' (first
    | (with_reducible first | assumption | intro _ | apply fpulse_ok | apply rasterDrift_ok | apply ok_ite | apply put_ok | split | apply_assumption)
    | (extract_lets +onlyGivenNames t1; first
      | (refine_lift have h1 : State.Ok que t1 := ?_; ?_; on_goal 2 => clear_value t1; on_goal 1 => unfold t1; try dsimp only)
      | (refine_lift have h1 : State.Ok que t1.1 := ?_; ?_; on_goal 2 => clear_value t1; on_goal 1 => unfold t1; try dsimp only)
      | clear_value t1)
    | dsimp only)

theorem applyRaster_ok {que : List Instr} {s : State} (hok : State.Ok que s) (r : Nat) (b : Int) (was : Int) :
    State.Ok que (State.applyRaster s r b was) := by
  unfold State.applyRaster
  repeat' (first
    | (with_reducible first | assumption | intro _ | apply fpulseOff_ok | apply rasterDrift_ok | apply ok_ite | apply put_ok | apply when_ok | split | apply_assumption)
    | (extract_lets +onlyGivenNames t1; first
      | (refine_lift have h1 : State.Ok que t1 := ?_; ?_; on_goal 2 => clear_value t1; on_goal 1 => unfold t1; try dsimp only)
      | (refine_lift have h1 : State.Ok que t1.1 := ?_; ?_; on_goal 2 => clear_value t1; on_goal 1 => unfold t1; try dsimp only)
      | clear_value t1)
    | dsimp only)

theorem applyAlign_ok {que : List Instr} {s : State} (hok : State.Ok que s) (r : Nat) (b : Int) :
    State.Ok que (State.applyAlign s r b) := by
  unfold State.applyAlign
  repeat' (first
    | (with_reducible first | assumption | intro _ | apply send_ok | apply bump_ok | apply drawn_ok | apply ok_ite | apply put_ok | split | apply_assumption)
    | (extract_lets +onlyGivenNames t1; first
      | (refine_lift have h1 : State.Ok que t1 := ?_; ?_; on_goal 2 => clear_value t1; on_goal 1 => unfold t1; try dsimp only)
      | (refine_lift have h1 : State.Ok que t1.1 := ?_; ?_; on_goal 2 => clear_value t1; on_goal 1 => unfold t1; try dsimp only)
      | clear_value t1)
    | dsimp only)

/-! ### Serial -/

theorem sdiDetect_ok {que : List Instr} {s : State} (hok : State.Ok que s) (n : Nat) (d : SdiLink) :
    State.Ok que (State.sdiDetect s n d) := by
  unfold State.sdiDetect
  repeat' (with_reducible first | assumption | intro _ | apply ok_ite | apply put_ok | split)

theorem sdiPayload_ok {que : List Instr} {s : State} (hok : State.Ok que s) (n : Nat) (d : SdiLink) :
    State.Ok que (State.sdiPayload s n d) := by
  unfold State.sdiPayload
  repeat' (with_reducible first | assumption | intro _ | apply ok_ite | apply put_ok | split)

theorem sdiNote_ok {que : List Instr} {s : State} (hok : State.Ok que s) (n : Nat) :
    State.Ok que (State.sdiNote s n) := by
  unfold State.sdiNote
  repeat' (with_reducible first | assumption | intro _ | apply ok_ite | apply put_ok | split | apply mk_ok)

theorem sdiRawEdge_ok {que : List Instr} {s : State} (hok : State.Ok que s) (n : Nat) (present : Bool) :
    State.Ok que (State.sdiRawEdge s n present) := by
  unfold State.sdiRawEdge
  repeat' (first
    | (with_reducible first | assumption | intro _ | apply sdiDecide_ok | apply sdiNote_ok | apply ok_ite | apply put_ok | split | apply_assumption)
    | (extract_lets +onlyGivenNames t1; first
      | (refine_lift have h1 : State.Ok que t1 := ?_; ?_; on_goal 2 => clear_value t1; on_goal 1 => unfold t1; try dsimp only)
      | (refine_lift have h1 : State.Ok que t1.1 := ?_; ?_; on_goal 2 => clear_value t1; on_goal 1 => unfold t1; try dsimp only)
      | clear_value t1)
    | dsimp only)

theorem sdiReacquire_ok {que : List Instr} {s : State} (hok : State.Ok que s) (n : Nat) :
    State.Ok que (State.sdiReacquire s n) := by
  unfold State.sdiReacquire
  repeat' (first
    | (with_reducible first | assumption | intro _ | apply sdiDecide_ok | apply ok_ite | apply put_ok | split | apply_assumption)
    | (extract_lets +onlyGivenNames t1; first
      | (refine_lift have h1 : State.Ok que t1 := ?_; ?_; on_goal 2 => clear_value t1; on_goal 1 => unfold t1; try dsimp only)
      | (refine_lift have h1 : State.Ok que t1.1 := ?_; ?_; on_goal 2 => clear_value t1; on_goal 1 => unfold t1; try dsimp only)
      | clear_value t1)
    | dsimp only)

theorem sdiRestructure_ok {que : List Instr} {s : State} (hok : State.Ok que s) (n : Nat) :
    State.Ok que (State.sdiRestructure s n) := by
  unfold State.sdiRestructure
  repeat' (with_reducible first | assumption | intro _ | apply bump_ok | apply sdiReacquire_ok | apply ok_ite | apply put_ok | split)

theorem setPinSignal_ok {que : List Instr} {s : State} (hok : State.Ok que s) (n : Nat) (d : Option SdiLink) :
    State.Ok que (State.setPinSignal s n d) := by
  unfold State.setPinSignal
  repeat' (with_reducible first | assumption | intro _ | apply ok_ite | apply put_ok | split | apply mk_ok)

theorem cut_ok {que : List Instr} {s : State} (hok : State.Ok que s) (c : Cut) :
    State.Ok que (State.cut s c) := by
  unfold State.cut
  repeat' (with_reducible first | assumption | intro _ | apply ok_ite | apply put_ok | split | apply mk_ok)

theorem sdiCut_ok {que : List Instr} {s : State} (hok : State.Ok que s) (n : Nat) (present : Bool) :
    State.Ok que (State.sdiCut s n present) := by
  unfold State.sdiCut
  repeat' (first
    | (with_reducible first | assumption | intro _ | apply cut_ok | apply ok_ite | apply put_ok | split | apply mk_ok | apply_assumption)
    | (extract_lets +onlyGivenNames t1; first
      | (refine_lift have h1 : State.Ok que t1 := ?_; ?_; on_goal 2 => clear_value t1; on_goal 1 => unfold t1; try dsimp only)
      | (refine_lift have h1 : State.Ok que t1.1 := ?_; ?_; on_goal 2 => clear_value t1; on_goal 1 => unfold t1; try dsimp only)
      | clear_value t1)
    | dsimp only)

theorem sdiArrive_ok {que : List Instr} {s : State} (hok : State.Ok que s) (n : Nat) (d : SdiLink) :
    State.Ok que (State.sdiArrive s n d) := by
  unfold State.sdiArrive
  repeat' (first
    | (with_reducible first | assumption | intro _ | apply bump_ok | apply sdiDecide_ok | apply sdiDetect_ok | apply sdiRawEdge_ok | apply sdiCut_ok | apply ok_ite | apply put_ok | apply when_ok | split | apply_assumption)
    | (extract_lets +onlyGivenNames t1; first
      | (refine_lift have h1 : State.Ok que t1 := ?_; ?_; on_goal 2 => clear_value t1; on_goal 1 => unfold t1; try dsimp only)
      | (refine_lift have h1 : State.Ok que t1.1 := ?_; ?_; on_goal 2 => clear_value t1; on_goal 1 => unfold t1; try dsimp only)
      | clear_value t1)
    | dsimp only)

theorem sdiVanish_ok {que : List Instr} {s : State} (hok : State.Ok que s) (n : Nat) :
    State.Ok que (State.sdiVanish s n) := by
  unfold State.sdiVanish
  repeat' (with_reducible first | assumption | intro _ | apply sdiRawEdge_ok | apply sdiCut_ok | apply ok_ite | apply put_ok | split)

theorem sdiRawTransition_ok {que : List Instr} {s : State} (hok : State.Ok que s) (n : Nat) (d : Option SdiLink) :
    State.Ok que (State.sdiRawTransition s n d) := by
  unfold State.sdiRawTransition
  repeat' (first
    | (with_reducible first | assumption | intro _ | apply sdiDetect_ok | apply sdiPayload_ok | apply sdiRestructure_ok | apply setPinSignal_ok | apply sdiArrive_ok | apply sdiVanish_ok | apply ok_ite | apply put_ok | apply when_ok | split | apply mk_ok | apply_assumption)
    | (extract_lets +onlyGivenNames t1; first
      | (refine_lift have h1 : State.Ok que t1 := ?_; ?_; on_goal 2 => clear_value t1; on_goal 1 => unfold t1; try dsimp only)
      | (refine_lift have h1 : State.Ok que t1.1 := ?_; ?_; on_goal 2 => clear_value t1; on_goal 1 => unfold t1; try dsimp only)
      | clear_value t1)
    | dsimp only)

theorem sdiAcquired_ok {que : List Instr} {s : State} (hok : State.Ok que s) (n : Nat) :
    State.Ok que (State.sdiAcquired s n) := by
  unfold State.sdiAcquired
  repeat' (with_reducible first | assumption | intro _ | apply sdiDecide_ok | apply ok_ite | apply put_ok | split)

theorem sdiLost_ok {que : List Instr} {s : State} (hok : State.Ok que s) (n : Nat) :
    State.Ok que (State.sdiLost s n) := by
  unfold State.sdiLost
  repeat' (with_reducible first | assumption | intro _ | apply sdiDecide_ok | apply ok_ite | apply put_ok | split)

theorem sdiChatterEnd_ok {que : List Instr} {s : State} (hok : State.Ok que s) (n : Nat) :
    State.Ok que (State.sdiChatterEnd s n) := by
  unfold State.sdiChatterEnd
  repeat' (with_reducible first | assumption | intro _ | apply sdiDecide_ok | apply ok_ite | apply put_ok | split)

theorem sdiShow_ok {que : List Instr} {s : State} (hok : State.Ok que s) (n : Nat) (st : Int) :
    State.Ok que (State.sdiShow s n st) := by
  unfold State.sdiShow
  repeat' (with_reducible first | assumption | intro _ | apply ok_ite | apply put_ok | apply when_ok | split)

theorem sdiPublishLane_ok {que : List Instr} {s : State} (hok : State.Ok que s) (n : Nat) (st : Int) :
    State.Ok que (State.sdiPublishLane s n st) := by
  unfold State.sdiPublishLane
  repeat' (first
    | (with_reducible first | assumption | intro _ | apply bump_ok | apply raise_ok | apply sdiShow_ok | apply ok_ite | apply put_ok | split | apply_assumption)
    | (extract_lets +onlyGivenNames t1; first
      | (refine_lift have h1 : State.Ok que t1 := ?_; ?_; on_goal 2 => clear_value t1; on_goal 1 => unfold t1; try dsimp only)
      | (refine_lift have h1 : State.Ok que t1.1 := ?_; ?_; on_goal 2 => clear_value t1; on_goal 1 => unfold t1; try dsimp only)
      | clear_value t1)
    | dsimp only)

theorem groupSettle_ok {que : List Instr} {s : State} (hok : State.Ok que s) (b : Nat) :
    State.Ok que (State.groupSettle s b) := by
  unfold State.groupSettle
  repeat' (first
    | (with_reducible first | assumption | intro _ | apply sdiShow_ok | apply ok_ite | apply put_ok | apply foldl_ok | apply foldl_fst_ok | split | apply_assumption)
    | (extract_lets +onlyGivenNames t1; first
      | (refine_lift have h1 : State.Ok que t1 := ?_; ?_; on_goal 2 => clear_value t1; on_goal 1 => unfold t1; try dsimp only)
      | (refine_lift have h1 : State.Ok que t1.1 := ?_; ?_; on_goal 2 => clear_value t1; on_goal 1 => unfold t1; try dsimp only)
      | clear_value t1)
    | dsimp only)

theorem sdiPublish_ok {que : List Instr} {s : State} (hok : State.Ok que s) (n : Nat) :
    State.Ok que (State.sdiPublish s n) := by
  unfold State.sdiPublish
  repeat' (first
    | (with_reducible first | assumption | intro _ | apply sdiPublishLane_ok | apply groupSettle_ok | apply ok_ite | apply put_ok | apply foldl_ok | apply foldl_fst_ok | split | apply_assumption)
    | (extract_lets +onlyGivenNames t1; first
      | (refine_lift have h1 : State.Ok que t1 := ?_; ?_; on_goal 2 => clear_value t1; on_goal 1 => unfold t1; try dsimp only)
      | (refine_lift have h1 : State.Ok que t1.1 := ?_; ?_; on_goal 2 => clear_value t1; on_goal 1 => unfold t1; try dsimp only)
      | clear_value t1)
    | dsimp only)

theorem ancFrame_ok {que : List Instr} {s : State} (hok : State.Ok que s) (n : Nat) (l : List AncPkt) :
    State.Ok que (State.ancFrame s n l) := by
  unfold State.ancFrame
  repeat' (first
    | (with_reducible first | assumption | intro _ | apply bumpBy_ok | apply ok_ite | apply put_ok | split | apply mk_ok | apply_assumption)
    | (extract_lets +onlyGivenNames t1; first
      | (refine_lift have h1 : State.Ok que t1 := ?_; ?_; on_goal 2 => clear_value t1; on_goal 1 => unfold t1; try dsimp only)
      | (refine_lift have h1 : State.Ok que t1.1 := ?_; ?_; on_goal 2 => clear_value t1; on_goal 1 => unfold t1; try dsimp only)
      | clear_value t1)
    | dsimp only)

theorem groupSkew_ok {que : List Instr} {s : State} (hok : State.Ok que s) (b : Nat) (size : Nat) :
    State.Ok que (State.groupSkew s b size) := by
  unfold State.groupSkew
  repeat' (first
    | (with_reducible first | assumption | intro _ | apply raise_ok | apply ok_ite | apply put_ok | apply when_ok | apply foldl_ok | apply foldl_fst_ok | split | apply_assumption)
    | (extract_lets +onlyGivenNames t1; first
      | (refine_lift have h1 : State.Ok que t1 := ?_; ?_; on_goal 2 => clear_value t1; on_goal 1 => unfold t1; try dsimp only)
      | (refine_lift have h1 : State.Ok que t1.1 := ?_; ?_; on_goal 2 => clear_value t1; on_goal 1 => unfold t1; try dsimp only)
      | clear_value t1)
    | dsimp only)

theorem sdiTiming_ok {que : List Instr} {s : State} (hok : State.Ok que s) (n : Nat) :
    State.Ok que (State.sdiTiming s n) := by
  unfold State.sdiTiming
  repeat' (first
    | (with_reducible first | assumption | intro _ | apply ok_ite | apply put_ok | split | apply_assumption)
    | (extract_lets +onlyGivenNames t1; first
      | (refine_lift have h1 : State.Ok que t1 := ?_; ?_; on_goal 2 => clear_value t1; on_goal 1 => unfold t1; try dsimp only)
      | (refine_lift have h1 : State.Ok que t1.1 := ?_; ?_; on_goal 2 => clear_value t1; on_goal 1 => unfold t1; try dsimp only)
      | clear_value t1)
    | dsimp only)

theorem syncWrite_ok {que : List Instr} {s : State} (hok : State.Ok que s) (n : Nat) (f : Int) :
    State.Ok que (State.syncWrite s n f) := by
  unfold State.syncWrite
  repeat' (first
    | (with_reducible first | assumption | intro _ | apply ok_ite | apply put_ok | split | apply mk_ok | apply_assumption)
    | (extract_lets +onlyGivenNames t1; first
      | (refine_lift have h1 : State.Ok que t1 := ?_; ?_; on_goal 2 => clear_value t1; on_goal 1 => unfold t1; try dsimp only)
      | (refine_lift have h1 : State.Ok que t1.1 := ?_; ?_; on_goal 2 => clear_value t1; on_goal 1 => unfold t1; try dsimp only)
      | clear_value t1)
    | dsimp only)

theorem frameStamps_ok {que : List Instr} {s : State} (hok : State.Ok que s) (n : Nat) :
    State.Ok que (State.frameStamps s n) := by
  unfold State.frameStamps
  repeat' (first
    | (with_reducible first | assumption | intro _ | apply groupSkew_ok | apply sdiTiming_ok | apply syncWrite_ok | apply ok_ite | apply put_ok | apply when_ok | split | apply mk_ok | apply_assumption)
    | (extract_lets +onlyGivenNames t1; first
      | (refine_lift have h1 : State.Ok que t1 := ?_; ?_; on_goal 2 => clear_value t1; on_goal 1 => unfold t1; try dsimp only)
      | (refine_lift have h1 : State.Ok que t1.1 := ?_; ?_; on_goal 2 => clear_value t1; on_goal 1 => unfold t1; try dsimp only)
      | clear_value t1)
    | dsimp only)

theorem sdiInputFrame_ok {que : List Instr} {s : State} (hok : State.Ok que s) (n : Nat) (f : SdiFrame) :
    State.Ok que (State.sdiInputFrame s n f) := by
  unfold State.sdiInputFrame
  repeat' (first
    | (with_reducible first | assumption | intro _ | apply bumpBy_ok | apply bump_ok | apply ancFrame_ok | apply frameStamps_ok | apply ok_ite | apply put_ok | apply when_ok | split | apply_assumption)
    | (extract_lets +onlyGivenNames t1; first
      | (refine_lift have h1 : State.Ok que t1 := ?_; ?_; on_goal 2 => clear_value t1; on_goal 1 => unfold t1; try dsimp only)
      | (refine_lift have h1 : State.Ok que t1.1 := ?_; ?_; on_goal 2 => clear_value t1; on_goal 1 => unfold t1; try dsimp only)
      | clear_value t1)
    | dsimp only)

theorem rateModeApply_ok {que : List Instr} {s : State} (hok : State.Ok que s) (n : Nat) (sub : Nat) (v : Int) :
    State.Ok que (State.rateModeApply s n sub v) := by
  unfold State.rateModeApply
  repeat' (first
    | (with_reducible first | assumption | intro _ | apply sdiReacquire_ok | apply sdiArrive_ok | apply sdiVanish_ok | apply ok_ite | apply put_ok | split | apply mk_ok | apply_assumption)
    | (extract_lets +onlyGivenNames t1; first
      | (refine_lift have h1 : State.Ok que t1 := ?_; ?_; on_goal 2 => clear_value t1; on_goal 1 => unfold t1; try dsimp only)
      | (refine_lift have h1 : State.Ok que t1.1 := ?_; ?_; on_goal 2 => clear_value t1; on_goal 1 => unfold t1; try dsimp only)
      | clear_value t1)
    | dsimp only)

theorem groupApply_ok {que : List Instr} {s : State} (hok : State.Ok que s) (tx : Bool) (n : Nat) (size : Nat) :
    State.Ok que (State.groupApply s tx n size) := by
  unfold State.groupApply
  repeat' (first
    | (with_reducible first | assumption | intro _ | apply sdiDrop_ok | apply ok_ite | apply put_ok | apply each_ok | apply when_ok | split | apply_assumption)
    | (extract_lets +onlyGivenNames t1; first
      | (refine_lift have h1 : State.Ok que t1 := ?_; ?_; on_goal 2 => clear_value t1; on_goal 1 => unfold t1; try dsimp only)
      | (refine_lift have h1 : State.Ok que t1.1 := ?_; ?_; on_goal 2 => clear_value t1; on_goal 1 => unfold t1; try dsimp only)
      | clear_value t1)
    | dsimp only)

theorem txSet_ok {que : List Instr} {s : State} (hok : State.Ok que s) (o : Nat) (v : Bool) :
    State.Ok que (State.txSet s o v) := by
  unfold State.txSet
  repeat' (with_reducible first | assumption | intro _ | apply send_ok | apply bump_ok | apply ok_ite | apply put_ok | apply when_ok | split)

theorem txDrop_ok {que : List Instr} {s : State} (hok : State.Ok que s) (o : Nat) :
    State.Ok que (State.txDrop s o) := by
  unfold State.txDrop
  repeat' (with_reducible first | assumption | intro _ | apply txSet_ok | apply ok_ite | apply put_ok | apply when_ok | split)

theorem txApply_ok {que : List Instr} {s : State} (hok : State.Ok que s) (o : Nat) :
    State.Ok que (State.txApply s o) := by
  unfold State.txApply
  repeat' (with_reducible first | assumption | intro _ | apply txSet_ok | apply ok_ite | apply put_ok | apply each_ok | split)

/-! ### Inject -/

theorem injectHold_ok {que : List Instr} {s : State} (hok : State.Ok que s) (j : Nat) (u : InjUnit) (left : Nat) (due : Int) :
    State.Ok que (State.injectHold s j u left due) := by
  unfold State.injectHold
  repeat' (with_reducible first | assumption | intro _ | apply bump_ok | apply ok_ite | apply put_ok | split | apply mk_ok)

theorem injectPassed_ok {que : List Instr} {s : State} (hok : State.Ok que s) (j : Nat) :
    State.Ok que (State.injectPassed s j).1 := by
  unfold State.injectPassed
  repeat' (first
    | (with_reducible first | assumption | intro _ | apply ok_ite | apply put_ok | split | apply mk_ok | apply_assumption)
    | (extract_lets +onlyGivenNames t1; first
      | (refine_lift have h1 : State.Ok que t1 := ?_; ?_; on_goal 2 => clear_value t1; on_goal 1 => unfold t1; try dsimp only)
      | (refine_lift have h1 : State.Ok que t1.1 := ?_; ?_; on_goal 2 => clear_value t1; on_goal 1 => unfold t1; try dsimp only)
      | (refine_lift have h1 : ∀ u, State.Ok que u → State.Ok que (t1 u) := ?_; ?_; on_goal 2 => clear_value t1; on_goal 1 => unfold t1; try dsimp only)
      | (refine_lift have h1 : ∀ u a, State.Ok que u → State.Ok que (t1 u a) := ?_; ?_; on_goal 2 => clear_value t1; on_goal 1 => unfold t1; try dsimp only)
      | (refine_lift have h1 : ∀ u a b, State.Ok que u → State.Ok que (t1 u a b) := ?_; ?_; on_goal 2 => clear_value t1; on_goal 1 => unfold t1; try dsimp only)
      | (refine_lift have h1 : ∀ u a b c, State.Ok que u → State.Ok que (t1 u a b c) := ?_; ?_; on_goal 2 => clear_value t1; on_goal 1 => unfold t1; try dsimp only)
      | clear_value t1)
    | dsimp only)

theorem injectOne_ok {que : List Instr} {s : State} (hok : s.Ok que) (j : Nat) (u : InjPass) (len : Nat) :
    State.Ok que (State.injectOne s j u len).1 := by
  unfold State.injectOne
  extract_lets +onlyGivenNames act t0 p t1
  have h0 : State.Ok que t0 := put_ok (put_ok (bump_ok hok _) _ _) _ _
  have h1 : State.Ok que p.1 := injectPassed_ok h0 _
  have h2 : State.Ok que t1 := h1
  clear_value t1 p t0 act
  split
  · exact h2
  · extract_lets +onlyGivenNames t2 a
    have h3 : State.Ok que t2 := bump_ok h2 _
    clear_value t2 a
    split
    · exact h3
    split
    · exact send_ok (put_ok h3 _ _) _
    split
    · exact injectHold_ok h3 ..
    split
    · exact injectHold_ok h3 ..
    split
    · exact h3
    · exact injectHold_ok h3 ..

theorem inject_ok {que : List Instr} {s : State} (hok : State.Ok que s) (point : Nat) (target : Nat) (plane : Nat) (u : InjUnit) (len : Nat) :
    State.Ok que (State.inject s point target plane u len).1 := by
  unfold State.inject
  repeat' (first
    | (with_reducible first | assumption | intro _ | apply injectOne_ok | apply ok_ite | apply put_ok | apply foldl_ok | apply foldl_fst_ok | split | apply mk_ok | apply_assumption)
    | (extract_lets +onlyGivenNames t1; first
      | (refine_lift have h1 : State.Ok que t1 := ?_; ?_; on_goal 2 => clear_value t1; on_goal 1 => unfold t1; try dsimp only)
      | (refine_lift have h1 : State.Ok que t1.1 := ?_; ?_; on_goal 2 => clear_value t1; on_goal 1 => unfold t1; try dsimp only)
      | clear_value t1)
    | dsimp only)

theorem injectBare_ok {que : List Instr} {s : State} (hok : State.Ok que s) (point : Nat) (target : Nat) (len : Nat) (n : Nat) :
    State.Ok que (State.injectBare s point target len n) := by
  unfold State.injectBare
  repeat' (with_reducible first | assumption | intro _ | apply inject_ok | apply ok_ite | apply put_ok | apply repeat_ok | split)

theorem injectDue_ok {que : List Instr} {s : State} (hok : State.Ok que s) (j : Nat) :
    State.Ok que (State.injectDue s j).1 := by
  unfold State.injectDue
  repeat' (first
    | (with_reducible first | assumption | intro _ | apply ok_ite | apply put_ok | split | apply mk_ok | apply_assumption)
    | (extract_lets +onlyGivenNames t1; first
      | (refine_lift have h1 : State.Ok que t1 := ?_; ?_; on_goal 2 => clear_value t1; on_goal 1 => unfold t1; try dsimp only)
      | (refine_lift have h1 : State.Ok que t1.1 := ?_; ?_; on_goal 2 => clear_value t1; on_goal 1 => unfold t1; try dsimp only)
      | (refine_lift have h1 : ∀ u, State.Ok que u → State.Ok que (t1 u) := ?_; ?_; on_goal 2 => clear_value t1; on_goal 1 => unfold t1; try dsimp only)
      | (refine_lift have h1 : ∀ u a, State.Ok que u → State.Ok que (t1 u a) := ?_; ?_; on_goal 2 => clear_value t1; on_goal 1 => unfold t1; try dsimp only)
      | (refine_lift have h1 : ∀ u a b, State.Ok que u → State.Ok que (t1 u a b) := ?_; ?_; on_goal 2 => clear_value t1; on_goal 1 => unfold t1; try dsimp only)
      | (refine_lift have h1 : ∀ u a b c, State.Ok que u → State.Ok que (t1 u a b c) := ?_; ?_; on_goal 2 => clear_value t1; on_goal 1 => unfold t1; try dsimp only)
      | clear_value t1)
    | dsimp only)

end Sys2Proof.Machine
end

