-- ==== Sys2Proof/Laws/KeepCarriage.lean ====
section
/-! SUPPORT. The operations of the fabric, the network ports, the flows, the stacks, the compositor, the audio engine and the crosspoint keep the queue, the canonical form of the register store, and the order and bounds of the tables (`State.Ok`). -/
namespace Sys2Proof.Machine

/-! ### Fabric -/

theorem refreshTwinLanes_ok {que : List Instr} {s : State} (hok : State.Ok que s) :
    State.Ok que (State.refreshTwinLanes s) := by
  unfold State.refreshTwinLanes
  repeat' (first
    | (with_reducible first | assumption | intro _ | apply linkFalls_ok | apply settleQueue_ok | apply ok_ite | apply put_ok | split | apply_assumption)
    | (extract_lets +onlyGivenNames t1; first
      | (refine_lift have h1 : State.Ok que t1 := ?_; ?_; on_goal 2 => clear_value t1; on_goal 1 => unfold t1; try dsimp only)
      | (refine_lift have h1 : State.Ok que t1.1 := ?_; ?_; on_goal 2 => clear_value t1; on_goal 1 => unfold t1; try dsimp only)
      | clear_value t1)
    | dsimp only)

theorem laneEnter_ok {que : List Instr} {s : State} (hok : State.Ok que s) (l : Nat) (st : Int) :
    State.Ok que (State.laneEnter s l st) := by
  unfold State.laneEnter
  repeat' (first
    | (with_reducible first | assumption | intro _ | apply bump_ok | apply refPresence_ok | apply refreshTwinLanes_ok | apply ok_ite | apply put_ok | apply when_ok | split | apply_assumption)
    | (extract_lets +onlyGivenNames t1; first
      | (refine_lift have h1 : State.Ok que t1 := ?_; ?_; on_goal 2 => clear_value t1; on_goal 1 => unfold t1; try dsimp only)
      | (refine_lift have h1 : State.Ok que t1.1 := ?_; ?_; on_goal 2 => clear_value t1; on_goal 1 => unfold t1; try dsimp only)
      | clear_value t1)
    | dsimp only)

theorem trainStart_ok {que : List Instr} {s : State} (hok : State.Ok que s) (l : Nat) :
    State.Ok que (State.trainStart s l) := by
  unfold State.trainStart
  repeat' (with_reducible first | assumption | intro _ | apply laneEnter_ok | apply ok_ite | apply put_ok | split)

theorem trainDone_ok {que : List Instr} {s : State} (hok : State.Ok que s) (l : Nat) (role : Nat) (slot : Nat) (lane : Nat) (side : Nat) (delay : Nat) :
    State.Ok que (State.trainDone s l role slot lane side delay) := by
  unfold State.trainDone
  repeat' (first
    | (with_reducible first | assumption | intro _ | apply raise_ok | apply laneEnter_ok | apply ok_ite | apply put_ok | split | apply_assumption)
    | (extract_lets +onlyGivenNames t1; first
      | (refine_lift have h1 : State.Ok que t1 := ?_; ?_; on_goal 2 => clear_value t1; on_goal 1 => unfold t1; try dsimp only)
      | (refine_lift have h1 : State.Ok que t1.1 := ?_; ?_; on_goal 2 => clear_value t1; on_goal 1 => unfold t1; try dsimp only)
      | clear_value t1)
    | dsimp only)

theorem trainTimeout_ok {que : List Instr} {s : State} (hok : State.Ok que s) (l : Nat) :
    State.Ok que (State.trainTimeout s l) := by
  unfold State.trainTimeout
  repeat' (with_reducible first | assumption | intro _ | apply laneEnter_ok | apply ok_ite | apply put_ok | split)

theorem aligned_ok {que : List Instr} {s : State} (hok : State.Ok que s) (l : Nat) :
    State.Ok que (State.aligned s l) := by
  unfold State.aligned
  repeat' (with_reducible first | assumption | intro _ | apply laneEnter_ok | apply ok_ite | apply put_ok | split)

theorem laneFail_ok {que : List Instr} {s : State} (hok : State.Ok que s) (l : Nat) :
    State.Ok que (State.laneFail s l) := by
  unfold State.laneFail
  repeat' (with_reducible first | assumption | intro _ | apply raise_ok | apply laneEnter_ok | apply ok_ite | apply put_ok | split)

theorem laneRetry_ok {que : List Instr} {s : State} (hok : State.Ok que s) (l : Nat) :
    State.Ok que (State.laneRetry s l) := by
  unfold State.laneRetry
  repeat' (with_reducible first | assumption | intro _ | apply laneEnter_ok | apply ok_ite | apply put_ok | split)

theorem laneEnable_ok {que : List Instr} {s : State} (hok : State.Ok que s) (l : Nat) (v : Int) :
    State.Ok que (State.laneEnable s l v) := by
  unfold State.laneEnable
  repeat' (first
    | (with_reducible first | assumption | intro _ | apply laneEnter_ok | apply ok_ite | apply put_ok | split | apply_assumption)
    | (extract_lets +onlyGivenNames t1; first
      | (refine_lift have h1 : State.Ok que t1 := ?_; ?_; on_goal 2 => clear_value t1; on_goal 1 => unfold t1; try dsimp only)
      | (refine_lift have h1 : State.Ok que t1.1 := ?_; ?_; on_goal 2 => clear_value t1; on_goal 1 => unfold t1; try dsimp only)
      | clear_value t1)
    | dsimp only)

theorem sendCell_ok {que : List Instr} {s : State} (hok : State.Ok que s) (l : Nat) (c : Cell) (k : Nat) :
    State.Ok que (State.sendCell s l c k) := by
  unfold State.sendCell
  repeat' (first
    | (with_reducible first | assumption | intro _ | apply send_ok | apply bump_ok | apply inject_ok | apply ok_ite | apply put_ok | apply each_ok | split | apply mk_ok | apply_assumption)
    | (extract_lets +onlyGivenNames t1; first
      | (refine_lift have h1 : State.Ok que t1 := ?_; ?_; on_goal 2 => clear_value t1; on_goal 1 => unfold t1; try dsimp only)
      | (refine_lift have h1 : State.Ok que t1.1 := ?_; ?_; on_goal 2 => clear_value t1; on_goal 1 => unfold t1; try dsimp only)
      | clear_value t1)
    | dsimp only)

theorem cellIn_ok {que : List Instr} {s : State} (hok : State.Ok que s) (l : Nat) (crcOk : Bool) (kind : Nat) :
    State.Ok que (State.cellIn s l crcOk kind).1 := by
  unfold State.cellIn
  repeat' (first
    | (with_reducible first | assumption | intro _ | apply bump_ok | apply ok_ite | apply put_ok | split | apply_assumption)
    | (extract_lets +onlyGivenNames t1; first
      | (refine_lift have h1 : State.Ok que t1 := ?_; ?_; on_goal 2 => clear_value t1; on_goal 1 => unfold t1; try dsimp only)
      | (refine_lift have h1 : State.Ok que t1.1 := ?_; ?_; on_goal 2 => clear_value t1; on_goal 1 => unfold t1; try dsimp only)
      | clear_value t1)
    | dsimp only)

theorem sendControl_ok {que : List Instr} {s : State} (hok : State.Ok que s) (l : Nat) (c : Cell) :
    State.Ok que (State.sendControl s l c) := by
  unfold State.sendControl
  repeat' (first
    | (with_reducible first | assumption | intro _ | apply sendCell_ok | apply ok_ite | apply put_ok | split | apply_assumption)
    | (extract_lets +onlyGivenNames t1; first
      | (refine_lift have h1 : State.Ok que t1 := ?_; ?_; on_goal 2 => clear_value t1; on_goal 1 => unfold t1; try dsimp only)
      | (refine_lift have h1 : State.Ok que t1.1 := ?_; ?_; on_goal 2 => clear_value t1; on_goal 1 => unfold t1; try dsimp only)
      | clear_value t1)
    | dsimp only)

theorem refreshCalendars_ok {que : List Instr} {s : State} (hok : State.Ok que s) (n : Nat) :
    State.Ok que (State.refreshCalendars s n) := by
  unfold State.refreshCalendars
  repeat' (first
    | (with_reducible first | assumption | intro _ | apply ok_ite | apply put_ok | apply each_ok | apply foldl_ok | apply foldl_fst_ok | split | apply_assumption)
    | (extract_lets +onlyGivenNames t1; first
      | (refine_lift have h1 : State.Ok que t1 := ?_; ?_; on_goal 2 => clear_value t1; on_goal 1 => unfold t1; try dsimp only)
      | (refine_lift have h1 : State.Ok que t1.1 := ?_; ?_; on_goal 2 => clear_value t1; on_goal 1 => unfold t1; try dsimp only)
      | clear_value t1)
    | dsimp only)

theorem setSub_ok {que : List Instr} {s : State} (hok : State.Ok que s) (x : FabSub) :
    State.Ok que (State.setSub s x) := by
  unfold State.setSub
  repeat' (with_reducible first | assumption | intro _ | apply ok_ite | apply put_ok | split | apply mk_ok)

theorem showSub_ok {que : List Instr} {s : State} (hok : State.Ok que s) (x : FabSub) :
    State.Ok que (State.showSub s x) := by
  unfold State.showSub
  repeat' (first
    | (with_reducible first | assumption | intro _ | apply ok_ite | apply put_ok | split | apply_assumption)
    | (extract_lets +onlyGivenNames t1; first
      | (refine_lift have h1 : State.Ok que t1 := ?_; ?_; on_goal 2 => clear_value t1; on_goal 1 => unfold t1; try dsimp only)
      | (refine_lift have h1 : State.Ok que t1.1 := ?_; ?_; on_goal 2 => clear_value t1; on_goal 1 => unfold t1; try dsimp only)
      | clear_value t1)
    | dsimp only)

theorem refreshFabCounts_ok {que : List Instr} {s : State} (hok : State.Ok que s) :
    State.Ok que (State.refreshFabCounts s) := by
  unfold State.refreshFabCounts
  repeat' (with_reducible first | assumption | intro _ | apply ok_ite | apply put_ok | split)

theorem toCentre_ok {que : List Instr} {s : State} (hok : State.Ok que s) (c : Nat) (kind : Nat) (r : Resv) :
    State.Ok que (State.toCentre s c kind r) := by
  unfold State.toCentre
  repeat' (with_reducible first | assumption | intro _ | apply sendControl_ok | apply ok_ite | apply put_ok | split | apply mk_ok)

theorem reservePlane_ok {que : List Instr} {s : State} (hok : State.Ok que s) (x : FabSub) (plane : Nat) :
    State.Ok que (State.reservePlane s x plane) := by
  unfold State.reservePlane
  repeat' (first
    | (with_reducible first | assumption | intro _ | apply raise_ok | apply setSub_ok | apply showSub_ok | apply toCentre_ok | apply request_ok | apply ok_ite | apply put_ok | split | apply mk_ok | apply_assumption)
    | (extract_lets +onlyGivenNames t1; first
      | (refine_lift have h1 : State.Ok que t1 := ?_; ?_; on_goal 2 => clear_value t1; on_goal 1 => unfold t1; try dsimp only)
      | (refine_lift have h1 : State.Ok que t1.1 := ?_; ?_; on_goal 2 => clear_value t1; on_goal 1 => unfold t1; try dsimp only)
      | clear_value t1)
    | dsimp only)

theorem movePlane_ok {que : List Instr} {s : State} (hok : State.Ok que s) (x : FabSub) (plane : Nat) :
    State.Ok que (State.movePlane s x plane) := by
  unfold State.movePlane
  repeat' (first
    | (with_reducible first | assumption | intro _ | apply setSub_ok | apply toCentre_ok | apply ok_ite | apply put_ok | split | apply mk_ok | apply_assumption)
    | (extract_lets +onlyGivenNames t1; first
      | (refine_lift have h1 : State.Ok que t1 := ?_; ?_; on_goal 2 => clear_value t1; on_goal 1 => unfold t1; try dsimp only)
      | (refine_lift have h1 : State.Ok que t1.1 := ?_; ?_; on_goal 2 => clear_value t1; on_goal 1 => unfold t1; try dsimp only)
      | clear_value t1)
    | dsimp only)

theorem openSub_some {que : List Instr} {s : State} {m user : Nat} {t : State} (e : s.openSub m user = some t)
    (hok : s.Ok que) : t.Ok que := by
  unfold State.openSub at e
  split at e
  · simp only [Option.some.injEq] at e
    exact e ▸ showSub_ok (setSub_ok hok _) _
  · split at e
    · cases e
    · simp only [Option.some.injEq] at e
      rw [← e]
      apply refreshFabCounts_ok
      apply ok_ite
      · split
        · exact reservePlane_ok (mk_ok hok ..) ..
        · exact reservePlane_ok (reservePlane_ok (mk_ok hok ..) ..) ..
      · exact reservePlane_ok (mk_ok hok ..) ..

theorem openSub_ok {que : List Instr} {s t : State} (hok : s.Ok que) (ht : t.Ok que) (m user : Nat) :
    State.Ok que ((s.openSub m user).getD t) := by
  cases e : s.openSub m user with
  | none => exact ht
  | some u => exact openSub_some e hok

theorem releasePath_ok {que : List Instr} {s : State} (hok : State.Ok que s) (x : FabSub) (plane : Nat) (c : Nat) (rq : Nat) :
    State.Ok que (State.releasePath s x plane c rq) := by
  unfold State.releasePath
  repeat' (with_reducible first | assumption | intro _ | apply toCentre_ok | apply ok_ite | apply put_ok | split | apply mk_ok)

theorem releasePlane_ok {que : List Instr} {s : State} (hok : State.Ok que s) (x : FabSub) (plane : Nat) :
    State.Ok que (State.releasePlane s x plane) := by
  unfold State.releasePlane
  repeat' (first
    | (with_reducible first | assumption | intro _ | apply releasePath_ok | apply request_ok | apply ok_ite | apply put_ok | split | apply mk_ok | apply_assumption)
    | (extract_lets +onlyGivenNames t1; first
      | (refine_lift have h1 : State.Ok que t1 := ?_; ?_; on_goal 2 => clear_value t1; on_goal 1 => unfold t1; try dsimp only)
      | (refine_lift have h1 : State.Ok que t1.1 := ?_; ?_; on_goal 2 => clear_value t1; on_goal 1 => unfold t1; try dsimp only)
      | clear_value t1)
    | dsimp only)

theorem closeSub_ok {que : List Instr} {s : State} (hok : State.Ok que s) (m : Nat) (user : Nat) :
    State.Ok que (State.closeSub s m user) := by
  unfold State.closeSub
  repeat' (first
    | (with_reducible first | assumption | intro _ | apply setSub_ok | apply showSub_ok | apply releasePlane_ok | apply ok_ite | apply put_ok | split | apply mk_ok | apply_assumption)
    | (extract_lets +onlyGivenNames t1; first
      | (refine_lift have h1 : State.Ok que t1 := ?_; ?_; on_goal 2 => clear_value t1; on_goal 1 => unfold t1; try dsimp only)
      | (refine_lift have h1 : State.Ok que t1.1 := ?_; ?_; on_goal 2 => clear_value t1; on_goal 1 => unfold t1; try dsimp only)
      | clear_value t1)
    | dsimp only)

theorem grantCell_ok {que : List Instr} {s : State} (hok : State.Ok que s) (l : Nat) (r : Resv) :
    State.Ok que (State.grantCell s l r) := by
  unfold State.grantCell
  repeat' (first
    | (with_reducible first | assumption | intro _ | apply setSub_ok | apply showSub_ok | apply request_ok | apply ok_ite | apply put_ok | split | apply mk_ok | apply_assumption)
    | (extract_lets +onlyGivenNames t1; first
      | (refine_lift have h1 : State.Ok que t1 := ?_; ?_; on_goal 2 => clear_value t1; on_goal 1 => unfold t1; try dsimp only)
      | (refine_lift have h1 : State.Ok que t1.1 := ?_; ?_; on_goal 2 => clear_value t1; on_goal 1 => unfold t1; try dsimp only)
      | clear_value t1)
    | dsimp only)

theorem denyCell_ok {que : List Instr} {s : State} (hok : State.Ok que s) (r : Resv) :
    State.Ok que (State.denyCell s r) := by
  unfold State.denyCell
  repeat' (first
    | (with_reducible first | assumption | intro _ | apply setSub_ok | apply showSub_ok | apply ok_ite | apply put_ok | split | apply mk_ok | apply_assumption)
    | (extract_lets +onlyGivenNames t1; first
      | (refine_lift have h1 : State.Ok que t1 := ?_; ?_; on_goal 2 => clear_value t1; on_goal 1 => unfold t1; try dsimp only)
      | (refine_lift have h1 : State.Ok que t1.1 := ?_; ?_; on_goal 2 => clear_value t1; on_goal 1 => unfold t1; try dsimp only)
      | clear_value t1)
    | dsimp only)

theorem assignCell_ok {que : List Instr} {s : State} (hok : State.Ok que s) (l : Nat) (r : Resv) :
    State.Ok que (State.assignCell s l r) := by
  unfold State.assignCell
  repeat' (with_reducible first | assumption | intro _ | apply ok_ite | apply put_ok | split | apply mk_ok)

theorem releaseAtOrigin_ok {que : List Instr} {s : State} (hok : State.Ok que s) (l : Nat) (r : Resv) :
    State.Ok que (State.releaseAtOrigin s l r) := by
  unfold State.releaseAtOrigin
  repeat' (with_reducible first | assumption | intro _ | apply ok_ite | apply put_ok | split | apply mk_ok)

theorem placeNew_ok {q : List Instr} {s : State} (h : s.Ok q) (r : Resv) (n : Nat) (ks : List Nat) (x : State × List Pat
    × List Pat)
    (e : s.placeNew r n ks = some x) : x.1.Ok q := by
  induction ks generalizing s x with
  | nil => simp only [State.placeNew, Option.some.injEq] at e; exact e ▸ h
  | cons k ks ih =>
    simp only [State.placeNew] at e
    split at e
    · cases e
    · rename_i a b ph _
      split at e
      · cases e
      · rename_i t up down e'
        simp only [Option.some.injEq] at e
        have ht := ih (s := { s with patterns := s.patterns ++ linkPatterns r n k a b ph true }) ⟨h.1, h.2⟩ _ e'
        exact e ▸ ht

theorem placeRiding_ok {q : List Instr} {s : State} (h : s.Ok q) (r : Resv) (n : Nat) (ks : List Nat) (x : State × List Pat)
    (e : s.placeRiding r n ks = some x) : x.1.Ok q := by
  induction ks generalizing s x with
  | nil => simp only [State.placeRiding, Option.some.injEq] at e; exact e ▸ h
  | cons k ks ih =>
    simp only [State.placeRiding] at e
    split at e
    · cases e
    · split at e
      · cases e
      · rename_i u b _ _ t down e'
        simp only [Option.some.injEq] at e
        have ht := ih (mk_ok h ..) _ e'
        exact e ▸ ht

theorem tryPlace_ok {q : List Instr} {s : State} (h : s.Ok q) (r : Resv) (n : Nat) (x : State × List Pat × List Pat)
    (e : s.tryPlace r n = some x) : x.1.Ok q := by
  unfold State.tryPlace at e
  dsimp only at e
  split at e
  · rename_i y hy
    simp only [Option.some.injEq] at e
    split at hy
    · simp only [Option.map_eq_some_iff] at hy
      obtain ⟨z, hz, rfl⟩ := hy
      exact e ▸ placeRiding_ok h r n _ z hz
    · cases hy
  · split at e
    · cases e
    · exact placeNew_ok h r n _ x e

theorem tryPlace_some {q : List Instr} {s : State} {r : Resv} {n : Nat} {x : State × List Pat × List Pat}
    (e : s.tryPlace r n = some x) (h : s.Ok q) : x.1.Ok q := tryPlace_ok h r n x e

theorem answer_ok {que : List Instr} {s : State} (hok : State.Ok que s) (edgeSlot : Nat) (kind : Nat) (r : Resv) :
    State.Ok que (State.answer s edgeSlot kind r) := by
  unfold State.answer
  repeat' (with_reducible first | assumption | intro _ | apply toCentre_ok | apply ok_ite | apply put_ok | split)

theorem settleRelease_ok {que : List Instr} {s : State} (hok : State.Ok que s) (r : Resv) :
    State.Ok que (State.settleRelease s r) := by
  unfold State.settleRelease
  repeat' (first
    | (with_reducible first | assumption | intro _ | apply answer_ok | apply ok_ite | apply put_ok | split | apply mk_ok | apply_assumption)
    | (extract_lets +onlyGivenNames t1; first
      | (refine_lift have h1 : State.Ok que t1 := ?_; ?_; on_goal 2 => clear_value t1; on_goal 1 => unfold t1; try dsimp only)
      | (refine_lift have h1 : State.Ok que t1.1 := ?_; ?_; on_goal 2 => clear_value t1; on_goal 1 => unfold t1; try dsimp only)
      | clear_value t1)
    | dsimp only)

theorem settleRequest_ok {q : List Instr} {s : State} (h : s.Ok q) (start : State) (r : Resv) (n : Nat) (t : State) (up
    down : List Pat)
    (e : s.settleRequest start r n = .granted t up down) : t.Ok q := by
  unfold State.settleRequest at e
  repeat' split at e
  all_goals first | cases e | skip
  rename_i hx
  exact tryPlace_ok h r _ _ hx

theorem cutoff_ok {q : List Instr} {s : State} (h : s.Ok q) : State.Ok q (State.cutoff s) := by
  unfold State.cutoff
  apply ok_ite h
  refine foldl_ok (each_ok (mk_ok h ..) _ _ (fun t a ht => settleRelease_ok ht _)) _ _ (fun t r ht => ?_)
  split
  · exact answer_ok ht ..
  · rename_i u up down e
    have hu := settleRequest_ok ht _ _ _ _ _ _ e
    exact ok_ite (answer_ok hu ..) (answer_ok (answer_ok hu ..) ..)

theorem centreRequest_ok {que : List Instr} {s : State} (hok : State.Ok que s) (isReserve : Bool) (r : Resv) :
    State.Ok que (State.centreRequest s isReserve r) := by
  unfold State.centreRequest
  repeat' (with_reducible first | assumption | intro _ | apply ok_ite | apply put_ok | split | apply mk_ok)

theorem offerCell_ok {que : List Instr} {s : State} (hok : State.Ok que s) (stamp : Nat) (recs : List OfferRec) :
    State.Ok que (State.offerCell s stamp recs) := by
  unfold State.offerCell
  repeat' (first
    | (with_reducible first | assumption | intro _ | apply sendControl_ok | apply refreshFabCounts_ok | apply ok_ite | apply put_ok | apply each_ok | apply foldl_ok | apply foldl_fst_ok | split | apply mk_ok | apply_assumption)
    | (extract_lets +onlyGivenNames t1; first
      | (refine_lift have h1 : State.Ok que t1 := ?_; ?_; on_goal 2 => clear_value t1; on_goal 1 => unfold t1; try dsimp only)
      | (refine_lift have h1 : State.Ok que t1.1 := ?_; ?_; on_goal 2 => clear_value t1; on_goal 1 => unfold t1; try dsimp only)
      | clear_value t1)
    | dsimp only)

theorem offerExpiry_ok {que : List Instr} {s : State} (hok : State.Ok que s) (m : Nat) :
    State.Ok que (State.offerExpiry s m) := by
  unfold State.offerExpiry
  repeat' (with_reducible first | assumption | intro _ | apply refreshFabCounts_ok | apply ok_ite | apply put_ok | split | apply mk_ok)

theorem arrivalKnown_ok {que : List Instr} {s : State} (hok : State.Ok que s) (l : Nat) (arrival : Int) :
    State.Ok que (State.arrivalKnown s l arrival) := by
  unfold State.arrivalKnown
  repeat' (with_reducible first | assumption | intro _ | apply ok_ite | apply put_ok | split)

theorem laneStatus_ok {que : List Instr} {s : State} (hok : State.Ok que s) (l : Nat) (x : LaneStatus) :
    State.Ok que (State.laneStatus s l x) := by
  unfold State.laneStatus
  repeat' (first
    | (with_reducible first | assumption | intro _ | apply arrivalKnown_ok | apply ok_ite | apply put_ok | split | apply_assumption)
    | (extract_lets +onlyGivenNames t1; first
      | (refine_lift have h1 : State.Ok que t1 := ?_; ?_; on_goal 2 => clear_value t1; on_goal 1 => unfold t1; try dsimp only)
      | (refine_lift have h1 : State.Ok que t1.1 := ?_; ?_; on_goal 2 => clear_value t1; on_goal 1 => unfold t1; try dsimp only)
      | clear_value t1)
    | dsimp only)

theorem sendMask_ok {que : List Instr} {s : State} (hok : State.Ok que s) (l : Nat) (full : Bool) (m : Nat) (admitting : Nat) (from_ : Nat) :
    State.Ok que (State.sendMask s l full m admitting from_) := by
  unfold State.sendMask
  repeat' (first
    | (with_reducible first | assumption | intro _ | apply sendControl_ok | apply ok_ite | apply put_ok | apply each_ok | split | apply_assumption)
    | (extract_lets +onlyGivenNames t1; first
      | (refine_lift have h1 : State.Ok que t1 := ?_; ?_; on_goal 2 => clear_value t1; on_goal 1 => unfold t1; try dsimp only)
      | (refine_lift have h1 : State.Ok que t1.1 := ?_; ?_; on_goal 2 => clear_value t1; on_goal 1 => unfold t1; try dsimp only)
      | (refine_lift have h1 : ∀ u, State.Ok que u → State.Ok que (t1 u) := ?_; ?_; on_goal 2 => clear_value t1; on_goal 1 => unfold t1; try dsimp only)
      | (refine_lift have h1 : ∀ u a, State.Ok que u → State.Ok que (t1 u a) := ?_; ?_; on_goal 2 => clear_value t1; on_goal 1 => unfold t1; try dsimp only)
      | (refine_lift have h1 : ∀ u a b, State.Ok que u → State.Ok que (t1 u a b) := ?_; ?_; on_goal 2 => clear_value t1; on_goal 1 => unfold t1; try dsimp only)
      | (refine_lift have h1 : ∀ u a b c, State.Ok que u → State.Ok que (t1 u a b c) := ?_; ?_; on_goal 2 => clear_value t1; on_goal 1 => unfold t1; try dsimp only)
      | clear_value t1)
    | dsimp only)

theorem sendStatus_ok {que : List Instr} {s : State} (hok : State.Ok que s) (l : Nat) (full : Bool) :
    State.Ok que (State.sendStatus s l full) := by
  unfold State.sendStatus
  repeat' (with_reducible first | assumption | intro _ | apply sendMask_ok | apply ok_ite | apply put_ok | split)

theorem joinPacket_ok {que : List Instr} {s : State} (hok : State.Ok que s) (x : FabSub) (c : Cell) :
    State.Ok que (State.joinPacket s x c) := by
  unfold State.joinPacket
  repeat' (first
    | (with_reducible first | assumption | intro _ | apply ok_ite | apply put_ok | split | apply mk_ok | apply_assumption)
    | (extract_lets +onlyGivenNames t1; first
      | (refine_lift have h1 : State.Ok que t1 := ?_; ?_; on_goal 2 => clear_value t1; on_goal 1 => unfold t1; try dsimp only)
      | (refine_lift have h1 : State.Ok que t1.1 := ?_; ?_; on_goal 2 => clear_value t1; on_goal 1 => unfold t1; try dsimp only)
      | (refine_lift have h1 : ∀ u, State.Ok que u → State.Ok que (t1 u) := ?_; ?_; on_goal 2 => clear_value t1; on_goal 1 => unfold t1; try dsimp only)
      | (refine_lift have h1 : ∀ u a, State.Ok que u → State.Ok que (t1 u a) := ?_; ?_; on_goal 2 => clear_value t1; on_goal 1 => unfold t1; try dsimp only)
      | (refine_lift have h1 : ∀ u a b, State.Ok que u → State.Ok que (t1 u a b) := ?_; ?_; on_goal 2 => clear_value t1; on_goal 1 => unfold t1; try dsimp only)
      | (refine_lift have h1 : ∀ u a b c, State.Ok que u → State.Ok que (t1 u a b c) := ?_; ?_; on_goal 2 => clear_value t1; on_goal 1 => unfold t1; try dsimp only)
      | clear_value t1)
    | dsimp only)

theorem releaseCell_ok {que : List Instr} {s : State} (hok : State.Ok que s) (x : FabSub) (c : Cell) (stamp : Int) :
    State.Ok que (State.releaseCell s x c stamp).1 := by
  unfold State.releaseCell
  repeat' (first
    | (with_reducible first | assumption | intro _ | apply bump_ok | apply joinPacket_ok | apply ok_ite | apply put_ok | split | apply mk_ok | apply_assumption)
    | (extract_lets +onlyGivenNames t1; first
      | (refine_lift have h1 : State.Ok que t1 := ?_; ?_; on_goal 2 => clear_value t1; on_goal 1 => unfold t1; try dsimp only)
      | (refine_lift have h1 : State.Ok que t1.1 := ?_; ?_; on_goal 2 => clear_value t1; on_goal 1 => unfold t1; try dsimp only)
      | clear_value t1)
    | dsimp only)

theorem drainHeld_ok {q : List Instr} (fuel : Nat) {s : State} (h : s.Ok q) (x : FabSub) (m : Merge) :
    State.Ok q (s.drainHeld x m fuel).1 := by
  induction fuel generalizing s x m with
  | zero => exact h
  | succ fuel ih =>
    simp only [State.drainHeld]
    split
    · exact h
    · exact ih (releaseCell_ok h ..) _ _

theorem concordCell_ok {que : List Instr} {s : State} (hok : State.Ok que s) (x : FabSub) (c : Cell) :
    State.Ok que (State.concordCell s x c) := by
  unfold State.concordCell
  repeat' (first
    | (with_reducible first | assumption | intro _ | apply bump_ok | apply setSub_ok | apply drainHeld_ok | apply ok_ite | apply put_ok | split | apply mk_ok | apply_assumption)
    | (extract_lets +onlyGivenNames t1; first
      | (refine_lift have h1 : State.Ok que t1 := ?_; ?_; on_goal 2 => clear_value t1; on_goal 1 => unfold t1; try dsimp only)
      | (refine_lift have h1 : State.Ok que t1.1 := ?_; ?_; on_goal 2 => clear_value t1; on_goal 1 => unfold t1; try dsimp only)
      | clear_value t1)
    | dsimp only)

theorem cellsCut_ok {que : List Instr} {s : State} (hok : State.Ok que s) (x : FabSub) (stamp : Int) (a : Nat) (b : Option Nat) :
    State.Ok que (State.cellsCut s x stamp a b) := by
  unfold State.cellsCut
  repeat' (with_reducible first | assumption | intro _ | apply cut_ok | apply ok_ite | apply put_ok | split | apply mk_ok)

theorem gapCut_ok {que : List Instr} {s : State} (hok : State.Ok que s) (x : FabSub) (m : Merge) (stamp : Int) (seq : Nat) :
    State.Ok que (State.gapCut s x m stamp seq) := by
  unfold State.gapCut
  repeat' (with_reducible first | assumption | intro _ | apply cellsCut_ok | apply ok_ite | apply put_ok | split)

theorem releaseUpTo_ok {q : List Instr} (fuel : Nat) {s : State} (h : s.Ok q) (x : FabSub) (m : Merge) (key : Int × Int) :
    State.Ok q (s.releaseUpTo x m key fuel).1 := by
  induction fuel generalizing s x m with
  | zero => exact h
  | succ fuel ih =>
    simp only [State.releaseUpTo]
    split
    · exact h
    · split
      · exact h
      · refine ih (releaseCell_ok ?_ ..) ..
        repeat' (with_reducible first
          | assumption | apply gapCut_ok | apply put_ok | apply bumpBy_ok | apply drawn_ok | split)

theorem holdExpiry_ok {que : List Instr} {s : State} (hok : State.Ok que s) (el : Nat) (link : Nat) :
    State.Ok que (State.holdExpiry s el link) := by
  unfold State.holdExpiry
  repeat' (first
    | (with_reducible first | assumption | intro _ | apply setSub_ok | apply drainHeld_ok | apply releaseUpTo_ok | apply ok_ite | apply put_ok | apply foldl_ok | apply foldl_fst_ok | split | apply mk_ok | apply_assumption)
    | (extract_lets +onlyGivenNames t1; first
      | (refine_lift have h1 : State.Ok que t1 := ?_; ?_; on_goal 2 => clear_value t1; on_goal 1 => unfold t1; try dsimp only)
      | (refine_lift have h1 : State.Ok que t1.1 := ?_; ?_; on_goal 2 => clear_value t1; on_goal 1 => unfold t1; try dsimp only)
      | clear_value t1)
    | dsimp only)

theorem originCell_ok {que : List Instr} {s : State} (hok : State.Ok que s) (i : Nat) (c : Cell) (at_ : Int) :
    State.Ok que (State.originCell s i c at_) := by
  unfold State.originCell
  repeat' (first
    | (with_reducible first | assumption | intro _ | apply sendCell_ok | apply ok_ite | apply put_ok | apply each_ok | split | apply mk_ok | apply_assumption)
    | (extract_lets +onlyGivenNames t1; first
      | (refine_lift have h1 : State.Ok que t1 := ?_; ?_; on_goal 2 => clear_value t1; on_goal 1 => unfold t1; try dsimp only)
      | (refine_lift have h1 : State.Ok que t1.1 := ?_; ?_; on_goal 2 => clear_value t1; on_goal 1 => unfold t1; try dsimp only)
      | clear_value t1)
    | dsimp only)

theorem forward_ok {que : List Instr} {s : State} (hok : State.Ok que s) (l : Nat) (t : Nat) (c : Cell) :
    State.Ok que (State.forward s l t c) := by
  unfold State.forward
  repeat' (first
    | (with_reducible first | assumption | intro _ | apply bump_ok | apply sendCell_ok | apply ok_ite | apply put_ok | apply each_ok | split | apply mk_ok | apply_assumption)
    | (extract_lets +onlyGivenNames t1; first
      | (refine_lift have h1 : State.Ok que t1 := ?_; ?_; on_goal 2 => clear_value t1; on_goal 1 => unfold t1; try dsimp only)
      | (refine_lift have h1 : State.Ok que t1.1 := ?_; ?_; on_goal 2 => clear_value t1; on_goal 1 => unfold t1; try dsimp only)
      | clear_value t1)
    | dsimp only)

theorem concordUnit_ok {que : List Instr} {s : State} (hok : State.Ok que s) (u : InjUnit) :
    State.Ok que (State.concordUnit s u) := by
  unfold State.concordUnit
  repeat' (with_reducible first | assumption | intro _ | apply concordCell_ok | apply ok_ite | apply put_ok | split | apply mk_ok)

theorem essence_ok {que : List Instr} {s : State} (hok : State.Ok que s) (l : Nat) (t : Nat) (crcOk : Bool) (c : Cell) :
    State.Ok que (State.essence s l t crcOk c) := by
  unfold State.essence
  repeat' (first
    | (with_reducible first | assumption | intro _ | apply inject_ok | apply cellIn_ok | apply forward_ok | apply concordUnit_ok | apply ok_ite | apply put_ok | apply each_ok | split | apply mk_ok | apply_assumption)
    | (extract_lets +onlyGivenNames t1; first
      | (refine_lift have h1 : State.Ok que t1 := ?_; ?_; on_goal 2 => clear_value t1; on_goal 1 => unfold t1; try dsimp only)
      | (refine_lift have h1 : State.Ok que t1.1 := ?_; ?_; on_goal 2 => clear_value t1; on_goal 1 => unfold t1; try dsimp only)
      | clear_value t1)
    | dsimp only)

theorem presence_ok {que : List Instr} {s : State} (hok : State.Ok que s) (l : Nat) (t : Nat) (crcOk : Bool) (c : Cell) :
    State.Ok que (State.presence s l t crcOk c) := by
  unfold State.presence
  repeat' (first
    | (with_reducible first | assumption | intro _ | apply cellIn_ok | apply setSub_ok | apply forward_ok | apply ok_ite | apply put_ok | split | apply mk_ok | apply_assumption)
    | (extract_lets +onlyGivenNames t1; first
      | (refine_lift have h1 : State.Ok que t1 := ?_; ?_; on_goal 2 => clear_value t1; on_goal 1 => unfold t1; try dsimp only)
      | (refine_lift have h1 : State.Ok que t1.1 := ?_; ?_; on_goal 2 => clear_value t1; on_goal 1 => unfold t1; try dsimp only)
      | clear_value t1)
    | dsimp only)

theorem planeFailure_ok {que : List Instr} {s : State} (hok : State.Ok que s) (el : Nat) (plane : Nat) :
    State.Ok que (State.planeFailure s el plane) := by
  unfold State.planeFailure
  repeat' (first
    | (with_reducible first | assumption | intro _ | apply bump_ok | apply setSub_ok | apply reservePlane_ok | apply releasePlane_ok | apply cellsCut_ok | apply ok_ite | apply put_ok | apply each_ok | split | apply mk_ok | apply_assumption)
    | (extract_lets +onlyGivenNames t1; first
      | (refine_lift have h1 : State.Ok que t1 := ?_; ?_; on_goal 2 => clear_value t1; on_goal 1 => unfold t1; try dsimp only)
      | (refine_lift have h1 : State.Ok que t1.1 := ?_; ?_; on_goal 2 => clear_value t1; on_goal 1 => unfold t1; try dsimp only)
      | clear_value t1)
    | dsimp only)

theorem pathRetry_ok {que : List Instr} {s : State} (hok : State.Ok que s) (el : Nat) :
    State.Ok que (State.pathRetry s el) := by
  unfold State.pathRetry
  repeat' (first
    | (with_reducible first | assumption | intro _ | apply reservePlane_ok | apply ok_ite | apply put_ok | split | apply mk_ok | apply_assumption)
    | (extract_lets +onlyGivenNames t1; first
      | (refine_lift have h1 : State.Ok que t1 := ?_; ?_; on_goal 2 => clear_value t1; on_goal 1 => unfold t1; try dsimp only)
      | (refine_lift have h1 : State.Ok que t1.1 := ?_; ?_; on_goal 2 => clear_value t1; on_goal 1 => unfold t1; try dsimp only)
      | (refine_lift have h1 : ∀ u, State.Ok que u → State.Ok que (t1 u) := ?_; ?_; on_goal 2 => clear_value t1; on_goal 1 => unfold t1; try dsimp only)
      | (refine_lift have h1 : ∀ u a, State.Ok que u → State.Ok que (t1 u a) := ?_; ?_; on_goal 2 => clear_value t1; on_goal 1 => unfold t1; try dsimp only)
      | (refine_lift have h1 : ∀ u a b, State.Ok que u → State.Ok que (t1 u a b) := ?_; ?_; on_goal 2 => clear_value t1; on_goal 1 => unfold t1; try dsimp only)
      | (refine_lift have h1 : ∀ u a b c, State.Ok que u → State.Ok que (t1 u a b c) := ?_; ?_; on_goal 2 => clear_value t1; on_goal 1 => unfold t1; try dsimp only)
      | clear_value t1)
    | dsimp only)

theorem unprotected_ok {que : List Instr} {s : State} (hok : State.Ok que s) (el : Nat) :
    State.Ok que (State.unprotected s el) := by
  unfold State.unprotected
  repeat' (first
    | (with_reducible first | assumption | intro _ | apply raise_ok | apply setSub_ok | apply ok_ite | apply put_ok | split | apply mk_ok | apply_assumption)
    | (extract_lets +onlyGivenNames t1; first
      | (refine_lift have h1 : State.Ok que t1 := ?_; ?_; on_goal 2 => clear_value t1; on_goal 1 => unfold t1; try dsimp only)
      | (refine_lift have h1 : State.Ok que t1.1 := ?_; ?_; on_goal 2 => clear_value t1; on_goal 1 => unfold t1; try dsimp only)
      | clear_value t1)
    | dsimp only)

theorem nextReserves_ok {que : List Instr} {s : State} (hok : State.Ok que s) :
    State.Ok que (State.nextReserves s) := by
  unfold State.nextReserves
  repeat' (first
    | (with_reducible first | assumption | intro _ | apply setSub_ok | apply reservePlane_ok | apply movePlane_ok | apply releasePath_ok | apply request_ok | apply ok_ite | apply put_ok | apply each_ok | split | apply mk_ok | apply_assumption)
    | (extract_lets +onlyGivenNames t1; first
      | (refine_lift have h1 : State.Ok que t1 := ?_; ?_; on_goal 2 => clear_value t1; on_goal 1 => unfold t1; try dsimp only)
      | (refine_lift have h1 : State.Ok que t1.1 := ?_; ?_; on_goal 2 => clear_value t1; on_goal 1 => unfold t1; try dsimp only)
      | (refine_lift have h1 : ∀ u, State.Ok que u → State.Ok que (t1 u) := ?_; ?_; on_goal 2 => clear_value t1; on_goal 1 => unfold t1; try dsimp only)
      | (refine_lift have h1 : ∀ u a, State.Ok que u → State.Ok que (t1 u a) := ?_; ?_; on_goal 2 => clear_value t1; on_goal 1 => unfold t1; try dsimp only)
      | (refine_lift have h1 : ∀ u a b, State.Ok que u → State.Ok que (t1 u a b) := ?_; ?_; on_goal 2 => clear_value t1; on_goal 1 => unfold t1; try dsimp only)
      | (refine_lift have h1 : ∀ u a b c, State.Ok que u → State.Ok que (t1 u a b c) := ?_; ?_; on_goal 2 => clear_value t1; on_goal 1 => unfold t1; try dsimp only)
      | clear_value t1)
    | dsimp only)

theorem calendarPeriod_ok {que : List Instr} {s : State} (hok : State.Ok que s) (lanes : List LanePeriod) :
    State.Ok que (State.calendarPeriod s lanes) := by
  unfold State.calendarPeriod
  repeat' (first
    | (with_reducible first | assumption | intro _ | apply bumpBy_ok | apply refreshCalendars_ok | apply refreshFabCounts_ok | apply arrivalKnown_ok | apply sendStatus_ok | apply unprotected_ok | apply nextReserves_ok | apply ok_ite | apply put_ok | apply each_ok | apply when_ok | split | apply mk_ok | apply_assumption)
    | (extract_lets +onlyGivenNames t1; first
      | (refine_lift have h1 : State.Ok que t1 := ?_; ?_; on_goal 2 => clear_value t1; on_goal 1 => unfold t1; try dsimp only)
      | (refine_lift have h1 : State.Ok que t1.1 := ?_; ?_; on_goal 2 => clear_value t1; on_goal 1 => unfold t1; try dsimp only)
      | clear_value t1)
    | dsimp only)

theorem calendarApply_ok {que : List Instr} {s : State} (hok : State.Ok que s) (l : Nat) :
    State.Ok que (State.calendarApply s l) := by
  unfold State.calendarApply
  repeat' (with_reducible first | assumption | intro _ | apply refreshCalendars_ok | apply sendStatus_ok | apply ok_ite | apply put_ok | split)

theorem twinSend_ok {que : List Instr} {s : State} (hok : State.Ok que s) (m : TwinMsg) :
    State.Ok que (State.twinSend s m) := by
  unfold State.twinSend
  repeat' (first
    | (with_reducible first | assumption | intro _ | apply send_ok | apply bump_ok | apply inject_ok | apply ok_ite | apply put_ok | apply each_ok | split | apply_assumption)
    | (extract_lets +onlyGivenNames t1; first
      | (refine_lift have h1 : State.Ok que t1 := ?_; ?_; on_goal 2 => clear_value t1; on_goal 1 => unfold t1; try dsimp only)
      | (refine_lift have h1 : State.Ok que t1.1 := ?_; ?_; on_goal 2 => clear_value t1; on_goal 1 => unfold t1; try dsimp only)
      | clear_value t1)
    | dsimp only)

theorem sendTwin_ok {que : List Instr} {s : State} (hok : State.Ok que s) (m : TwinMsg) :
    State.Ok que (State.sendTwin s m) := by
  unfold State.sendTwin
  repeat' (with_reducible first | assumption | intro _ | apply twinSend_ok | apply ok_ite | apply put_ok | split)

theorem twinOrdered_ok {que : List Instr} {s : State} (hok : State.Ok que s) (old : State) :
    State.Ok que (State.twinOrdered s old) := by
  unfold State.twinOrdered
  repeat' (first
    | (with_reducible first | assumption | intro _ | apply ok_ite | apply put_ok | split | apply mk_ok | apply_assumption)
    | (extract_lets +onlyGivenNames t1; first
      | (refine_lift have h1 : State.Ok que t1 := ?_; ?_; on_goal 2 => clear_value t1; on_goal 1 => unfold t1; try dsimp only)
      | (refine_lift have h1 : State.Ok que t1.1 := ?_; ?_; on_goal 2 => clear_value t1; on_goal 1 => unfold t1; try dsimp only)
      | (refine_lift have h1 : ∀ u, State.Ok que u → State.Ok que (t1 u) := ?_; ?_; on_goal 2 => clear_value t1; on_goal 1 => unfold t1; try dsimp only)
      | (refine_lift have h1 : ∀ u a, State.Ok que u → State.Ok que (t1 u a) := ?_; ?_; on_goal 2 => clear_value t1; on_goal 1 => unfold t1; try dsimp only)
      | (refine_lift have h1 : ∀ u a b, State.Ok que u → State.Ok que (t1 u a b) := ?_; ?_; on_goal 2 => clear_value t1; on_goal 1 => unfold t1; try dsimp only)
      | (refine_lift have h1 : ∀ u a b c, State.Ok que u → State.Ok que (t1 u a b c) := ?_; ?_; on_goal 2 => clear_value t1; on_goal 1 => unfold t1; try dsimp only)
      | clear_value t1)
    | dsimp only)

theorem twinIn_ok {que : List Instr} {s : State} (hok : State.Ok que s) (n : Nat) (f : State → State) (hf : ∀ t, State.Ok que t → State.Ok que (f t)) :
    State.Ok que (State.twinIn s n f) := by
  unfold State.twinIn
  repeat' (with_reducible first | assumption | intro _ | apply hf | apply bump_ok | apply ok_ite | apply put_ok | split | apply mk_ok)

/-! ### Net -/

theorem refreshMac_ok {que : List Instr} {s : State} (hok : State.Ok que s) (m : Nat) :
    State.Ok que (State.refreshMac s m) := by
  unfold State.refreshMac
  repeat' (first
    | (with_reducible first | assumption | intro _ | apply ok_ite | apply put_ok | split | apply_assumption)
    | (extract_lets +onlyGivenNames t1; first
      | (refine_lift have h1 : State.Ok que t1 := ?_; ?_; on_goal 2 => clear_value t1; on_goal 1 => unfold t1; try dsimp only)
      | (refine_lift have h1 : State.Ok que t1.1 := ?_; ?_; on_goal 2 => clear_value t1; on_goal 1 => unfold t1; try dsimp only)
      | clear_value t1)
    | dsimp only)

theorem refreshEgress_ok {que : List Instr} {s : State} (hok : State.Ok que s) :
    State.Ok que (State.refreshEgress s) := by
  unfold State.refreshEgress
  repeat' (first
    | (with_reducible first | assumption | intro _ | apply bump_ok | apply ok_ite | apply put_ok | apply each_ok | split | apply mk_ok | apply_assumption)
    | (extract_lets +onlyGivenNames t1; first
      | (refine_lift have h1 : State.Ok que t1 := ?_; ?_; on_goal 2 => clear_value t1; on_goal 1 => unfold t1; try dsimp only)
      | (refine_lift have h1 : State.Ok que t1.1 := ?_; ?_; on_goal 2 => clear_value t1; on_goal 1 => unfold t1; try dsimp only)
      | (refine_lift have h1 : ∀ u, State.Ok que u → State.Ok que (t1 u) := ?_; ?_; on_goal 2 => clear_value t1; on_goal 1 => unfold t1; try dsimp only)
      | (refine_lift have h1 : ∀ u a, State.Ok que u → State.Ok que (t1 u a) := ?_; ?_; on_goal 2 => clear_value t1; on_goal 1 => unfold t1; try dsimp only)
      | (refine_lift have h1 : ∀ u a b, State.Ok que u → State.Ok que (t1 u a b) := ?_; ?_; on_goal 2 => clear_value t1; on_goal 1 => unfold t1; try dsimp only)
      | (refine_lift have h1 : ∀ u a b c, State.Ok que u → State.Ok que (t1 u a b c) := ?_; ?_; on_goal 2 => clear_value t1; on_goal 1 => unfold t1; try dsimp only)
      | clear_value t1)
    | dsimp only)

theorem egressSwitch_ok {que : List Instr} {s : State} (hok : State.Ok que s) :
    State.Ok que (State.egressSwitch s) := by
  unfold State.egressSwitch
  repeat' (first
    | (with_reducible first | assumption | intro _ | apply refreshEgress_ok | apply ok_ite | apply put_ok | split | apply_assumption)
    | (extract_lets +onlyGivenNames t1; first
      | (refine_lift have h1 : State.Ok que t1 := ?_; ?_; on_goal 2 => clear_value t1; on_goal 1 => unfold t1; try dsimp only)
      | (refine_lift have h1 : State.Ok que t1.1 := ?_; ?_; on_goal 2 => clear_value t1; on_goal 1 => unfold t1; try dsimp only)
      | clear_value t1)
    | dsimp only)

theorem macTrain_ok {que : List Instr} {s : State} (hok : State.Ok que s) (m : Nat) :
    State.Ok que (State.macTrain s m) := by
  unfold State.macTrain
  repeat' (with_reducible first | assumption | intro _ | apply ok_ite | apply put_ok | apply when_ok | split)

theorem macsTrain_ok {que : List Instr} {s : State} (hok : State.Ok que s) (n : Nat) :
    State.Ok que (State.macsTrain s n) := by
  unfold State.macsTrain
  repeat' (with_reducible first | assumption | intro _ | apply macTrain_ok | apply ok_ite | apply put_ok | apply each_ok | split)

theorem macUp_ok {que : List Instr} {s : State} (hok : State.Ok que s) (m : Nat) :
    State.Ok que (State.macUp s m) := by
  unfold State.macUp
  repeat' (with_reducible first | assumption | intro _ | apply ok_ite | apply put_ok | split)

theorem fecCount_ok {que : List Instr} {s : State} (hok : State.Ok que s) (m : Nat) (corrected : Nat) (lost : Nat) :
    State.Ok que (State.fecCount s m corrected lost) := by
  unfold State.fecCount
  repeat' (with_reducible first | assumption | intro _ | apply bumpBy_ok | apply ok_ite | apply put_ok | split)

theorem macDown_ok {que : List Instr} {s : State} (hok : State.Ok que s) (m : Nat) (corrected : Nat) (lost : Nat) :
    State.Ok que (State.macDown s m corrected lost) := by
  unfold State.macDown
  repeat' (with_reducible first | assumption | intro _ | apply macFalls_ok | apply settleQueue_ok | apply macTrain_ok | apply fecCount_ok | apply ok_ite | apply put_ok | split)

theorem gateStep_ok {que : List Instr} {s : State} (hok : State.Ok que s) (m : Nat) :
    State.Ok que (State.gateStep s m) := by
  unfold State.gateStep
  repeat' (first
    | (with_reducible first | assumption | intro _ | apply ok_ite | apply put_ok | split | apply mk_ok | apply_assumption)
    | (extract_lets +onlyGivenNames t1; first
      | (refine_lift have h1 : State.Ok que t1 := ?_; ?_; on_goal 2 => clear_value t1; on_goal 1 => unfold t1; try dsimp only)
      | (refine_lift have h1 : State.Ok que t1.1 := ?_; ?_; on_goal 2 => clear_value t1; on_goal 1 => unfold t1; try dsimp only)
      | clear_value t1)
    | dsimp only)

theorem gateApply_ok {que : List Instr} {s : State} (hok : State.Ok que s) (m : Nat) :
    State.Ok que (State.gateApply s m) := by
  unfold State.gateApply
  repeat' (with_reducible first | assumption | intro _ | apply bump_ok | apply gateStep_ok | apply ok_ite | apply put_ok | split)

theorem enqueue_ok {que : List Instr} {s : State} (hok : State.Ok que s) (x : TxFrame) :
    State.Ok que (State.enqueue s x) := by
  unfold State.enqueue
  repeat' (with_reducible first | assumption | intro _ | apply bump_ok | apply ok_ite | apply put_ok | split | apply mk_ok)

theorem stampFrame_ok {que : List Instr} {s : State} (hok : State.Ok que s) (m : Nat) (x : TxFrame) :
    State.Ok que (State.stampFrame s m x).1 := by
  unfold State.stampFrame
  repeat' (first
    | (with_reducible first | assumption | intro _ | apply delayReq_ok | apply ok_ite | apply put_ok | split | apply mk_ok | apply_assumption)
    | (extract_lets +onlyGivenNames t1; first
      | (refine_lift have h1 : State.Ok que t1 := ?_; ?_; on_goal 2 => clear_value t1; on_goal 1 => unfold t1; try dsimp only)
      | (refine_lift have h1 : State.Ok que t1.1 := ?_; ?_; on_goal 2 => clear_value t1; on_goal 1 => unfold t1; try dsimp only)
      | clear_value t1)
    | dsimp only)

theorem ctlFrameStart_ok {que : List Instr} {s : State} (hok : State.Ok que s) (m : Nat) :
    State.Ok que (State.ctlFrameStart s m) := by
  unfold State.ctlFrameStart
  repeat' (first
    | (with_reducible first | assumption | intro _ | apply sendFrame_ok | apply ok_ite | apply put_ok | split | apply mk_ok | apply_assumption)
    | (extract_lets +onlyGivenNames t1; first
      | (refine_lift have h1 : State.Ok que t1 := ?_; ?_; on_goal 2 => clear_value t1; on_goal 1 => unfold t1; try dsimp only)
      | (refine_lift have h1 : State.Ok que t1.1 := ?_; ?_; on_goal 2 => clear_value t1; on_goal 1 => unfold t1; try dsimp only)
      | clear_value t1)
    | dsimp only)

theorem frameStart_ok {que : List Instr} {s : State} (hok : State.Ok que s) (m : Nat) :
    State.Ok que (State.frameStart s m) := by
  unfold State.frameStart
  repeat' (first
    | (with_reducible first | assumption | intro _ | apply bumpBy_ok | apply bump_ok | apply sendFrame_ok | apply inject_ok | apply stampFrame_ok | apply ok_ite | apply put_ok | apply each_ok | apply when_ok | split | apply mk_ok | apply_assumption)
    | (extract_lets +onlyGivenNames t1; first
      | (refine_lift have h1 : State.Ok que t1 := ?_; ?_; on_goal 2 => clear_value t1; on_goal 1 => unfold t1; try dsimp only)
      | (refine_lift have h1 : State.Ok que t1.1 := ?_; ?_; on_goal 2 => clear_value t1; on_goal 1 => unfold t1; try dsimp only)
      | clear_value t1)
    | dsimp only)

theorem releaseTo_ok {que : List Instr} {s : State} (hok : State.Ok que s) (x : TxFrame) :
    State.Ok que (State.releaseTo s x) := by
  unfold State.releaseTo
  repeat' (with_reducible first | assumption | intro _ | apply bump_ok | apply enqueue_ok | apply release_ok | apply ok_ite | apply put_ok | split)

theorem membershipNews_ok {que : List Instr} {s : State} (hok : State.Ok que s) (m : Nat) (was : List (Nat × Option Nat)) :
    State.Ok que (State.membershipNews s m was) := by
  unfold State.membershipNews
  repeat' (first
    | (with_reducible first | assumption | intro _ | apply ok_ite | apply put_ok | split | apply mk_ok | apply_assumption)
    | (extract_lets +onlyGivenNames t1; first
      | (refine_lift have h1 : State.Ok que t1 := ?_; ?_; on_goal 2 => clear_value t1; on_goal 1 => unfold t1; try dsimp only)
      | (refine_lift have h1 : State.Ok que t1.1 := ?_; ?_; on_goal 2 => clear_value t1; on_goal 1 => unfold t1; try dsimp only)
      | clear_value t1)
    | dsimp only)

theorem refreshGroups_ok {que : List Instr} {s : State} (hok : State.Ok que s) (old : State) :
    State.Ok que (State.refreshGroups s old) := by
  unfold State.refreshGroups
  repeat' (with_reducible first | assumption | intro _ | apply membershipNews_ok | apply ok_ite | apply put_ok | apply each_ok | split)

theorem report_ok {que : List Instr} {s : State} (hok : State.Ok que s) (m : Nat) (joined : Bool) (g : Nat × Option Nat) :
    State.Ok que (State.report s m joined g) := by
  unfold State.report
  repeat' (first
    | (with_reducible first | assumption | intro _ | apply enqueue_ok | apply ok_ite | apply put_ok | split | apply_assumption)
    | (extract_lets +onlyGivenNames t1; first
      | (refine_lift have h1 : State.Ok que t1 := ?_; ?_; on_goal 2 => clear_value t1; on_goal 1 => unfold t1; try dsimp only)
      | (refine_lift have h1 : State.Ok que t1.1 := ?_; ?_; on_goal 2 => clear_value t1; on_goal 1 => unfold t1; try dsimp only)
      | clear_value t1)
    | dsimp only)

theorem sendReports_ok {que : List Instr} {s : State} (hok : State.Ok que s) (m : Nat) (group : Option Nat) :
    State.Ok que (State.sendReports s m group) := by
  unfold State.sendReports
  repeat' (with_reducible first | assumption | intro _ | apply report_ok | apply ok_ite | apply put_ok | apply each_ok | split | apply mk_ok)

theorem membershipReport_ok {que : List Instr} {s : State} (hok : State.Ok que s) (m : Nat) :
    State.Ok que (State.membershipReport s m) := by
  unfold State.membershipReport
  repeat' (first
    | (with_reducible first | assumption | intro _ | apply report_ok | apply ok_ite | apply put_ok | apply each_ok | split | apply mk_ok | apply_assumption)
    | (extract_lets +onlyGivenNames t1; first
      | (refine_lift have h1 : State.Ok que t1 := ?_; ?_; on_goal 2 => clear_value t1; on_goal 1 => unfold t1; try dsimp only)
      | (refine_lift have h1 : State.Ok que t1.1 := ?_; ?_; on_goal 2 => clear_value t1; on_goal 1 => unfold t1; try dsimp only)
      | clear_value t1)
    | dsimp only)

theorem portApply_ok {que : List Instr} {s : State} (hok : State.Ok que s) (n : Nat) (sub : Nat) (v : Int) :
    State.Ok que (State.portApply s n sub v) := by
  unfold State.portApply
  repeat' (first
    | (with_reducible first | assumption | intro _ | apply macFalls_ok | apply settleQueue_ok | apply refreshMac_ok | apply refreshEgress_ok | apply macsTrain_ok | apply refreshGroups_ok | apply ok_ite | apply put_ok | apply each_ok | split | apply_assumption)
    | (extract_lets +onlyGivenNames t1; first
      | (refine_lift have h1 : State.Ok que t1 := ?_; ?_; on_goal 2 => clear_value t1; on_goal 1 => unfold t1; try dsimp only)
      | (refine_lift have h1 : State.Ok que t1.1 := ?_; ?_; on_goal 2 => clear_value t1; on_goal 1 => unfold t1; try dsimp only)
      | clear_value t1)
    | dsimp only)

/-! ### Flows -/

theorem flowWritten_ok {que : List Instr} {s : State} (hok : State.Ok que s) (old : State) (f : Nat) :
    State.Ok que (State.flowWritten s old f) := by
  unfold State.flowWritten
  repeat' (first
    | (with_reducible first | assumption | intro _ | apply ok_ite | apply put_ok | apply each_ok | split | apply mk_ok | apply_assumption)
    | (extract_lets +onlyGivenNames t1; first
      | (refine_lift have h1 : State.Ok que t1 := ?_; ?_; on_goal 2 => clear_value t1; on_goal 1 => unfold t1; try dsimp only)
      | (refine_lift have h1 : State.Ok que t1.1 := ?_; ?_; on_goal 2 => clear_value t1; on_goal 1 => unfold t1; try dsimp only)
      | clear_value t1)
    | dsimp only)

theorem setBuf_ok {que : List Instr} {s : State} (hok : State.Ok que s) (b : FlowBuf) :
    State.Ok que (State.setBuf s b) := by
  unfold State.setBuf
  repeat' (with_reducible first | assumption | intro _ | apply ok_ite | apply put_ok | split | apply mk_ok)

theorem flowPubDue_ok {que : List Instr} {s : State} (hok : State.Ok que s) (f : Nat) :
    State.Ok que (State.flowPubDue s f) := by
  unfold State.flowPubDue
  repeat' (with_reducible first | assumption | intro _ | apply ok_ite | apply put_ok | apply when_ok | split)

theorem forwardPacket_ok {que : List Instr} {s : State} (hok : State.Ok que s) (f : Nat) (p : Rtp) (stamp : Int) :
    State.Ok que (State.forwardPacket s f p stamp) := by
  unfold State.forwardPacket
  repeat' (first
    | (with_reducible first | assumption | intro _ | apply bumpBy_ok | apply drawn_ok | apply originCell_ok | apply ok_ite | apply put_ok | apply each_ok | split | apply_assumption)
    | (extract_lets +onlyGivenNames t1; first
      | (refine_lift have h1 : State.Ok que t1 := ?_; ?_; on_goal 2 => clear_value t1; on_goal 1 => unfold t1; try dsimp only)
      | (refine_lift have h1 : State.Ok que t1.1 := ?_; ?_; on_goal 2 => clear_value t1; on_goal 1 => unfold t1; try dsimp only)
      | clear_value t1)
    | dsimp only)

theorem flowOut_ok {que : List Instr} {s : State} (hok : State.Ok que s) (p : Nat) (x : TxFrame) :
    State.Ok que (State.flowOut s p x) := by
  unfold State.flowOut
  repeat' (first
    | (with_reducible first | assumption | intro _ | apply inject_ok | apply releaseTo_ok | apply ok_ite | apply put_ok | apply each_ok | split | apply mk_ok | apply_assumption)
    | (extract_lets +onlyGivenNames t1; first
      | (refine_lift have h1 : State.Ok que t1 := ?_; ?_; on_goal 2 => clear_value t1; on_goal 1 => unfold t1; try dsimp only)
      | (refine_lift have h1 : State.Ok que t1.1 := ?_; ?_; on_goal 2 => clear_value t1; on_goal 1 => unfold t1; try dsimp only)
      | clear_value t1)
    | dsimp only)

theorem compressedSend_ok {que : List Instr} {s : State} (hok : State.Ok que s) (m : Nat) (bytes : Nat) (ts : Nat) (q : Nat) (marker : Bool) :
    State.Ok que (State.compressedSend s m bytes ts q marker) := by
  unfold State.compressedSend
  repeat' (first
    | (with_reducible first | assumption | intro _ | apply bump_ok | apply flowOut_ok | apply ok_ite | apply put_ok | apply each_ok | split | apply_assumption)
    | (extract_lets +onlyGivenNames t1; first
      | (refine_lift have h1 : State.Ok que t1 := ?_; ?_; on_goal 2 => clear_value t1; on_goal 1 => unfold t1; try dsimp only)
      | (refine_lift have h1 : State.Ok que t1.1 := ?_; ?_; on_goal 2 => clear_value t1; on_goal 1 => unfold t1; try dsimp only)
      | clear_value t1)
    | dsimp only)

theorem remotePackets_ok {que : List Instr} {s : State} (hok : State.Ok que s) :
    State.Ok que (State.remotePackets s) := by
  unfold State.remotePackets
  repeat' (first
    | (with_reducible first | assumption | intro _ | apply compressedSend_ok | apply ok_ite | apply put_ok | apply each_ok | split | apply_assumption)
    | (extract_lets +onlyGivenNames t1; first
      | (refine_lift have h1 : State.Ok que t1 := ?_; ?_; on_goal 2 => clear_value t1; on_goal 1 => unfold t1; try dsimp only)
      | (refine_lift have h1 : State.Ok que t1.1 := ?_; ?_; on_goal 2 => clear_value t1; on_goal 1 => unfold t1; try dsimp only)
      | clear_value t1)
    | dsimp only)

theorem compressedDrain_ok {que : List Instr} {s : State} (hok : s.Ok que) (f : Nat) (fuel : Nat) :
    State.Ok que (s.compressedDrain f fuel) := by
  induction fuel generalizing s with
  | zero => exact hok
  | succ fuel ih =>
    simp only [State.compressedDrain]
    split
    · exact hok
    · exact ih (compressedSend_ok (setBuf_ok hok _) ..)

theorem noteArrival_ok {que : List Instr} {s : State} (hok : State.Ok que s) (f : Nat) (pathB : Bool) (t : Int) (q : Nat) :
    State.Ok que (State.noteArrival s f pathB t q) := by
  unfold State.noteArrival
  repeat' (first
    | (with_reducible first | assumption | intro _ | apply ok_ite | apply put_ok | split | apply mk_ok | apply_assumption)
    | (extract_lets +onlyGivenNames t1; first
      | (refine_lift have h1 : State.Ok que t1 := ?_; ?_; on_goal 2 => clear_value t1; on_goal 1 => unfold t1; try dsimp only)
      | (refine_lift have h1 : State.Ok que t1.1 := ?_; ?_; on_goal 2 => clear_value t1; on_goal 1 => unfold t1; try dsimp only)
      | (refine_lift have h1 : ∀ u, State.Ok que u → State.Ok que (t1 u) := ?_; ?_; on_goal 2 => clear_value t1; on_goal 1 => unfold t1; try dsimp only)
      | (refine_lift have h1 : ∀ u a, State.Ok que u → State.Ok que (t1 u a) := ?_; ?_; on_goal 2 => clear_value t1; on_goal 1 => unfold t1; try dsimp only)
      | (refine_lift have h1 : ∀ u a b, State.Ok que u → State.Ok que (t1 u a b) := ?_; ?_; on_goal 2 => clear_value t1; on_goal 1 => unfold t1; try dsimp only)
      | (refine_lift have h1 : ∀ u a b c, State.Ok que u → State.Ok que (t1 u a b c) := ?_; ?_; on_goal 2 => clear_value t1; on_goal 1 => unfold t1; try dsimp only)
      | clear_value t1)
    | dsimp only)

theorem flowPacket_ok {que : List Instr} {s : State} (hok : State.Ok que s) (f : Nat) (pathB : Bool) (p : Rtp) :
    State.Ok que (State.flowPacket s f pathB p) := by
  unfold State.flowPacket
  repeat' (first
    | (with_reducible first | assumption | intro _ | apply bump_ok | apply setBuf_ok | apply flowPubDue_ok | apply forwardPacket_ok | apply compressedDrain_ok | apply noteArrival_ok | apply ok_ite | apply put_ok | apply foldl_ok | apply foldl_fst_ok | split | apply mk_ok | apply_assumption)
    | (extract_lets +onlyGivenNames t1; first
      | (refine_lift have h1 : State.Ok que t1 := ?_; ?_; on_goal 2 => clear_value t1; on_goal 1 => unfold t1; try dsimp only)
      | (refine_lift have h1 : State.Ok que t1.1 := ?_; ?_; on_goal 2 => clear_value t1; on_goal 1 => unfold t1; try dsimp only)
      | clear_value t1)
    | dsimp only)

theorem flowUnit_ok {que : List Instr} {s : State} (hok : State.Ok que s) (u : InjUnit) :
    State.Ok que (State.flowUnit s u) := by
  unfold State.flowUnit
  repeat' (with_reducible first | assumption | intro _ | apply flowPacket_ok | apply ok_ite | apply put_ok | split | apply mk_ok)

theorem localFrame_ok {que : List Instr} {s : State} {port bytes host : Nat} {k : NetKind} {t : State}
    (e : s.localFrame port bytes host k = some t) (hok : s.Ok que) : t.Ok que := by
  unfold State.localFrame at e
  dsimp only at e
  split at e
  · cases e; exact ptpRx_ok hok ..
  · split at e
    · cases e; exact enqueue_ok hok _
    · cases e
  · split at e
    · cases e; exact enqueue_ok hok _
    · cases e
  · split at e
    · cases e; exact hok
    · cases e
      exact ok_ite (bump_ok hok _) (sendReports_ok hok ..)
  · cases e

theorem localFrame_getD {que : List Instr} {s t : State} (hok : s.Ok que) (ht : t.Ok que) (port bytes host : Nat) (k : NetKind) :
    State.Ok que ((s.localFrame port bytes host k).getD t) := by
  cases e : s.localFrame port bytes host k with
  | none => exact ht
  | some u => exact localFrame_ok e hok

theorem ctlFrameRx_ok {que : List Instr} {s : State} (hok : State.Ok que s) (port : Nat) (f : NetFrame) :
    State.Ok que (State.ctlFrameRx s port f) := by
  unfold State.ctlFrameRx
  extract_lets +onlyGivenNames own pass
  exact ok_ite hok (localFrame_getD hok hok ..)

theorem frameRx_ok {que : List Instr} {s : State} (hok : State.Ok que s) (m : Nat) (f : NetFrame) :
    State.Ok que (State.frameRx s m f) := by
  unfold State.frameRx
  apply ok_ite hok
  extract_lets +onlyGivenNames s1 t
  have h1 : State.Ok que s1 := fecCount_ok hok ..
  have ht : State.Ok que t := bumpBy_ok (bump_ok h1 _) _ _
  clear_value t s1
  iterate 5 apply ok_ite (by first | exact bump_ok h1 _ | exact bump_ok ht _)
  split
  · split
    · exact bump_ok ht _
    · extract_lets +onlyGivenNames r
      have hr : State.Ok que r.1 := inject_ok ht ..
      exact each_ok hr _ _ (fun u x hu => flowUnit_ok hu _)
  · exact localFrame_getD ht (bump_ok ht _) ..

theorem consume_ok {que : List Instr} {s : State} (hok : State.Ok que s) (f : Nat) (t : Int) (q : Nat) :
    State.Ok que (State.consume s f t q) := by
  unfold State.consume
  repeat' (first
    | (with_reducible first | assumption | intro _ | apply bumpBy_ok | apply setBuf_ok | apply ok_ite | apply put_ok | split | apply mk_ok | apply_assumption)
    | (extract_lets +onlyGivenNames t1; first
      | (refine_lift have h1 : State.Ok que t1 := ?_; ?_; on_goal 2 => clear_value t1; on_goal 1 => unfold t1; try dsimp only)
      | (refine_lift have h1 : State.Ok que t1.1 := ?_; ?_; on_goal 2 => clear_value t1; on_goal 1 => unfold t1; try dsimp only)
      | clear_value t1)
    | dsimp only)

theorem needTimeAt_ok {que : List Instr} {s : State} (hok : State.Ok que s) (f : Nat) (t : Int) (q : Nat) (line : Nat) :
    State.Ok que (State.needTimeAt s f t q line) := by
  unfold State.needTimeAt
  repeat' (with_reducible first | assumption | intro _ | apply consume_ok | apply ok_ite | apply put_ok | split)

theorem compressedGap_ok {que : List Instr} {s : State} (hok : State.Ok que s) (f : Nat) :
    State.Ok que (State.compressedGap s f) := by
  unfold State.compressedGap
  repeat' (first
    | (with_reducible first | assumption | intro _ | apply bumpBy_ok | apply setBuf_ok | apply compressedDrain_ok | apply ok_ite | apply put_ok | split | apply mk_ok | apply_assumption)
    | (extract_lets +onlyGivenNames t1; first
      | (refine_lift have h1 : State.Ok que t1 := ?_; ?_; on_goal 2 => clear_value t1; on_goal 1 => unfold t1; try dsimp only)
      | (refine_lift have h1 : State.Ok que t1.1 := ?_; ?_; on_goal 2 => clear_value t1; on_goal 1 => unfold t1; try dsimp only)
      | clear_value t1)
    | dsimp only)

theorem noPackets_ok {que : List Instr} {s : State} (hok : State.Ok que s) (f : Nat) (pathB : Bool) :
    State.Ok que (State.noPackets s f pathB) := by
  unfold State.noPackets
  repeat' (first
    | (with_reducible first | assumption | intro _ | apply raise_ok | apply flowPubDue_ok | apply ok_ite | apply put_ok | split | apply_assumption)
    | (extract_lets +onlyGivenNames t1; first
      | (refine_lift have h1 : State.Ok que t1 := ?_; ?_; on_goal 2 => clear_value t1; on_goal 1 => unfold t1; try dsimp only)
      | (refine_lift have h1 : State.Ok que t1.1 := ?_; ?_; on_goal 2 => clear_value t1; on_goal 1 => unfold t1; try dsimp only)
      | clear_value t1)
    | dsimp only)

theorem flowSkew_ok {que : List Instr} {s : State} (hok : State.Ok que s) (f : Nat) :
    State.Ok que (State.flowSkew s f) := by
  unfold State.flowSkew
  repeat' (first
    | (with_reducible first | assumption | intro _ | apply raise_ok | apply flowPubDue_ok | apply ok_ite | apply put_ok | apply foldl_ok | apply foldl_fst_ok | split | apply mk_ok | apply_assumption)
    | (extract_lets +onlyGivenNames t1; first
      | (refine_lift have h1 : State.Ok que t1 := ?_; ?_; on_goal 2 => clear_value t1; on_goal 1 => unfold t1; try dsimp only)
      | (refine_lift have h1 : State.Ok que t1.1 := ?_; ?_; on_goal 2 => clear_value t1; on_goal 1 => unfold t1; try dsimp only)
      | (refine_lift have h1 : ∀ u, State.Ok que u → State.Ok que (t1 u) := ?_; ?_; on_goal 2 => clear_value t1; on_goal 1 => unfold t1; try dsimp only)
      | (refine_lift have h1 : ∀ u a, State.Ok que u → State.Ok que (t1 u a) := ?_; ?_; on_goal 2 => clear_value t1; on_goal 1 => unfold t1; try dsimp only)
      | (refine_lift have h1 : ∀ u a b, State.Ok que u → State.Ok que (t1 u a b) := ?_; ?_; on_goal 2 => clear_value t1; on_goal 1 => unfold t1; try dsimp only)
      | (refine_lift have h1 : ∀ u a b c, State.Ok que u → State.Ok que (t1 u a b c) := ?_; ?_; on_goal 2 => clear_value t1; on_goal 1 => unfold t1; try dsimp only)
      | clear_value t1)
    | dsimp only)

theorem flowPublish_ok {que : List Instr} {s : State} (hok : State.Ok que s) (f : Nat) :
    State.Ok que (State.flowPublish s f) := by
  unfold State.flowPublish
  repeat' (first
    | (with_reducible first | assumption | intro _ | apply ok_ite | apply put_ok | split | apply_assumption)
    | (extract_lets +onlyGivenNames t1; first
      | (refine_lift have h1 : State.Ok que t1 := ?_; ?_; on_goal 2 => clear_value t1; on_goal 1 => unfold t1; try dsimp only)
      | (refine_lift have h1 : State.Ok que t1.1 := ?_; ?_; on_goal 2 => clear_value t1; on_goal 1 => unfold t1; try dsimp only)
      | clear_value t1)
    | dsimp only)

theorem refreshAdmitted_ok {que : List Instr} {s : State} (hok : State.Ok que s) :
    State.Ok que (State.refreshAdmitted s) := by
  unfold State.refreshAdmitted
  repeat' (with_reducible first | assumption | intro _ | apply ok_ite | apply put_ok | apply each_ok | apply foldl_ok | apply foldl_fst_ok | split)

theorem flowApply_ok {que : List Instr} {s : State} (hok : State.Ok que s) (old : State) (e : Nat) (b : Int) :
    State.Ok que (State.flowApply s old e b) := by
  unfold State.flowApply
  repeat' (first
    | (with_reducible first | assumption | intro _ | apply refreshAdmitted_ok | apply ok_ite | apply put_ok | apply each_ok | split | apply mk_ok | apply_assumption)
    | (extract_lets +onlyGivenNames t1; first
      | (refine_lift have h1 : State.Ok que t1 := ?_; ?_; on_goal 2 => clear_value t1; on_goal 1 => unfold t1; try dsimp only)
      | (refine_lift have h1 : State.Ok que t1.1 := ?_; ?_; on_goal 2 => clear_value t1; on_goal 1 => unfold t1; try dsimp only)
      | clear_value t1)
    | dsimp only)

theorem pacerPath_ok {que : List Instr} {s : State} (hok : State.Ok que s) (r : State) (e : Nat) (i : Nat) (pathB : Bool) (plan : PacketPlan) :
    State.Ok que (State.pacerPath s r e i pathB plan) := by
  unfold State.pacerPath
  repeat' (first
    | (with_reducible first | assumption | intro _ | apply flowOut_ok | apply release_ok | apply ok_ite | apply put_ok | split | apply_assumption)
    | (extract_lets +onlyGivenNames t1; first
      | (refine_lift have h1 : State.Ok que t1 := ?_; ?_; on_goal 2 => clear_value t1; on_goal 1 => unfold t1; try dsimp only)
      | (refine_lift have h1 : State.Ok que t1.1 := ?_; ?_; on_goal 2 => clear_value t1; on_goal 1 => unfold t1; try dsimp only)
      | clear_value t1)
    | dsimp only)

theorem pacerRelease_ok {que : List Instr} {s : State} (hok : State.Ok que s) (j : Nat) (f : Int) (i : Nat) :
    State.Ok que (State.pacerRelease s j f i) := by
  unfold State.pacerRelease
  dsimp only
  split
  · exact hok
  · split
    · exact hok
    · split
      · exact hok
      · exact pacerPath_ok (pacerPath_ok (when_ok (bump_ok (put_ok hok _ _) _) _ _ (fun u hu => bumpBy_ok hu _ _)) ..) ..

/-! ### Src -/

theorem genBoundary_ok {que : List Instr} {s : State} (hok : State.Ok que s) (r : Nat) :
    State.Ok que (State.genBoundary s r) := by
  unfold State.genBoundary
  repeat' (with_reducible first | assumption | intro _ | apply ok_ite | apply put_ok | apply each_ok | split)

theorem genStop_ok {que : List Instr} {s : State} (hok : State.Ok que s) (r : Nat) :
    State.Ok que (State.genStop s r) := by
  unfold State.genStop
  repeat' (with_reducible first | assumption | intro _ | apply ok_ite | apply put_ok | apply each_ok | split)

theorem compare_ok {que : List Instr} {s : State} (hok : State.Ok que s) (kind : Nat) (el : Nat) (idx : Int) (own : Int) :
    State.Ok que (State.compare s kind el idx own).1 := by
  unfold State.compare
  repeat' (first
    | (with_reducible first | assumption | intro _ | apply sendTwin_ok | apply decision_ok | apply ok_ite | apply put_ok | split | apply mk_ok | apply_assumption)
    | (extract_lets +onlyGivenNames t1; first
      | (refine_lift have h1 : State.Ok que t1 := ?_; ?_; on_goal 2 => clear_value t1; on_goal 1 => unfold t1; try dsimp only)
      | (refine_lift have h1 : State.Ok que t1.1 := ?_; ?_; on_goal 2 => clear_value t1; on_goal 1 => unfold t1; try dsimp only)
      | clear_value t1)
    | dsimp only)

theorem decision_ok {que : List Instr} {s : State} (hok : State.Ok que s) (kind : Nat) (el : Nat) (idx : Nat) (v : Int) :
    State.Ok que (State.decision s kind el idx v) := by
  unfold State.decision
  repeat' (with_reducible first | assumption | intro _ | apply ok_ite | apply put_ok | split | apply mk_ok)

theorem syncSettle_ok {que : List Instr} {s : State} (hok : State.Ok que s) (n : Nat) :
    State.Ok que (State.syncSettle s n) := by
  unfold State.syncSettle
  repeat' (first
    | (with_reducible first | assumption | intro _ | apply ok_ite | apply put_ok | split | apply mk_ok | apply_assumption)
    | (extract_lets +onlyGivenNames t1; first
      | (refine_lift have h1 : State.Ok que t1 := ?_; ?_; on_goal 2 => clear_value t1; on_goal 1 => unfold t1; try dsimp only)
      | (refine_lift have h1 : State.Ok que t1.1 := ?_; ?_; on_goal 2 => clear_value t1; on_goal 1 => unfold t1; try dsimp only)
      | clear_value t1)
    | dsimp only)

theorem syncDeliver_ok {que : List Instr} {s : State} (hok : State.Ok que s) (n : Nat) (bs : Int) :
    State.Ok que (State.syncDeliver s n bs) := by
  unfold State.syncDeliver
  repeat' (first
    | (with_reducible first | assumption | intro _ | apply send_ok | apply bumpBy_ok | apply bump_ok | apply compare_ok | apply syncSettle_ok | apply ok_ite | apply put_ok | apply when_ok | split | apply_assumption)
    | (extract_lets +onlyGivenNames t1; first
      | (refine_lift have h1 : State.Ok que t1 := ?_; ?_; on_goal 2 => clear_value t1; on_goal 1 => unfold t1; try dsimp only)
      | (refine_lift have h1 : State.Ok que t1.1 := ?_; ?_; on_goal 2 => clear_value t1; on_goal 1 => unfold t1; try dsimp only)
      | clear_value t1)
    | dsimp only)

theorem syncBoundary_ok {que : List Instr} {s : State} (hok : State.Ok que s) (r : Nat) :
    State.Ok que (State.syncBoundary s r) := by
  unfold State.syncBoundary
  repeat' (with_reducible first | assumption | intro _ | apply syncDeliver_ok | apply ok_ite | apply put_ok | apply each_ok | apply when_ok | split)

/-! ### Stacks -/

theorem refreshAdmission_ok {que : List Instr} {s : State} (hok : State.Ok que s) :
    State.Ok que (State.refreshAdmission s) := by
  unfold State.refreshAdmission
  repeat' (first
    | (with_reducible first | assumption | intro _ | apply ok_ite | apply put_ok | apply each_ok | apply foldl_ok | apply foldl_fst_ok | split | apply mk_ok | apply_assumption)
    | (extract_lets +onlyGivenNames t1; first
      | (refine_lift have h1 : State.Ok que t1 := ?_; ?_; on_goal 2 => clear_value t1; on_goal 1 => unfold t1; try dsimp only)
      | (refine_lift have h1 : State.Ok que t1.1 := ?_; ?_; on_goal 2 => clear_value t1; on_goal 1 => unfold t1; try dsimp only)
      | (refine_lift have h1 : ∀ u, State.Ok que u → State.Ok que (t1 u) := ?_; ?_; on_goal 2 => clear_value t1; on_goal 1 => unfold t1; try dsimp only)
      | (refine_lift have h1 : ∀ u a, State.Ok que u → State.Ok que (t1 u a) := ?_; ?_; on_goal 2 => clear_value t1; on_goal 1 => unfold t1; try dsimp only)
      | (refine_lift have h1 : ∀ u a b, State.Ok que u → State.Ok que (t1 u a b) := ?_; ?_; on_goal 2 => clear_value t1; on_goal 1 => unfold t1; try dsimp only)
      | (refine_lift have h1 : ∀ u a b c, State.Ok que u → State.Ok que (t1 u a b c) := ?_; ?_; on_goal 2 => clear_value t1; on_goal 1 => unfold t1; try dsimp only)
      | clear_value t1)
    | dsimp only)

theorem ddrTrain_ok {que : List Instr} {s : State} {d : Nat} {dimms : List (Nat × Nat × Nat)} {t : State}
    (e : s.ddrTrain d dimms = some t) (hok : s.Ok que) : t.Ok que := by
  unfold State.ddrTrain at e
  split at e
  · split at e
    · cases e
      exact put_ok (each_ok hok _ _ (fun t i ht => put_ok (put_ok (put_ok ht _ _) _ _) _ _)) _ _
    · cases e
  · cases e

theorem hbmRises_ok {que : List Instr} {s : State} (hok : State.Ok que s) (h : Nat) :
    State.Ok que (State.hbmRises s h) := by
  unfold State.hbmRises
  repeat' (first
    | (with_reducible first | assumption | intro _ | apply ok_ite | apply put_ok | split | apply_assumption)
    | (extract_lets +onlyGivenNames t1; first
      | (refine_lift have h1 : State.Ok que t1 := ?_; ?_; on_goal 2 => clear_value t1; on_goal 1 => unfold t1; try dsimp only)
      | (refine_lift have h1 : State.Ok que t1.1 := ?_; ?_; on_goal 2 => clear_value t1; on_goal 1 => unfold t1; try dsimp only)
      | clear_value t1)
    | dsimp only)

theorem withHome_ok {que : List Instr} {s : State} (hok : State.Ok que s) (r : Nat) :
    State.Ok que (State.withHome s r) := by
  unfold State.withHome
  repeat' (with_reducible first | assumption | intro _ | apply ok_ite | apply put_ok | split)

theorem setIndex_ok {que : List Instr} {s : State} (hok : State.Ok que s) (r : Nat) (l : List RecEntry) :
    State.Ok que (State.setIndex s r l) := by
  unfold State.setIndex
  repeat' (first
    | (with_reducible first | assumption | intro _ | apply ok_ite | apply put_ok | split | apply mk_ok | apply_assumption)
    | (extract_lets +onlyGivenNames t1; first
      | (refine_lift have h1 : State.Ok que t1 := ?_; ?_; on_goal 2 => clear_value t1; on_goal 1 => unfold t1; try dsimp only)
      | (refine_lift have h1 : State.Ok que t1.1 := ?_; ?_; on_goal 2 => clear_value t1; on_goal 1 => unfold t1; try dsimp only)
      | clear_value t1)
    | dsimp only)

theorem setClip_ok {que : List Instr} {s : State} (hok : State.Ok que s) (k : Nat) (l : List RecEntry) :
    State.Ok que (State.setClip s k l) := by
  unfold State.setClip
  repeat' (first
    | (with_reducible first | assumption | intro _ | apply ok_ite | apply put_ok | split | apply mk_ok | apply_assumption)
    | (extract_lets +onlyGivenNames t1; first
      | (refine_lift have h1 : State.Ok que t1 := ?_; ?_; on_goal 2 => clear_value t1; on_goal 1 => unfold t1; try dsimp only)
      | (refine_lift have h1 : State.Ok que t1.1 := ?_; ?_; on_goal 2 => clear_value t1; on_goal 1 => unfold t1; try dsimp only)
      | clear_value t1)
    | dsimp only)

theorem recEntry_ok {que : List Instr} {s : State} (hok : State.Ok que s) (r : Nat) (e : RecEntry) :
    State.Ok que (State.recEntry s r e) := by
  unfold State.recEntry
  repeat' (first
    | (with_reducible first | assumption | intro _ | apply bump_ok | apply setIndex_ok | apply setClip_ok | apply ok_ite | apply put_ok | apply each_ok | apply when_ok | split | apply_assumption)
    | (extract_lets +onlyGivenNames t1; first
      | (refine_lift have h1 : State.Ok que t1 := ?_; ?_; on_goal 2 => clear_value t1; on_goal 1 => unfold t1; try dsimp only)
      | (refine_lift have h1 : State.Ok que t1.1 := ?_; ?_; on_goal 2 => clear_value t1; on_goal 1 => unfold t1; try dsimp only)
      | clear_value t1)
    | dsimp only)

theorem recordFrames_ok {que : List Instr} {s : State} (hok : State.Ok que s) (old : State) :
    State.Ok que (State.recordFrames s old) := by
  unfold State.recordFrames
  repeat' (first
    | (with_reducible first | assumption | intro _ | apply recEntry_ok | apply ok_ite | apply put_ok | apply each_ok | split | apply_assumption)
    | (extract_lets +onlyGivenNames t1; first
      | (refine_lift have h1 : State.Ok que t1 := ?_; ?_; on_goal 2 => clear_value t1; on_goal 1 => unfold t1; try dsimp only)
      | (refine_lift have h1 : State.Ok que t1.1 := ?_; ?_; on_goal 2 => clear_value t1; on_goal 1 => unfold t1; try dsimp only)
      | clear_value t1)
    | dsimp only)

theorem recBoundary_ok {que : List Instr} {s : State} (hok : State.Ok que s) (r : Nat) :
    State.Ok que (State.recBoundary s r) := by
  unfold State.recBoundary
  repeat' (first
    | (with_reducible first | assumption | intro _ | apply recEntry_ok | apply ok_ite | apply put_ok | split | apply_assumption)
    | (extract_lets +onlyGivenNames t1; first
      | (refine_lift have h1 : State.Ok que t1 := ?_; ?_; on_goal 2 => clear_value t1; on_goal 1 => unfold t1; try dsimp only)
      | (refine_lift have h1 : State.Ok que t1.1 := ?_; ?_; on_goal 2 => clear_value t1; on_goal 1 => unfold t1; try dsimp only)
      | (refine_lift have h1 : ∀ u, State.Ok que u → State.Ok que (t1 u) := ?_; ?_; on_goal 2 => clear_value t1; on_goal 1 => unfold t1; try dsimp only)
      | (refine_lift have h1 : ∀ u a, State.Ok que u → State.Ok que (t1 u a) := ?_; ?_; on_goal 2 => clear_value t1; on_goal 1 => unfold t1; try dsimp only)
      | (refine_lift have h1 : ∀ u a b, State.Ok que u → State.Ok que (t1 u a b) := ?_; ?_; on_goal 2 => clear_value t1; on_goal 1 => unfold t1; try dsimp only)
      | (refine_lift have h1 : ∀ u a b c, State.Ok que u → State.Ok que (t1 u a b c) := ?_; ?_; on_goal 2 => clear_value t1; on_goal 1 => unfold t1; try dsimp only)
      | clear_value t1)
    | dsimp only)

theorem recApply_ok {que : List Instr} {s : State} (hok : State.Ok que s) (old : State) (r : Nat) (b : Int) :
    State.Ok que (State.recApply s old r b) := by
  unfold State.recApply
  repeat' (first
    | (with_reducible first | assumption | intro _ | apply withHome_ok | apply setIndex_ok | apply ok_ite | apply put_ok | split | apply_assumption)
    | (extract_lets +onlyGivenNames t1; first
      | (refine_lift have h1 : State.Ok que t1 := ?_; ?_; on_goal 2 => clear_value t1; on_goal 1 => unfold t1; try dsimp only)
      | (refine_lift have h1 : State.Ok que t1.1 := ?_; ?_; on_goal 2 => clear_value t1; on_goal 1 => unfold t1; try dsimp only)
      | clear_value t1)
    | dsimp only)

theorem headShow_ok {que : List Instr} {s : State} (hok : State.Ok que s) (h : Nat) (f : Option (Int × Bool)) :
    State.Ok que (State.headShow s h f) := by
  unfold State.headShow
  repeat' (first
    | (with_reducible first | assumption | intro _ | apply send_ok | apply bump_ok | apply again_ok | apply ok_ite | apply put_ok | apply when_ok | split | apply mk_ok | apply_assumption)
    | (extract_lets +onlyGivenNames t1; first
      | (refine_lift have h1 : State.Ok que t1 := ?_; ?_; on_goal 2 => clear_value t1; on_goal 1 => unfold t1; try dsimp only)
      | (refine_lift have h1 : State.Ok que t1.1 := ?_; ?_; on_goal 2 => clear_value t1; on_goal 1 => unfold t1; try dsimp only)
      | clear_value t1)
    | dsimp only)

theorem headPlay_ok {que : List Instr} {s : State} (hok : State.Ok que s) (h : Nat) :
    State.Ok que (State.headPlay s h) := by
  unfold State.headPlay
  repeat' (first
    | (with_reducible first | assumption | intro _ | apply headShow_ok | apply ok_ite | apply put_ok | split | apply_assumption)
    | (extract_lets +onlyGivenNames t1; first
      | (refine_lift have h1 : State.Ok que t1 := ?_; ?_; on_goal 2 => clear_value t1; on_goal 1 => unfold t1; try dsimp only)
      | (refine_lift have h1 : State.Ok que t1.1 := ?_; ?_; on_goal 2 => clear_value t1; on_goal 1 => unfold t1; try dsimp only)
      | clear_value t1)
    | dsimp only)

theorem headBoundary_ok {que : List Instr} {s : State} (hok : State.Ok que s) (h : Nat) :
    State.Ok que (State.headBoundary s h) := by
  unfold State.headBoundary
  repeat' (first
    | (with_reducible first | assumption | intro _ | apply headShow_ok | apply headPlay_ok | apply ok_ite | apply put_ok | split | apply mk_ok | apply_assumption)
    | (extract_lets +onlyGivenNames t1; first
      | (refine_lift have h1 : State.Ok que t1 := ?_; ?_; on_goal 2 => clear_value t1; on_goal 1 => unfold t1; try dsimp only)
      | (refine_lift have h1 : State.Ok que t1.1 := ?_; ?_; on_goal 2 => clear_value t1; on_goal 1 => unfold t1; try dsimp only)
      | clear_value t1)
    | dsimp only)

theorem headApply_ok {que : List Instr} {s : State} (hok : State.Ok que s) (h : Nat) (b : Int) :
    State.Ok que (State.headApply s h b) := by
  unfold State.headApply
  repeat' (first
    | (with_reducible first | assumption | intro _ | apply headBoundary_ok | apply ok_ite | apply put_ok | split | apply_assumption)
    | (extract_lets +onlyGivenNames t1; first
      | (refine_lift have h1 : State.Ok que t1 := ?_; ?_; on_goal 2 => clear_value t1; on_goal 1 => unfold t1; try dsimp only)
      | (refine_lift have h1 : State.Ok que t1.1 := ?_; ?_; on_goal 2 => clear_value t1; on_goal 1 => unfold t1; try dsimp only)
      | clear_value t1)
    | dsimp only)

theorem stacksBoundary_ok {que : List Instr} {s : State} (hok : State.Ok que s) (r : Nat) :
    State.Ok que (State.stacksBoundary s r) := by
  unfold State.stacksBoundary
  repeat' (first
    | (with_reducible first | assumption | intro _ | apply recBoundary_ok | apply headBoundary_ok | apply ok_ite | apply put_ok | apply each_ok | split | apply_assumption)
    | (extract_lets +onlyGivenNames t1; first
      | (refine_lift have h1 : State.Ok que t1 := ?_; ?_; on_goal 2 => clear_value t1; on_goal 1 => unfold t1; try dsimp only)
      | (refine_lift have h1 : State.Ok que t1.1 := ?_; ?_; on_goal 2 => clear_value t1; on_goal 1 => unfold t1; try dsimp only)
      | clear_value t1)
    | dsimp only)

theorem clipCapture_ok {que : List Instr} {s : State} (hok : State.Ok que s) (k : Nat) :
    State.Ok que (State.clipCapture s k) := by
  unfold State.clipCapture
  repeat' (first
    | (with_reducible first | assumption | intro _ | apply essence_ok | apply refreshAdmission_ok | apply setClip_ok | apply ok_ite | apply put_ok | split | apply_assumption)
    | (extract_lets +onlyGivenNames t1; first
      | (refine_lift have h1 : State.Ok que t1 := ?_; ?_; on_goal 2 => clear_value t1; on_goal 1 => unfold t1; try dsimp only)
      | (refine_lift have h1 : State.Ok que t1.1 := ?_; ?_; on_goal 2 => clear_value t1; on_goal 1 => unfold t1; try dsimp only)
      | clear_value t1)
    | dsimp only)

theorem captureComplete_ok {que : List Instr} {s : State} (hok : State.Ok que s) (k : Nat) :
    State.Ok que (State.captureComplete s k) := by
  unfold State.captureComplete
  repeat' (first
    | (with_reducible first | assumption | intro _ | apply refreshAdmission_ok | apply ok_ite | apply put_ok | split | apply_assumption)
    | (extract_lets +onlyGivenNames t1; first
      | (refine_lift have h1 : State.Ok que t1 := ?_; ?_; on_goal 2 => clear_value t1; on_goal 1 => unfold t1; try dsimp only)
      | (refine_lift have h1 : State.Ok que t1.1 := ?_; ?_; on_goal 2 => clear_value t1; on_goal 1 => unfold t1; try dsimp only)
      | clear_value t1)
    | dsimp only)

theorem clipDelete_ok {que : List Instr} {s : State} (hok : State.Ok que s) (k : Nat) :
    State.Ok que (State.clipDelete s k) := by
  unfold State.clipDelete
  repeat' (first
    | (with_reducible first | assumption | intro _ | apply refreshAdmission_ok | apply ok_ite | apply put_ok | apply each_ok | split | apply mk_ok | apply_assumption)
    | (extract_lets +onlyGivenNames t1; first
      | (refine_lift have h1 : State.Ok que t1 := ?_; ?_; on_goal 2 => clear_value t1; on_goal 1 => unfold t1; try dsimp only)
      | (refine_lift have h1 : State.Ok que t1.1 := ?_; ?_; on_goal 2 => clear_value t1; on_goal 1 => unfold t1; try dsimp only)
      | clear_value t1)
    | dsimp only)

theorem rowCandidate_ok {que : List Instr} {s : State} (hok : State.Ok que s) (k : Nat) (row : Nat) (pages : Nat) :
    State.Ok que (State.rowCandidate s k row pages) := by
  unfold State.rowCandidate
  repeat' (first
    | (with_reducible first | assumption | intro _ | apply bump_ok | apply raise_ok | apply refreshAdmission_ok | apply setIndex_ok | apply ok_ite | apply put_ok | apply foldl_ok | apply foldl_fst_ok | split | apply mk_ok | apply_assumption)
    | (extract_lets +onlyGivenNames t1; first
      | (refine_lift have h1 : State.Ok que t1 := ?_; ?_; on_goal 2 => clear_value t1; on_goal 1 => unfold t1; try dsimp only)
      | (refine_lift have h1 : State.Ok que t1.1 := ?_; ?_; on_goal 2 => clear_value t1; on_goal 1 => unfold t1; try dsimp only)
      | clear_value t1)
    | dsimp only)

theorem spoilFolios_ok {que : List Instr} {s : State} (hok : State.Ok que s) (r : Nat) (st : Int) :
    State.Ok que (State.spoilFolios s r st) := by
  unfold State.spoilFolios
  repeat' (first
    | (with_reducible first | assumption | intro _ | apply bump_ok | apply setIndex_ok | apply setClip_ok | apply ok_ite | apply put_ok | apply each_ok | apply when_ok | split | apply_assumption)
    | (extract_lets +onlyGivenNames t1; first
      | (refine_lift have h1 : State.Ok que t1 := ?_; ?_; on_goal 2 => clear_value t1; on_goal 1 => unfold t1; try dsimp only)
      | (refine_lift have h1 : State.Ok que t1.1 := ?_; ?_; on_goal 2 => clear_value t1; on_goal 1 => unfold t1; try dsimp only)
      | clear_value t1)
    | dsimp only)

theorem memUnit_ok {que : List Instr} {s : State} (hok : State.Ok que s) (u : MemUnit) :
    State.Ok que (State.memUnit s u) := by
  unfold State.memUnit
  repeat' (with_reducible first | assumption | intro _ | apply setBuf_ok | apply spoilFolios_ok | apply ok_ite | apply put_ok | apply when_ok | split | apply mk_ok)

theorem memUncorrectable_ok {que : List Instr} {s : State} (hok : State.Ok que s) (k : Nat) (row : Nat) (pages : Nat) (u : MemUnit) :
    State.Ok que (State.memUncorrectable s k row pages u) := by
  unfold State.memUncorrectable
  repeat' (with_reducible first | assumption | intro _ | apply bump_ok | apply raise_ok | apply rowCandidate_ok | apply memUnit_ok | apply ok_ite | apply put_ok | split)

theorem memCorrected_ok {que : List Instr} {s : State} (hok : State.Ok que s) (k : Nat) (row : Nat) (pages : Nat) :
    State.Ok que (State.memCorrected s k row pages) := by
  unfold State.memCorrected
  repeat' (first
    | (with_reducible first | assumption | intro _ | apply bump_ok | apply memHot_ok | apply rowCandidate_ok | apply ok_ite | apply put_ok | apply when_ok | split | apply mk_ok | apply_assumption)
    | (extract_lets +onlyGivenNames t1; first
      | (refine_lift have h1 : State.Ok que t1 := ?_; ?_; on_goal 2 => clear_value t1; on_goal 1 => unfold t1; try dsimp only)
      | (refine_lift have h1 : State.Ok que t1.1 := ?_; ?_; on_goal 2 => clear_value t1; on_goal 1 => unfold t1; try dsimp only)
      | clear_value t1)
    | dsimp only)

/-! ### Comp -/

theorem refreshCanvases_ok {que : List Instr} {s : State} (hok : State.Ok que s) :
    State.Ok que (State.refreshCanvases s) := by
  unfold State.refreshCanvases
  repeat' (first
    | (with_reducible first | assumption | intro _ | apply ok_ite | apply put_ok | apply each_ok | split | apply_assumption)
    | (extract_lets +onlyGivenNames t1; first
      | (refine_lift have h1 : State.Ok que t1 := ?_; ?_; on_goal 2 => clear_value t1; on_goal 1 => unfold t1; try dsimp only)
      | (refine_lift have h1 : State.Ok que t1.1 := ?_; ?_; on_goal 2 => clear_value t1; on_goal 1 => unfold t1; try dsimp only)
      | clear_value t1)
    | dsimp only)

theorem refreshCanvasStates_ok {que : List Instr} {s : State} (hok : State.Ok que s) :
    State.Ok que (State.refreshCanvasStates s) := by
  unfold State.refreshCanvasStates
  repeat' (with_reducible first | assumption | intro _ | apply ok_ite | apply put_ok | apply each_ok | split)

theorem openStores_ok {que : List Instr} {s : State} (hok : State.Ok que s) (sources : List Nat) :
    State.Ok que (State.openStores s sources) := by
  unfold State.openStores
  repeat' (first
    | (with_reducible first | assumption | intro _ | apply ok_ite | apply put_ok | split | apply mk_ok | apply_assumption)
    | (extract_lets +onlyGivenNames t1; first
      | (refine_lift have h1 : State.Ok que t1 := ?_; ?_; on_goal 2 => clear_value t1; on_goal 1 => unfold t1; try dsimp only)
      | (refine_lift have h1 : State.Ok que t1.1 := ?_; ?_; on_goal 2 => clear_value t1; on_goal 1 => unfold t1; try dsimp only)
      | clear_value t1)
    | dsimp only)

theorem canvasLaunch_ok {que : List Instr} {s : State} (hok : State.Ok que s) (c : State) (k : Nat) :
    State.Ok que (State.canvasLaunch s c k) := by
  unfold State.canvasLaunch
  repeat' (first
    | (with_reducible first | assumption | intro _ | apply openSub_ok | apply openStores_ok | apply ok_ite | apply put_ok | apply each_ok | split | apply_assumption)
    | (extract_lets +onlyGivenNames t1; first
      | (refine_lift have h1 : State.Ok que t1 := ?_; ?_; on_goal 2 => clear_value t1; on_goal 1 => unfold t1; try dsimp only)
      | (refine_lift have h1 : State.Ok que t1.1 := ?_; ?_; on_goal 2 => clear_value t1; on_goal 1 => unfold t1; try dsimp only)
      | clear_value t1)
    | dsimp only)

theorem canvasApply_ok {que : List Instr} {s : State} (hok : State.Ok que s) (old : State) (k : Nat) :
    State.Ok que (State.canvasApply s old k) := by
  unfold State.canvasApply
  repeat' (first
    | (with_reducible first | assumption | intro _ | apply refreshAdmission_ok | apply refreshCanvases_ok | apply openStores_ok | apply ok_ite | apply put_ok | apply each_ok | split | apply_assumption)
    | (extract_lets +onlyGivenNames t1; first
      | (refine_lift have h1 : State.Ok que t1 := ?_; ?_; on_goal 2 => clear_value t1; on_goal 1 => unfold t1; try dsimp only)
      | (refine_lift have h1 : State.Ok que t1.1 := ?_; ?_; on_goal 2 => clear_value t1; on_goal 1 => unfold t1; try dsimp only)
      | clear_value t1)
    | dsimp only)

theorem canvasRetire_ok {que : List Instr} {s : State} (hok : State.Ok que s) (k : Nat) :
    State.Ok que (State.canvasRetire s k) := by
  unfold State.canvasRetire
  repeat' (first
    | (with_reducible first | assumption | intro _ | apply closeSub_ok | apply ok_ite | apply put_ok | apply each_ok | split | apply mk_ok | apply_assumption)
    | (extract_lets +onlyGivenNames t1; first
      | (refine_lift have h1 : State.Ok que t1 := ?_; ?_; on_goal 2 => clear_value t1; on_goal 1 => unfold t1; try dsimp only)
      | (refine_lift have h1 : State.Ok que t1.1 := ?_; ?_; on_goal 2 => clear_value t1; on_goal 1 => unfold t1; try dsimp only)
      | clear_value t1)
    | dsimp only)

theorem storeFrames_ok {que : List Instr} {s : State} (hok : State.Ok que s) (old : State) :
    State.Ok que (State.storeFrames s old) := by
  unfold State.storeFrames
  repeat' (first
    | (with_reducible first | assumption | intro _ | apply ok_ite | apply put_ok | split | apply mk_ok | apply_assumption)
    | (extract_lets +onlyGivenNames t1; first
      | (refine_lift have h1 : State.Ok que t1 := ?_; ?_; on_goal 2 => clear_value t1; on_goal 1 => unfold t1; try dsimp only)
      | (refine_lift have h1 : State.Ok que t1.1 := ?_; ?_; on_goal 2 => clear_value t1; on_goal 1 => unfold t1; try dsimp only)
      | clear_value t1)
    | dsimp only)

theorem layerChoose_ok {que : List Instr} {s : State} (hok : State.Ok que s) (k : Nat) (l : Nat) (bc : Int) :
    State.Ok que (State.layerChoose s k l bc) := by
  unfold State.layerChoose
  repeat' (first
    | (with_reducible first | assumption | intro _ | apply bumpBy_ok | apply bump_ok | apply raise_ok | apply compare_ok | apply ok_ite | apply put_ok | apply when_ok | split | apply_assumption)
    | (extract_lets +onlyGivenNames t1; first
      | (refine_lift have h1 : State.Ok que t1 := ?_; ?_; on_goal 2 => clear_value t1; on_goal 1 => unfold t1; try dsimp only)
      | (refine_lift have h1 : State.Ok que t1.1 := ?_; ?_; on_goal 2 => clear_value t1; on_goal 1 => unfold t1; try dsimp only)
      | clear_value t1)
    | dsimp only)

theorem probePixel_ok {que : List Instr} {s : State} (hok : State.Ok que s) (k : Nat) (pics : List SrcPic) (p : Probe) :
    State.Ok que (State.probePixel s k pics p) := by
  unfold State.probePixel
  repeat' (first
    | (with_reducible first | assumption | intro _ | apply send_ok | apply ok_ite | apply put_ok | split | apply mk_ok | apply_assumption)
    | (extract_lets +onlyGivenNames t1; first
      | (refine_lift have h1 : State.Ok que t1 := ?_; ?_; on_goal 2 => clear_value t1; on_goal 1 => unfold t1; try dsimp only)
      | (refine_lift have h1 : State.Ok que t1.1 := ?_; ?_; on_goal 2 => clear_value t1; on_goal 1 => unfold t1; try dsimp only)
      | clear_value t1)
    | dsimp only)

theorem canvasBoundary_ok {que : List Instr} {s : State} (hok : State.Ok que s) (k : Nat) (pics : List SrcPic) (probes : List Probe) :
    State.Ok que (State.canvasBoundary s k pics probes) := by
  unfold State.canvasBoundary
  repeat' (first
    | (with_reducible first | assumption | intro _ | apply send_ok | apply bump_ok | apply layerChoose_ok | apply probePixel_ok | apply ok_ite | apply put_ok | apply each_ok | apply when_ok | split | apply_assumption)
    | (extract_lets +onlyGivenNames t1; first
      | (refine_lift have h1 : State.Ok que t1 := ?_; ?_; on_goal 2 => clear_value t1; on_goal 1 => unfold t1; try dsimp only)
      | (refine_lift have h1 : State.Ok que t1.1 := ?_; ?_; on_goal 2 => clear_value t1; on_goal 1 => unfold t1; try dsimp only)
      | clear_value t1)
    | dsimp only)

/-! ### Audio -/

theorem compileStart_ok {que : List Instr} {s : State} (hok : State.Ok que s) :
    State.Ok que (State.compileStart s) := by
  unfold State.compileStart
  repeat' (with_reducible first | assumption | intro _ | apply ok_ite | apply put_ok | split)

theorem compileEnd_ok {que : List Instr} {s : State} (hok : State.Ok que s) :
    State.Ok que (State.compileEnd s) := by
  unfold State.compileEnd
  repeat' (first
    | (with_reducible first | assumption | intro _ | apply ok_ite | apply put_ok | split | apply mk_ok | apply_assumption)
    | (extract_lets +onlyGivenNames t1; first
      | (refine_lift have h1 : State.Ok que t1 := ?_; ?_; on_goal 2 => clear_value t1; on_goal 1 => unfold t1; try dsimp only)
      | (refine_lift have h1 : State.Ok que t1.1 := ?_; ?_; on_goal 2 => clear_value t1; on_goal 1 => unfold t1; try dsimp only)
      | clear_value t1)
    | dsimp only)

theorem showEdge_ok {que : List Instr} {s : State} (hok : State.Ok que s) (e : Nat) :
    State.Ok que (State.showEdge s e) := by
  unfold State.showEdge
  repeat' (first
    | (with_reducible first | assumption | intro _ | apply ok_ite | apply put_ok | split | apply mk_ok | apply_assumption)
    | (extract_lets +onlyGivenNames t1; first
      | (refine_lift have h1 : State.Ok que t1 := ?_; ?_; on_goal 2 => clear_value t1; on_goal 1 => unfold t1; try dsimp only)
      | (refine_lift have h1 : State.Ok que t1.1 := ?_; ?_; on_goal 2 => clear_value t1; on_goal 1 => unfold t1; try dsimp only)
      | clear_value t1)
    | dsimp only)

theorem setPath_ok {que : List Instr} {s : State} (hok : State.Ok que s) (bus : Bool) (n : Nat) (p : Option PathSt) :
    State.Ok que (State.setPath s bus n p) := by
  unfold State.setPath
  repeat' (first
    | (with_reducible first | assumption | intro _ | apply showEdge_ok | apply ok_ite | apply put_ok | split | apply mk_ok | apply_assumption)
    | (extract_lets +onlyGivenNames t1; first
      | (refine_lift have h1 : State.Ok que t1 := ?_; ?_; on_goal 2 => clear_value t1; on_goal 1 => unfold t1; try dsimp only)
      | (refine_lift have h1 : State.Ok que t1.1 := ?_; ?_; on_goal 2 => clear_value t1; on_goal 1 => unfold t1; try dsimp only)
      | clear_value t1)
    | dsimp only)

theorem pathChange_ok {que : List Instr} {s : State} (hok : State.Ok que s) (old : State) (bus : Bool) (n : Nat) (b : Int) :
    State.Ok que (State.pathChange s old bus n b) := by
  unfold State.pathChange
  repeat' (first
    | (with_reducible first | assumption | intro _ | apply setPath_ok | apply ok_ite | apply put_ok | split | apply mk_ok | apply_assumption)
    | (extract_lets +onlyGivenNames t1; first
      | (refine_lift have h1 : State.Ok que t1 := ?_; ?_; on_goal 2 => clear_value t1; on_goal 1 => unfold t1; try dsimp only)
      | (refine_lift have h1 : State.Ok que t1.1 := ?_; ?_; on_goal 2 => clear_value t1; on_goal 1 => unfold t1; try dsimp only)
      | clear_value t1)
    | dsimp only)

theorem zcTimeout_ok {que : List Instr} {s : State} (hok : State.Ok que s) (bus : Bool) (n : Nat) :
    State.Ok que (State.zcTimeout s bus n) := by
  unfold State.zcTimeout
  repeat' (first
    | (with_reducible first | assumption | intro _ | apply bump_ok | apply setPath_ok | apply ok_ite | apply put_ok | split | apply mk_ok | apply_assumption)
    | (extract_lets +onlyGivenNames t1; first
      | (refine_lift have h1 : State.Ok que t1 := ?_; ?_; on_goal 2 => clear_value t1; on_goal 1 => unfold t1; try dsimp only)
      | (refine_lift have h1 : State.Ok que t1.1 := ?_; ?_; on_goal 2 => clear_value t1; on_goal 1 => unfold t1; try dsimp only)
      | clear_value t1)
    | dsimp only)

theorem setLimiter_ok {que : List Instr} {s : State} (hok : State.Ok que s) (l : LimSt) :
    State.Ok que (State.setLimiter s l) := by
  unfold State.setLimiter
  repeat' (first
    | (with_reducible first | assumption | intro _ | apply ok_ite | apply put_ok | split | apply mk_ok | apply_assumption)
    | (extract_lets +onlyGivenNames t1; first
      | (refine_lift have h1 : State.Ok que t1 := ?_; ?_; on_goal 2 => clear_value t1; on_goal 1 => unfold t1; try dsimp only)
      | (refine_lift have h1 : State.Ok que t1.1 := ?_; ?_; on_goal 2 => clear_value t1; on_goal 1 => unfold t1; try dsimp only)
      | clear_value t1)
    | dsimp only)

theorem slotFade_ok {que : List Instr} {s : State} (hok : State.Ok que s) (base : Nat) (count : Nat) (up : Bool) :
    State.Ok que (State.slotFade s base count up) := by
  unfold State.slotFade
  repeat' (with_reducible first | assumption | intro _ | apply ok_ite | apply put_ok | split | apply mk_ok)

theorem aesPreamble_ok {que : List Instr} {s : State} (hok : State.Ok que s) (r : Nat) :
    State.Ok que (State.aesPreamble s r) := by
  unfold State.aesPreamble
  repeat' (with_reducible first | assumption | intro _ | apply ok_ite | apply put_ok | split)

theorem aesTracking_ok {que : List Instr} {s : State} (hok : State.Ok que s) (r : Nat) (rate : Nat) (ratio : Int) (fill : Nat) (status : Nat) :
    State.Ok que (State.aesTracking s r rate ratio fill status) := by
  unfold State.aesTracking
  repeat' (first
    | (with_reducible first | assumption | intro _ | apply ok_ite | apply put_ok | split | apply_assumption)
    | (extract_lets +onlyGivenNames t1; first
      | (refine_lift have h1 : State.Ok que t1 := ?_; ?_; on_goal 2 => clear_value t1; on_goal 1 => unfold t1; try dsimp only)
      | (refine_lift have h1 : State.Ok que t1.1 := ?_; ?_; on_goal 2 => clear_value t1; on_goal 1 => unfold t1; try dsimp only)
      | clear_value t1)
    | dsimp only)

theorem aesLoss_ok {que : List Instr} {s : State} (hok : State.Ok que s) (r : Nat) :
    State.Ok que (State.aesLoss s r) := by
  unfold State.aesLoss
  repeat' (first
    | (with_reducible first | assumption | intro _ | apply bump_ok | apply raise_ok | apply ok_ite | apply put_ok | apply when_ok | split | apply_assumption)
    | (extract_lets +onlyGivenNames t1; first
      | (refine_lift have h1 : State.Ok que t1 := ?_; ?_; on_goal 2 => clear_value t1; on_goal 1 => unfold t1; try dsimp only)
      | (refine_lift have h1 : State.Ok que t1.1 := ?_; ?_; on_goal 2 => clear_value t1; on_goal 1 => unfold t1; try dsimp only)
      | clear_value t1)
    | dsimp only)

theorem aesSlip_ok {que : List Instr} {s : State} (hok : State.Ok que s) (r : Nat) (beyond : Bool) :
    State.Ok que (State.aesSlip s r beyond) := by
  unfold State.aesSlip
  repeat' (first
    | (with_reducible first | assumption | intro _ | apply bump_ok | apply raise_ok | apply slotFade_ok | apply ok_ite | apply put_ok | split | apply_assumption)
    | (extract_lets +onlyGivenNames t1; first
      | (refine_lift have h1 : State.Ok que t1 := ?_; ?_; on_goal 2 => clear_value t1; on_goal 1 => unfold t1; try dsimp only)
      | (refine_lift have h1 : State.Ok que t1.1 := ?_; ?_; on_goal 2 => clear_value t1; on_goal 1 => unfold t1; try dsimp only)
      | clear_value t1)
    | dsimp only)

theorem aesRecovered_ok {que : List Instr} {s : State} (hok : State.Ok que s) (r : Nat) :
    State.Ok que (State.aesRecovered s r) := by
  unfold State.aesRecovered
  repeat' (with_reducible first | assumption | intro _ | apply slotFade_ok | apply ok_ite | apply put_ok | split)

theorem transparentSlip_ok {que : List Instr} {s : State} (hok : State.Ok que s) (r : Nat) :
    State.Ok que (State.transparentSlip s r) := by
  unfold State.transparentSlip
  repeat' (with_reducible first | assumption | intro _ | apply bump_ok | apply raise_ok | apply ok_ite | apply put_ok | split)

theorem aesRxWrite_ok {que : List Instr} {s : State} (hok : State.Ok que s) (r : Nat) (sub : Nat) (v : Int) :
    State.Ok que (State.aesRxWrite s r sub v) := by
  unfold State.aesRxWrite
  repeat' (first
    | (with_reducible first | assumption | intro _ | apply ok_ite | apply put_ok | split | apply_assumption)
    | (extract_lets +onlyGivenNames t1; first
      | (refine_lift have h1 : State.Ok que t1 := ?_; ?_; on_goal 2 => clear_value t1; on_goal 1 => unfold t1; try dsimp only)
      | (refine_lift have h1 : State.Ok que t1.1 := ?_; ?_; on_goal 2 => clear_value t1; on_goal 1 => unfold t1; try dsimp only)
      | clear_value t1)
    | dsimp only)

theorem refreshAesBit_ok {que : List Instr} {s : State} (hok : State.Ok que s) :
    State.Ok que (State.refreshAesBit s) := by
  unfold State.refreshAesBit
  repeat' (with_reducible first | assumption | intro _ | apply setReady_ok | apply ok_ite | apply put_ok | split)

theorem aesBlock_ok {que : List Instr} {s : State} (hok : State.Ok que s) (t : Nat) :
    State.Ok que (State.aesBlock s t) := by
  unfold State.aesBlock
  repeat' (first
    | (with_reducible first | assumption | intro _ | apply send_ok | apply raise_ok | apply refreshAesBit_ok | apply ok_ite | apply put_ok | apply when_ok | split | apply_assumption)
    | (extract_lets +onlyGivenNames t1; first
      | (refine_lift have h1 : State.Ok que t1 := ?_; ?_; on_goal 2 => clear_value t1; on_goal 1 => unfold t1; try dsimp only)
      | (refine_lift have h1 : State.Ok que t1.1 := ?_; ?_; on_goal 2 => clear_value t1; on_goal 1 => unfold t1; try dsimp only)
      | clear_value t1)
    | dsimp only)

theorem refreshSide_ok {que : List Instr} {s : State} (hok : State.Ok que s) :
    State.Ok que (State.refreshSide s) := by
  unfold State.refreshSide
  repeat' (with_reducible first | assumption | intro _ | apply ok_ite | apply put_ok | apply each_ok | split)

theorem aesSend_ok {que : List Instr} {s : State} (hok : State.Ok que s) (t : Nat) (rate : Nat) (n : Nat) (at_ : Int) (a : Int × Bool) (b : Int × Bool) :
    State.Ok que (State.aesSend s t rate n at_ a b) := by
  unfold State.aesSend
  repeat' (first
    | (with_reducible first | assumption | intro _ | apply send_ok | apply inject_ok | apply ok_ite | apply put_ok | split | apply_assumption)
    | (extract_lets +onlyGivenNames t1; first
      | (refine_lift have h1 : State.Ok que t1 := ?_; ?_; on_goal 2 => clear_value t1; on_goal 1 => unfold t1; try dsimp only)
      | (refine_lift have h1 : State.Ok que t1.1 := ?_; ?_; on_goal 2 => clear_value t1; on_goal 1 => unfold t1; try dsimp only)
      | (refine_lift have h1 : ∀ u, State.Ok que u → State.Ok que (t1 u) := ?_; ?_; on_goal 2 => clear_value t1; on_goal 1 => unfold t1; try dsimp only)
      | (refine_lift have h1 : ∀ u a, State.Ok que u → State.Ok que (t1 u a) := ?_; ?_; on_goal 2 => clear_value t1; on_goal 1 => unfold t1; try dsimp only)
      | (refine_lift have h1 : ∀ u a b, State.Ok que u → State.Ok que (t1 u a b) := ?_; ?_; on_goal 2 => clear_value t1; on_goal 1 => unfold t1; try dsimp only)
      | (refine_lift have h1 : ∀ u a b c, State.Ok que u → State.Ok que (t1 u a b c) := ?_; ?_; on_goal 2 => clear_value t1; on_goal 1 => unfold t1; try dsimp only)
      | clear_value t1)
    | dsimp only)

theorem aesMedia_ok {que : List Instr} {s : State} (hok : State.Ok que s) (k : Int) (given : List (Nat × Int × Bool)) :
    State.Ok que (State.aesMedia s k given) := by
  unfold State.aesMedia
  repeat' (first
    | (with_reducible first | assumption | intro _ | apply drawn_ok | apply aesSend_ok | apply ok_ite | apply put_ok | apply each_ok | split | apply_assumption)
    | (extract_lets +onlyGivenNames t1; first
      | (refine_lift have h1 : State.Ok que t1 := ?_; ?_; on_goal 2 => clear_value t1; on_goal 1 => unfold t1; try dsimp only)
      | (refine_lift have h1 : State.Ok que t1.1 := ?_; ?_; on_goal 2 => clear_value t1; on_goal 1 => unfold t1; try dsimp only)
      | (refine_lift have h1 : ∀ u, State.Ok que u → State.Ok que (t1 u) := ?_; ?_; on_goal 2 => clear_value t1; on_goal 1 => unfold t1; try dsimp only)
      | (refine_lift have h1 : ∀ u a, State.Ok que u → State.Ok que (t1 u a) := ?_; ?_; on_goal 2 => clear_value t1; on_goal 1 => unfold t1; try dsimp only)
      | (refine_lift have h1 : ∀ u a b, State.Ok que u → State.Ok que (t1 u a b) := ?_; ?_; on_goal 2 => clear_value t1; on_goal 1 => unfold t1; try dsimp only)
      | (refine_lift have h1 : ∀ u a b c, State.Ok que u → State.Ok que (t1 u a b c) := ?_; ?_; on_goal 2 => clear_value t1; on_goal 1 => unfold t1; try dsimp only)
      | clear_value t1)
    | dsimp only)

theorem aesClocked_ok {que : List Instr} {s : State} (hok : State.Ok que s) (t : Nat) (r : Nat) (a : Int × Bool) (b : Int × Bool) :
    State.Ok que (State.aesClocked s t r a b) := by
  unfold State.aesClocked
  repeat' (first
    | (with_reducible first | assumption | intro _ | apply aesSend_ok | apply ok_ite | apply put_ok | split | apply_assumption)
    | (extract_lets +onlyGivenNames t1; first
      | (refine_lift have h1 : State.Ok que t1 := ?_; ?_; on_goal 2 => clear_value t1; on_goal 1 => unfold t1; try dsimp only)
      | (refine_lift have h1 : State.Ok que t1.1 := ?_; ?_; on_goal 2 => clear_value t1; on_goal 1 => unfold t1; try dsimp only)
      | clear_value t1)
    | dsimp only)

theorem aesFrameIn_ok {que : List Instr} {s : State} (hok : State.Ok que s) (x : AesIn) :
    State.Ok que (State.aesFrameIn s x) := by
  unfold State.aesFrameIn
  repeat' (first
    | (with_reducible first | assumption | intro _ | apply bump_ok | apply drawn_ok | apply aesClocked_ok | apply ok_ite | apply put_ok | apply each_ok | apply when_ok | split | apply_assumption)
    | (extract_lets +onlyGivenNames t1; first
      | (refine_lift have h1 : State.Ok que t1 := ?_; ?_; on_goal 2 => clear_value t1; on_goal 1 => unfold t1; try dsimp only)
      | (refine_lift have h1 : State.Ok que t1.1 := ?_; ?_; on_goal 2 => clear_value t1; on_goal 1 => unfold t1; try dsimp only)
      | (refine_lift have h1 : ∀ u, State.Ok que u → State.Ok que (t1 u) := ?_; ?_; on_goal 2 => clear_value t1; on_goal 1 => unfold t1; try dsimp only)
      | (refine_lift have h1 : ∀ u a, State.Ok que u → State.Ok que (t1 u a) := ?_; ?_; on_goal 2 => clear_value t1; on_goal 1 => unfold t1; try dsimp only)
      | (refine_lift have h1 : ∀ u a b, State.Ok que u → State.Ok que (t1 u a b) := ?_; ?_; on_goal 2 => clear_value t1; on_goal 1 => unfold t1; try dsimp only)
      | (refine_lift have h1 : ∀ u a b c, State.Ok que u → State.Ok que (t1 u a b c) := ?_; ?_; on_goal 2 => clear_value t1; on_goal 1 => unfold t1; try dsimp only)
      | clear_value t1)
    | dsimp only)

theorem frameLink_ok {que : List Instr} {s : State} (hok : State.Ok que s) (i : Nat) (link : Nat) (stamp : Int) :
    State.Ok que (State.frameLink s i link stamp) := by
  unfold State.frameLink
  repeat' (first
    | (with_reducible first | assumption | intro _ | apply drawn_ok | apply originCell_ok | apply ok_ite | apply put_ok | apply each_ok | split | apply_assumption)
    | (extract_lets +onlyGivenNames t1; first
      | (refine_lift have h1 : State.Ok que t1 := ?_; ?_; on_goal 2 => clear_value t1; on_goal 1 => unfold t1; try dsimp only)
      | (refine_lift have h1 : State.Ok que t1.1 := ?_; ?_; on_goal 2 => clear_value t1; on_goal 1 => unfold t1; try dsimp only)
      | clear_value t1)
    | dsimp only)

theorem frameCell_ok {que : List Instr} {s : State} (hok : State.Ok que s) (i : Nat) (stamp : Int) :
    State.Ok que (State.frameCell s i stamp) := by
  unfold State.frameCell
  repeat' (first
    | (with_reducible first | assumption | intro _ | apply frameLink_ok | apply ok_ite | apply put_ok | apply each_ok | split | apply_assumption)
    | (extract_lets +onlyGivenNames t1; first
      | (refine_lift have h1 : State.Ok que t1 := ?_; ?_; on_goal 2 => clear_value t1; on_goal 1 => unfold t1; try dsimp only)
      | (refine_lift have h1 : State.Ok que t1.1 := ?_; ?_; on_goal 2 => clear_value t1; on_goal 1 => unfold t1; try dsimp only)
      | clear_value t1)
    | dsimp only)

theorem noteSource_ok {que : List Instr} {s : State} (hok : State.Ok que s) (i : Nat) :
    State.Ok que (State.noteSource s i) := by
  unfold State.noteSource
  repeat' (first
    | (with_reducible first | assumption | intro _ | apply ok_ite | apply put_ok | apply when_ok | split | apply_assumption)
    | (extract_lets +onlyGivenNames t1; first
      | (refine_lift have h1 : State.Ok que t1 := ?_; ?_; on_goal 2 => clear_value t1; on_goal 1 => unfold t1; try dsimp only)
      | (refine_lift have h1 : State.Ok que t1.1 := ?_; ?_; on_goal 2 => clear_value t1; on_goal 1 => unfold t1; try dsimp only)
      | clear_value t1)
    | dsimp only)

theorem presenceLink_ok {que : List Instr} {s : State} (hok : State.Ok que s) (i : Nat) (link : Nat) :
    State.Ok que (State.presenceLink s i link) := by
  unfold State.presenceLink
  repeat' (first
    | (with_reducible first | assumption | intro _ | apply sendCell_ok | apply ok_ite | apply put_ok | apply each_ok | split | apply mk_ok | apply_assumption)
    | (extract_lets +onlyGivenNames t1; first
      | (refine_lift have h1 : State.Ok que t1 := ?_; ?_; on_goal 2 => clear_value t1; on_goal 1 => unfold t1; try dsimp only)
      | (refine_lift have h1 : State.Ok que t1.1 := ?_; ?_; on_goal 2 => clear_value t1; on_goal 1 => unfold t1; try dsimp only)
      | clear_value t1)
    | dsimp only)

theorem presenceCells_ok {que : List Instr} {s : State} (hok : State.Ok que s) :
    State.Ok que (State.presenceCells s) := by
  unfold State.presenceCells
  repeat' (first
    | (with_reducible first | assumption | intro _ | apply noteSource_ok | apply presenceLink_ok | apply ok_ite | apply put_ok | apply each_ok | split | apply_assumption)
    | (extract_lets +onlyGivenNames t1; first
      | (refine_lift have h1 : State.Ok que t1 := ?_; ?_; on_goal 2 => clear_value t1; on_goal 1 => unfold t1; try dsimp only)
      | (refine_lift have h1 : State.Ok que t1.1 := ?_; ?_; on_goal 2 => clear_value t1; on_goal 1 => unfold t1; try dsimp only)
      | clear_value t1)
    | dsimp only)

theorem bundleCells_ok {que : List Instr} {s : State} (hok : State.Ok que s) (instant : Int) (outs : List (Nat × Int)) :
    State.Ok que (State.bundleCells s instant outs) := by
  unfold State.bundleCells
  repeat' (first
    | (with_reducible first | assumption | intro _ | apply originCell_ok | apply ok_ite | apply put_ok | apply each_ok | apply foldl_ok | apply foldl_fst_ok | split | apply_assumption)
    | (extract_lets +onlyGivenNames t1; first
      | (refine_lift have h1 : State.Ok que t1 := ?_; ?_; on_goal 2 => clear_value t1; on_goal 1 => unfold t1; try dsimp only)
      | (refine_lift have h1 : State.Ok que t1.1 := ?_; ?_; on_goal 2 => clear_value t1; on_goal 1 => unfold t1; try dsimp only)
      | clear_value t1)
    | dsimp only)

theorem refreshBundle_ok {que : List Instr} {s : State} (hok : State.Ok que s) (i : Nat) :
    State.Ok que (State.refreshBundle s i) := by
  unfold State.refreshBundle
  repeat' (first
    | (with_reducible first | assumption | intro _ | apply ok_ite | apply put_ok | split | apply_assumption)
    | (extract_lets +onlyGivenNames t1; first
      | (refine_lift have h1 : State.Ok que t1 := ?_; ?_; on_goal 2 => clear_value t1; on_goal 1 => unfold t1; try dsimp only)
      | (refine_lift have h1 : State.Ok que t1.1 := ?_; ?_; on_goal 2 => clear_value t1; on_goal 1 => unfold t1; try dsimp only)
      | clear_value t1)
    | dsimp only)

theorem bundleEnable_ok {que : List Instr} {s : State} (hok : State.Ok que s) (i : Nat) (v : Int) :
    State.Ok que (State.bundleEnable s i v) := by
  unfold State.bundleEnable
  repeat' (first
    | (with_reducible first | assumption | intro _ | apply openSub_ok | apply closeSub_ok | apply refreshBundle_ok | apply ok_ite | apply put_ok | split | apply_assumption)
    | (extract_lets +onlyGivenNames t1; first
      | (refine_lift have h1 : State.Ok que t1 := ?_; ?_; on_goal 2 => clear_value t1; on_goal 1 => unfold t1; try dsimp only)
      | (refine_lift have h1 : State.Ok que t1.1 := ?_; ?_; on_goal 2 => clear_value t1; on_goal 1 => unfold t1; try dsimp only)
      | clear_value t1)
    | dsimp only)

theorem embedFrame_ok {que : List Instr} {s : State} (hok : State.Ok que s) (n : Nat) (samples : Nat) :
    State.Ok que (State.embedFrame s n samples) := by
  unfold State.embedFrame
  repeat' (first
    | (with_reducible first | assumption | intro _ | apply bump_ok | apply raise_ok | apply slotFade_ok | apply ok_ite | apply put_ok | split | apply_assumption)
    | (extract_lets +onlyGivenNames t1; first
      | (refine_lift have h1 : State.Ok que t1 := ?_; ?_; on_goal 2 => clear_value t1; on_goal 1 => unfold t1; try dsimp only)
      | (refine_lift have h1 : State.Ok que t1.1 := ?_; ?_; on_goal 2 => clear_value t1; on_goal 1 => unfold t1; try dsimp only)
      | clear_value t1)
    | dsimp only)

theorem overlapCount_ok {que : List Instr} {s : State} (hok : State.Ok que s) (l : List (Nat × SampleIn)) :
    State.Ok que (State.overlapCount s l) := by
  unfold State.overlapCount
  repeat' (first
    | (with_reducible first | assumption | intro _ | apply bumpBy_ok | apply ok_ite | apply put_ok | split | apply mk_ok | apply_assumption)
    | (extract_lets +onlyGivenNames t1; first
      | (refine_lift have h1 : State.Ok que t1 := ?_; ?_; on_goal 2 => clear_value t1; on_goal 1 => unfold t1; try dsimp only)
      | (refine_lift have h1 : State.Ok que t1.1 := ?_; ?_; on_goal 2 => clear_value t1; on_goal 1 => unfold t1; try dsimp only)
      | clear_value t1)
    | dsimp only)

theorem bundleMissing_ok {que : List Instr} {s : State} (hok : State.Ok que s) (l : List (Nat × SampleIn)) (at_ : Int) :
    State.Ok que (State.bundleMissing s l at_) := by
  unfold State.bundleMissing
  repeat' (first
    | (with_reducible first | assumption | intro _ | apply bumpBy_ok | apply ok_ite | apply put_ok | split | apply_assumption)
    | (extract_lets +onlyGivenNames t1; first
      | (refine_lift have h1 : State.Ok que t1 := ?_; ?_; on_goal 2 => clear_value t1; on_goal 1 => unfold t1; try dsimp only)
      | (refine_lift have h1 : State.Ok que t1.1 := ?_; ?_; on_goal 2 => clear_value t1; on_goal 1 => unfold t1; try dsimp only)
      | clear_value t1)
    | dsimp only)

theorem crossings_ok {que : List Instr} {s : State} (hok : State.Ok que s) (ins : List (Nat × Int)) (buses : List (Nat × Int)) (at_ : Int) :
    State.Ok que (State.crossings s ins buses at_) := by
  unfold State.crossings
  repeat' (first
    | (with_reducible first | assumption | intro _ | apply setPath_ok | apply ok_ite | apply put_ok | apply each_ok | split | apply_assumption)
    | (extract_lets +onlyGivenNames t1; first
      | (refine_lift have h1 : State.Ok que t1 := ?_; ?_; on_goal 2 => clear_value t1; on_goal 1 => unfold t1; try dsimp only)
      | (refine_lift have h1 : State.Ok que t1.1 := ?_; ?_; on_goal 2 => clear_value t1; on_goal 1 => unfold t1; try dsimp only)
      | clear_value t1)
    | dsimp only)

theorem endRamps_ok {que : List Instr} {s : State} (hok : State.Ok que s) (at_ : Int) :
    State.Ok que (State.endRamps s at_) := by
  unfold State.endRamps
  repeat' (with_reducible first | assumption | intro _ | apply setPath_ok | apply ok_ite | apply put_ok | apply each_ok | split | apply mk_ok)

theorem saturated_ok {que : List Instr} {s : State} (hok : State.Ok que s) (n : Nat) :
    State.Ok que (State.saturated s n) := by
  unfold State.saturated
  repeat' (first
    | (with_reducible first | assumption | intro _ | apply bumpBy_ok | apply raise_ok | apply ok_ite | apply put_ok | split | apply_assumption)
    | (extract_lets +onlyGivenNames t1; first
      | (refine_lift have h1 : State.Ok que t1 := ?_; ?_; on_goal 2 => clear_value t1; on_goal 1 => unfold t1; try dsimp only)
      | (refine_lift have h1 : State.Ok que t1.1 := ?_; ?_; on_goal 2 => clear_value t1; on_goal 1 => unfold t1; try dsimp only)
      | clear_value t1)
    | dsimp only)

theorem engineSample_ok {que : List Instr} {s : State} (hok : State.Ok que s) (raw : List SampleIn) (frames : List AesIn) :
    State.Ok que (State.engineSample s raw frames) := by
  unfold State.engineSample
  repeat' (first
    | (with_reducible first | assumption | intro _ | apply send_ok | apply zcTimeout_ok | apply setLimiter_ok | apply aesMedia_ok | apply aesFrameIn_ok | apply bundleCells_ok | apply overlapCount_ok | apply bundleMissing_ok | apply crossings_ok | apply endRamps_ok | apply saturated_ok | apply ok_ite | apply put_ok | apply each_ok | apply foldl_ok | apply foldl_fst_ok | split | apply mk_ok | apply_assumption)
    | (extract_lets +onlyGivenNames t1; first
      | (refine_lift have h1 : State.Ok que t1 := ?_; ?_; on_goal 2 => clear_value t1; on_goal 1 => unfold t1; try dsimp only)
      | (refine_lift have h1 : State.Ok que t1.1 := ?_; ?_; on_goal 2 => clear_value t1; on_goal 1 => unfold t1; try dsimp only)
      | (refine_lift have h1 : ∀ u, State.Ok que u → State.Ok que (t1 u) := ?_; ?_; on_goal 2 => clear_value t1; on_goal 1 => unfold t1; try dsimp only)
      | (refine_lift have h1 : ∀ u a, State.Ok que u → State.Ok que (t1 u a) := ?_; ?_; on_goal 2 => clear_value t1; on_goal 1 => unfold t1; try dsimp only)
      | (refine_lift have h1 : ∀ u a b, State.Ok que u → State.Ok que (t1 u a b) := ?_; ?_; on_goal 2 => clear_value t1; on_goal 1 => unfold t1; try dsimp only)
      | (refine_lift have h1 : ∀ u a b c, State.Ok que u → State.Ok que (t1 u a b c) := ?_; ?_; on_goal 2 => clear_value t1; on_goal 1 => unfold t1; try dsimp only)
      | clear_value t1)
    | dsimp only)

theorem installProgram_ok {que : List Instr} {s : State} (hok : State.Ok que s) (p : Prog) (kind : Nat) (b : Int) :
    State.Ok que (State.installProgram s p kind b) := by
  unfold State.installProgram
  repeat' (first
    | (with_reducible first | assumption | intro _ | apply showEdge_ok | apply ok_ite | apply put_ok | apply each_ok | split | apply mk_ok | apply_assumption)
    | (extract_lets +onlyGivenNames t1; first
      | (refine_lift have h1 : State.Ok que t1 := ?_; ?_; on_goal 2 => clear_value t1; on_goal 1 => unfold t1; try dsimp only)
      | (refine_lift have h1 : State.Ok que t1.1 := ?_; ?_; on_goal 2 => clear_value t1; on_goal 1 => unfold t1; try dsimp only)
      | clear_value t1)
    | dsimp only)

theorem programApply_ok {que : List Instr} {s : State} (hok : State.Ok que s) (b : Int) :
    State.Ok que (State.programApply s b) := by
  unfold State.programApply
  repeat' (first
    | (with_reducible first | assumption | intro _ | apply bump_ok | apply aesBlock_ok | apply installProgram_ok | apply ok_ite | apply put_ok | apply each_ok | split | apply_assumption)
    | (extract_lets +onlyGivenNames t1; first
      | (refine_lift have h1 : State.Ok que t1 := ?_; ?_; on_goal 2 => clear_value t1; on_goal 1 => unfold t1; try dsimp only)
      | (refine_lift have h1 : State.Ok que t1.1 := ?_; ?_; on_goal 2 => clear_value t1; on_goal 1 => unfold t1; try dsimp only)
      | clear_value t1)
    | dsimp only)

theorem setApply_ok {que : List Instr} {s : State} (hok : State.Ok que s) (old : State) (keys : List Key) (b : Int) :
    State.Ok que (State.setApply s old keys b) := by
  unfold State.setApply
  repeat' (first
    | (with_reducible first | assumption | intro _ | apply pathChange_ok | apply aesBlock_ok | apply refreshSide_ok | apply ok_ite | apply put_ok | apply each_ok | split | apply_assumption)
    | (extract_lets +onlyGivenNames t1; first
      | (refine_lift have h1 : State.Ok que t1 := ?_; ?_; on_goal 2 => clear_value t1; on_goal 1 => unfold t1; try dsimp only)
      | (refine_lift have h1 : State.Ok que t1.1 := ?_; ?_; on_goal 2 => clear_value t1; on_goal 1 => unfold t1; try dsimp only)
      | clear_value t1)
    | dsimp only)

theorem audReturn_ok {que : List Instr} {s : State} (hok : State.Ok que s) :
    State.Ok que (State.audReturn s) := by
  unfold State.audReturn
  repeat' (first
    | (with_reducible first | assumption | intro _ | apply installProgram_ok | apply ok_ite | apply put_ok | split | apply mk_ok | apply_assumption)
    | (extract_lets +onlyGivenNames t1; first
      | (refine_lift have h1 : State.Ok que t1 := ?_; ?_; on_goal 2 => clear_value t1; on_goal 1 => unfold t1; try dsimp only)
      | (refine_lift have h1 : State.Ok que t1.1 := ?_; ?_; on_goal 2 => clear_value t1; on_goal 1 => unfold t1; try dsimp only)
      | clear_value t1)
    | dsimp only)

/-! ### Xpt -/

theorem promote_ok {que : List Instr} {s : State} (hok : State.Ok que s) (m : Nat) (r : Nat) (e : Nat) :
    State.Ok que (State.promote s m r e) := by
  unfold State.promote
  repeat' (first
    | (with_reducible first | assumption | intro _ | apply bump_ok | apply ok_ite | apply put_ok | split | apply mk_ok | apply_assumption)
    | (extract_lets +onlyGivenNames t1; first
      | (refine_lift have h1 : State.Ok que t1 := ?_; ?_; on_goal 2 => clear_value t1; on_goal 1 => unfold t1; try dsimp only)
      | (refine_lift have h1 : State.Ok que t1.1 := ?_; ?_; on_goal 2 => clear_value t1; on_goal 1 => unfold t1; try dsimp only)
      | clear_value t1)
    | dsimp only)

theorem promoFrames_ok {que : List Instr} {s : State} (hok : State.Ok que s) (old : State) :
    State.Ok que (State.promoFrames s old) := by
  unfold State.promoFrames
  repeat' (first
    | (with_reducible first | assumption | intro _ | apply ok_ite | apply put_ok | split | apply mk_ok | apply_assumption)
    | (extract_lets +onlyGivenNames t1; first
      | (refine_lift have h1 : State.Ok que t1 := ?_; ?_; on_goal 2 => clear_value t1; on_goal 1 => unfold t1; try dsimp only)
      | (refine_lift have h1 : State.Ok que t1.1 := ?_; ?_; on_goal 2 => clear_value t1; on_goal 1 => unfold t1; try dsimp only)
      | clear_value t1)
    | dsimp only)

theorem promoBoundary_ok {que : List Instr} {s : State} (hok : State.Ok que s) (r : Nat) :
    State.Ok que (State.promoBoundary s r) := by
  unfold State.promoBoundary
  repeat' (first
    | (with_reducible first | assumption | intro _ | apply compare_ok | apply ok_ite | apply put_ok | apply each_ok | split | apply mk_ok | apply_assumption)
    | (extract_lets +onlyGivenNames t1; first
      | (refine_lift have h1 : State.Ok que t1 := ?_; ?_; on_goal 2 => clear_value t1; on_goal 1 => unfold t1; try dsimp only)
      | (refine_lift have h1 : State.Ok que t1.1 := ?_; ?_; on_goal 2 => clear_value t1; on_goal 1 => unfold t1; try dsimp only)
      | clear_value t1)
    | dsimp only)

theorem audioFollows_ok {que : List Instr} {s : State} (hok : State.Ok que s) (old : State) (e : Nat) (at_ : Int) :
    State.Ok que (State.audioFollows s old e at_) := by
  unfold State.audioFollows
  repeat' (with_reducible first | assumption | intro _ | apply send_ok | apply ok_ite | apply put_ok | apply when_ok | split)

theorem raiseUntimed_ok {que : List Instr} {s : State} (hok : State.Ok que s) (e : Nat) :
    State.Ok que (State.raiseUntimed s e) := by
  unfold State.raiseUntimed
  repeat' (with_reducible first | assumption | intro _ | apply raise_ok | apply ok_ite | apply put_ok | split)

theorem underPolicy_ok {que : List Instr} {s : State} (hok : State.Ok que s) (e : Nat) (bf : Int) (status : Int) :
    State.Ok que (State.underPolicy s e bf status) := by
  unfold State.underPolicy
  repeat' (first
    | (with_reducible first | assumption | intro _ | apply ok_ite | apply put_ok | apply when_ok | split | apply_assumption)
    | (extract_lets +onlyGivenNames t1; first
      | (refine_lift have h1 : State.Ok que t1 := ?_; ?_; on_goal 2 => clear_value t1; on_goal 1 => unfold t1; try dsimp only)
      | (refine_lift have h1 : State.Ok que t1.1 := ?_; ?_; on_goal 2 => clear_value t1; on_goal 1 => unfold t1; try dsimp only)
      | clear_value t1)
    | dsimp only)

theorem carries_ok {que : List Instr} {s : State} (hok : State.Ok que s) (e : Nat) (status : Int) (stamp : Int) :
    State.Ok que (State.carries s e status stamp) := by
  unfold State.carries
  repeat' (with_reducible first | assumption | intro _ | apply ok_ite | apply put_ok | split)

theorem timedVerdict_ok {que : List Instr} {s : State} (hok : State.Ok que s) (e : Nat) (f : Feed) (known : Option Bool) :
    State.Ok que (State.timedVerdict s e f known).1 := by
  unfold State.timedVerdict
  repeat' (first
    | (with_reducible first | assumption | intro _ | apply compare_ok | apply ok_ite | apply put_ok | split | apply mk_ok | apply_assumption)
    | (extract_lets +onlyGivenNames t1; first
      | (refine_lift have h1 : State.Ok que t1 := ?_; ?_; on_goal 2 => clear_value t1; on_goal 1 => unfold t1; try dsimp only)
      | (refine_lift have h1 : State.Ok que t1.1 := ?_; ?_; on_goal 2 => clear_value t1; on_goal 1 => unfold t1; try dsimp only)
      | clear_value t1)
    | dsimp only)

theorem settleOutput_ok {que : List Instr} {s : State} (hok : State.Ok que s) (e : Nat) (bf : Int) (known : Option Bool) :
    State.Ok que (State.settleOutput s e bf known).1 := by
  unfold State.settleOutput
  split
  · exact put_ok (put_ok (put_ok (put_ok hok _ _) _ _) _ _) _ _
  · extract_lets +onlyGivenNames f m r promotes c t
    have hc : State.Ok que c.1 := timedVerdict_ok hok ..
    have ht : State.Ok que t := put_ok hc _ _
    clear_value t c f
    split
    · exact put_ok (underPolicy_ok hok ..) _ _
    · split
      · split
        · exact underPolicy_ok hok ..
        · exact carries_ok (put_ok hok _ _) ..
      · split
        · exact carries_ok ht ..
        · split
          · exact underPolicy_ok (promote_ok ht ..) ..
          · exact underPolicy_ok ht ..

theorem noteUntimed_ok {que : List Instr} {s : State} (hok : State.Ok que s) (e : Nat) (report : Bool) :
    State.Ok que (State.noteUntimed s e report) := by
  unfold State.noteUntimed
  repeat' (with_reducible first | assumption | intro _ | apply report_ok | apply raiseUntimed_ok | apply ok_ite | apply put_ok | split)

theorem txWake_ok {que : List Instr} {s : State} (hok : State.Ok que s) (e : Nat) :
    State.Ok que (State.txWake s e) := by
  unfold State.txWake
  repeat' (with_reducible first | assumption | intro _ | apply txSet_ok | apply ok_ite | apply put_ok | apply each_ok | apply when_ok | split)

theorem injectLines_ok {que : List Instr} {s : State} (hok : State.Ok que s) (o : Nat) :
    State.Ok que (State.injectLines s o) := by
  unfold State.injectLines
  repeat' (first
    | (with_reducible first | assumption | intro _ | apply injectBare_ok | apply ok_ite | apply put_ok | split | apply_assumption)
    | (extract_lets +onlyGivenNames t1; first
      | (refine_lift have h1 : State.Ok que t1 := ?_; ?_; on_goal 2 => clear_value t1; on_goal 1 => unfold t1; try dsimp only)
      | (refine_lift have h1 : State.Ok que t1.1 := ?_; ?_; on_goal 2 => clear_value t1; on_goal 1 => unfold t1; try dsimp only)
      | clear_value t1)
    | dsimp only)

theorem emitOutput_ok {que : List Instr} {s : State} (hok : State.Ok que s) (e : Nat) (line : Nat) :
    State.Ok que (State.emitOutput s e line) := by
  unfold State.emitOutput
  repeat' (first
    | (with_reducible first | assumption | intro _ | apply send_ok | apply bumpBy_ok | apply ok_ite | apply put_ok | apply when_ok | split | apply_assumption)
    | (extract_lets +onlyGivenNames t1; first
      | (refine_lift have h1 : State.Ok que t1 := ?_; ?_; on_goal 2 => clear_value t1; on_goal 1 => unfold t1; try dsimp only)
      | (refine_lift have h1 : State.Ok que t1.1 := ?_; ?_; on_goal 2 => clear_value t1; on_goal 1 => unfold t1; try dsimp only)
      | clear_value t1)
    | dsimp only)

theorem cutsShown_ok {que : List Instr} {s : State} (hok : State.Ok que s) (old : State) :
    State.Ok que (State.cutsShown s old) := by
  unfold State.cutsShown
  repeat' (with_reducible first | assumption | intro _ | apply emitOutput_ok | apply ok_ite | apply put_ok | apply each_ok | split)

theorem frameWhole_ok {que : List Instr} {s : State} (hok : State.Ok que s) (e : Nat) :
    State.Ok que (State.frameWhole s e) := by
  unfold State.frameWhole
  repeat' (first
    | (with_reducible first | assumption | intro _ | apply ok_ite | apply put_ok | apply when_ok | split | apply_assumption)
    | (extract_lets +onlyGivenNames t1; first
      | (refine_lift have h1 : State.Ok que t1 := ?_; ?_; on_goal 2 => clear_value t1; on_goal 1 => unfold t1; try dsimp only)
      | (refine_lift have h1 : State.Ok que t1.1 := ?_; ?_; on_goal 2 => clear_value t1; on_goal 1 => unfold t1; try dsimp only)
      | clear_value t1)
    | dsimp only)

theorem takeLook_ok {que : List Instr} {s : State} (hok : State.Ok que s) (e : Nat) (bf : Int) :
    State.Ok que (State.takeLook s e bf) := by
  unfold State.takeLook
  repeat' (first
    | (with_reducible first | assumption | intro _ | apply compare_ok | apply ok_ite | apply put_ok | apply each_ok | split | apply mk_ok | apply_assumption)
    | (extract_lets +onlyGivenNames t1; first
      | (refine_lift have h1 : State.Ok que t1 := ?_; ?_; on_goal 2 => clear_value t1; on_goal 1 => unfold t1; try dsimp only)
      | (refine_lift have h1 : State.Ok que t1.1 := ?_; ?_; on_goal 2 => clear_value t1; on_goal 1 => unfold t1; try dsimp only)
      | clear_value t1)
    | dsimp only)

theorem outputFrame_ok {que : List Instr} {s : State} (hok : State.Ok que s) (e : Nat) :
    State.Ok que (State.outputFrame s e) := by
  unfold State.outputFrame
  repeat' (first
    | (with_reducible first | assumption | intro _ | apply bump_ok | apply headShow_ok | apply audioFollows_ok | apply settleOutput_ok | apply noteUntimed_ok | apply txWake_ok | apply injectLines_ok | apply emitOutput_ok | apply frameWhole_ok | apply takeLook_ok | apply ok_ite | apply put_ok | apply each_ok | apply when_ok | split | apply mk_ok | apply_assumption)
    | (extract_lets +onlyGivenNames t1; first
      | (refine_lift have h1 : State.Ok que t1 := ?_; ?_; on_goal 2 => clear_value t1; on_goal 1 => unfold t1; try dsimp only)
      | (refine_lift have h1 : State.Ok que t1.1 := ?_; ?_; on_goal 2 => clear_value t1; on_goal 1 => unfold t1; try dsimp only)
      | clear_value t1)
    | dsimp only)

theorem freezeExpiry_ok {que : List Instr} {s : State} (hok : State.Ok que s) (e : Nat) :
    State.Ok que (State.freezeExpiry s e) := by
  unfold State.freezeExpiry
  repeat' (first
    | (with_reducible first | assumption | intro _ | apply emitOutput_ok | apply ok_ite | apply put_ok | split | apply_assumption)
    | (extract_lets +onlyGivenNames t1; first
      | (refine_lift have h1 : State.Ok que t1 := ?_; ?_; on_goal 2 => clear_value t1; on_goal 1 => unfold t1; try dsimp only)
      | (refine_lift have h1 : State.Ok que t1.1 := ?_; ?_; on_goal 2 => clear_value t1; on_goal 1 => unfold t1; try dsimp only)
      | clear_value t1)
    | dsimp only)

theorem takeCompare_ok {que : List Instr} {s : State} (hok : State.Ok que s) (c : State) (e : Nat) :
    State.Ok que (State.takeCompare s c e) := by
  unfold State.takeCompare
  repeat' (first
    | (with_reducible first | assumption | intro _ | apply compare_ok | apply ok_ite | apply put_ok | split | apply_assumption)
    | (extract_lets +onlyGivenNames t1; first
      | (refine_lift have h1 : State.Ok que t1 := ?_; ?_; on_goal 2 => clear_value t1; on_goal 1 => unfold t1; try dsimp only)
      | (refine_lift have h1 : State.Ok que t1.1 := ?_; ?_; on_goal 2 => clear_value t1; on_goal 1 => unfold t1; try dsimp only)
      | clear_value t1)
    | dsimp only)

theorem takeLaunch_ok {que : List Instr} {s : State} (hok : State.Ok que s) (c : State) (e : Nat) :
    State.Ok que (State.takeLaunch s c e) := by
  unfold State.takeLaunch
  repeat' (first
    | (with_reducible first | assumption | intro _ | apply openSub_ok | apply promote_ok | apply ok_ite | apply put_ok | split | apply_assumption)
    | (extract_lets +onlyGivenNames t1; first
      | (refine_lift have h1 : State.Ok que t1 := ?_; ?_; on_goal 2 => clear_value t1; on_goal 1 => unfold t1; try dsimp only)
      | (refine_lift have h1 : State.Ok que t1.1 := ?_; ?_; on_goal 2 => clear_value t1; on_goal 1 => unfold t1; try dsimp only)
      | clear_value t1)
    | dsimp only)

theorem takeVerdict_ok {que : List Instr} {s : State} (hok : State.Ok que s) (e : Nat) (bf : Int) :
    State.Ok que (State.takeVerdict s e bf).1 := by
  unfold State.takeVerdict
  repeat' (first
    | (with_reducible first | assumption | intro _ | apply compare_ok | apply ok_ite | apply put_ok | split | apply_assumption)
    | (extract_lets +onlyGivenNames t1; first
      | (refine_lift have h1 : State.Ok que t1 := ?_; ?_; on_goal 2 => clear_value t1; on_goal 1 => unfold t1; try dsimp only)
      | (refine_lift have h1 : State.Ok que t1.1 := ?_; ?_; on_goal 2 => clear_value t1; on_goal 1 => unfold t1; try dsimp only)
      | clear_value t1)
    | dsimp only)

theorem takeApply_ok {que : List Instr} {s : State} (hok : State.Ok que s) (old : State) (e : Nat) (bfine : Int) :
    State.Ok que (State.takeApply s old e bfine) := by
  unfold State.takeApply
  repeat' (first
    | (with_reducible first | assumption | intro _ | apply bump_ok | apply refreshAdmission_ok | apply audioFollows_ok | apply raiseUntimed_ok | apply settleOutput_ok | apply noteUntimed_ok | apply emitOutput_ok | apply takeVerdict_ok | apply ok_ite | apply put_ok | apply when_ok | split | apply_assumption)
    | (extract_lets +onlyGivenNames t1; first
      | (refine_lift have h1 : State.Ok que t1 := ?_; ?_; on_goal 2 => clear_value t1; on_goal 1 => unfold t1; try dsimp only)
      | (refine_lift have h1 : State.Ok que t1.1 := ?_; ?_; on_goal 2 => clear_value t1; on_goal 1 => unfold t1; try dsimp only)
      | clear_value t1)
    | dsimp only)

theorem takeRetire_ok {que : List Instr} {s : State} (hok : State.Ok que s) (e : Nat) :
    State.Ok que (State.takeRetire s e) := by
  unfold State.takeRetire
  repeat' (first
    | (with_reducible first | assumption | intro _ | apply closeSub_ok | apply ok_ite | apply put_ok | apply each_ok | split | apply_assumption)
    | (extract_lets +onlyGivenNames t1; first
      | (refine_lift have h1 : State.Ok que t1 := ?_; ?_; on_goal 2 => clear_value t1; on_goal 1 => unfold t1; try dsimp only)
      | (refine_lift have h1 : State.Ok que t1.1 := ?_; ?_; on_goal 2 => clear_value t1; on_goal 1 => unfold t1; try dsimp only)
      | (refine_lift have h1 : ∀ u, State.Ok que u → State.Ok que (t1 u) := ?_; ?_; on_goal 2 => clear_value t1; on_goal 1 => unfold t1; try dsimp only)
      | (refine_lift have h1 : ∀ u a, State.Ok que u → State.Ok que (t1 u a) := ?_; ?_; on_goal 2 => clear_value t1; on_goal 1 => unfold t1; try dsimp only)
      | (refine_lift have h1 : ∀ u a b, State.Ok que u → State.Ok que (t1 u a b) := ?_; ?_; on_goal 2 => clear_value t1; on_goal 1 => unfold t1; try dsimp only)
      | (refine_lift have h1 : ∀ u a b c, State.Ok que u → State.Ok que (t1 u a b c) := ?_; ?_; on_goal 2 => clear_value t1; on_goal 1 => unfold t1; try dsimp only)
      | clear_value t1)
    | dsimp only)

theorem inputFrame_ok {que : List Instr} {s : State} (hok : State.Ok que s) (n : Nat) (f : SdiFrame) :
    State.Ok que (State.inputFrame s n f) := by
  unfold State.inputFrame
  repeat' (first
    | (with_reducible first | assumption | intro _ | apply sdiInputFrame_ok | apply frameCell_ok | apply embedFrame_ok | apply ok_ite | apply put_ok | split | apply mk_ok | apply_assumption)
    | (extract_lets +onlyGivenNames t1; first
      | (refine_lift have h1 : State.Ok que t1 := ?_; ?_; on_goal 2 => clear_value t1; on_goal 1 => unfold t1; try dsimp only)
      | (refine_lift have h1 : State.Ok que t1.1 := ?_; ?_; on_goal 2 => clear_value t1; on_goal 1 => unfold t1; try dsimp only)
      | clear_value t1)
    | dsimp only)

theorem boundaryCells_ok {que : List Instr} {s : State} (hok : State.Ok que s) (r : Nat) :
    State.Ok que (State.boundaryCells s r) := by
  unfold State.boundaryCells
  repeat' (first
    | (with_reducible first | assumption | intro _ | apply frameCell_ok | apply ok_ite | apply put_ok | apply each_ok | split | apply_assumption)
    | (extract_lets +onlyGivenNames t1; first
      | (refine_lift have h1 : State.Ok que t1 := ?_; ?_; on_goal 2 => clear_value t1; on_goal 1 => unfold t1; try dsimp only)
      | (refine_lift have h1 : State.Ok que t1.1 := ?_; ?_; on_goal 2 => clear_value t1; on_goal 1 => unfold t1; try dsimp only)
      | clear_value t1)
    | dsimp only)

theorem boundaryWork_ok {que : List Instr} {s : State} (hok : State.Ok que s) (r : Nat) :
    State.Ok que (State.boundaryWork s r) := by
  unfold State.boundaryWork
  repeat' (first
    | (with_reducible first | assumption | intro _ | apply rasterTick_ok | apply genBoundary_ok | apply syncBoundary_ok | apply recordFrames_ok | apply stacksBoundary_ok | apply storeFrames_ok | apply promoFrames_ok | apply promoBoundary_ok | apply boundaryCells_ok | apply ok_ite | apply put_ok | split | apply_assumption)
    | (extract_lets +onlyGivenNames t1; first
      | (refine_lift have h1 : State.Ok que t1 := ?_; ?_; on_goal 2 => clear_value t1; on_goal 1 => unfold t1; try dsimp only)
      | (refine_lift have h1 : State.Ok que t1.1 := ?_; ?_; on_goal 2 => clear_value t1; on_goal 1 => unfold t1; try dsimp only)
      | clear_value t1)
    | dsimp only)

theorem framesMoved_ok {que : List Instr} {s : State} (hok : State.Ok que s) (old : State) :
    State.Ok que (State.framesMoved s old) := by
  unfold State.framesMoved
  repeat' (with_reducible first | assumption | intro _ | apply remotePackets_ok | apply recordFrames_ok | apply storeFrames_ok | apply promoFrames_ok | apply cutsShown_ok | apply ok_ite | apply put_ok | split)

theorem injectRelease_ok {que : List Instr} {s : State} (hok : State.Ok que s) (j : Nat) :
    State.Ok que (State.injectRelease s j) := by
  unfold State.injectRelease
  repeat' (first
    | (with_reducible first | assumption | intro _ | apply injectDue_ok | apply concordUnit_ok | apply releaseTo_ok | apply flowPacket_ok | apply framesMoved_ok | apply ok_ite | apply put_ok | apply each_ok | split | apply mk_ok | apply_assumption)
    | (extract_lets +onlyGivenNames t1; first
      | (refine_lift have h1 : State.Ok que t1 := ?_; ?_; on_goal 2 => clear_value t1; on_goal 1 => unfold t1; try dsimp only)
      | (refine_lift have h1 : State.Ok que t1.1 := ?_; ?_; on_goal 2 => clear_value t1; on_goal 1 => unfold t1; try dsimp only)
      | clear_value t1)
    | dsimp only)

theorem injectFlush_ok {que : List Instr} {s : State} (hok : State.Ok que s) :
    State.Ok que (State.injectFlush s) := by
  unfold State.injectFlush
  repeat' (with_reducible first | assumption | intro _ | apply injectRelease_ok | apply ok_ite | apply put_ok | apply each_ok | split)

theorem gobWord_ok {que : List Instr} {s : State} (hok : State.Ok que s) :
    State.Ok que (State.gobWord s) := by
  unfold State.gobWord
  repeat' (with_reducible first | assumption | intro _ | apply send_ok | apply bump_ok | apply ok_ite | apply put_ok | split)

end Sys2Proof.Machine
end

