-- ==== Sys2Proof/Laws/KeepControl.lean ====
section
/-! SUPPORT. The operations of keys and images, modes, slips, pins, the twin, register writes, reads and bring-up keep the queue, the canonical form of the register store, and the order and bounds of the tables (`State.Ok`). -/
namespace Sys2Proof.Machine

/-! ### Vault -/

theorem keyRefresh_ok {que : List Instr} {s : State} (hok : State.Ok que s) (n : Nat) :
    State.Ok que (State.keyRefresh s n) := by
  unfold State.keyRefresh
  repeat' (first
    | (with_reducible first | assumption | intro _ | apply raise_ok | apply ok_ite | apply put_ok | apply when_ok | split | apply mk_ok | apply_assumption)
    | (extract_lets +onlyGivenNames t1; first
      | (refine_lift have h1 : State.Ok que t1 := ?_; ?_; on_goal 2 => clear_value t1; on_goal 1 => unfold t1; try dsimp only)
      | (refine_lift have h1 : State.Ok que t1.1 := ?_; ?_; on_goal 2 => clear_value t1; on_goal 1 => unfold t1; try dsimp only)
      | clear_value t1)
    | dsimp only)

theorem keysRefresh_ok {que : List Instr} {s : State} (hok : State.Ok que s) :
    State.Ok que (State.keysRefresh s) := by
  unfold State.keysRefresh
  repeat' (with_reducible first | assumption | intro _ | apply keyRefresh_ok | apply ok_ite | apply put_ok | apply each_ok | split)

theorem rekey_ok {que : List Instr} {s : State} (hok : State.Ok que s) :
    State.Ok que (State.rekey s) := by
  unfold State.rekey
  repeat' (with_reducible first | assumption | intro _ | apply sendTwin_ok | apply ok_ite | apply put_ok | apply when_ok | split)

theorem keyWrite_ok {que : List Instr} {s : State} (hok : State.Ok que s) (n : Nat) (v : Nat) :
    State.Ok que (State.keyWrite s n v) := by
  unfold State.keyWrite
  repeat' (first
    | (with_reducible first | assumption | intro _ | apply keyRefresh_ok | apply rekey_ok | apply ok_ite | apply put_ok | apply when_ok | split | apply mk_ok | apply_assumption)
    | (extract_lets +onlyGivenNames t1; first
      | (refine_lift have h1 : State.Ok que t1 := ?_; ?_; on_goal 2 => clear_value t1; on_goal 1 => unfold t1; try dsimp only)
      | (refine_lift have h1 : State.Ok que t1.1 := ?_; ?_; on_goal 2 => clear_value t1; on_goal 1 => unfold t1; try dsimp only)
      | clear_value t1)
    | dsimp only)

theorem zeroise_ok {que : List Instr} {s : State} (hok : State.Ok que s) :
    State.Ok que (State.zeroise s) := by
  unfold State.zeroise
  repeat' (with_reducible first | assumption | intro _ | apply keyRefresh_ok | apply ok_ite | apply put_ok | apply each_ok | split)

theorem keysLost_ok {que : List Instr} {s : State} (hok : State.Ok que s) :
    State.Ok que (State.keysLost s) := by
  unfold State.keysLost
  repeat' (first
    | (with_reducible first | assumption | intro _ | apply drawn_ok | apply keyRefresh_ok | apply ok_ite | apply put_ok | apply each_ok | split | apply_assumption)
    | (extract_lets +onlyGivenNames t1; first
      | (refine_lift have h1 : State.Ok que t1 := ?_; ?_; on_goal 2 => clear_value t1; on_goal 1 => unfold t1; try dsimp only)
      | (refine_lift have h1 : State.Ok que t1.1 := ?_; ?_; on_goal 2 => clear_value t1; on_goal 1 => unfold t1; try dsimp only)
      | clear_value t1)
    | dsimp only)

theorem tamper_ok {que : List Instr} {s : State} (hok : State.Ok que s) (cause : Nat) :
    State.Ok que (State.tamper s cause) := by
  unfold State.tamper
  repeat' (with_reducible first | assumption | intro _ | apply zeroise_ok | apply keysLost_ok | apply ok_ite | apply put_ok | split)

theorem tamperRecord_ok {que : List Instr} {s : State} (hok : State.Ok que s) :
    State.Ok que (State.tamperRecord s) := by
  unfold State.tamperRecord
  repeat' (first
    | (with_reducible first | assumption | intro _ | apply raise_ok | apply ok_ite | apply put_ok | split | apply_assumption)
    | (extract_lets +onlyGivenNames t1; first
      | (refine_lift have h1 : State.Ok que t1 := ?_; ?_; on_goal 2 => clear_value t1; on_goal 1 => unfold t1; try dsimp only)
      | (refine_lift have h1 : State.Ok que t1.1 := ?_; ?_; on_goal 2 => clear_value t1; on_goal 1 => unfold t1; try dsimp only)
      | clear_value t1)
    | dsimp only)

theorem setFlash_ok {que : List Instr} {s : State} (hok : State.Ok que s) (x : FlashImage) :
    State.Ok que (State.setFlash s x) := by
  unfold State.setFlash
  repeat' (with_reducible first | assumption | intro _ | apply ok_ite | apply put_ok | split | apply mk_ok)

theorem bootCheck_ok {que : List Instr} {s : State} (hok : State.Ok que s) (n : Nat) :
    State.Ok que (State.bootCheck s n).1 := by
  unfold State.bootCheck
  repeat' (first
    | (with_reducible first | assumption | intro _ | apply ok_ite | apply put_ok | split | apply mk_ok | apply_assumption)
    | (extract_lets +onlyGivenNames t1; first
      | (refine_lift have h1 : State.Ok que t1 := ?_; ?_; on_goal 2 => clear_value t1; on_goal 1 => unfold t1; try dsimp only)
      | (refine_lift have h1 : State.Ok que t1.1 := ?_; ?_; on_goal 2 => clear_value t1; on_goal 1 => unfold t1; try dsimp only)
      | clear_value t1)
    | dsimp only)

theorem showImage_ok {que : List Instr} {s : State} (hok : State.Ok que s) (n : Nat) (x : FlashImage) :
    State.Ok que (State.showImage s n x) := by
  unfold State.showImage
  repeat' (with_reducible first | assumption | intro _ | apply ok_ite | apply put_ok | split)

theorem runImage_ok {que : List Instr} {s : State} (hok : State.Ok que s) (n : Nat) (x : FlashImage) :
    State.Ok que (State.runImage s n x) := by
  unfold State.runImage
  repeat' (with_reducible first | assumption | intro _ | apply ok_ite | apply put_ok | split)

theorem idleImage_ok {que : List Instr} {s : State} (hok : State.Ok que s) (st : Int) (n : Nat) (x : FlashImage) :
    State.Ok que (State.idleImage s st n x) := by
  unfold State.idleImage
  repeat' (with_reducible first | assumption | intro _ | apply ok_ite | apply put_ok | split)

theorem bootFirst_ok {que : List Instr} (l : List Nat) {s : State} (hok : s.Ok que) : State.Ok que (State.bootFirst s
    l).1 := by
  induction l generalizing s with
  | nil => exact hok
  | cons n l ih =>
    simp only [State.bootFirst]
    split
    · exact bootCheck_ok hok _
    · exact ih (bootCheck_ok hok _)

theorem fallRecord_ok {que : List Instr} {s : State} (hok : State.Ok que s) :
    State.Ok que (State.fallRecord s) := by
  unfold State.fallRecord
  repeat' (first
    | (with_reducible first | assumption | intro _ | apply raise_ok | apply ok_ite | apply put_ok | split | apply_assumption)
    | (extract_lets +onlyGivenNames t1; first
      | (refine_lift have h1 : State.Ok que t1 := ?_; ?_; on_goal 2 => clear_value t1; on_goal 1 => unfold t1; try dsimp only)
      | (refine_lift have h1 : State.Ok que t1.1 := ?_; ?_; on_goal 2 => clear_value t1; on_goal 1 => unfold t1; try dsimp only)
      | clear_value t1)
    | dsimp only)

theorem keepBoot_ok {que : List Instr} {s : State} (hok : State.Ok que s) (images : List (Nat × Nat × Nat)) :
    State.Ok que (State.keepBoot s images) := by
  unfold State.keepBoot
  repeat' (first
    | (with_reducible first | assumption | intro _ | apply raise_ok | apply loadRefBlock_ok | apply setFlash_ok | apply showImage_ok | apply runImage_ok | apply idleImage_ok | apply bootFirst_ok | apply fallRecord_ok | apply ok_ite | apply put_ok | apply each_ok | apply when_ok | split | apply mk_ok | apply_assumption)
    | (extract_lets +onlyGivenNames t1; first
      | (refine_lift have h1 : State.Ok que t1 := ?_; ?_; on_goal 2 => clear_value t1; on_goal 1 => unfold t1; try dsimp only)
      | (refine_lift have h1 : State.Ok que t1.1 := ?_; ?_; on_goal 2 => clear_value t1; on_goal 1 => unfold t1; try dsimp only)
      | clear_value t1)
    | dsimp only)

theorem bootIdle_ok {que : List Instr} {s : State} (hok : State.Ok que s) (v : Int) :
    State.Ok que (State.bootIdle s v) := by
  unfold State.bootIdle
  repeat' (first
    | (with_reducible first | assumption | intro _ | apply ok_ite | apply put_ok | split | apply_assumption)
    | (extract_lets +onlyGivenNames t1; first
      | (refine_lift have h1 : State.Ok que t1 := ?_; ?_; on_goal 2 => clear_value t1; on_goal 1 => unfold t1; try dsimp only)
      | (refine_lift have h1 : State.Ok que t1.1 := ?_; ?_; on_goal 2 => clear_value t1; on_goal 1 => unfold t1; try dsimp only)
      | clear_value t1)
    | dsimp only)

theorem idleBootEnd_ok {que : List Instr} {s : State} (hok : State.Ok que s) :
    State.Ok que (State.idleBootEnd s) := by
  unfold State.idleBootEnd
  repeat' (first
    | (with_reducible first | assumption | intro _ | apply bootCheck_ok | apply showImage_ok | apply idleImage_ok | apply ok_ite | apply put_ok | split | apply mk_ok | apply_assumption)
    | (extract_lets +onlyGivenNames t1; first
      | (refine_lift have h1 : State.Ok que t1 := ?_; ?_; on_goal 2 => clear_value t1; on_goal 1 => unfold t1; try dsimp only)
      | (refine_lift have h1 : State.Ok que t1.1 := ?_; ?_; on_goal 2 => clear_value t1; on_goal 1 => unfold t1; try dsimp only)
      | clear_value t1)
    | dsimp only)

theorem exchangePairs_ok {que : List Instr} {s : State} (hok : State.Ok que s) (b : Int) :
    State.Ok que (State.exchangePairs s b) := by
  unfold State.exchangePairs
  repeat' (first
    | (with_reducible first | assumption | intro _ | apply loadRefBlock_ok | apply rekey_ok | apply ok_ite | apply put_ok | split | apply mk_ok | apply_assumption)
    | (extract_lets +onlyGivenNames t1; first
      | (refine_lift have h1 : State.Ok que t1 := ?_; ?_; on_goal 2 => clear_value t1; on_goal 1 => unfold t1; try dsimp only)
      | (refine_lift have h1 : State.Ok que t1.1 := ?_; ?_; on_goal 2 => clear_value t1; on_goal 1 => unfold t1; try dsimp only)
      | clear_value t1)
    | dsimp only)

theorem handoverApply_ok {que : List Instr} {s : State} (hok : State.Ok que s) (bf : Int) (len : Int) :
    State.Ok que (State.handoverApply s bf len) := by
  unfold State.handoverApply
  repeat' (first
    | (with_reducible first | assumption | intro _ | apply bump_ok | apply exchangePairs_ok | apply ok_ite | apply put_ok | split | apply_assumption)
    | (extract_lets +onlyGivenNames t1; first
      | (refine_lift have h1 : State.Ok que t1 := ?_; ?_; on_goal 2 => clear_value t1; on_goal 1 => unfold t1; try dsimp only)
      | (refine_lift have h1 : State.Ok que t1.1 := ?_; ?_; on_goal 2 => clear_value t1; on_goal 1 => unfold t1; try dsimp only)
      | clear_value t1)
    | dsimp only)

theorem confirmWrite_ok {que : List Instr} {s : State} (hok : State.Ok que s) (v : Int) :
    State.Ok que (State.confirmWrite s v) := by
  unfold State.confirmWrite
  repeat' (with_reducible first | assumption | intro _ | apply ok_ite | apply put_ok | split)

theorem rejectWrite_ok {que : List Instr} {s : State} (hok : State.Ok que s) (v : Int) :
    State.Ok que (State.rejectWrite s v) := by
  unfold State.rejectWrite
  repeat' (with_reducible first | assumption | intro _ | apply ok_ite | apply put_ok | split)

theorem probTest_ok {que : List Instr} {s : State} (hok : State.Ok que s) (tests : Bool) :
    State.Ok que (State.probTest s tests) := by
  unfold State.probTest
  repeat' (with_reducible first | assumption | intro _ | apply probTouch_ok | apply ok_ite | apply put_ok | split)

theorem probConfirmed_ok {que : List Instr} {s : State} (hok : State.Ok que s) (tests : Bool) :
    State.Ok que (State.probConfirmed s tests) := by
  unfold State.probConfirmed
  repeat' (first
    | (with_reducible first | assumption | intro _ | apply idleImage_ok | apply probTest_ok | apply ok_ite | apply put_ok | apply when_ok | split | apply mk_ok | apply_assumption)
    | (extract_lets +onlyGivenNames t1; first
      | (refine_lift have h1 : State.Ok que t1 := ?_; ?_; on_goal 2 => clear_value t1; on_goal 1 => unfold t1; try dsimp only)
      | (refine_lift have h1 : State.Ok que t1.1 := ?_; ?_; on_goal 2 => clear_value t1; on_goal 1 => unfold t1; try dsimp only)
      | clear_value t1)
    | dsimp only)

theorem fallBack_ok {que : List Instr} {s : State} (hok : State.Ok que s) (cause : Nat) :
    State.Ok que (State.fallBack s cause) := by
  unfold State.fallBack
  repeat' (first
    | (with_reducible first | assumption | intro _ | apply raise_ok | apply exchangePairs_ok | apply ok_ite | apply put_ok | split | apply_assumption)
    | (extract_lets +onlyGivenNames t1; first
      | (refine_lift have h1 : State.Ok que t1 := ?_; ?_; on_goal 2 => clear_value t1; on_goal 1 => unfold t1; try dsimp only)
      | (refine_lift have h1 : State.Ok que t1.1 := ?_; ?_; on_goal 2 => clear_value t1; on_goal 1 => unfold t1; try dsimp only)
      | clear_value t1)
    | dsimp only)

theorem probDeadline_ok {que : List Instr} {s : State} (hok : State.Ok que s) :
    State.Ok que (State.probDeadline s) := by
  unfold State.probDeadline
  repeat' (with_reducible first | assumption | intro _ | apply fallBack_ok | apply ok_ite | apply put_ok | split)

theorem rejectFall_ok {que : List Instr} {s : State} (hok : State.Ok que s) :
    State.Ok que (State.rejectFall s) := by
  unfold State.rejectFall
  repeat' (with_reducible first | assumption | intro _ | apply fallBack_ok | apply ok_ite | apply put_ok | split)

theorem svcSend_ok {que : List Instr} {s : State} (hok : State.Ok que s) (keyed : Bool) (r : SvcResp) :
    State.Ok que (State.svcSend s keyed r) := by
  unfold State.svcSend
  repeat' (first
    | (with_reducible first | assumption | intro _ | apply send_ok | apply ok_ite | apply put_ok | split | apply_assumption)
    | (extract_lets +onlyGivenNames t1; first
      | (refine_lift have h1 : State.Ok que t1 := ?_; ?_; on_goal 2 => clear_value t1; on_goal 1 => unfold t1; try dsimp only)
      | (refine_lift have h1 : State.Ok que t1.1 := ?_; ?_; on_goal 2 => clear_value t1; on_goal 1 => unfold t1; try dsimp only)
      | clear_value t1)
    | dsimp only)

theorem svcTouch_ok {que : List Instr} {s : State} (hok : State.Ok que s) (keyed : Bool) :
    State.Ok que (State.svcTouch s keyed) := by
  unfold State.svcTouch
  repeat' (with_reducible first | assumption | intro _ | apply ok_ite | apply put_ok | split | apply mk_ok)

theorem svcAnswer_ok {que : List Instr} {s : State} (hok : State.Ok que s) (m : SvcMsg) (op : SvcOp) (keyed : Bool) (st : Status) (payload : List Nat) :
    State.Ok que (State.svcAnswer s m op keyed st payload) := by
  unfold State.svcAnswer
  repeat' (first
    | (with_reducible first | assumption | intro _ | apply svcSend_ok | apply ok_ite | apply put_ok | split | apply mk_ok | apply_assumption)
    | (extract_lets +onlyGivenNames t1; first
      | (refine_lift have h1 : State.Ok que t1 := ?_; ?_; on_goal 2 => clear_value t1; on_goal 1 => unfold t1; try dsimp only)
      | (refine_lift have h1 : State.Ok que t1.1 := ?_; ?_; on_goal 2 => clear_value t1; on_goal 1 => unfold t1; try dsimp only)
      | clear_value t1)
    | dsimp only)

theorem svcTimeout_ok {que : List Instr} {s : State} (hok : State.Ok que s) :
    State.Ok que (State.svcTimeout s) := by
  unfold State.svcTimeout
  repeat' (with_reducible first | assumption | intro _ | apply ok_ite | apply put_ok | split | apply mk_ok)

theorem svcRun_ok {que : List Instr} {s : State} (hok : State.Ok que s) (m : SvcMsg) (op : SvcOp) (payload : List Nat) (f : State → Bool → State) (hf : ∀ t a1, State.Ok que t → State.Ok que (f t a1)) :
    State.Ok que (State.svcRun s m op payload f) := by
  unfold State.svcRun
  repeat' (first
    | (with_reducible first | assumption | intro _ | apply hf | apply svcSend_ok | apply svcTouch_ok | apply svcTimeout_ok | apply again_ok | apply ok_ite | apply put_ok | split | apply mk_ok | apply_assumption)
    | (extract_lets +onlyGivenNames t1; first
      | (refine_lift have h1 : State.Ok que t1 := ?_; ?_; on_goal 2 => clear_value t1; on_goal 1 => unfold t1; try dsimp only)
      | (refine_lift have h1 : State.Ok que t1.1 := ?_; ?_; on_goal 2 => clear_value t1; on_goal 1 => unfold t1; try dsimp only)
      | clear_value t1)
    | dsimp only)

theorem svcHello_ok {que : List Instr} {s : State} (hok : State.Ok que s) (m : SvcMsg) (nonce : Nat) :
    State.Ok que (State.svcHello s m nonce) := by
  unfold State.svcHello
  repeat' (first
    | (with_reducible first | assumption | intro _ | apply drawn_ok | apply svcAnswer_ok | apply svcRun_ok | apply ok_ite | apply put_ok | split | apply mk_ok | apply_assumption)
    | (extract_lets +onlyGivenNames t1; first
      | (refine_lift have h1 : State.Ok que t1 := ?_; ?_; on_goal 2 => clear_value t1; on_goal 1 => unfold t1; try dsimp only)
      | (refine_lift have h1 : State.Ok que t1.1 := ?_; ?_; on_goal 2 => clear_value t1; on_goal 1 => unfold t1; try dsimp only)
      | clear_value t1)
    | dsimp only)

theorem svcColophon_ok {que : List Instr} {s : State} (hok : State.Ok que s) (m : SvcMsg) (nonce : Nat) :
    State.Ok que (State.svcColophon s m nonce) := by
  unfold State.svcColophon
  repeat' (with_reducible first | assumption | intro _ | apply svcAnswer_ok | apply svcRun_ok | apply ok_ite | apply put_ok | split)

theorem svcImageOpen_ok {que : List Instr} {s : State} (hok : State.Ok que s) (m : SvcMsg) (slot : Nat) (reserved : Nat) (total : Nat) :
    State.Ok que (State.svcImageOpen s m slot reserved total) := by
  unfold State.svcImageOpen
  repeat' (first
    | (with_reducible first | assumption | intro _ | apply setFlash_ok | apply svcAnswer_ok | apply svcRun_ok | apply ok_ite | apply put_ok | split | apply_assumption)
    | (extract_lets +onlyGivenNames t1; first
      | (refine_lift have h1 : State.Ok que t1 := ?_; ?_; on_goal 2 => clear_value t1; on_goal 1 => unfold t1; try dsimp only)
      | (refine_lift have h1 : State.Ok que t1.1 := ?_; ?_; on_goal 2 => clear_value t1; on_goal 1 => unfold t1; try dsimp only)
      | clear_value t1)
    | dsimp only)

theorem svcImageData_ok {que : List Instr} {s : State} (hok : State.Ok que s) (m : SvcMsg) (offset : Nat) (len : Nat) (data : Nat) :
    State.Ok que (State.svcImageData s m offset len data) := by
  unfold State.svcImageData
  repeat' (with_reducible first | assumption | intro _ | apply setFlash_ok | apply svcAnswer_ok | apply svcRun_ok | apply ok_ite | apply put_ok | split | apply mk_ok)

theorem svcImageClose_ok {que : List Instr} {s : State} (hok : State.Ok que s) (m : SvcMsg) (digest : Nat) :
    State.Ok que (State.svcImageClose s m digest) := by
  unfold State.svcImageClose
  repeat' (first
    | (with_reducible first | assumption | intro _ | apply restartIsland_ok | apply settleQueue_ok | apply svcAnswer_ok | apply svcRun_ok | apply ok_ite | apply put_ok | apply when_ok | split | apply mk_ok | apply_assumption)
    | (extract_lets +onlyGivenNames t1; first
      | (refine_lift have h1 : State.Ok que t1 := ?_; ?_; on_goal 2 => clear_value t1; on_goal 1 => unfold t1; try dsimp only)
      | (refine_lift have h1 : State.Ok que t1.1 := ?_; ?_; on_goal 2 => clear_value t1; on_goal 1 => unfold t1; try dsimp only)
      | clear_value t1)
    | dsimp only)

theorem svcKeyWrite_ok {que : List Instr} {s : State} (hok : State.Ok que s) (m : SvcMsg) (slot : Nat) (reserved : Nat) (key : Nat) :
    State.Ok que (State.svcKeyWrite s m slot reserved key) := by
  unfold State.svcKeyWrite
  repeat' (first
    | (with_reducible first | assumption | intro _ | apply keyWrite_ok | apply svcAnswer_ok | apply svcRun_ok | apply ok_ite | apply put_ok | split | apply_assumption)
    | (extract_lets +onlyGivenNames t1; first
      | (refine_lift have h1 : State.Ok que t1 := ?_; ?_; on_goal 2 => clear_value t1; on_goal 1 => unfold t1; try dsimp only)
      | (refine_lift have h1 : State.Ok que t1.1 := ?_; ?_; on_goal 2 => clear_value t1; on_goal 1 => unfold t1; try dsimp only)
      | clear_value t1)
    | dsimp only)

theorem svcClose_ok {que : List Instr} {s : State} (hok : State.Ok que s) (m : SvcMsg) :
    State.Ok que (State.svcClose s m) := by
  unfold State.svcClose
  repeat' (with_reducible first | assumption | intro _ | apply svcAnswer_ok | apply svcRun_ok | apply ok_ite | apply put_ok | split | apply mk_ok)

theorem svcTimeSet_ok {que : List Instr} {s : State} (hok : State.Ok que s) (m : SvcMsg) (lt : Nat) :
    State.Ok que (State.svcTimeSet s m lt) := by
  unfold State.svcTimeSet
  repeat' (first
    | (with_reducible first | assumption | intro _ | apply timeSetStep_ok | apply svcAnswer_ok | apply svcRun_ok | apply ok_ite | apply put_ok | split | apply_assumption)
    | (extract_lets +onlyGivenNames t1; first
      | (refine_lift have h1 : State.Ok que t1 := ?_; ?_; on_goal 2 => clear_value t1; on_goal 1 => unfold t1; try dsimp only)
      | (refine_lift have h1 : State.Ok que t1.1 := ?_; ?_; on_goal 2 => clear_value t1; on_goal 1 => unfold t1; try dsimp only)
      | clear_value t1)
    | dsimp only)

/-! ### Mode -/

theorem gateIslands_ok {que : List Instr} {s : State} (hok : State.Ok que s) :
    State.Ok que (State.gateIslands s) := by
  unfold State.gateIslands
  repeat' (with_reducible first | assumption | intro _ | apply ok_ite | apply put_ok | apply each_ok | split)

theorem gatedFlush_ok {que : List Instr} {s : State} (hok : State.Ok que s) (old : State) :
    State.Ok que (State.gatedFlush s old) := by
  unfold State.gatedFlush
  repeat' (with_reducible first | assumption | intro _ | apply bumpBy_ok | apply drawn_ok | apply ok_ite | apply put_ok | apply each_ok | split)

theorem gateFollow_ok {que : List Instr} {s : State} (hok : State.Ok que s) (old : State) :
    State.Ok que (State.gateFollow s old) := by
  unfold State.gateFollow
  repeat' (first
    | (with_reducible first | assumption | intro _ | apply macFalls_ok | apply settleQueue_ok | apply laneEnter_ok | apply macsTrain_ok | apply refreshGroups_ok | apply gatedFlush_ok | apply ok_ite | apply put_ok | apply each_ok | apply when_ok | split | apply_assumption)
    | (extract_lets +onlyGivenNames t1; first
      | (refine_lift have h1 : State.Ok que t1 := ?_; ?_; on_goal 2 => clear_value t1; on_goal 1 => unfold t1; try dsimp only)
      | (refine_lift have h1 : State.Ok que t1.1 := ?_; ?_; on_goal 2 => clear_value t1; on_goal 1 => unfold t1; try dsimp only)
      | (refine_lift have h1 : ∀ u, State.Ok que u → State.Ok que (t1 u) := ?_; ?_; on_goal 2 => clear_value t1; on_goal 1 => unfold t1; try dsimp only)
      | (refine_lift have h1 : ∀ u a, State.Ok que u → State.Ok que (t1 u a) := ?_; ?_; on_goal 2 => clear_value t1; on_goal 1 => unfold t1; try dsimp only)
      | (refine_lift have h1 : ∀ u a b, State.Ok que u → State.Ok que (t1 u a b) := ?_; ?_; on_goal 2 => clear_value t1; on_goal 1 => unfold t1; try dsimp only)
      | (refine_lift have h1 : ∀ u a b c, State.Ok que u → State.Ok que (t1 u a b c) := ?_; ?_; on_goal 2 => clear_value t1; on_goal 1 => unfold t1; try dsimp only)
      | clear_value t1)
    | dsimp only)

theorem inMode_ok {que : List Instr} {s : State} (hok : State.Ok que s) (m : Int) :
    State.Ok que (State.inMode s m) := by
  unfold State.inMode
  repeat' (with_reducible first | assumption | intro _ | apply gateIslands_ok | apply ok_ite | apply put_ok | split)

theorem obeyMode_ok {que : List Instr} {s : State} (hok : State.Ok que s) :
    State.Ok que (State.obeyMode s) := by
  unfold State.obeyMode
  repeat' (first
    | (with_reducible first | assumption | intro _ | apply inMode_ok | apply ok_ite | apply put_ok | split | apply_assumption)
    | (extract_lets +onlyGivenNames t1; first
      | (refine_lift have h1 : State.Ok que t1 := ?_; ?_; on_goal 2 => clear_value t1; on_goal 1 => unfold t1; try dsimp only)
      | (refine_lift have h1 : State.Ok que t1.1 := ?_; ?_; on_goal 2 => clear_value t1; on_goal 1 => unfold t1; try dsimp only)
      | clear_value t1)
    | dsimp only)

theorem pathsChange_ok {que : List Instr} {s : State} (hok : State.Ok que s) (b : Int) :
    State.Ok que (State.pathsChange s b) := by
  unfold State.pathsChange
  repeat' (first
    | (with_reducible first | assumption | intro _ | apply audioFollows_ok | apply underPolicy_ok | apply emitOutput_ok | apply ok_ite | apply put_ok | apply each_ok | split | apply_assumption)
    | (extract_lets +onlyGivenNames t1; first
      | (refine_lift have h1 : State.Ok que t1 := ?_; ?_; on_goal 2 => clear_value t1; on_goal 1 => unfold t1; try dsimp only)
      | (refine_lift have h1 : State.Ok que t1.1 := ?_; ?_; on_goal 2 => clear_value t1; on_goal 1 => unfold t1; try dsimp only)
      | clear_value t1)
    | dsimp only)

theorem modeApply_ok {que : List Instr} {s : State} (hok : State.Ok que s) (b : Int) :
    State.Ok que (State.modeApply s b) := by
  unfold State.modeApply
  repeat' (first
    | (with_reducible first | assumption | intro _ | apply bump_ok | apply refreshTarget_ok | apply txDrop_ok | apply syncSettle_ok | apply refreshAdmission_ok | apply refreshCanvases_ok | apply gateFollow_ok | apply inMode_ok | apply pathsChange_ok | apply ok_ite | apply put_ok | apply each_ok | split | apply_assumption)
    | (extract_lets +onlyGivenNames t1; first
      | (refine_lift have h1 : State.Ok que t1 := ?_; ?_; on_goal 2 => clear_value t1; on_goal 1 => unfold t1; try dsimp only)
      | (refine_lift have h1 : State.Ok que t1.1 := ?_; ?_; on_goal 2 => clear_value t1; on_goal 1 => unfold t1; try dsimp only)
      | clear_value t1)
    | dsimp only)

/-! ### Slips -/

theorem notePeak_ok {que : List Instr} {s : State} (hok : State.Ok que s) (b : Int) :
    State.Ok que (State.notePeak s b) := by
  unfold State.notePeak
  repeat' (first
    | (with_reducible first | assumption | intro _ | apply ok_ite | apply put_ok | apply when_ok | split | apply_assumption)
    | (extract_lets +onlyGivenNames t1; first
      | (refine_lift have h1 : State.Ok que t1 := ?_; ?_; on_goal 2 => clear_value t1; on_goal 1 => unfold t1; try dsimp only)
      | (refine_lift have h1 : State.Ok que t1.1 := ?_; ?_; on_goal 2 => clear_value t1; on_goal 1 => unfold t1; try dsimp only)
      | clear_value t1)
    | dsimp only)

theorem armApply_ok {que : List Instr} {s : State} (hok : State.Ok que s) (z : Slip) :
    State.Ok que (State.armApply s z) := by
  unfold State.armApply
  repeat' (first
    | (with_reducible first | assumption | intro _ | apply setSlip_ok | apply notePeak_ok | apply ok_ite | apply put_ok | apply when_ok | split | apply mk_ok | apply_assumption)
    | (extract_lets +onlyGivenNames t1; first
      | (refine_lift have h1 : State.Ok que t1 := ?_; ?_; on_goal 2 => clear_value t1; on_goal 1 => unfold t1; try dsimp only)
      | (refine_lift have h1 : State.Ok que t1.1 := ?_; ?_; on_goal 2 => clear_value t1; on_goal 1 => unfold t1; try dsimp only)
      | clear_value t1)
    | dsimp only)

theorem armRefused_ok {que : List Instr} {s : State} (hok : State.Ok que s) (st : Status) :
    State.Ok que (State.armRefused s st) := by
  unfold State.armRefused
  repeat' (with_reducible first | assumption | intro _ | apply bump_ok | apply ok_ite | apply put_ok | split)

theorem stageApply_ok {que : List Instr} {s : State} (hok : State.Ok que s) (n : Nat) (items : List (Key × Int)) :
    State.Ok que (State.stageApply s n items) := by
  unfold State.stageApply
  repeat' (with_reducible first | assumption | intro _ | apply setSlip_ok | apply ok_ite | apply put_ok | split | apply mk_ok)

theorem cancelSlip_ok {que : List Instr} {s : State} (hok : State.Ok que s) (n : Nat) :
    State.Ok que (State.cancelSlip s n) := by
  unfold State.cancelSlip
  repeat' (first
    | (with_reducible first | assumption | intro _ | apply bump_ok | apply setSlip_ok | apply ok_ite | apply put_ok | split | apply mk_ok | apply_assumption)
    | (extract_lets +onlyGivenNames t1; first
      | (refine_lift have h1 : State.Ok que t1 := ?_; ?_; on_goal 2 => clear_value t1; on_goal 1 => unfold t1; try dsimp only)
      | (refine_lift have h1 : State.Ok que t1.1 := ?_; ?_; on_goal 2 => clear_value t1; on_goal 1 => unfold t1; try dsimp only)
      | clear_value t1)
    | dsimp only)

theorem cancelGroup_ok {que : List Instr} {s : State} (hok : State.Ok que s) (g : Nat) :
    State.Ok que (State.cancelGroup s g) := by
  unfold State.cancelGroup
  repeat' (with_reducible first | assumption | intro _ | apply cancelSlip_ok | apply ok_ite | apply put_ok | apply each_ok | split)

theorem cancelAll_ok {que : List Instr} {s : State} (hok : State.Ok que s) :
    State.Ok que (State.cancelAll s) := by
  unfold State.cancelAll
  repeat' (with_reducible first | assumption | intro _ | apply cancelSlip_ok | apply ok_ite | apply put_ok | apply each_ok | split)

theorem withSub_ok {que : List Instr} {c : State} (hok : State.Ok que c) (m : Nat) : State.Ok que (State.withSub c m) := by
  unfold State.withSub
  split
  · exact hok
  · split
    · exact hok
    · rename_i t e
      have ht := openSub_some e hok
      split
      · exact ht
      · exact put_ok (put_ok ht _ _) _ _

theorem withLoads_ok {que : List Instr} {c : State} (hok : State.Ok que c) (x : Slip) :
    State.Ok que (State.withLoads c x) := by
  unfold State.withLoads
  repeat' (first
    | (with_reducible first | assumption | intro _ | apply refreshAdmitted_ok | apply refreshAdmission_ok | apply withHome_ok | apply refreshCanvases_ok | apply obeyMode_ok | apply withSub_ok | apply ok_ite | apply put_ok | apply each_ok | split | apply mk_ok | apply_assumption)
    | (extract_lets +onlyGivenNames t1; first
      | (refine_lift have h1 : State.Ok que t1 := ?_; ?_; on_goal 2 => clear_value t1; on_goal 1 => unfold t1; try dsimp only)
      | (refine_lift have h1 : State.Ok que t1.1 := ?_; ?_; on_goal 2 => clear_value t1; on_goal 1 => unfold t1; try dsimp only)
      | clear_value t1)
    | dsimp only)

theorem withSlip_ok {que : List Instr} {c : State} (hok : State.Ok que c) (x : Slip) :
    State.Ok que (State.withSlip c x) := by
  unfold State.withSlip
  repeat' (with_reducible first | assumption | intro _ | apply withLoads_ok | apply ok_ite | apply put_ok | apply each_ok | split)

theorem withOwn_ok {que : List Instr} {c : State} (hok : State.Ok que c) (x : Slip) :
    State.Ok que (State.withOwn c x) := by
  unfold State.withOwn
  repeat' (with_reducible first | assumption | intro _ | apply withSlip_ok | apply ok_ite | apply put_ok | split | apply mk_ok)

theorem candidate_ok {que : List Instr} {s : State} (hok : State.Ok que s) (upTo : Option Int) (but : Nat) :
    State.Ok que (State.candidate s upTo but) := by
  unfold State.candidate
  repeat' (with_reducible first | assumption | intro _ | apply withSlip_ok | apply ok_ite | apply put_ok | apply each_ok | split)

theorem noteRefusal_ok {que : List Instr} {s : State} (hok : State.Ok que s) (x : Slip) :
    State.Ok que (State.noteRefusal s x) := by
  unfold State.noteRefusal
  repeat' (with_reducible first | assumption | intro _ | apply withOwn_ok | apply candidate_ok | apply ok_ite | apply put_ok | split)

theorem launchEffects_ok {que : List Instr} {s : State} (hok : State.Ok que s) (x : Slip) :
    State.Ok que (State.launchEffects s x) := by
  unfold State.launchEffects
  repeat' (first
    | (with_reducible first | assumption | intro _ | apply openSub_ok | apply sendMask_ok | apply canvasLaunch_ok | apply takeLaunch_ok | apply withOwn_ok | apply candidate_ok | apply ok_ite | apply put_ok | split | apply mk_ok | apply_assumption)
    | (extract_lets +onlyGivenNames t1; first
      | (refine_lift have h1 : State.Ok que t1 := ?_; ?_; on_goal 2 => clear_value t1; on_goal 1 => unfold t1; try dsimp only)
      | (refine_lift have h1 : State.Ok que t1.1 := ?_; ?_; on_goal 2 => clear_value t1; on_goal 1 => unfold t1; try dsimp only)
      | clear_value t1)
    | dsimp only)

theorem compareOutcome_ok {que : List Instr} {s : State} (hok : State.Ok que s) (n : Nat) :
    State.Ok que (State.compareOutcome s n) := by
  unfold State.compareOutcome
  repeat' (first
    | (with_reducible first | assumption | intro _ | apply bump_ok | apply raise_ok | apply ok_ite | apply put_ok | split | apply_assumption)
    | (extract_lets +onlyGivenNames t1; first
      | (refine_lift have h1 : State.Ok que t1 := ?_; ?_; on_goal 2 => clear_value t1; on_goal 1 => unfold t1; try dsimp only)
      | (refine_lift have h1 : State.Ok que t1.1 := ?_; ?_; on_goal 2 => clear_value t1; on_goal 1 => unfold t1; try dsimp only)
      | clear_value t1)
    | dsimp only)

theorem tellOutcome_ok {que : List Instr} {s : State} (hok : State.Ok que s) (n : Nat) (st : SlipSt) (index : Int) :
    State.Ok que (State.tellOutcome s n st index) := by
  unfold State.tellOutcome
  repeat' (with_reducible first | assumption | intro _ | apply sendTwin_ok | apply compareOutcome_ok | apply ok_ite | apply put_ok | split)

theorem twinOutcomeIn_ok {que : List Instr} {s : State} (hok : State.Ok que s) (n : Nat) (st : Nat) (index : Int) :
    State.Ok que (State.twinOutcomeIn s n st index) := by
  unfold State.twinOutcomeIn
  repeat' (with_reducible first | assumption | intro _ | apply compareOutcome_ok | apply ok_ite | apply put_ok | split)

theorem failSlip_ok {que : List Instr} {s : State} (hok : State.Ok que s) (n : Nat) (st : Status) (cause : Nat) :
    State.Ok que (State.failSlip s n st cause) := by
  unfold State.failSlip
  repeat' (first
    | (with_reducible first | assumption | intro _ | apply bump_ok | apply rearm_ok | apply failRecord_ok | apply raise_ok | apply tellOutcome_ok | apply ok_ite | apply put_ok | apply when_ok | split | apply_assumption)
    | (extract_lets +onlyGivenNames t1; first
      | (refine_lift have h1 : State.Ok que t1 := ?_; ?_; on_goal 2 => clear_value t1; on_goal 1 => unfold t1; try dsimp only)
      | (refine_lift have h1 : State.Ok que t1.1 := ?_; ?_; on_goal 2 => clear_value t1; on_goal 1 => unfold t1; try dsimp only)
      | clear_value t1)
    | dsimp only)

theorem tellFallen_ok {que : List Instr} {s : State} (hok : State.Ok que s) :
    State.Ok que (State.tellFallen s) := by
  unfold State.tellFallen
  repeat' (with_reducible first | assumption | intro _ | apply tellOutcome_ok | apply ok_ite | apply put_ok | apply each_ok | split)

theorem closing_ok {que : List Instr} {s : State} (hok : State.Ok que s) (old : State) :
    State.Ok que (State.closing s old) := by
  unfold State.closing
  repeat' (with_reducible first | assumption | intro _ | apply refPresence_ok | apply twinOrdered_ok | apply tellFallen_ok | apply ok_ite | apply put_ok | split)

theorem supersede_ok {que : List Instr} {s : State} (hok : State.Ok que s) (n : Nat) (cause : Nat) :
    State.Ok que (State.supersede s n cause) := by
  unfold State.supersede
  repeat' (first
    | (with_reducible first | assumption | intro _ | apply bump_ok | apply setSlip_ok | apply tellOutcome_ok | apply ok_ite | apply put_ok | split | apply mk_ok | apply_assumption)
    | (extract_lets +onlyGivenNames t1; first
      | (refine_lift have h1 : State.Ok que t1 := ?_; ?_; on_goal 2 => clear_value t1; on_goal 1 => unfold t1; try dsimp only)
      | (refine_lift have h1 : State.Ok que t1.1 := ?_; ?_; on_goal 2 => clear_value t1; on_goal 1 => unfold t1; try dsimp only)
      | clear_value t1)
    | dsimp only)

theorem markLaunched_ok {que : List Instr} {s : State} (hok : State.Ok que s) (l : List Slip) :
    State.Ok que (State.markLaunched s l) := by
  unfold State.markLaunched
  repeat' (with_reducible first | assumption | intro _ | apply setSlip_ok | apply ok_ite | apply put_ok | apply each_ok | split | apply mk_ok)

theorem takesCompared_ok {que : List Instr} {s : State} (hok : State.Ok que s) (t : State) (l : List Slip) :
    State.Ok que (State.takesCompared s t l) := by
  unfold State.takesCompared
  repeat' (with_reducible first | assumption | intro _ | apply takeCompare_ok | apply withOwn_ok | apply candidate_ok | apply ok_ite | apply put_ok | apply each_ok | split)

theorem settleUnit_ok {que : List Instr} {s : State} (hok : State.Ok que s) (start : State) (l : List Slip) :
    State.Ok que (State.settleUnit s start l) := by
  unfold State.settleUnit
  repeat' (first
    | (with_reducible first | assumption | intro _ | apply bump_ok | apply withOwn_ok | apply candidate_ok | apply noteRefusal_ok | apply launchEffects_ok | apply tellOutcome_ok | apply failSlip_ok | apply supersede_ok | apply markLaunched_ok | apply takesCompared_ok | apply ok_ite | apply put_ok | apply each_ok | apply when_ok | split | apply mk_ok | apply_assumption)
    | (extract_lets +onlyGivenNames t1; first
      | (refine_lift have h1 : State.Ok que t1 := ?_; ?_; on_goal 2 => clear_value t1; on_goal 1 => unfold t1; try dsimp only)
      | (refine_lift have h1 : State.Ok que t1.1 := ?_; ?_; on_goal 2 => clear_value t1; on_goal 1 => unfold t1; try dsimp only)
      | clear_value t1)
    | dsimp only)

theorem checkPoint_ok {que : List Instr} {s : State} (hok : State.Ok que s) (at_ : Int) :
    State.Ok que (State.checkPoint s at_) := by
  unfold State.checkPoint
  repeat' (first
    | (with_reducible first | assumption | intro _ | apply settleUnit_ok | apply ok_ite | apply put_ok | apply each_ok | split | apply mk_ok | apply_assumption)
    | (extract_lets +onlyGivenNames t1; first
      | (refine_lift have h1 : State.Ok que t1 := ?_; ?_; on_goal 2 => clear_value t1; on_goal 1 => unfold t1; try dsimp only)
      | (refine_lift have h1 : State.Ok que t1.1 := ?_; ?_; on_goal 2 => clear_value t1; on_goal 1 => unfold t1; try dsimp only)
      | clear_value t1)
    | dsimp only)

theorem retire_ok {que : List Instr} {s : State} (hok : State.Ok que s) (n : Nat) :
    State.Ok que (State.retire s n) := by
  unfold State.retire
  repeat' (first
    | (with_reducible first | assumption | intro _ | apply bump_ok | apply setSlip_ok | apply rearm_ok | apply ok_ite | apply put_ok | split | apply mk_ok | apply_assumption)
    | (extract_lets +onlyGivenNames t1; first
      | (refine_lift have h1 : State.Ok que t1 := ?_; ?_; on_goal 2 => clear_value t1; on_goal 1 => unfold t1; try dsimp only)
      | (refine_lift have h1 : State.Ok que t1.1 := ?_; ?_; on_goal 2 => clear_value t1; on_goal 1 => unfold t1; try dsimp only)
      | clear_value t1)
    | dsimp only)

theorem dropStale_ok {que : List Instr} {s : State} (hok : State.Ok que s) (user : Nat) (keep : Option Nat) :
    State.Ok que (State.dropStale s user keep) := by
  unfold State.dropStale
  repeat' (first
    | (with_reducible first | assumption | intro _ | apply closeSub_ok | apply ok_ite | apply put_ok | apply each_ok | split | apply_assumption)
    | (extract_lets +onlyGivenNames t1; first
      | (refine_lift have h1 : State.Ok que t1 := ?_; ?_; on_goal 2 => clear_value t1; on_goal 1 => unfold t1; try dsimp only)
      | (refine_lift have h1 : State.Ok que t1.1 := ?_; ?_; on_goal 2 => clear_value t1; on_goal 1 => unfold t1; try dsimp only)
      | clear_value t1)
    | dsimp only)

theorem outputApply_ok {que : List Instr} {s : State} (hok : State.Ok que s) (old : State) (o : Nat) (b : Int) :
    State.Ok que (State.outputApply s old o b) := by
  unfold State.outputApply
  repeat' (first
    | (with_reducible first | assumption | intro _ | apply txApply_ok | apply refreshAdmission_ok | apply audioFollows_ok | apply settleOutput_ok | apply noteUntimed_ok | apply emitOutput_ok | apply ok_ite | apply put_ok | apply each_ok | split | apply_assumption)
    | (extract_lets +onlyGivenNames t1; first
      | (refine_lift have h1 : State.Ok que t1 := ?_; ?_; on_goal 2 => clear_value t1; on_goal 1 => unfold t1; try dsimp only)
      | (refine_lift have h1 : State.Ok que t1.1 := ?_; ?_; on_goal 2 => clear_value t1; on_goal 1 => unfold t1; try dsimp only)
      | clear_value t1)
    | dsimp only)

theorem slipsTracked_ok {que : List Instr} {s : State} (hok : State.Ok que s) (r : Nat) :
    State.Ok que (State.slipsTracked s r) := by
  unfold State.slipsTracked
  repeat' (first
    | (with_reducible first | assumption | intro _ | apply setSlip_ok | apply notePeak_ok | apply ok_ite | apply put_ok | apply each_ok | split | apply_assumption)
    | (extract_lets +onlyGivenNames t1; first
      | (refine_lift have h1 : State.Ok que t1 := ?_; ?_; on_goal 2 => clear_value t1; on_goal 1 => unfold t1; try dsimp only)
      | (refine_lift have h1 : State.Ok que t1.1 := ?_; ?_; on_goal 2 => clear_value t1; on_goal 1 => unfold t1; try dsimp only)
      | clear_value t1)
    | dsimp only)

theorem rasterApply_ok {que : List Instr} {s : State} (hok : State.Ok que s) (r : Nat) (b : Int) (was : Int) :
    State.Ok que (State.rasterApply s r b was) := by
  unfold State.rasterApply
  repeat' (first
    | (with_reducible first | assumption | intro _ | apply applyRaster_ok | apply txDrop_ok | apply genStop_ok | apply refreshAdmission_ok | apply refreshCanvases_ok | apply slipsTracked_ok | apply ok_ite | apply put_ok | apply each_ok | split | apply_assumption)
    | (extract_lets +onlyGivenNames t1; first
      | (refine_lift have h1 : State.Ok que t1 := ?_; ?_; on_goal 2 => clear_value t1; on_goal 1 => unfold t1; try dsimp only)
      | (refine_lift have h1 : State.Ok que t1.1 := ?_; ?_; on_goal 2 => clear_value t1; on_goal 1 => unfold t1; try dsimp only)
      | clear_value t1)
    | dsimp only)

theorem applySlip_ok {que : List Instr} {s : State} (hok : State.Ok que s) (x : Slip) (bf : Int) :
    State.Ok que (State.applySlip s x bf) := by
  unfold State.applySlip
  repeat' (first
    | (with_reducible first | assumption | intro _ | apply setSlip_ok | apply calendarApply_ok | apply gateApply_ok | apply flowApply_ok | apply recApply_ok | apply headApply_ok | apply canvasApply_ok | apply programApply_ok | apply setApply_ok | apply takeApply_ok | apply handoverApply_ok | apply modeApply_ok | apply dropStale_ok | apply outputApply_ok | apply rasterApply_ok | apply ok_ite | apply put_ok | apply each_ok | split | apply mk_ok | apply_assumption)
    | (extract_lets +onlyGivenNames t1; first
      | (refine_lift have h1 : State.Ok que t1 := ?_; ?_; on_goal 2 => clear_value t1; on_goal 1 => unfold t1; try dsimp only)
      | (refine_lift have h1 : State.Ok que t1.1 := ?_; ?_; on_goal 2 => clear_value t1; on_goal 1 => unfold t1; try dsimp only)
      | clear_value t1)
    | dsimp only)

theorem alignOne_ok {que : List Instr} {s : State} (hok : State.Ok que s) (x : Slip) (r : Nat) (bf : Int) :
    State.Ok que (State.alignOne s x r bf) := by
  unfold State.alignOne
  repeat' (first
    | (with_reducible first | assumption | intro _ | apply setSlip_ok | apply applyAlign_ok | apply retire_ok | apply ok_ite | apply put_ok | apply each_ok | split | apply mk_ok | apply_assumption)
    | (extract_lets +onlyGivenNames t1; first
      | (refine_lift have h1 : State.Ok que t1 := ?_; ?_; on_goal 2 => clear_value t1; on_goal 1 => unfold t1; try dsimp only)
      | (refine_lift have h1 : State.Ok que t1.1 := ?_; ?_; on_goal 2 => clear_value t1; on_goal 1 => unfold t1; try dsimp only)
      | clear_value t1)
    | dsimp only)

theorem slipBoundary_ok {que : List Instr} {s : State} (hok : State.Ok que s) (at_ : Int) :
    State.Ok que (State.slipBoundary s at_) := by
  unfold State.slipBoundary
  repeat' (first
    | (with_reducible first | assumption | intro _ | apply retire_ok | apply applySlip_ok | apply alignOne_ok | apply ok_ite | apply put_ok | apply each_ok | split | apply_assumption)
    | (extract_lets +onlyGivenNames t1; first
      | (refine_lift have h1 : State.Ok que t1 := ?_; ?_; on_goal 2 => clear_value t1; on_goal 1 => unfold t1; try dsimp only)
      | (refine_lift have h1 : State.Ok que t1.1 := ?_; ?_; on_goal 2 => clear_value t1; on_goal 1 => unfold t1; try dsimp only)
      | clear_value t1)
    | dsimp only)

theorem retireLate_ok {que : List Instr} {s : State} (hok : State.Ok que s) (n : Nat) :
    State.Ok que (State.retireLate s n) := by
  unfold State.retireLate
  repeat' (first
    | (with_reducible first | assumption | intro _ | apply canvasRetire_ok | apply takeRetire_ok | apply retire_ok | apply ok_ite | apply put_ok | split | apply_assumption)
    | (extract_lets +onlyGivenNames t1; first
      | (refine_lift have h1 : State.Ok que t1 := ?_; ?_; on_goal 2 => clear_value t1; on_goal 1 => unfold t1; try dsimp only)
      | (refine_lift have h1 : State.Ok que t1.1 := ?_; ?_; on_goal 2 => clear_value t1; on_goal 1 => unfold t1; try dsimp only)
      | clear_value t1)
    | dsimp only)

theorem resolvedTo_ok {que : List Instr} {s : State} (hok : State.Ok que s) (n : Nat) (b : Int) (launch : Int) (c : Int) :
    State.Ok que (State.resolvedTo s n b launch c) := by
  unfold State.resolvedTo
  repeat' (with_reducible first | assumption | intro _ | apply setSlip_ok | apply notePeak_ok | apply ok_ite | apply put_ok | split | apply mk_ok)

theorem resolved_ok {que : List Instr} {s : State} (hok : State.Ok que s) (n : Nat) (b : Int) (launch : Int) (c : Int) :
    State.Ok que (State.resolved s n b launch c) := by
  unfold State.resolved
  repeat' (with_reducible first | assumption | intro _ | apply failSlip_ok | apply resolvedTo_ok | apply ok_ite | apply put_ok | split)

theorem gpiEdge_ok {que : List Instr} {s : State} (hok : State.Ok que s) (g : Nat) (rising : Bool) (e : Int) :
    State.Ok que (State.gpiEdge s g rising e) := by
  unfold State.gpiEdge
  repeat' (first
    | (with_reducible first | assumption | intro _ | apply sendTwin_ok | apply failSlip_ok | apply resolved_ok | apply ok_ite | apply put_ok | apply each_ok | split | apply mk_ok | apply_assumption)
    | (extract_lets +onlyGivenNames t1; first
      | (refine_lift have h1 : State.Ok que t1 := ?_; ?_; on_goal 2 => clear_value t1; on_goal 1 => unfold t1; try dsimp only)
      | (refine_lift have h1 : State.Ok que t1.1 := ?_; ?_; on_goal 2 => clear_value t1; on_goal 1 => unfold t1; try dsimp only)
      | clear_value t1)
    | dsimp only)

theorem gpiResolveIn_ok {que : List Instr} {s : State} (hok : State.Ok que s) (n : Nat) (launch : Nat) (seq : Nat) :
    State.Ok que (State.gpiResolveIn s n launch seq) := by
  unfold State.gpiResolveIn
  repeat' (first
    | (with_reducible first | assumption | intro _ | apply setSlip_ok | apply failSlip_ok | apply resolved_ok | apply ok_ite | apply put_ok | apply when_ok | split | apply mk_ok | apply_assumption)
    | (extract_lets +onlyGivenNames t1; first
      | (refine_lift have h1 : State.Ok que t1 := ?_; ?_; on_goal 2 => clear_value t1; on_goal 1 => unfold t1; try dsimp only)
      | (refine_lift have h1 : State.Ok que t1.1 := ?_; ?_; on_goal 2 => clear_value t1; on_goal 1 => unfold t1; try dsimp only)
      | clear_value t1)
    | dsimp only)

theorem slipsReturn_ok {que : List Instr} {s : State} (hok : State.Ok que s) :
    State.Ok que (State.slipsReturn s) := by
  unfold State.slipsReturn
  repeat' (first
    | (with_reducible first | assumption | intro _ | apply failSlip_ok | apply resolvedTo_ok | apply ok_ite | apply put_ok | apply each_ok | split | apply mk_ok | apply_assumption)
    | (extract_lets +onlyGivenNames t1; first
      | (refine_lift have h1 : State.Ok que t1 := ?_; ?_; on_goal 2 => clear_value t1; on_goal 1 => unfold t1; try dsimp only)
      | (refine_lift have h1 : State.Ok que t1.1 := ?_; ?_; on_goal 2 => clear_value t1; on_goal 1 => unfold t1; try dsimp only)
      | clear_value t1)
    | dsimp only)

theorem slipsStepped_ok {que : List Instr} {s : State} (hok : State.Ok que s) (d : Int) :
    State.Ok que (State.slipsStepped s d) := by
  unfold State.slipsStepped
  repeat' (first
    | (with_reducible first | assumption | intro _ | apply setSlip_ok | apply notePeak_ok | apply ok_ite | apply put_ok | apply each_ok | apply foldl_ok | apply foldl_fst_ok | split | apply mk_ok | apply_assumption)
    | (extract_lets +onlyGivenNames t1; first
      | (refine_lift have h1 : State.Ok que t1 := ?_; ?_; on_goal 2 => clear_value t1; on_goal 1 => unfold t1; try dsimp only)
      | (refine_lift have h1 : State.Ok que t1.1 := ?_; ?_; on_goal 2 => clear_value t1; on_goal 1 => unfold t1; try dsimp only)
      | (refine_lift have h1 : ∀ u, State.Ok que u → State.Ok que (t1 u) := ?_; ?_; on_goal 2 => clear_value t1; on_goal 1 => unfold t1; try dsimp only)
      | (refine_lift have h1 : ∀ u a, State.Ok que u → State.Ok que (t1 u a) := ?_; ?_; on_goal 2 => clear_value t1; on_goal 1 => unfold t1; try dsimp only)
      | (refine_lift have h1 : ∀ u a b, State.Ok que u → State.Ok que (t1 u a b) := ?_; ?_; on_goal 2 => clear_value t1; on_goal 1 => unfold t1; try dsimp only)
      | (refine_lift have h1 : ∀ u a b c, State.Ok que u → State.Ok que (t1 u a b c) := ?_; ?_; on_goal 2 => clear_value t1; on_goal 1 => unfold t1; try dsimp only)
      | clear_value t1)
    | dsimp only)

theorem afterStep_ok {que : List Instr} {s : State} (hok : State.Ok que s) (old : State) :
    State.Ok que (State.afterStep s old) := by
  unfold State.afterStep
  repeat' (with_reducible first | assumption | intro _ | apply slipsStepped_ok | apply ok_ite | apply put_ok | split)

/-! ### Pins -/

theorem gpiNote_ok {que : List Instr} {s : State} (hok : State.Ok que s) (g : Nat) :
    State.Ok que (State.gpiNote s g) := by
  unfold State.gpiNote
  repeat' (first
    | (with_reducible first | assumption | intro _ | apply ok_ite | apply put_ok | split | apply mk_ok | apply_assumption)
    | (extract_lets +onlyGivenNames t1; first
      | (refine_lift have h1 : State.Ok que t1 := ?_; ?_; on_goal 2 => clear_value t1; on_goal 1 => unfold t1; try dsimp only)
      | (refine_lift have h1 : State.Ok que t1.1 := ?_; ?_; on_goal 2 => clear_value t1; on_goal 1 => unfold t1; try dsimp only)
      | clear_value t1)
    | dsimp only)

theorem gpiTimers_ok {que : List Instr} {s : State} (hok : State.Ok que s) (g : Nat) :
    State.Ok que (State.gpiTimers s g) := by
  unfold State.gpiTimers
  repeat' (with_reducible first | assumption | intro _ | apply ok_ite | apply put_ok | split)

theorem gpiRawTransition_ok {que : List Instr} {s : State} (hok : State.Ok que s) (g : Nat) (level : Bool) :
    State.Ok que (State.gpiRawTransition s g level) := by
  unfold State.gpiRawTransition
  repeat' (first
    | (with_reducible first | assumption | intro _ | apply raise_ok | apply gpiNote_ok | apply gpiTimers_ok | apply ok_ite | apply put_ok | split | apply_assumption)
    | (extract_lets +onlyGivenNames t1; first
      | (refine_lift have h1 : State.Ok que t1 := ?_; ?_; on_goal 2 => clear_value t1; on_goal 1 => unfold t1; try dsimp only)
      | (refine_lift have h1 : State.Ok que t1.1 := ?_; ?_; on_goal 2 => clear_value t1; on_goal 1 => unfold t1; try dsimp only)
      | clear_value t1)
    | dsimp only)

theorem gpiEvent_ok {que : List Instr} {s : State} (hok : State.Ok que s) (g : Nat) (rising : Bool) :
    State.Ok que (State.gpiEvent s g rising) := by
  unfold State.gpiEvent
  repeat' (first
    | (with_reducible first | assumption | intro _ | apply bump_ok | apply capture_ok | apply gpiEdge_ok | apply ok_ite | apply put_ok | split | apply_assumption)
    | (extract_lets +onlyGivenNames t1; first
      | (refine_lift have h1 : State.Ok que t1 := ?_; ?_; on_goal 2 => clear_value t1; on_goal 1 => unfold t1; try dsimp only)
      | (refine_lift have h1 : State.Ok que t1.1 := ?_; ?_; on_goal 2 => clear_value t1; on_goal 1 => unfold t1; try dsimp only)
      | clear_value t1)
    | dsimp only)

theorem gpiQualify_ok {que : List Instr} {s : State} (hok : State.Ok que s) (g : Nat) :
    State.Ok que (State.gpiQualify s g) := by
  unfold State.gpiQualify
  repeat' (first
    | (with_reducible first | assumption | intro _ | apply gpiEvent_ok | apply ok_ite | apply put_ok | apply when_ok | split | apply_assumption)
    | (extract_lets +onlyGivenNames t1; first
      | (refine_lift have h1 : State.Ok que t1 := ?_; ?_; on_goal 2 => clear_value t1; on_goal 1 => unfold t1; try dsimp only)
      | (refine_lift have h1 : State.Ok que t1.1 := ?_; ?_; on_goal 2 => clear_value t1; on_goal 1 => unfold t1; try dsimp only)
      | clear_value t1)
    | dsimp only)

theorem gpiToStuck_ok {que : List Instr} {s : State} (hok : State.Ok que s) (g : Nat) :
    State.Ok que (State.gpiToStuck s g) := by
  unfold State.gpiToStuck
  repeat' (with_reducible first | assumption | intro _ | apply raise_ok | apply ok_ite | apply put_ok | split)

theorem gpiStuckAt_ok {que : List Instr} {s : State} (hok : State.Ok que s) (g : Nat) :
    State.Ok que (State.gpiStuckAt s g) := by
  unfold State.gpiStuckAt
  repeat' (with_reducible first | assumption | intro _ | apply gpiToStuck_ok | apply ok_ite | apply put_ok | split)

theorem gpiChatterQuiet_ok {que : List Instr} {s : State} (hok : State.Ok que s) (g : Nat) :
    State.Ok que (State.gpiChatterQuiet s g) := by
  unfold State.gpiChatterQuiet
  repeat' (with_reducible first | assumption | intro _ | apply gpiToStuck_ok | apply ok_ite | apply put_ok | split)

theorem gpiPolarity_ok {que : List Instr} {s : State} (hok : State.Ok que s) (g : Nat) (v : Int) :
    State.Ok que (State.gpiPolarity s g v) := by
  unfold State.gpiPolarity
  repeat' (first
    | (with_reducible first | assumption | intro _ | apply ok_ite | apply put_ok | split | apply_assumption)
    | (extract_lets +onlyGivenNames t1; first
      | (refine_lift have h1 : State.Ok que t1 := ?_; ?_; on_goal 2 => clear_value t1; on_goal 1 => unfold t1; try dsimp only)
      | (refine_lift have h1 : State.Ok que t1.1 := ?_; ?_; on_goal 2 => clear_value t1; on_goal 1 => unfold t1; try dsimp only)
      | clear_value t1)
    | dsimp only)

theorem gpoDrive_ok {que : List Instr} {s : State} (hok : State.Ok que s) (g : Nat) (v : Int) :
    State.Ok que (State.gpoDrive s g v) := by
  unfold State.gpoDrive
  repeat' (with_reducible first | assumption | intro _ | apply send_ok | apply ok_ite | apply put_ok | split)

theorem gpoWrite_ok {que : List Instr} {s : State} (hok : State.Ok que s) (g : Nat) (v : Int) :
    State.Ok que (State.gpoWrite s g v) := by
  unfold State.gpoWrite
  repeat' (first
    | (with_reducible first | assumption | intro _ | apply gpoDrive_ok | apply ok_ite | apply put_ok | split | apply_assumption)
    | (extract_lets +onlyGivenNames t1; first
      | (refine_lift have h1 : State.Ok que t1 := ?_; ?_; on_goal 2 => clear_value t1; on_goal 1 => unfold t1; try dsimp only)
      | (refine_lift have h1 : State.Ok que t1.1 := ?_; ?_; on_goal 2 => clear_value t1; on_goal 1 => unfold t1; try dsimp only)
      | clear_value t1)
    | dsimp only)

theorem gpioReady_ok {que : List Instr} {s : State} (hok : State.Ok que s) :
    State.Ok que (State.gpioReady s) := by
  unfold State.gpioReady
  repeat' (first
    | (with_reducible first | assumption | intro _ | apply gpiTimers_ok | apply gpoDrive_ok | apply ok_ite | apply put_ok | apply each_ok | split | apply_assumption)
    | (extract_lets +onlyGivenNames t1; first
      | (refine_lift have h1 : State.Ok que t1 := ?_; ?_; on_goal 2 => clear_value t1; on_goal 1 => unfold t1; try dsimp only)
      | (refine_lift have h1 : State.Ok que t1.1 := ?_; ?_; on_goal 2 => clear_value t1; on_goal 1 => unfold t1; try dsimp only)
      | clear_value t1)
    | dsimp only)

theorem smbusRead_ok {que : List Instr} {s : State} (hok : State.Ok que s) (address : Nat) (command : Nat) :
    State.Ok que (State.smbusRead s address command) := by
  unfold State.smbusRead
  repeat' (with_reducible first | assumption | intro _ | apply send_ok | apply ok_ite | apply put_ok | split)

theorem smbusWrite_ok {que : List Instr} {s : State} (hok : State.Ok que s) :
    State.Ok que (State.smbusWrite s) := by
  unfold State.smbusWrite
  repeat' (with_reducible first | assumption | intro _ | apply send_ok | apply ok_ite | apply put_ok | split)

theorem tapSelect_ok {que : List Instr} {s : State} (hok : State.Ok que s) (code : Nat) :
    State.Ok que (State.tapSelect s code) := by
  unfold State.tapSelect
  repeat' (with_reducible first | assumption | intro _ | apply ok_ite | apply put_ok | split)

theorem tapBypass_ok {que : List Instr} {s : State} (hok : State.Ok que s) (code : Nat) :
    State.Ok que (State.tapBypass s code) := by
  unfold State.tapBypass
  repeat' (with_reducible first | assumption | intro _ | apply tapSelect_ok | apply ok_ite | apply put_ok | split)

theorem tapExtest_ok {que : List Instr} {s : State} (hok : State.Ok que s) (code : Nat) (what : Nat) (cells : Nat) :
    State.Ok que (State.tapExtest s code what cells) := by
  unfold State.tapExtest
  repeat' (first
    | (with_reducible first | assumption | intro _ | apply send_ok | apply tapSelect_ok | apply ok_ite | apply put_ok | split | apply_assumption)
    | (extract_lets +onlyGivenNames t1; first
      | (refine_lift have h1 : State.Ok que t1 := ?_; ?_; on_goal 2 => clear_value t1; on_goal 1 => unfold t1; try dsimp only)
      | (refine_lift have h1 : State.Ok que t1.1 := ?_; ?_; on_goal 2 => clear_value t1; on_goal 1 => unfold t1; try dsimp only)
      | clear_value t1)
    | dsimp only)

theorem tapPreload_ok {que : List Instr} {s : State} (hok : State.Ok que s) (cells : Nat) :
    State.Ok que (State.tapPreload s cells) := by
  unfold State.tapPreload
  repeat' (with_reducible first | assumption | intro _ | apply send_ok | apply drawn_ok | apply tapSelect_ok | apply ok_ite | apply put_ok | split)

theorem tapIdcode_ok {que : List Instr} {s : State} (hok : State.Ok que s) :
    State.Ok que (State.tapIdcode s) := by
  unfold State.tapIdcode
  repeat' (with_reducible first | assumption | intro _ | apply send_ok | apply tapSelect_ok | apply ok_ite | apply put_ok | split)

theorem tapHighz_ok {que : List Instr} {s : State} (hok : State.Ok que s) :
    State.Ok que (State.tapHighz s) := by
  unfold State.tapHighz
  repeat' (with_reducible first | assumption | intro _ | apply send_ok | apply tapSelect_ok | apply ok_ite | apply put_ok | split)

theorem tapClamp_ok {que : List Instr} {s : State} (hok : State.Ok que s) :
    State.Ok que (State.tapClamp s) := by
  unfold State.tapClamp
  repeat' (with_reducible first | assumption | intro _ | apply send_ok | apply tapSelect_ok | apply ok_ite | apply put_ok | split)

theorem tapReset_ok {que : List Instr} {s : State} (hok : State.Ok que s) :
    State.Ok que (State.tapReset s) := by
  unfold State.tapReset
  repeat' (with_reducible first | assumption | intro _ | apply tapSelect_ok | apply ok_ite | apply put_ok | split)

/-! ### Twin -/

theorem sendHealth_ok {que : List Instr} {s : State} (hok : State.Ok que s) :
    State.Ok que (State.sendHealth s) := by
  unfold State.sendHealth
  repeat' (with_reducible first | assumption | intro _ | apply twinSend_ok | apply ok_ite | apply put_ok | split)

theorem loanTaken_ok {que : List Instr} {s : State} (hok : State.Ok que s) (h : HealthMsg) :
    State.Ok que (State.loanTaken s h) := by
  unfold State.loanTaken
  repeat' (with_reducible first | assumption | intro _ | apply releaseLoan_ok | apply raise_ok | apply ok_ite | apply put_ok | split)

theorem watchPrograms_ok {que : List Instr} {s : State} (hok : State.Ok que s) (h : HealthMsg) :
    State.Ok que (State.watchPrograms s h) := by
  unfold State.watchPrograms
  repeat' (first
    | (with_reducible first | assumption | intro _ | apply raise_ok | apply timeCond_ok | apply ok_ite | apply put_ok | split | apply_assumption)
    | (extract_lets +onlyGivenNames t1; first
      | (refine_lift have h1 : State.Ok que t1 := ?_; ?_; on_goal 2 => clear_value t1; on_goal 1 => unfold t1; try dsimp only)
      | (refine_lift have h1 : State.Ok que t1.1 := ?_; ?_; on_goal 2 => clear_value t1; on_goal 1 => unfold t1; try dsimp only)
      | clear_value t1)
    | dsimp only)

theorem watchBookings_ok {que : List Instr} {s : State} (hok : State.Ok que s) (h : HealthMsg) :
    State.Ok que (State.watchBookings s h) := by
  unfold State.watchBookings
  repeat' (first
    | (with_reducible first | assumption | intro _ | apply raise_ok | apply timeCond_ok | apply ok_ite | apply put_ok | split | apply_assumption)
    | (extract_lets +onlyGivenNames t1; first
      | (refine_lift have h1 : State.Ok que t1 := ?_; ?_; on_goal 2 => clear_value t1; on_goal 1 => unfold t1; try dsimp only)
      | (refine_lift have h1 : State.Ok que t1.1 := ?_; ?_; on_goal 2 => clear_value t1; on_goal 1 => unfold t1; try dsimp only)
      | clear_value t1)
    | dsimp only)

theorem sourceDone_ok {que : List Instr} {s : State} (hok : State.Ok que s) (h : HealthMsg) :
    State.Ok que (State.sourceDone s h) := by
  unfold State.sourceDone
  repeat' (with_reducible first | assumption | intro _ | apply bump_ok | apply setPairing_ok | apply ok_ite | apply put_ok | split)

theorem healthIn_ok {que : List Instr} {s : State} (hok : State.Ok que s) (h : HealthMsg) :
    State.Ok que (State.healthIn s h) := by
  unfold State.healthIn
  repeat' (first
    | (with_reducible first | assumption | intro _ | apply bump_ok | apply refreshInject_ok | apply checkBookings_ok | apply adoptBookings_ok | apply loanTaken_ok | apply watchPrograms_ok | apply watchBookings_ok | apply sourceDone_ok | apply ok_ite | apply put_ok | apply when_ok | split | apply mk_ok | apply_assumption)
    | (extract_lets +onlyGivenNames t1; first
      | (refine_lift have h1 : State.Ok que t1 := ?_; ?_; on_goal 2 => clear_value t1; on_goal 1 => unfold t1; try dsimp only)
      | (refine_lift have h1 : State.Ok que t1.1 := ?_; ?_; on_goal 2 => clear_value t1; on_goal 1 => unfold t1; try dsimp only)
      | clear_value t1)
    | dsimp only)

theorem reconSend_ok {que : List Instr} {s : State} (hok : State.Ok que s) :
    State.Ok que (State.reconSend s) := by
  unfold State.reconSend
  repeat' (with_reducible first | assumption | intro _ | apply sendTwin_ok | apply ok_ite | apply put_ok | split)

theorem reconStart_ok {que : List Instr} {s : State} (hok : State.Ok que s) :
    State.Ok que (State.reconStart s) := by
  unfold State.reconStart
  repeat' (first
    | (with_reducible first | assumption | intro _ | apply setPairing_ok | apply reconSend_ok | apply ok_ite | apply put_ok | split | apply mk_ok | apply_assumption)
    | (extract_lets +onlyGivenNames t1; first
      | (refine_lift have h1 : State.Ok que t1 := ?_; ?_; on_goal 2 => clear_value t1; on_goal 1 => unfold t1; try dsimp only)
      | (refine_lift have h1 : State.Ok que t1.1 := ?_; ?_; on_goal 2 => clear_value t1; on_goal 1 => unfold t1; try dsimp only)
      | clear_value t1)
    | dsimp only)

theorem reconTimeout_ok {que : List Instr} {s : State} (hok : State.Ok que s) :
    State.Ok que (State.reconTimeout s) := by
  unfold State.reconTimeout
  repeat' (with_reducible first | assumption | intro _ | apply raise_ok | apply ok_ite | apply put_ok | split)

theorem reconAgain_ok {que : List Instr} {s : State} (hok : State.Ok que s) :
    State.Ok que (State.reconAgain s) := by
  unfold State.reconAgain
  repeat' (with_reducible first | assumption | intro _ | apply reconStart_ok | apply ok_ite | apply put_ok | split)

theorem twinLinkUp_ok {que : List Instr} {s : State} (hok : State.Ok que s) :
    State.Ok que (State.twinLinkUp s) := by
  unfold State.twinLinkUp
  repeat' (first
    | (with_reducible first | assumption | intro _ | apply endCond_ok | apply rekey_ok | apply reconStart_ok | apply ok_ite | apply put_ok | split | apply_assumption)
    | (extract_lets +onlyGivenNames t1; first
      | (refine_lift have h1 : State.Ok que t1 := ?_; ?_; on_goal 2 => clear_value t1; on_goal 1 => unfold t1; try dsimp only)
      | (refine_lift have h1 : State.Ok que t1.1 := ?_; ?_; on_goal 2 => clear_value t1; on_goal 1 => unfold t1; try dsimp only)
      | clear_value t1)
    | dsimp only)

theorem twinLinkDown_ok {que : List Instr} {s : State} (hok : State.Ok que s) :
    State.Ok que (State.twinLinkDown s) := by
  unfold State.twinLinkDown
  repeat' (with_reducible first | assumption | intro _ | apply linkFalls_ok | apply settleQueue_ok | apply ok_ite | apply put_ok | split)

theorem loanExpiry_ok {que : List Instr} {s : State} (hok : State.Ok que s) :
    State.Ok que (State.loanExpiry s) := by
  unfold State.loanExpiry
  repeat' (with_reducible first | assumption | intro _ | apply releaseLoan_ok | apply ok_ite | apply put_ok | split)

theorem bookingEgress_ok {que : List Instr} {s : State} (hok : State.Ok que s) (old : State) :
    State.Ok que (State.bookingEgress s old) := by
  unfold State.bookingEgress
  repeat' (first
    | (with_reducible first | assumption | intro _ | apply egressDue_ok | apply ok_ite | apply put_ok | split | apply_assumption)
    | (extract_lets +onlyGivenNames t1; first
      | (refine_lift have h1 : State.Ok que t1 := ?_; ?_; on_goal 2 => clear_value t1; on_goal 1 => unfold t1; try dsimp only)
      | (refine_lift have h1 : State.Ok que t1.1 := ?_; ?_; on_goal 2 => clear_value t1; on_goal 1 => unfold t1; try dsimp only)
      | (refine_lift have h1 : ∀ u, State.Ok que u → State.Ok que (t1 u) := ?_; ?_; on_goal 2 => clear_value t1; on_goal 1 => unfold t1; try dsimp only)
      | (refine_lift have h1 : ∀ u a, State.Ok que u → State.Ok que (t1 u a) := ?_; ?_; on_goal 2 => clear_value t1; on_goal 1 => unfold t1; try dsimp only)
      | (refine_lift have h1 : ∀ u a b, State.Ok que u → State.Ok que (t1 u a b) := ?_; ?_; on_goal 2 => clear_value t1; on_goal 1 => unfold t1; try dsimp only)
      | (refine_lift have h1 : ∀ u a b c, State.Ok que u → State.Ok que (t1 u a b c) := ?_; ?_; on_goal 2 => clear_value t1; on_goal 1 => unfold t1; try dsimp only)
      | clear_value t1)
    | dsimp only)

/-! ### Writes -/

theorem withItems_ok {que : List Instr} {s : State} (hok : State.Ok que s) (l : List (Key × Int)) :
    State.Ok que (State.withItems s l) := by
  unfold State.withItems
  repeat' (with_reducible first | assumption | intro _ | apply ok_ite | apply put_ok | apply each_ok | split)

theorem commitStart_ok {que : List Instr} {s : State} (hok : State.Ok que s) :
    State.Ok que (State.commitStart s) := by
  unfold State.commitStart
  repeat' (first
    | (with_reducible first | assumption | intro _ | apply ok_ite | apply put_ok | split | apply mk_ok | apply_assumption)
    | (extract_lets +onlyGivenNames t1; first
      | (refine_lift have h1 : State.Ok que t1 := ?_; ?_; on_goal 2 => clear_value t1; on_goal 1 => unfold t1; try dsimp only)
      | (refine_lift have h1 : State.Ok que t1.1 := ?_; ?_; on_goal 2 => clear_value t1; on_goal 1 => unfold t1; try dsimp only)
      | clear_value t1)
    | dsimp only)

theorem bookingActivity_ok {que : List Instr} {s : State} (hok : State.Ok que s) (b : Nat) :
    State.Ok que (State.bookingActivity s b) := by
  unfold State.bookingActivity
  repeat' (first
    | (with_reducible first | assumption | intro _ | apply sdiDrop_ok | apply macFalls_ok | apply restartIsland_ok | apply settleQueue_ok | apply refreshTarget_ok | apply refreshInject_ok | apply laneEnter_ok | apply macTrain_ok | apply ok_ite | apply put_ok | apply each_ok | split | apply_assumption)
    | (extract_lets +onlyGivenNames t1; first
      | (refine_lift have h1 : State.Ok que t1 := ?_; ?_; on_goal 2 => clear_value t1; on_goal 1 => unfold t1; try dsimp only)
      | (refine_lift have h1 : State.Ok que t1.1 := ?_; ?_; on_goal 2 => clear_value t1; on_goal 1 => unfold t1; try dsimp only)
      | clear_value t1)
    | dsimp only)

theorem startBooking_ok {que : List Instr} {s : State} (hok : State.Ok que s) (b : Nat) :
    State.Ok que (State.startBooking s b) := by
  unfold State.startBooking
  repeat' (with_reducible first | assumption | intro _ | apply bookingActivity_ok | apply ok_ite | apply put_ok | split)

theorem bookingCommand_ok {que : List Instr} {s : State} (hok : State.Ok que s) (f : State → State) (hf : ∀ t, State.Ok que t → State.Ok que (f t)) :
    State.Ok que (State.bookingCommand s f) := by
  unfold State.bookingCommand
  repeat' (first
    | (with_reducible first | assumption | intro _ | apply hf | apply refreshInject_ok | apply gateIslands_ok | apply gateFollow_ok | apply bookingEgress_ok | apply ok_ite | apply put_ok | split | apply_assumption)
    | (extract_lets +onlyGivenNames t1; first
      | (refine_lift have h1 : State.Ok que t1 := ?_; ?_; on_goal 2 => clear_value t1; on_goal 1 => unfold t1; try dsimp only)
      | (refine_lift have h1 : State.Ok que t1.1 := ?_; ?_; on_goal 2 => clear_value t1; on_goal 1 => unfold t1; try dsimp only)
      | clear_value t1)
    | dsimp only)

theorem force_ok {que : List Instr} {s : State} (hok : State.Ok que s) (n : Nat) :
    State.Ok que (State.force s n) := by
  unfold State.force
  repeat' (with_reducible first | assumption | intro _ | apply raiseAs_ok | apply ok_ite | apply put_ok | split)

theorem closeUser_ok {que : List Instr} {s : State} (hok : State.Ok que s) (user : Nat) :
    State.Ok que (State.closeUser s user) := by
  unfold State.closeUser
  repeat' (with_reducible first | assumption | intro _ | apply closeSub_ok | apply ok_ite | apply put_ok | apply each_ok | split)

theorem bundleWrite_ok {que : List Instr} {s : State} (hok : State.Ok que s) (i : Nat) (sub : Nat) (v : Int) :
    State.Ok que (State.bundleWrite s i sub v) := by
  unfold State.bundleWrite
  repeat' (first
    | (with_reducible first | assumption | intro _ | apply openSub_ok | apply refreshBundle_ok | apply bundleEnable_ok | apply closeUser_ok | apply ok_ite | apply put_ok | split | apply_assumption)
    | (extract_lets +onlyGivenNames t1; first
      | (refine_lift have h1 : State.Ok que t1 := ?_; ?_; on_goal 2 => clear_value t1; on_goal 1 => unfold t1; try dsimp only)
      | (refine_lift have h1 : State.Ok que t1.1 := ?_; ?_; on_goal 2 => clear_value t1; on_goal 1 => unfold t1; try dsimp only)
      | clear_value t1)
    | dsimp only)

theorem applyItem_ok {que : List Instr} {s : State} (hok : State.Ok que s) (force : Bool) (k : Key) (v : Int) :
    State.Ok que (State.applyItem s force k v) := by
  unfold State.applyItem
  repeat' (first
    | (with_reducible first | assumption | intro _ | apply releaseLoan_ok | apply driveAlert_ok | apply submit_ok | apply refreshInject_ok | apply cancelBooking_ok | apply marginJudge_ok | apply stepWrite_ok | apply setIncrement_ok | apply ownerWrite_ok | apply refPresence_ok | apply fpulseWrite_ok | apply rateModeApply_ok | apply groupApply_ok | apply laneEnable_ok | apply portApply_ok | apply refreshAdmitted_ok | apply syncSettle_ok | apply refreshAdmission_ok | apply clipCapture_ok | apply clipDelete_ok | apply compileStart_ok | apply aesRxWrite_ok | apply injectFlush_ok | apply keyWrite_ok | apply bootIdle_ok | apply confirmWrite_ok | apply rejectWrite_ok | apply cancelGroup_ok | apply cancelAll_ok | apply afterStep_ok | apply gpiPolarity_ok | apply gpoWrite_ok | apply commitStart_ok | apply bookingCommand_ok | apply force_ok | apply bundleWrite_ok | apply ok_ite | apply put_ok | apply each_ok | split | apply_assumption)
    | (extract_lets +onlyGivenNames t1; first
      | (refine_lift have h1 : State.Ok que t1 := ?_; ?_; on_goal 2 => clear_value t1; on_goal 1 => unfold t1; try dsimp only)
      | (refine_lift have h1 : State.Ok que t1.1 := ?_; ?_; on_goal 2 => clear_value t1; on_goal 1 => unfold t1; try dsimp only)
      | clear_value t1)
    | dsimp only)

theorem applyValues_ok {que : List Instr} {s : State} (hok : State.Ok que s) (l : List (Key × Int)) :
    State.Ok que (State.applyValues s l) := by
  unfold State.applyValues
  repeat' (first
    | (with_reducible first | assumption | intro _ | apply refreshGroups_ok | apply flowWritten_ok | apply refreshAdmission_ok | apply applyItem_ok | apply ok_ite | apply put_ok | apply each_ok | split | apply_assumption)
    | (extract_lets +onlyGivenNames t1; first
      | (refine_lift have h1 : State.Ok que t1 := ?_; ?_; on_goal 2 => clear_value t1; on_goal 1 => unfold t1; try dsimp only)
      | (refine_lift have h1 : State.Ok que t1.1 := ?_; ?_; on_goal 2 => clear_value t1; on_goal 1 => unfold t1; try dsimp only)
      | clear_value t1)
    | dsimp only)

theorem writeApply_ok {que : List Instr} {s : State} (hok : State.Ok que s) (mirrored : Bool) (items : List Item) :
    State.Ok que (State.writeApply s mirrored items) := by
  unfold State.writeApply
  repeat' (with_reducible first | assumption | intro _ | apply applyValues_ok | apply ok_ite | apply put_ok | split)

theorem writeRefused_ok {que : List Instr} {s : State} (hok : State.Ok que s) (items : List Item) (sts : List Status) :
    State.Ok que (State.writeRefused s items sts) := by
  unfold State.writeRefused
  repeat' (first
    | (with_reducible first | assumption | intro _ | apply bump_ok | apply refuseStep_ok | apply withItems_ok | apply ok_ite | apply put_ok | apply each_ok | split | apply mk_ok | apply_assumption)
    | (extract_lets +onlyGivenNames t1; first
      | (refine_lift have h1 : State.Ok que t1 := ?_; ?_; on_goal 2 => clear_value t1; on_goal 1 => unfold t1; try dsimp only)
      | (refine_lift have h1 : State.Ok que t1.1 := ?_; ?_; on_goal 2 => clear_value t1; on_goal 1 => unfold t1; try dsimp only)
      | clear_value t1)
    | dsimp only)

theorem cancelApply_ok {que : List Instr} {s : State} (hok : State.Ok que s) (mirrored : Bool) (slips : List Nat) :
    State.Ok que (State.cancelApply s mirrored slips) := by
  unfold State.cancelApply
  repeat' (with_reducible first | assumption | intro _ | apply cancelSlip_ok | apply ok_ite | apply put_ok | apply each_ok | split)

/-! ### Views -/

theorem afterRead_ok {que : List Instr} {s : State} (hok : State.Ok que s) (k : Key) :
    State.Ok que (State.afterRead s k) := by
  unfold State.afterRead
  repeat' (first
    | (with_reducible first | assumption | intro _ | apply drawn_ok | apply ok_ite | apply put_ok | split | apply_assumption)
    | (extract_lets +onlyGivenNames t1; first
      | (refine_lift have h1 : State.Ok que t1 := ?_; ?_; on_goal 2 => clear_value t1; on_goal 1 => unfold t1; try dsimp only)
      | (refine_lift have h1 : State.Ok que t1.1 := ?_; ?_; on_goal 2 => clear_value t1; on_goal 1 => unfold t1; try dsimp only)
      | clear_value t1)
    | dsimp only)

theorem readOne_ok {que : List Instr} {s : State} (hok : State.Ok que s) (addr : Nat) :
    State.Ok que (State.readOne s addr).1 := by
  unfold State.readOne
  repeat' (first
    | (with_reducible first | assumption | intro _ | apply afterRead_ok | apply ok_ite | apply put_ok | split | apply mk_ok | apply_assumption)
    | (extract_lets +onlyGivenNames t1; first
      | (refine_lift have h1 : State.Ok que t1 := ?_; ?_; on_goal 2 => clear_value t1; on_goal 1 => unfold t1; try dsimp only)
      | (refine_lift have h1 : State.Ok que t1.1 := ?_; ?_; on_goal 2 => clear_value t1; on_goal 1 => unfold t1; try dsimp only)
      | clear_value t1)
    | dsimp only)

theorem readAll_ok {que : List Instr} (l : List Nat) {s : State} (hok : s.Ok que) : State.Ok que (State.readAll s l).1 := by
  induction l generalizing s with
  | nil => exact hok
  | cons n l ih => exact ih (readOne_ok hok _)

/-! ### Bringup -/

theorem enterReset_ok {que : List Instr} {s : State} (hok : s.Ok que) (h : Held) : State.Ok que (s.enterReset h) := by
  unfold State.enterReset
  extract_lets +onlyGivenNames t kept kept2
  have ht : State.Ok que t := each_ok (when_ok hok _ _ (fun t ht => put_ok ht _ _)) _ _ (fun t n ht => txIdle_ok ht n)
  have hk : storeWf kept2 = true := storeWf_keep _ _ (storeWf_keep _ _ (put_ok ht Reg.ALMANAC_POWERED (s.powered : Nat)).2.1)
  exact ⟨hok.1, hk, List.Pairwise.nil, Nat.zero_le _, hok.2.2.2.2⟩

theorem porstAssert_ok {que : List Instr} {s : State} (hok : State.Ok que s) :
    State.Ok que (State.porstAssert s) := by
  unfold State.porstAssert
  repeat' (with_reducible first | assumption | intro _ | apply enterReset_ok | apply ok_ite | apply put_ok | split | apply mk_ok)

theorem railBrownout_ok {que : List Instr} {s : State} (hok : State.Ok que s) (rail : Nat) :
    State.Ok que (State.railBrownout s rail) := by
  unfold State.railBrownout
  repeat' (with_reducible first | assumption | intro _ | apply enterReset_ok | apply ok_ite | apply put_ok | split | apply mk_ok)

theorem release_ok {que : List Instr} {s : State} (hok : State.Ok que s) (x : Straps) :
    State.Ok que (State.release s x) := by
  unfold State.release
  repeat' (first
    | (with_reducible first | assumption | intro _ | apply raise_ok | apply refRanks_ok | apply refreshMac_ok | apply refreshEgress_ok | apply refreshAdmission_ok | apply gpoDrive_ok | apply ok_ite | apply put_ok | apply each_ok | split | apply mk_ok | apply_assumption)
    | (extract_lets +onlyGivenNames t1; first
      | (refine_lift have h1 : State.Ok que t1 := ?_; ?_; on_goal 2 => clear_value t1; on_goal 1 => unfold t1; try dsimp only)
      | (refine_lift have h1 : State.Ok que t1.1 := ?_; ?_; on_goal 2 => clear_value t1; on_goal 1 => unfold t1; try dsimp only)
      | clear_value t1)
    | dsimp only)

theorem porstRelease_ok {que : List Instr} {s : State} (hok : State.Ok que s) (x : Straps) :
    State.Ok que (State.porstRelease s x) := by
  unfold State.porstRelease
  repeat' (with_reducible first | assumption | intro _ | apply release_ok | apply ok_ite | apply put_ok | split)

theorem brownoutRelease_ok {que : List Instr} {s : State} (hok : State.Ok que s) (x : Straps) :
    State.Ok que (State.brownoutRelease s x) := by
  unfold State.brownoutRelease
  repeat' (with_reducible first | assumption | intro _ | apply release_ok | apply ok_ite | apply put_ok | split)

theorem wantSubs_ok {que : List Instr} {s : State} (hok : State.Ok que s) :
    State.Ok que (State.wantSubs s) := by
  unfold State.wantSubs
  repeat' (with_reducible first | assumption | intro _ | apply openSub_ok | apply ok_ite | apply put_ok | apply each_ok | split)

theorem refreshStacksBit_ok {que : List Instr} {s : State} (hok : State.Ok que s) :
    State.Ok que (State.refreshStacksBit s) := by
  unfold State.refreshStacksBit
  repeat' (first
    | (with_reducible first | assumption | intro _ | apply setReady_ok | apply ok_ite | apply put_ok | split | apply_assumption)
    | (extract_lets +onlyGivenNames t1; first
      | (refine_lift have h1 : State.Ok que t1 := ?_; ?_; on_goal 2 => clear_value t1; on_goal 1 => unfold t1; try dsimp only)
      | (refine_lift have h1 : State.Ok que t1.1 := ?_; ?_; on_goal 2 => clear_value t1; on_goal 1 => unfold t1; try dsimp only)
      | clear_value t1)
    | dsimp only)

theorem recHomes_ok {que : List Instr} {s : State} (hok : State.Ok que s) :
    State.Ok que (State.recHomes s) := by
  unfold State.recHomes
  repeat' (with_reducible first | assumption | intro _ | apply recApply_ok | apply ok_ite | apply put_ok | apply each_ok | split)

theorem afterRise_ok {que : List Instr} {s : State} (hok : State.Ok que s) (i : Nat) :
    State.Ok que (State.afterRise s i) := by
  unfold State.afterRise
  repeat' (first
    | (with_reducible first | assumption | intro _ | apply send_ok | apply driveAlert_ok | apply settleHeld_ok | apply refreshSlipBit_ok | apply fpulseIdle_ok | apply refreshFabCounts_ok | apply macsTrain_ok | apply syncSettle_ok | apply refreshAdmission_ok | apply hbmRises_ok | apply refreshCanvasStates_ok | apply refreshAesBit_ok | apply audReturn_ok | apply keysRefresh_ok | apply slipsReturn_ok | apply wantSubs_ok | apply refreshStacksBit_ok | apply recHomes_ok | apply ok_ite | apply put_ok | apply each_ok | apply when_ok | split | apply_assumption)
    | (extract_lets +onlyGivenNames t1; first
      | (refine_lift have h1 : State.Ok que t1 := ?_; ?_; on_goal 2 => clear_value t1; on_goal 1 => unfold t1; try dsimp only)
      | (refine_lift have h1 : State.Ok que t1.1 := ?_; ?_; on_goal 2 => clear_value t1; on_goal 1 => unfold t1; try dsimp only)
      | clear_value t1)
    | dsimp only)

theorem islandRises_ok {que : List Instr} {s : State} (hok : State.Ok que s) (i : Nat) :
    State.Ok que (State.islandRises s i) := by
  unfold State.islandRises
  repeat' (first
    | (with_reducible first | assumption | intro _ | apply setReady_ok | apply islandReturned_ok | apply refreshGroups_ok | apply afterRise_ok | apply ok_ite | apply put_ok | apply when_ok | split | apply_assumption)
    | (extract_lets +onlyGivenNames t1; first
      | (refine_lift have h1 : State.Ok que t1 := ?_; ?_; on_goal 2 => clear_value t1; on_goal 1 => unfold t1; try dsimp only)
      | (refine_lift have h1 : State.Ok que t1.1 := ?_; ?_; on_goal 2 => clear_value t1; on_goal 1 => unfold t1; try dsimp only)
      | clear_value t1)
    | dsimp only)

theorem ddrRises_ok {que : List Instr} {s : State} (hok : State.Ok que s) (d : Nat) (dimms : List (Nat × Nat × Nat)) :
    State.Ok que (State.ddrRises s d dimms) := by
  unfold State.ddrRises
  split
  · exact islandRises_ok hok ..
  · split
    · rename_i t e
      exact islandRises_ok (ddrTrain_ok e hok) ..
    · exact ok_ite (put_ok (put_ok hok _ _) _ _) (raise_ok (put_ok (put_ok hok _ _) _ _) ..)

theorem bitRises_ok {que : List Instr} {s : State} (hok : State.Ok que s) (b : Nat) (dimms : List (Nat × Nat × Nat)) :
    State.Ok que (State.bitRises s b dimms) := by
  unfold State.bitRises
  repeat' (with_reducible first | assumption | intro _ | apply setReady_ok | apply refreshTarget_ok | apply gpioReady_ok | apply islandRises_ok | apply ddrRises_ok | apply ok_ite | apply put_ok | split | apply mk_ok)

theorem bitLate_ok {que : List Instr} {s : State} (hok : State.Ok que s) (b : Nat) :
    State.Ok que (State.bitLate s b) := by
  unfold State.bitLate
  repeat' (first
    | (with_reducible first | assumption | intro _ | apply restartIsland_ok | apply settleQueue_ok | apply raise_ok | apply ok_ite | apply put_ok | split | apply mk_ok | apply_assumption)
    | (extract_lets +onlyGivenNames t1; first
      | (refine_lift have h1 : State.Ok que t1 := ?_; ?_; on_goal 2 => clear_value t1; on_goal 1 => unfold t1; try dsimp only)
      | (refine_lift have h1 : State.Ok que t1.1 := ?_; ?_; on_goal 2 => clear_value t1; on_goal 1 => unfold t1; try dsimp only)
      | clear_value t1)
    | dsimp only)

theorem resetReleased_ok {que : List Instr} {s : State} (hok : State.Ok que s) (i : Nat) :
    State.Ok que (State.resetReleased s i) := by
  unfold State.resetReleased
  repeat' (first
    | (with_reducible first | assumption | intro _ | apply ok_ite | apply put_ok | split | apply_assumption)
    | (extract_lets +onlyGivenNames t1; first
      | (refine_lift have h1 : State.Ok que t1 := ?_; ?_; on_goal 2 => clear_value t1; on_goal 1 => unfold t1; try dsimp only)
      | (refine_lift have h1 : State.Ok que t1.1 := ?_; ?_; on_goal 2 => clear_value t1; on_goal 1 => unfold t1; try dsimp only)
      | clear_value t1)
    | dsimp only)

theorem readyToken_ok {que : List Instr} {s : State} (hok : State.Ok que s) (src : Nat) (dst : Nat) :
    State.Ok que (State.readyToken s src dst) := by
  unfold State.readyToken
  repeat' (first
    | (with_reducible first | assumption | intro _ | apply ok_ite | apply put_ok | apply when_ok | split | apply_assumption)
    | (extract_lets +onlyGivenNames t1; first
      | (refine_lift have h1 : State.Ok que t1 := ?_; ?_; on_goal 2 => clear_value t1; on_goal 1 => unfold t1; try dsimp only)
      | (refine_lift have h1 : State.Ok que t1.1 := ?_; ?_; on_goal 2 => clear_value t1; on_goal 1 => unfold t1; try dsimp only)
      | clear_value t1)
    | dsimp only)

theorem pointerWrong_ok {que : List Instr} {s : State} (hok : State.Ok que s) (src : Nat) (dst : Nat) (units : Nat) :
    State.Ok que (State.pointerWrong s src dst units) := by
  unfold State.pointerWrong
  repeat' (with_reducible first | assumption | intro _ | apply bumpBy_ok | apply bump_ok | apply raise_ok | apply ok_ite | apply put_ok | split)

theorem crossingFull_ok {que : List Instr} {s : State} (hok : State.Ok que s) (src : Nat) (dst : Nat) :
    State.Ok que (State.crossingFull s src dst) := by
  unfold State.crossingFull
  repeat' (with_reducible first | assumption | intro _ | apply bump_ok | apply raise_ok | apply ok_ite | apply put_ok | split)

theorem restartOrder_ok {que : List Instr} {s : State} (hok : State.Ok que s) (i : Nat) (cause : Nat) :
    State.Ok que (State.restartOrder s i cause) := by
  unfold State.restartOrder
  repeat' (with_reducible first | assumption | intro _ | apply restartIsland_ok | apply settleQueue_ok | apply ok_ite | apply put_ok | split)

theorem restoreItem_ok {que : List Instr} {s : State} (hok : State.Ok que s) (p : Key × Int) :
    State.Ok que (State.restoreItem s p) := by
  unfold State.restoreItem
  repeat' (first
    | (with_reducible first | assumption | intro _ | apply setIncrement_ok | apply ownerWrite_ok | apply groupApply_ok | apply ok_ite | apply put_ok | split | apply_assumption)
    | (extract_lets +onlyGivenNames t1; first
      | (refine_lift have h1 : State.Ok que t1 := ?_; ?_; on_goal 2 => clear_value t1; on_goal 1 => unfold t1; try dsimp only)
      | (refine_lift have h1 : State.Ok que t1.1 := ?_; ?_; on_goal 2 => clear_value t1; on_goal 1 => unfold t1; try dsimp only)
      | clear_value t1)
    | dsimp only)

theorem restoreRasters_ok {que : List Instr} {s : State} (hok : State.Ok que s) :
    State.Ok que (State.restoreRasters s) := by
  unfold State.restoreRasters
  repeat' (with_reducible first | assumption | intro _ | apply boundaryWork_ok | apply ok_ite | apply put_ok | apply each_ok | split)

theorem settleRestored_ok {que : List Instr} {s : State} (hok : State.Ok que s) (old : State) :
    State.Ok que (State.settleRestored s old) := by
  unfold State.settleRestored
  repeat' (first
    | (with_reducible first | assumption | intro _ | apply driveAlert_ok | apply refreshTarget_ok | apply refreshInject_ok | apply refreshMac_ok | apply refreshEgress_ok | apply refreshGroups_ok | apply flowWritten_ok | apply refreshAdmitted_ok | apply flowApply_ok | apply syncSettle_ok | apply refreshAdmission_ok | apply recApply_ok | apply headApply_ok | apply refreshCanvases_ok | apply openStores_ok | apply refreshSide_ok | apply refreshBundle_ok | apply gateFollow_ok | apply obeyMode_ok | apply wantSubs_ok | apply restoreRasters_ok | apply ok_ite | apply put_ok | apply each_ok | split | apply_assumption)
    | (extract_lets +onlyGivenNames t1; first
      | (refine_lift have h1 : State.Ok que t1 := ?_; ?_; on_goal 2 => clear_value t1; on_goal 1 => unfold t1; try dsimp only)
      | (refine_lift have h1 : State.Ok que t1.1 := ?_; ?_; on_goal 2 => clear_value t1; on_goal 1 => unfold t1; try dsimp only)
      | clear_value t1)
    | dsimp only)

theorem restoreKeep_ok {que : List Instr} {s : State} (hok : State.Ok que s) (l : Store) :
    State.Ok que (State.restoreKeep s l) := by
  unfold State.restoreKeep
  repeat' (first
    | (with_reducible first | assumption | intro _ | apply ok_ite | apply put_ok | apply each_ok | split | apply_assumption)
    | (extract_lets +onlyGivenNames t1; first
      | (refine_lift have h1 : State.Ok que t1 := ?_; ?_; on_goal 2 => clear_value t1; on_goal 1 => unfold t1; try dsimp only)
      | (refine_lift have h1 : State.Ok que t1.1 := ?_; ?_; on_goal 2 => clear_value t1; on_goal 1 => unfold t1; try dsimp only)
      | clear_value t1)
    | dsimp only)

theorem standingRestore_ok {que : List Instr} {s : State} (hok : State.Ok que s) (bad : Nat) :
    State.Ok que (State.standingRestore s bad) := by
  unfold State.standingRestore
  repeat' (first
    | (with_reducible first | assumption | intro _ | apply setReady_ok | apply raise_ok | apply restoreItem_ok | apply settleRestored_ok | apply restoreKeep_ok | apply ok_ite | apply put_ok | apply each_ok | apply when_ok | split | apply_assumption)
    | (extract_lets +onlyGivenNames t1; first
      | (refine_lift have h1 : State.Ok que t1 := ?_; ?_; on_goal 2 => clear_value t1; on_goal 1 => unfold t1; try dsimp only)
      | (refine_lift have h1 : State.Ok que t1.1 := ?_; ?_; on_goal 2 => clear_value t1; on_goal 1 => unfold t1; try dsimp only)
      | clear_value t1)
    | dsimp only)

theorem commitComplete_ok {que : List Instr} {s : State} (hok : State.Ok que s) (ok : Bool) :
    State.Ok que (State.commitComplete s ok) := by
  unfold State.commitComplete
  repeat' (first
    | (with_reducible first | assumption | intro _ | apply drawn_ok | apply ok_ite | apply put_ok | split | apply mk_ok | apply_assumption)
    | (extract_lets +onlyGivenNames t1; first
      | (refine_lift have h1 : State.Ok que t1 := ?_; ?_; on_goal 2 => clear_value t1; on_goal 1 => unfold t1; try dsimp only)
      | (refine_lift have h1 : State.Ok que t1.1 := ?_; ?_; on_goal 2 => clear_value t1; on_goal 1 => unfold t1; try dsimp only)
      | clear_value t1)
    | dsimp only)

theorem rasterAtTime_ok {que : List Instr} {s : State} (hok : State.Ok que s) (r : Nat) :
    State.Ok que (State.rasterAtTime s r) := by
  unfold State.rasterAtTime
  repeat' (with_reducible first | assumption | intro _ | apply boundaryWork_ok | apply ok_ite | apply put_ok | split)

end Sys2Proof.Machine
end

