-- ==== Sys2Proof/Laws/Spared.lean ====
section
/-! SUPPORT. What the operations of the fault collector and of island restarts can write: every other register stays as it was. The
list is the write set of Machine/Islands.lean. -/
namespace Sys2Proof.Machine

/-- The objects that a raising, a restart of an island or a recovery can write, by index and sub-index. -/
def raiseWrites (k : Key) : Bool :=
  [(0x1102, 4), (0x1200, 0), (0x1201, 1), (0x1201, 2), (0x1201, 3), (0x1210, 3), (0x1210, 4), (0x1210, 5), (0x1210,
    6), (0x1210, 9), (0x1300, 1), (0x1310, 0), (0x1320, 1), (0x1400, 2), (0x1400, 11), (0x1500, 2), (0x3100, 10),
    (0x4010, 2), (0x4100, 34), (0x4300, 14), (0x4300, 16), (0x5050, 6), (0x5050, 11), (0x5300, 1), (0x5400, 2),
    (0x6000, 2), (0x6400, 1), (0x6400, 2), (0x6400, 7), (0x7000, 7), (0x8000, 3), (0x8100, 5), (0x9100, 7), (0xA000,
    6), (0xA000, 7), (0xA000, 8), (0xA000, 9), (0xA000, 10), (0xA000, 11), (0xA100, 3), (0xA100, 4), (0xA300, 3),
    (0xA300, 4), (0xA400, 1), (0xA400, 2), (0xA400, 3), (0xA400, 4), (0xA400, 5), (0xA410, 2), (0x10000, 0), (0x10002,
    0), (0x10003, 0), (0x10004, 0), (0x10005, 0), (0x10006, 0), (0x10008, 0), (0x1000C, 0), (0x1000D, 0), (0x10018,
    0), (0x10019, 0), (0x1001A, 0), (0x1001F, 0), (0x10021, 0), (0x10022, 0), (0x10027, 0), (0x10029, 0), (0x1002B,
    0), (0x10054, 0), (0x10059, 0), (0x1005B, 0), (0x1005C, 0), (0x10062, 0), (0x10065, 0), (0x1006E, 0), (0x10073,
    0), (0x10079, 0), (0x1007C, 0), (0x10094, 0), (0x100AE, 0), (0x100B3, 0), (0x100B5, 0), (0x100C0, 0), (0x100DF,
    0), (0x100E0, 0), (0x100F0, 0)].contains (k.idx, k.sub)

/-- Every register outside that list holds the same value in both states. -/
def State.Spared (base s : State) : Prop := ∀ k, raiseWrites k = false → s.get k = base.get k

theorem refl_spared (base : State) : base.Spared base := fun _ _ => rfl

theorem put_spared {base s : State} (hok : base.Spared s) (k : Key) (v : Int) (hk : raiseWrites k = true) : base.Spared (s.put k v) := by
  intro l hl
  have : k ≠ l := by
    intro e
    rw [e, hl] at hk
    cases hk
  rw [State.get_put_ne s v this]
  exact hok l hl

theorem bumpBy_spared {base s : State} (hok : base.Spared s) (k : Key) (n : Int) (hk : raiseWrites k = true) :
    base.Spared (s.bumpBy k n) := put_spared hok k _ hk

theorem bump_spared {base s : State} (hok : base.Spared s) (k : Key) (hk : raiseWrites k = true) : base.Spared (s.bump k) :=
  put_spared hok k _ hk

theorem same_spared {base s t : State} (hok : base.Spared s) (hr : t.regs = s.regs) : base.Spared t := by
  intro k hk
  have : t.get k = s.get k := by simp [State.get, hr]
  rw [this]
  exact hok k hk

theorem ite_spared {base : State} {c : Prop} [Decidable c] {a b : State} (ha : base.Spared a) (hb : base.Spared b) :
    base.Spared (if c then a else b) := by split <;> assumption

theorem each_spared {base s : State} {α : Type} (hok : base.Spared s) (l : List α) (f : State → α → State)
    (hf : ∀ t a, base.Spared t → base.Spared (f t a)) : base.Spared (s.each l f) := State.each_induct (State.Spared base) l f s hok hf

theorem when_spared {base s : State} (hok : base.Spared s) (b : Bool) (f : State → State)
    (hf : ∀ t, base.Spared t → base.Spared (f t)) : base.Spared (s.when b f) := by
  unfold State.when; split
  · exact hf s hok
  · exact hok

theorem mk_spared {base s : State} (hok : base.Spared s) (x2 : List Emit) (x3 : Nat) (x4 : Held) (x5 : Nat) (x6 : Nat)
    (x7 : List (Nat × Nat)) (x8 : Option Session) (x9 : Option OldSession) (x10 : Option (Nat × Int)) (x11 : List (Nat
    × Nat)) (x12 : List (Nat × Nat)) (x13 : List MirrorWait) (x14 : List Slip) (x15 : List LogEntry) (x16 : List Nat)
    (x17 : List (Nat × Int)) (x18 : List HeldRaise) (x19 : List CommitRec) (x20 : Option Store) (x21 : Option
    HealthMsg) (x22 : List (Key × Int)) (x23 : List AlmRec) (x24 : List AlmRec) (x25 : List (List Int)) (x26 : List
    Int) (x27 : List (Option Int)) (x28 : List (Nat × Int)) (x29 : List (Nat × Int)) (x30 : List (Nat × SdiLink)) (x31
    : List (Nat × Int × List AncPkt)) (x32 : List Cut) (x33 : List (Nat × List Int)) (x34 : List Promo) (x35 : List
    (Nat × Nat × Nat × Int)) (x36 : List (OfferRec × Int)) (x37 : List OfferRec) (x38 : List FabSub) (x39 : List
    Pattern) (x40 : List (Bool × Resv)) (x41 : List FlowBuf) (x42 : List SkewKey) (x43 : List FlowTail) (x44 : List
    (Nat × Bool × Nat × Option Nat)) (x45 : List Nat) (x46 : List TxFrame) (x47 : List LayerStore) (x48 : List
    Recording) (x49 : List Recording) (x50 : List MemErr) (x51 : List (Nat × Nat × Nat)) (x52 : Prog) (x53 : Prog)
    (x54 : Option Prog) (x55 : List PathSt) (x56 : List LimSt) (x57 : List SlotFade) (x58 : Option AudFade) (x59 :
    List (Nat × Int)) (x60 : List Nat) (x61 : List InjHeld) (x62 : Option SvcSession) (x63 : Option SvcResp) (x64 :
    List FlashImage) (x65 : List Slip) :
    State.Spared base (State.mk s.pending s.regs x2 x3 x4 x5 x6 x7 x8 x9 x10 x11 x12 x13 x14 x15 x16 x17 x18 x19 x20
    x21 x22 x23 x24 x25 x26 x27 x28 x29 x30 x31 x32 x33 x34 x35 x36 x37 x38 x39 x40 x41 x42 x43 x44 x45 x46 x47 x48
    x49 x50 x51 x52 x53 x54 x55 x56 x57 x58 x59 x60 x61 x62 x63 x64 x65) := same_spared hok rfl

theorem send_spared {base : State} {s : State} (hok : State.Spared base s) (e : Emit) :
    State.Spared base (State.send s e) := by
  unfold State.send
  repeat' (with_reducible first | assumption | (with_unfolding_all exact rfl) | intro _ | apply ite_spared | apply put_spared | split | apply mk_spared)

theorem drawn_spared {base : State} {s : State} (hok : State.Spared base s) :
    State.Spared base (State.drawn s) := by
  unfold State.drawn
  repeat' (with_reducible first | assumption | (with_unfolding_all exact rfl) | intro _ | apply ite_spared | apply put_spared | split | apply mk_spared)

theorem setSlip_spared {base : State} {s : State} (hok : base.Spared s) (x : Slip) : State.Spared base (s.setSlip x) :=
  same_spared hok rfl

theorem rearm_spared {base : State} {s : State} (hok : State.Spared base s) (n : Nat) (items : List (Key × Int)) :
    State.Spared base (State.rearm s n items) := by
  unfold State.rearm
  repeat' (first
    | (with_reducible first | assumption | (with_unfolding_all exact rfl) | intro _ | apply setSlip_spared | apply ite_spared | apply put_spared | split | apply mk_spared | apply_assumption)
    | (extract_lets +onlyGivenNames t1; first
      | (refine_lift have h1 : State.Spared base t1 := ?_; ?_; on_goal 2 => clear_value t1; on_goal 1 => unfold t1; try dsimp only)
      | (refine_lift have h1 : State.Spared base t1.1 := ?_; ?_; on_goal 2 => clear_value t1; on_goal 1 => unfold t1; try dsimp only)
      | clear_value t1)
    | dsimp only)

theorem failRecord_spared {base : State} {s : State} (hok : State.Spared base s) (n : Nat) (st : Status) (cause : Nat) :
    State.Spared base (State.failRecord s n st cause) := by
  unfold State.failRecord
  repeat' (with_reducible first | assumption | (with_unfolding_all exact rfl) | intro _ | apply bump_spared | apply setSlip_spared | apply ite_spared | apply put_spared | apply when_spared | split | apply mk_spared)

theorem probTouch_spared {base : State} {s : State} (hok : State.Spared base s) :
    State.Spared base (State.probTouch s) := by
  unfold State.probTouch
  repeat' (with_reducible first | assumption | (with_unfolding_all exact rfl) | intro _ | apply ite_spared | apply put_spared | split)

theorem setReady_spared {base : State} {s : State} (hok : State.Spared base s) (b : Nat) (v : Bool) :
    State.Spared base (State.setReady s b v) := by
  unfold State.setReady
  repeat' (with_reducible first | assumption | (with_unfolding_all exact rfl) | intro _ | apply bump_spared | apply probTouch_spared | apply ite_spared | apply put_spared | split)

theorem dropReady_spared {base : State} {s : State} (hok : State.Spared base s) (b : Nat) :
    State.Spared base (State.dropReady s b) := by
  unfold State.dropReady
  repeat' (with_reducible first | assumption | (with_unfolding_all exact rfl) | intro _ | apply setReady_spared | apply ite_spared | apply put_spared | apply each_spared | split)

theorem releaseLoan_spared {base : State} {s : State} (hok : State.Spared base s) :
    State.Spared base (State.releaseLoan s) := by
  unfold State.releaseLoan
  repeat' (first
    | (with_reducible first | assumption | (with_unfolding_all exact rfl) | intro _ | apply ite_spared | apply put_spared | split | apply mk_spared | apply_assumption)
    | (extract_lets +onlyGivenNames t1; first
      | (refine_lift have h1 : State.Spared base t1 := ?_; ?_; on_goal 2 => clear_value t1; on_goal 1 => unfold t1; try dsimp only)
      | (refine_lift have h1 : State.Spared base t1.1 := ?_; ?_; on_goal 2 => clear_value t1; on_goal 1 => unfold t1; try dsimp only)
      | clear_value t1)
    | dsimp only)

theorem closeSession_spared {base : State} {s : State} (hok : State.Spared base s) :
    State.Spared base (State.closeSession s) := by
  unfold State.closeSession
  repeat' (with_reducible first | assumption | (with_unfolding_all exact rfl) | intro _ | apply ite_spared | apply put_spared | split | apply mk_spared)

theorem sdiDecide_spared {base : State} {s : State} (hok : State.Spared base s) (n : Nat) (st : Nat) :
    State.Spared base (State.sdiDecide s n st) := by
  unfold State.sdiDecide
  repeat' (first
    | (with_reducible first | assumption | (with_unfolding_all exact rfl) | intro _ | apply ite_spared | apply put_spared | apply when_spared | split | apply_assumption)
    | (extract_lets +onlyGivenNames t1; first
      | (refine_lift have h1 : State.Spared base t1 := ?_; ?_; on_goal 2 => clear_value t1; on_goal 1 => unfold t1; try dsimp only)
      | (refine_lift have h1 : State.Spared base t1.1 := ?_; ?_; on_goal 2 => clear_value t1; on_goal 1 => unfold t1; try dsimp only)
      | clear_value t1)
    | dsimp only)

theorem sdiDrop_spared {base : State} {s : State} (hok : State.Spared base s) (n : Nat) :
    State.Spared base (State.sdiDrop s n) := by
  unfold State.sdiDrop
  repeat' (with_reducible first | assumption | (with_unfolding_all exact rfl) | intro _ | apply sdiDecide_spared | apply ite_spared | apply put_spared | apply when_spared | split)

theorem startQuiet_spared {base : State} {s : State} (hok : State.Spared base s) (n : Nat) :
    State.Spared base (State.startQuiet s n) := by
  unfold State.startQuiet
  repeat' (first
    | (with_reducible first | assumption | (with_unfolding_all exact rfl) | intro _ | apply ite_spared | apply put_spared | split | apply_assumption)
    | (extract_lets +onlyGivenNames t1; first
      | (refine_lift have h1 : State.Spared base t1 := ?_; ?_; on_goal 2 => clear_value t1; on_goal 1 => unfold t1; try dsimp only)
      | (refine_lift have h1 : State.Spared base t1.1 := ?_; ?_; on_goal 2 => clear_value t1; on_goal 1 => unfold t1; try dsimp only)
      | clear_value t1)
    | dsimp only)

theorem endCond_spared {base : State} {s : State} (hok : State.Spared base s) (n : Nat) :
    State.Spared base (State.endCond s n) := by
  unfold State.endCond
  repeat' (first
    | (with_reducible first | assumption | (with_unfolding_all exact rfl) | intro _ | apply startQuiet_spared | apply ite_spared | apply put_spared | split | apply mk_spared | apply_assumption)
    | (extract_lets +onlyGivenNames t1; first
      | (refine_lift have h1 : State.Spared base t1 := ?_; ?_; on_goal 2 => clear_value t1; on_goal 1 => unfold t1; try dsimp only)
      | (refine_lift have h1 : State.Spared base t1.1 := ?_; ?_; on_goal 2 => clear_value t1; on_goal 1 => unfold t1; try dsimp only)
      | clear_value t1)
    | dsimp only)

theorem queueRaise_spared {base : State} {s : State} (hok : State.Spared base s) (n : Nat) (cause : Nat) (context : Nat) (cond : Bool) :
    State.Spared base (State.queueRaise s n cause context cond) := by
  unfold State.queueRaise
  repeat' (with_reducible first | assumption | (with_unfolding_all exact rfl) | intro _ | apply ite_spared | apply put_spared | split | apply mk_spared)

theorem failLaunched_spared {base : State} {s : State} (hok : State.Spared base s) (i : Nat) :
    State.Spared base (State.failLaunched s i) := by
  unfold State.failLaunched
  repeat' (first
    | (with_reducible first | assumption | (with_unfolding_all exact rfl) | intro _ | apply rearm_spared | apply failRecord_spared | apply queueRaise_spared | apply ite_spared | apply put_spared | apply each_spared | split | apply_assumption)
    | (extract_lets +onlyGivenNames t1; first
      | (refine_lift have h1 : State.Spared base t1 := ?_; ?_; on_goal 2 => clear_value t1; on_goal 1 => unfold t1; try dsimp only)
      | (refine_lift have h1 : State.Spared base t1.1 := ?_; ?_; on_goal 2 => clear_value t1; on_goal 1 => unfold t1; try dsimp only)
      | clear_value t1)
    | dsimp only)

theorem egressDue_spared {base : State} {s : State} (hok : State.Spared base s) :
    State.Spared base (State.egressDue s) := by
  unfold State.egressDue
  repeat' (with_reducible first | assumption | (with_unfolding_all exact rfl) | intro _ | apply ite_spared | apply put_spared | split)

theorem setPairing_spared {base : State} {s : State} (hok : State.Spared base s) (v : Int) :
    State.Spared base (State.setPairing s v) := by
  unfold State.setPairing
  repeat' (first
    | (with_reducible first | assumption | (with_unfolding_all exact rfl) | intro _ | apply egressDue_spared | apply ite_spared | apply put_spared | apply each_spared | apply when_spared | split | apply_assumption)
    | (extract_lets +onlyGivenNames t1; first
      | (refine_lift have h1 : State.Spared base t1 := ?_; ?_; on_goal 2 => clear_value t1; on_goal 1 => unfold t1; try dsimp only)
      | (refine_lift have h1 : State.Spared base t1.1 := ?_; ?_; on_goal 2 => clear_value t1; on_goal 1 => unfold t1; try dsimp only)
      | clear_value t1)
    | dsimp only)

theorem linkFalls_spared {base : State} {s : State} (hok : State.Spared base s) :
    State.Spared base (State.linkFalls s) := by
  unfold State.linkFalls
  repeat' (first
    | (with_reducible first | assumption | (with_unfolding_all exact rfl) | intro _ | apply bump_spared | apply endCond_spared | apply queueRaise_spared | apply setPairing_spared | apply ite_spared | apply put_spared | split | apply mk_spared | apply_assumption)
    | (extract_lets +onlyGivenNames t1; first
      | (refine_lift have h1 : State.Spared base t1 := ?_; ?_; on_goal 2 => clear_value t1; on_goal 1 => unfold t1; try dsimp only)
      | (refine_lift have h1 : State.Spared base t1.1 := ?_; ?_; on_goal 2 => clear_value t1; on_goal 1 => unfold t1; try dsimp only)
      | clear_value t1)
    | dsimp only)

theorem macFalls_spared {base : State} {s : State} (hok : State.Spared base s) (m : Nat) :
    State.Spared base (State.macFalls s m) := by
  unfold State.macFalls
  repeat' (first
    | (with_reducible first | assumption | (with_unfolding_all exact rfl) | intro _ | apply bumpBy_spared | apply bump_spared | apply queueRaise_spared | apply ite_spared | apply put_spared | split | apply mk_spared | apply_assumption)
    | (extract_lets +onlyGivenNames t1; first
      | (refine_lift have h1 : State.Spared base t1 := ?_; ?_; on_goal 2 => clear_value t1; on_goal 1 => unfold t1; try dsimp only)
      | (refine_lift have h1 : State.Spared base t1.1 := ?_; ?_; on_goal 2 => clear_value t1; on_goal 1 => unfold t1; try dsimp only)
      | clear_value t1)
    | dsimp only)

theorem txIdle_spared {base : State} {s : State} (hok : State.Spared base s) (n : Nat) :
    State.Spared base (State.txIdle s n) := by
  unfold State.txIdle
  repeat' (with_reducible first | assumption | (with_unfolding_all exact rfl) | intro _ | apply send_spared | apply ite_spared | apply put_spared | split)

theorem flowsLost_spared {base : State} {s : State} (hok : State.Spared base s) :
    State.Spared base (State.flowsLost s) := by
  unfold State.flowsLost
  repeat' (with_reducible first | assumption | (with_unfolding_all exact rfl) | intro _ | apply ite_spared | apply put_spared | apply each_spared | apply when_spared | split | apply mk_spared)

theorem logLost_spared {base : State} {s : State} (hok : base.Spared s) (other : Nat) : State.Spared base (s.logLost other) := by
  unfold State.logLost
  split
  · exact hok
  · exact same_spared hok rfl

theorem keepLoses_spared {base : State} {s : State} (hok : State.Spared base s) :
    State.Spared base (State.keepLoses s) := by
  unfold State.keepLoses
  repeat' (first
    | (with_reducible first | assumption | (with_unfolding_all exact rfl) | intro _ | apply releaseLoan_spared | apply closeSession_spared | apply ite_spared | apply put_spared | apply when_spared | split | apply mk_spared | apply_assumption)
    | (extract_lets +onlyGivenNames t1; first
      | (refine_lift have h1 : State.Spared base t1 := ?_; ?_; on_goal 2 => clear_value t1; on_goal 1 => unfold t1; try dsimp only)
      | (refine_lift have h1 : State.Spared base t1.1 := ?_; ?_; on_goal 2 => clear_value t1; on_goal 1 => unfold t1; try dsimp only)
      | clear_value t1)
    | dsimp only)

theorem islandLoses_spared {base : State} {s : State} (hok : State.Spared base s) (i : Nat) :
    State.Spared base (State.islandLoses s i) := by
  unfold State.islandLoses
  repeat' (first
    | (with_reducible first | assumption | (with_unfolding_all exact rfl) | intro _ | apply sdiDrop_spared | apply linkFalls_spared | apply macFalls_spared | apply txIdle_spared | apply flowsLost_spared | apply logLost_spared | apply keepLoses_spared | apply ite_spared | apply put_spared | apply each_spared | apply when_spared | split | apply mk_spared | apply_assumption)
    | (extract_lets +onlyGivenNames t1; first
      | (refine_lift have h1 : State.Spared base t1 := ?_; ?_; on_goal 2 => clear_value t1; on_goal 1 => unfold t1; try dsimp only)
      | (refine_lift have h1 : State.Spared base t1.1 := ?_; ?_; on_goal 2 => clear_value t1; on_goal 1 => unfold t1; try dsimp only)
      | clear_value t1)
    | dsimp only)

theorem flushPartners_spared {base : State} {s : State} (hok : State.Spared base s) (i : Nat) :
    State.Spared base (State.flushPartners s i) := by
  unfold State.flushPartners
  repeat' (with_reducible first | assumption | (with_unfolding_all exact rfl) | intro _ | apply bumpBy_spared | apply drawn_spared | apply ite_spared | apply put_spared | apply each_spared | split)

theorem restartIsland_spared {base : State} {s : State} (hok : State.Spared base s) (i : Nat) (cause : Nat) :
    State.Spared base (State.restartIsland s i cause) := by
  unfold State.restartIsland
  repeat' (with_reducible first | assumption | (with_unfolding_all exact rfl) | intro _ | apply bump_spared | apply dropReady_spared | apply failLaunched_spared | apply islandLoses_spared | apply flushPartners_spared | apply ite_spared | apply put_spared | apply when_spared | split)

theorem addLog_spared {base : State} {s : State} (hok : State.Spared base s) (src : Nat) (sev : Nat) (flags : Nat) (detail : Nat) (lt : Nat) :
    State.Spared base (State.addLog s src sev flags detail lt) := by
  unfold State.addLog
  repeat' (first
    | (with_reducible first | assumption | (with_unfolding_all exact rfl) | intro _ | apply bump_spared | apply ite_spared | apply put_spared | split | apply mk_spared | apply_assumption)
    | (extract_lets +onlyGivenNames t1; first
      | (refine_lift have h1 : State.Spared base t1 := ?_; ?_; on_goal 2 => clear_value t1; on_goal 1 => unfold t1; try dsimp only)
      | (refine_lift have h1 : State.Spared base t1.1 := ?_; ?_; on_goal 2 => clear_value t1; on_goal 1 => unfold t1; try dsimp only)
      | clear_value t1)
    | dsimp only)

theorem driveAlert_spared {base : State} {s : State} (hok : State.Spared base s) :
    State.Spared base (State.driveAlert s) := by
  unfold State.driveAlert
  repeat' (first
    | (with_reducible first | assumption | (with_unfolding_all exact rfl) | intro _ | apply send_spared | apply ite_spared | apply put_spared | split | apply_assumption)
    | (extract_lets +onlyGivenNames t1; first
      | (refine_lift have h1 : State.Spared base t1 := ?_; ?_; on_goal 2 => clear_value t1; on_goal 1 => unfold t1; try dsimp only)
      | (refine_lift have h1 : State.Spared base t1.1 := ?_; ?_; on_goal 2 => clear_value t1; on_goal 1 => unfold t1; try dsimp only)
      | clear_value t1)
    | dsimp only)

theorem settleReaction_spared {base : State} {s : State} (hok : State.Spared base s) (n : Nat) :
    State.Spared base (State.settleReaction s n) := by
  unfold State.settleReaction
  repeat' (first
    | (with_reducible first | assumption | (with_unfolding_all exact rfl) | intro _ | apply probTouch_spared | apply driveAlert_spared | apply ite_spared | apply put_spared | apply foldl_spared | apply foldl_fst_spared | split | apply_assumption)
    | (extract_lets +onlyGivenNames t1; first
      | (refine_lift have h1 : State.Spared base t1 := ?_; ?_; on_goal 2 => clear_value t1; on_goal 1 => unfold t1; try dsimp only)
      | (refine_lift have h1 : State.Spared base t1.1 := ?_; ?_; on_goal 2 => clear_value t1; on_goal 1 => unfold t1; try dsimp only)
      | clear_value t1)
    | dsimp only)

theorem runOn_spared {base : State} {s : State} (hok : State.Spared base s) :
    State.Spared base (State.runOn s) := by
  unfold State.runOn
  repeat' (with_reducible first | assumption | (with_unfolding_all exact rfl) | intro _ | apply releaseLoan_spared | apply closeSession_spared | apply ite_spared | apply put_spared | split)

theorem safeEntry_spared {base : State} {s : State} (hok : State.Spared base s) :
    State.Spared base (State.safeEntry s) := by
  unfold State.safeEntry
  repeat' (with_reducible first | assumption | (with_unfolding_all exact rfl) | intro _ | apply ite_spared | apply put_spared | apply each_spared | apply when_spared | split)

theorem react_spared {base : State} {s : State} (hok : State.Spared base s) (n : Nat) (detail : Nat) :
    State.Spared base (State.react s n detail) := by
  unfold State.react
  repeat' (first
    | (with_reducible first | assumption | (with_unfolding_all exact rfl) | intro _ | apply restartIsland_spared | apply runOn_spared | apply safeEntry_spared | apply ite_spared | apply put_spared | split | apply mk_spared | apply_assumption)
    | (extract_lets +onlyGivenNames t1; first
      | (refine_lift have h1 : State.Spared base t1 := ?_; ?_; on_goal 2 => clear_value t1; on_goal 1 => unfold t1; try dsimp only)
      | (refine_lift have h1 : State.Spared base t1.1 := ?_; ?_; on_goal 2 => clear_value t1; on_goal 1 => unfold t1; try dsimp only)
      | clear_value t1)
    | dsimp only)

theorem settleRaise_spared {base : State} {s : State} (hok : State.Spared base s) (n : Nat) (detail : Nat) (cond : Bool) (forced : Bool) (lt : Nat) :
    State.Spared base (State.settleRaise s n detail cond forced lt) := by
  unfold State.settleRaise
  repeat' (first
    | (with_reducible first | assumption | (with_unfolding_all exact rfl) | intro _ | apply bump_spared | apply startQuiet_spared | apply addLog_spared | apply settleReaction_spared | apply react_spared | apply ite_spared | apply put_spared | apply when_spared | split | apply_assumption)
    | (extract_lets +onlyGivenNames t1; first
      | (refine_lift have h1 : State.Spared base t1 := ?_; ?_; on_goal 2 => clear_value t1; on_goal 1 => unfold t1; try dsimp only)
      | (refine_lift have h1 : State.Spared base t1.1 := ?_; ?_; on_goal 2 => clear_value t1; on_goal 1 => unfold t1; try dsimp only)
      | clear_value t1)
    | dsimp only)

theorem settleHeld_spared {base : State} {s : State} (hok : State.Spared base s) :
    State.Spared base (State.settleHeld s) := by
  unfold State.settleHeld
  repeat' (first
    | (with_reducible first | assumption | (with_unfolding_all exact rfl) | intro _ | apply settleRaise_spared | apply ite_spared | apply put_spared | apply each_spared | apply foldl_spared | apply foldl_fst_spared | split | apply mk_spared | apply_assumption)
    | (extract_lets +onlyGivenNames t1; first
      | (refine_lift have h1 : State.Spared base t1 := ?_; ?_; on_goal 2 => clear_value t1; on_goal 1 => unfold t1; try dsimp only)
      | (refine_lift have h1 : State.Spared base t1.1 := ?_; ?_; on_goal 2 => clear_value t1; on_goal 1 => unfold t1; try dsimp only)
      | (refine_lift have h1 : ∀ u, State.Spared base u → State.Spared base (t1 u) := ?_; ?_; on_goal 2 => clear_value t1; on_goal 1 => unfold t1; try dsimp only)
      | (refine_lift have h1 : ∀ u a, State.Spared base u → State.Spared base (t1 u a) := ?_; ?_; on_goal 2 => clear_value t1; on_goal 1 => unfold t1; try dsimp only)
      | (refine_lift have h1 : ∀ u a b, State.Spared base u → State.Spared base (t1 u a b) := ?_; ?_; on_goal 2 => clear_value t1; on_goal 1 => unfold t1; try dsimp only)
      | (refine_lift have h1 : ∀ u a b c, State.Spared base u → State.Spared base (t1 u a b c) := ?_; ?_; on_goal 2 => clear_value t1; on_goal 1 => unfold t1; try dsimp only)
      | clear_value t1)
    | dsimp only)

theorem settleRounds_spared (n : Nat) {base : State} {s : State} (hok : base.Spared s) :
    State.Spared base (State.settleRounds n s) := by
  induction n generalizing s with
  | zero => exact hok
  | succ n ih =>
    simp only [State.settleRounds]
    split
    · exact ih (settleHeld_spared hok)
    · exact hok

theorem settleQueue_spared {base : State} {s : State} (hok : base.Spared s) : State.Spared base s.settleQueue :=
  settleRounds_spared 47 hok

theorem raiseAs_spared {base : State} {s : State} (hok : State.Spared base s) (n : Nat) (detail : Nat) (cond : Bool) (forced : Bool) :
    State.Spared base (State.raiseAs s n detail cond forced) := by
  unfold State.raiseAs
  repeat' (with_reducible first | assumption | (with_unfolding_all exact rfl) | intro _ | apply settleRaise_spared | apply settleQueue_spared | apply ite_spared | apply put_spared | split | apply mk_spared)

theorem raise_spared {base : State} {s : State} (hok : State.Spared base s) (n : Nat) (cause : Nat) (context : Nat) :
    State.Spared base (State.raise s n cause context) := by
  unfold State.raise
  repeat' (with_reducible first | assumption | (with_unfolding_all exact rfl) | intro _ | apply raiseAs_spared | apply ite_spared | apply put_spared | split)

theorem raiseCond_spared {base : State} {s : State} (hok : State.Spared base s) (n : Nat) (context : Nat) :
    State.Spared base (State.raiseCond s n context) := by
  unfold State.raiseCond
  repeat' (with_reducible first | assumption | (with_unfolding_all exact rfl) | intro _ | apply raiseAs_spared | apply ite_spared | apply put_spared | split)

theorem holdIsland_spared {base : State} {s : State} (hok : State.Spared base s) (i : Nat) :
    State.Spared base (State.holdIsland s i) := by
  unfold State.holdIsland
  repeat' (with_reducible first | assumption | (with_unfolding_all exact rfl) | intro _ | apply dropReady_spared | apply ite_spared | apply put_spared | split)

theorem countRecovery_spared {base : State} {s : State} (hok : State.Spared base s) (n : Nat) :
    State.Spared base (State.countRecovery s n) := by
  unfold State.countRecovery
  repeat' (first
    | (with_reducible first | assumption | (with_unfolding_all exact rfl) | intro _ | apply bump_spared | apply addLog_spared | apply holdIsland_spared | apply ite_spared | apply put_spared | split | apply mk_spared | apply_assumption)
    | (extract_lets +onlyGivenNames t1; first
      | (refine_lift have h1 : State.Spared base t1 := ?_; ?_; on_goal 2 => clear_value t1; on_goal 1 => unfold t1; try dsimp only)
      | (refine_lift have h1 : State.Spared base t1.1 := ?_; ?_; on_goal 2 => clear_value t1; on_goal 1 => unfold t1; try dsimp only)
      | clear_value t1)
    | dsimp only)

theorem islandReturned_spared {base : State} {s : State} (hok : State.Spared base s) (i : Nat) :
    State.Spared base (State.islandReturned s i) := by
  unfold State.islandReturned
  repeat' (first
    | (with_reducible first | assumption | (with_unfolding_all exact rfl) | intro _ | apply startQuiet_spared | apply settleReaction_spared | apply countRecovery_spared | apply ite_spared | apply put_spared | apply each_spared | split | apply_assumption)
    | (extract_lets +onlyGivenNames t1; first
      | (refine_lift have h1 : State.Spared base t1 := ?_; ?_; on_goal 2 => clear_value t1; on_goal 1 => unfold t1; try dsimp only)
      | (refine_lift have h1 : State.Spared base t1.1 := ?_; ?_; on_goal 2 => clear_value t1; on_goal 1 => unfold t1; try dsimp only)
      | clear_value t1)
    | dsimp only)

theorem quietExpiry_spared {base : State} {s : State} (hok : State.Spared base s) (n : Nat) :
    State.Spared base (State.quietExpiry s n) := by
  unfold State.quietExpiry
  repeat' (first
    | (with_reducible first | assumption | (with_unfolding_all exact rfl) | intro _ | apply settleReaction_spared | apply countRecovery_spared | apply ite_spared | apply put_spared | split | apply_assumption)
    | (extract_lets +onlyGivenNames t1; first
      | (refine_lift have h1 : State.Spared base t1 := ?_; ?_; on_goal 2 => clear_value t1; on_goal 1 => unfold t1; try dsimp only)
      | (refine_lift have h1 : State.Spared base t1.1 := ?_; ?_; on_goal 2 => clear_value t1; on_goal 1 => unfold t1; try dsimp only)
      | clear_value t1)
    | dsimp only)

/-- A register outside the list reads after a raising as before it. -/
theorem raise_get (s : State) (n cause context : Nat) (k : Key) (h : raiseWrites k = false) :
    (s.raise n cause context).get k = s.get k := raise_spared (refl_spared s) n cause context k h

end Sys2Proof.Machine
end

