-- ==== Sys2Proof/Laws/Closing.lean ====
section
/-! SUPPORT. What the end of a command (`State.closing`) can write: every other register stays as it was. -/
namespace Sys2Proof.Machine

/-- The objects that the end of a command can write, by index and sub-index: those a raising can, the outcomes of slips told to the
twin, and the reference candidates. -/
def closeWrites (k : Key) : Bool :=
  raiseWrites k || [(0x2100, 1), (0x2100, 2), (0x2100, 3), (0x2100, 4), (0x2100, 5), (0x2110, 3), (0x2110, 6),
    (0x2110, 7), (0x2120, 1), (0x2120, 2), (0x2120, 4), (0x2130, 6), (0x2130, 8), (0x5050, 12), (0x6400, 4), (0xE000,
    14), (0xE000, 15), (0xE000, 16), (0x10025, 0), (0x10026, 0), (0x10042, 0), (0x10043, 0), (0x1004B, 0), (0x1004C,
    0), (0x1004D, 0), (0x1004E, 0), (0x1004F, 0), (0x10050, 0), (0x10051, 0), (0x10052, 0), (0x10053, 0), (0x10055,
    0), (0x100D3, 0), (0x100D7, 0)].contains (k.idx, k.sub)

/-- Every register outside that list holds the same value in both states. -/
def State.Closed (base s : State) : Prop := ∀ k, closeWrites k = false → s.get k = base.get k

/-- What raisings leave alone, the end of a command leaves alone. -/
theorem closed_of_spared {base s t : State} (hok : base.Closed s) (h : s.Spared t) : base.Closed t := by
  intro k hk
  have : raiseWrites k = false := by
    simp only [closeWrites, Bool.or_eq_false_iff] at hk
    exact hk.1
  rw [h k this]
  exact hok k hk

theorem refl_closed (base : State) : base.Closed base := fun _ _ => rfl

theorem put_closed {base s : State} (hok : base.Closed s) (k : Key) (v : Int) (hk : closeWrites k = true) : base.Closed (s.put k v) := by
  intro l hl
  have : k ≠ l := by
    intro e
    rw [e, hl] at hk
    cases hk
  rw [State.get_put_ne s v this]
  exact hok l hl

theorem bumpBy_closed {base s : State} (hok : base.Closed s) (k : Key) (n : Int) (hk : closeWrites k = true) :
    base.Closed (s.bumpBy k n) := put_closed hok k _ hk

theorem bump_closed {base s : State} (hok : base.Closed s) (k : Key) (hk : closeWrites k = true) : base.Closed (s.bump k) :=
  put_closed hok k _ hk

theorem same_closed {base s t : State} (hok : base.Closed s) (hr : t.regs = s.regs) : base.Closed t := by
  intro k hk
  have : t.get k = s.get k := by simp [State.get, hr]
  rw [this]
  exact hok k hk

theorem ite_closed {base : State} {c : Prop} [Decidable c] {a b : State} (ha : base.Closed a) (hb : base.Closed b) :
    base.Closed (if c then a else b) := by split <;> assumption

theorem each_closed {base s : State} {α : Type} (hok : base.Closed s) (l : List α) (f : State → α → State)
    (hf : ∀ t a, base.Closed t → base.Closed (f t a)) : base.Closed (s.each l f) := State.each_induct (State.Closed base) l f s hok hf

theorem when_closed {base s : State} (hok : base.Closed s) (b : Bool) (f : State → State)
    (hf : ∀ t, base.Closed t → base.Closed (f t)) : base.Closed (s.when b f) := by
  unfold State.when; split
  · exact hf s hok
  · exact hok

theorem mk_closed {base s : State} (hok : base.Closed s) (x2 : List Emit) (x3 : Nat) (x4 : Held) (x5 : Nat) (x6 : Nat)
    (x7 : List (Nat × Nat)) (x8 : Option Session) (x9 : Option OldSession) (x10 : Option (Nat × Int)) (x11 : List (Nat
    × Nat)) (x12 : List (Nat × Nat)) (x13 : List MirrorWait) (x14 : List Slip) (x15 : List LogEntry) (x16 : List Nat)
    (x17 : List (Nat × Int)) (x18 : List HeldRaise) (x19 : List CommitRec) (x20 : Option Store) (x21 : Option
    HealthMsg) (x22 : List (Key × Int)) (x23 : List AlmRec) (x24 : List AlmRec) (x25 : List (List Int)) (x26 : List
    Int) (x27 : List (Option Int)) (x28 : List (Nat × Int)) (x29 : List (Nat × Int)) (x30 : List (Nat × SdiLink)) (x31
    : List (Nat × Int × List AncPkt)) (x32 : List Cut) (x33 : List (Nat × List Int)) (x34 : List Promo) (x35 : List
    (Nat × Nat × Nat × Int)) (x36 : List (OfferRec × Int)) (x37 : List OfferRec) (x38 : List FabSub) (x39 : List
    Pattern) (x40 : List (Bool × Resv)) (x41 : List FlowBuf) (x42 : List SkewKey) (x43 : List FlowTail) (x44 : List
    (Nat × Bool × Nat × Option Nat)) (x45 : List Nat) (x46 : List TxFrame) (x47 : List LayerStore) (x48 : List
    Recording) (x49 : List Recording) (x50 : List MemErr) (x51 : List (Nat × Nat × Nat)) (x52 : Prog) (x53 : Prog)
    (x54 : Option Prog) (x55 : List PathSt) (x56 : List LimSt) (x57 : List SlotFade) (x58 : Option AudFade) (x59 :
    List (Nat × Int)) (x60 : List Nat) (x61 : List InjHeld) (x62 : Option SvcSession) (x63 : Option SvcResp) (x64 :
    List FlashImage) (x65 : List Slip) :
    State.Closed base (State.mk s.pending s.regs x2 x3 x4 x5 x6 x7 x8 x9 x10 x11 x12 x13 x14 x15 x16 x17 x18 x19 x20
    x21 x22 x23 x24 x25 x26 x27 x28 x29 x30 x31 x32 x33 x34 x35 x36 x37 x38 x39 x40 x41 x42 x43 x44 x45 x46 x47 x48
    x49 x50 x51 x52 x53 x54 x55 x56 x57 x58 x59 x60 x61 x62 x63 x64 x65) := same_closed hok rfl

theorem foldl_fst_closed {base : State} {α β : Type} (l : List α) (f : State × β → α → State × β) (p : State × β)
    (h : base.Closed p.1) (hf : ∀ (t : State × β) a, base.Closed t.1 → base.Closed (f t a).1) : base.Closed (l.foldl f p).1 := by
  induction l generalizing p with
  | nil => exact h
  | cons a l ih => exact ih (f p a) (hf p a h)

theorem send_closed {base : State} {s : State} (hok : State.Closed base s) (e : Emit) :
    State.Closed base (State.send s e) :=
  closed_of_spared hok (send_spared (refl_spared _) _)

theorem endCond_closed {base : State} {s : State} (hok : State.Closed base s) (n : Nat) :
    State.Closed base (State.endCond s n) :=
  closed_of_spared hok (endCond_spared (refl_spared _) _)

theorem raise_closed {base : State} {s : State} (hok : State.Closed base s) (n : Nat) (cause : Nat) (context : Nat) :
    State.Closed base (State.raise s n cause context) :=
  closed_of_spared hok (raise_spared (refl_spared _) _ _ _)

theorem raiseCond_closed {base : State} {s : State} (hok : State.Closed base s) (n : Nat) (context : Nat) :
    State.Closed base (State.raiseCond s n context) :=
  closed_of_spared hok (raiseCond_spared (refl_spared _) _ _)

theorem refAbsent_closed {base : State} {s : State} (hok : State.Closed base s) (c : Nat) :
    State.Closed base (State.refAbsent s c) := by
  unfold State.refAbsent
  repeat' (first
    | (with_reducible first | assumption | (with_unfolding_all exact rfl) | intro _ | apply bump_closed | apply ite_closed | apply put_closed | split | apply mk_closed | apply_assumption)
    | (extract_lets +onlyGivenNames t1; first
      | (refine_lift have h1 : State.Closed base t1 := ?_; ?_; on_goal 2 => clear_value t1; on_goal 1 => unfold t1; try dsimp only)
      | (refine_lift have h1 : State.Closed base t1.1 := ?_; ?_; on_goal 2 => clear_value t1; on_goal 1 => unfold t1; try dsimp only)
      | clear_value t1)
    | dsimp only)

theorem refDisagree_closed {base : State} {s : State} (hok : State.Closed base s) (measured : Bool) :
    State.Closed base (State.refDisagree s measured) := by
  unfold State.refDisagree
  repeat' (first
    | (with_reducible first | assumption | (with_unfolding_all exact rfl) | intro _ | apply endCond_closed | apply raiseCond_closed | apply ite_closed | apply put_closed | apply each_closed | split | apply_assumption)
    | (extract_lets +onlyGivenNames t1; first
      | (refine_lift have h1 : State.Closed base t1 := ?_; ?_; on_goal 2 => clear_value t1; on_goal 1 => unfold t1; try dsimp only)
      | (refine_lift have h1 : State.Closed base t1.1 := ?_; ?_; on_goal 2 => clear_value t1; on_goal 1 => unfold t1; try dsimp only)
      | clear_value t1)
    | dsimp only)

theorem refSelectables_closed {base : State} {s : State} (hok : State.Closed base s) :
    State.Closed base (State.refSelectables s) := by
  unfold State.refSelectables
  repeat' (first
    | (with_reducible first | assumption | (with_unfolding_all exact rfl) | intro _ | apply ite_closed | apply put_closed | apply each_closed | apply foldl_closed | apply foldl_fst_closed | split | apply_assumption)
    | (extract_lets +onlyGivenNames t1; first
      | (refine_lift have h1 : State.Closed base t1 := ?_; ?_; on_goal 2 => clear_value t1; on_goal 1 => unfold t1; try dsimp only)
      | (refine_lift have h1 : State.Closed base t1.1 := ?_; ?_; on_goal 2 => clear_value t1; on_goal 1 => unfold t1; try dsimp only)
      | clear_value t1)
    | dsimp only)

theorem refEnter_closed {base : State} {s : State} (hok : State.Closed base s) (st : Int) :
    State.Closed base (State.refEnter s st) := by
  unfold State.refEnter
  repeat' (first
    | (with_reducible first | assumption | (with_unfolding_all exact rfl) | intro _ | apply bump_closed | apply raise_closed | apply ite_closed | apply put_closed | split | apply_assumption)
    | (extract_lets +onlyGivenNames t1; first
      | (refine_lift have h1 : State.Closed base t1 := ?_; ?_; on_goal 2 => clear_value t1; on_goal 1 => unfold t1; try dsimp only)
      | (refine_lift have h1 : State.Closed base t1.1 := ?_; ?_; on_goal 2 => clear_value t1; on_goal 1 => unfold t1; try dsimp only)
      | clear_value t1)
    | dsimp only)

theorem enterHoldover_closed {base : State} {s : State} (hok : State.Closed base s) :
    State.Closed base (State.enterHoldover s) := by
  unfold State.enterHoldover
  repeat' (first
    | (with_reducible first | assumption | (with_unfolding_all exact rfl) | intro _ | apply refEnter_closed | apply ite_closed | apply put_closed | split | apply_assumption)
    | (extract_lets +onlyGivenNames t1; first
      | (refine_lift have h1 : State.Closed base t1 := ?_; ?_; on_goal 2 => clear_value t1; on_goal 1 => unfold t1; try dsimp only)
      | (refine_lift have h1 : State.Closed base t1.1 := ?_; ?_; on_goal 2 => clear_value t1; on_goal 1 => unfold t1; try dsimp only)
      | clear_value t1)
    | dsimp only)

theorem refMove_closed {base : State} {s : State} (hok : State.Closed base s) (lock : Option Bool) :
    State.Closed base (State.refMove s lock) := by
  unfold State.refMove
  repeat' (first
    | (with_reducible first | assumption | (with_unfolding_all exact rfl) | intro _ | apply refEnter_closed | apply enterHoldover_closed | apply ite_closed | apply put_closed | split | apply mk_closed | apply_assumption)
    | (extract_lets +onlyGivenNames t1; first
      | (refine_lift have h1 : State.Closed base t1 := ?_; ?_; on_goal 2 => clear_value t1; on_goal 1 => unfold t1; try dsimp only)
      | (refine_lift have h1 : State.Closed base t1.1 := ?_; ?_; on_goal 2 => clear_value t1; on_goal 1 => unfold t1; try dsimp only)
      | clear_value t1)
    | dsimp only)

theorem refPresence_closed {base : State} {s : State} (hok : State.Closed base s) :
    State.Closed base (State.refPresence s) := by
  unfold State.refPresence
  repeat' (first
    | (with_reducible first | assumption | (with_unfolding_all exact rfl) | intro _ | apply refAbsent_closed | apply refDisagree_closed | apply refSelectables_closed | apply refMove_closed | apply ite_closed | apply put_closed | apply each_closed | split | apply_assumption)
    | (extract_lets +onlyGivenNames t1; first
      | (refine_lift have h1 : State.Closed base t1 := ?_; ?_; on_goal 2 => clear_value t1; on_goal 1 => unfold t1; try dsimp only)
      | (refine_lift have h1 : State.Closed base t1.1 := ?_; ?_; on_goal 2 => clear_value t1; on_goal 1 => unfold t1; try dsimp only)
      | clear_value t1)
    | dsimp only)

theorem injectHold_closed {base : State} {s : State} (hok : State.Closed base s) (j : Nat) (u : InjUnit) (left : Nat) (due : Int) :
    State.Closed base (State.injectHold s j u left due) := by
  unfold State.injectHold
  repeat' (with_reducible first | assumption | (with_unfolding_all exact rfl) | intro _ | apply bump_closed | apply ite_closed | apply put_closed | split | apply mk_closed)

theorem injectPassed_closed {base : State} {s : State} (hok : State.Closed base s) (j : Nat) :
    State.Closed base (State.injectPassed s j).1 := by
  unfold State.injectPassed
  repeat' (first
    | (with_reducible first | assumption | (with_unfolding_all exact rfl) | intro _ | apply ite_closed | apply put_closed | split | apply mk_closed | apply_assumption)
    | (extract_lets +onlyGivenNames t1; first
      | (refine_lift have h1 : State.Closed base t1 := ?_; ?_; on_goal 2 => clear_value t1; on_goal 1 => unfold t1; try dsimp only)
      | (refine_lift have h1 : State.Closed base t1.1 := ?_; ?_; on_goal 2 => clear_value t1; on_goal 1 => unfold t1; try dsimp only)
      | (refine_lift have h1 : ∀ u, State.Closed base u → State.Closed base (t1 u) := ?_; ?_; on_goal 2 => clear_value t1; on_goal 1 => unfold t1; try dsimp only)
      | (refine_lift have h1 : ∀ u a, State.Closed base u → State.Closed base (t1 u a) := ?_; ?_; on_goal 2 => clear_value t1; on_goal 1 => unfold t1; try dsimp only)
      | (refine_lift have h1 : ∀ u a b, State.Closed base u → State.Closed base (t1 u a b) := ?_; ?_; on_goal 2 => clear_value t1; on_goal 1 => unfold t1; try dsimp only)
      | (refine_lift have h1 : ∀ u a b c, State.Closed base u → State.Closed base (t1 u a b c) := ?_; ?_; on_goal 2 => clear_value t1; on_goal 1 => unfold t1; try dsimp only)
      | clear_value t1)
    | dsimp only)

theorem injectOne_closed {base : State} {s : State} (hok : base.Closed s) (j : Nat) (u : InjPass) (len : Nat) :
    State.Closed base (State.injectOne s j u len).1 := by
  unfold State.injectOne
  extract_lets +onlyGivenNames act t0 p t1
  have h0 : State.Closed base t0 := put_closed (put_closed (bump_closed hok _ rfl) _ _ rfl) _ _ rfl
  have h1 : State.Closed base p.1 := injectPassed_closed h0 _
  have h2 : State.Closed base t1 := h1
  clear_value t1 p t0 act
  split
  · exact h2
  · extract_lets +onlyGivenNames t2 a
    have h3 : State.Closed base t2 := bump_closed h2 _ rfl
    clear_value t2 a
    split
    · exact h3
    split
    · exact send_closed (put_closed h3 _ _ rfl) _
    split
    · exact injectHold_closed h3 _ _ _ _
    split
    · exact injectHold_closed h3 _ _ _ _
    split
    · exact h3
    · exact injectHold_closed h3 _ _ _ _

theorem inject_closed {base : State} {s : State} (hok : State.Closed base s) (point : Nat) (target : Nat) (plane : Nat)
    (u : InjUnit) (len : Nat) : State.Closed base (State.inject s point target plane u len).1 := by
  unfold State.inject
  refine foldl_fst_closed _ _ _ hok (fun a j ha => ?_)
  refine foldl_fst_closed _ _ _ ha (fun b x hb => ?_)
  split
  · exact injectOne_closed hb _ _ _
  · exact hb

theorem twinSend_closed {base : State} {s : State} (hok : State.Closed base s) (m : TwinMsg) :
    State.Closed base (State.twinSend s m) := by
  unfold State.twinSend
  repeat' (first
    | (with_reducible first | assumption | (with_unfolding_all exact rfl) | intro _ | apply send_closed | apply bump_closed | apply inject_closed | apply ite_closed | apply put_closed | apply each_closed | split | apply_assumption)
    | (extract_lets +onlyGivenNames t1; first
      | (refine_lift have h1 : State.Closed base t1 := ?_; ?_; on_goal 2 => clear_value t1; on_goal 1 => unfold t1; try dsimp only)
      | (refine_lift have h1 : State.Closed base t1.1 := ?_; ?_; on_goal 2 => clear_value t1; on_goal 1 => unfold t1; try dsimp only)
      | clear_value t1)
    | dsimp only)

theorem sendTwin_closed {base : State} {s : State} (hok : State.Closed base s) (m : TwinMsg) :
    State.Closed base (State.sendTwin s m) := by
  unfold State.sendTwin
  repeat' (with_reducible first | assumption | (with_unfolding_all exact rfl) | intro _ | apply twinSend_closed | apply ite_closed | apply put_closed | split)

theorem twinOrdered_closed {base : State} {s : State} (hok : base.Closed s) (old : State) :
    State.Closed base (s.twinOrdered old) := by
  unfold State.twinOrdered
  dsimp only
  split
  · exact hok
  · exact same_closed hok rfl

theorem compareOutcome_closed {base : State} {s : State} (hok : State.Closed base s) (n : Nat) :
    State.Closed base (State.compareOutcome s n) := by
  unfold State.compareOutcome
  repeat' (first
    | (with_reducible first | assumption | (with_unfolding_all exact rfl) | intro _ | apply bump_closed | apply raise_closed | apply ite_closed | apply put_closed | split | apply_assumption)
    | (extract_lets +onlyGivenNames t1; first
      | (refine_lift have h1 : State.Closed base t1 := ?_; ?_; on_goal 2 => clear_value t1; on_goal 1 => unfold t1; try dsimp only)
      | (refine_lift have h1 : State.Closed base t1.1 := ?_; ?_; on_goal 2 => clear_value t1; on_goal 1 => unfold t1; try dsimp only)
      | clear_value t1)
    | dsimp only)

theorem tellOutcome_closed {base : State} {s : State} (hok : State.Closed base s) (n : Nat) (st : SlipSt) (index : Int) :
    State.Closed base (State.tellOutcome s n st index) := by
  unfold State.tellOutcome
  repeat' (with_reducible first | assumption | (with_unfolding_all exact rfl) | intro _ | apply sendTwin_closed | apply compareOutcome_closed | apply ite_closed | apply put_closed | split)

theorem tellFallen_closed {base : State} {s : State} (hok : State.Closed base s) :
    State.Closed base (State.tellFallen s) := by
  unfold State.tellFallen
  repeat' (with_reducible first | assumption | (with_unfolding_all exact rfl) | intro _ | apply tellOutcome_closed | apply ite_closed | apply put_closed | apply each_closed | split)

theorem closing_closed {base : State} {s : State} (hok : State.Closed base s) (old : State) :
    State.Closed base (State.closing s old) := by
  unfold State.closing
  repeat' (with_reducible first | assumption | (with_unfolding_all exact rfl) | intro _ | apply refPresence_closed | apply twinOrdered_closed | apply tellFallen_closed | apply ite_closed | apply put_closed | split)

/-- A register outside the list reads after the end of a command as before it. -/
theorem closing_get (s old : State) (k : Key) (h : closeWrites k = false) : (s.closing old).get k = s.get k :=
  closing_closed (refl_closed s) old k h

end Sys2Proof.Machine
end

