-- ==== Sys2Proof/Laws/KeepProtocol.lean ====
section
/-! SUPPORT. The operations of offers, the Catalogue protocol, reconciliation and the shared frames of the meanings keep the queue, the canonical form of the register store, and the order and bounds of the tables (`State.Ok`). -/
namespace Sys2Proof.Machine

/-! ### Offers -/

theorem sendOffers_ok {que : List Instr} {s : State} (hok : State.Ok que s) (recs : List OfferRec) :
    State.Ok que (State.sendOffers s recs) := by
  unfold State.sendOffers
  repeat' (with_reducible first | assumption | intro _ | apply sendControl_ok | apply ok_ite | apply put_ok | apply each_ok | split)

theorem offerResend_ok {que : List Instr} {s : State} (hok : State.Ok que s) :
    State.Ok que (State.offerResend s) := by
  unfold State.offerResend
  repeat' (first
    | (with_reducible first | assumption | intro _ | apply sendOffers_ok | apply ok_ite | apply put_ok | split | apply_assumption)
    | (extract_lets +onlyGivenNames t1; first
      | (refine_lift have h1 : State.Ok que t1 := ?_; ?_; on_goal 2 => clear_value t1; on_goal 1 => unfold t1; try dsimp only)
      | (refine_lift have h1 : State.Ok que t1.1 := ?_; ?_; on_goal 2 => clear_value t1; on_goal 1 => unfold t1; try dsimp only)
      | clear_value t1)
    | dsimp only)

theorem offerChanges_ok {que : List Instr} {s : State} (hok : State.Ok que s) :
    State.Ok que (State.offerChanges s) := by
  unfold State.offerChanges
  repeat' (first
    | (with_reducible first | assumption | intro _ | apply sendOffers_ok | apply ok_ite | apply put_ok | split | apply mk_ok | apply_assumption)
    | (extract_lets +onlyGivenNames t1; first
      | (refine_lift have h1 : State.Ok que t1 := ?_; ?_; on_goal 2 => clear_value t1; on_goal 1 => unfold t1; try dsimp only)
      | (refine_lift have h1 : State.Ok que t1.1 := ?_; ?_; on_goal 2 => clear_value t1; on_goal 1 => unfold t1; try dsimp only)
      | clear_value t1)
    | dsimp only)

/-! ### Protocol -/

theorem answerOn_ok {que : List Instr} {s : State} (hok : State.Ok que s) (ports : List Nat) (key : Option SessKey) (r : Resp) :
    State.Ok que (State.answerOn s ports key r) := by
  unfold State.answerOn
  repeat' (with_reducible first | assumption | intro _ | apply send_ok | apply ok_ite | apply put_ok | split)

theorem respond_ok {que : List Instr} {s : State} (hok : State.Ok que s) (r : Resp) (key : Option SessKey) :
    State.Ok que (State.respond s r key) := by
  unfold State.respond
  repeat' (first
    | (with_reducible first | assumption | intro _ | apply answerOn_ok | apply ok_ite | apply put_ok | split | apply mk_ok | apply_assumption)
    | (extract_lets +onlyGivenNames t1; first
      | (refine_lift have h1 : State.Ok que t1 := ?_; ?_; on_goal 2 => clear_value t1; on_goal 1 => unfold t1; try dsimp only)
      | (refine_lift have h1 : State.Ok que t1.1 := ?_; ?_; on_goal 2 => clear_value t1; on_goal 1 => unfold t1; try dsimp only)
      | (refine_lift have h1 : ∀ u, State.Ok que u → State.Ok que (t1 u) := ?_; ?_; on_goal 2 => clear_value t1; on_goal 1 => unfold t1; try dsimp only)
      | (refine_lift have h1 : ∀ u a, State.Ok que u → State.Ok que (t1 u a) := ?_; ?_; on_goal 2 => clear_value t1; on_goal 1 => unfold t1; try dsimp only)
      | (refine_lift have h1 : ∀ u a b, State.Ok que u → State.Ok que (t1 u a b) := ?_; ?_; on_goal 2 => clear_value t1; on_goal 1 => unfold t1; try dsimp only)
      | (refine_lift have h1 : ∀ u a b c, State.Ok que u → State.Ok que (t1 u a b c) := ?_; ?_; on_goal 2 => clear_value t1; on_goal 1 => unfold t1; try dsimp only)
      | clear_value t1)
    | dsimp only)

theorem authFail_ok {que : List Instr} {s : State} (hok : State.Ok que s) (m : Msg) (opcode : Nat) (counted : Bool) :
    State.Ok que (State.authFail s m opcode counted) := by
  unfold State.authFail
  repeat' (first
    | (with_reducible first | assumption | intro _ | apply bump_ok | apply answerOn_ok | apply ok_ite | apply put_ok | apply when_ok | split | apply mk_ok | apply_assumption)
    | (extract_lets +onlyGivenNames t1; first
      | (refine_lift have h1 : State.Ok que t1 := ?_; ?_; on_goal 2 => clear_value t1; on_goal 1 => unfold t1; try dsimp only)
      | (refine_lift have h1 : State.Ok que t1.1 := ?_; ?_; on_goal 2 => clear_value t1; on_goal 1 => unfold t1; try dsimp only)
      | (refine_lift have h1 : ∀ u, State.Ok que u → State.Ok que (t1 u) := ?_; ?_; on_goal 2 => clear_value t1; on_goal 1 => unfold t1; try dsimp only)
      | (refine_lift have h1 : ∀ u a, State.Ok que u → State.Ok que (t1 u a) := ?_; ?_; on_goal 2 => clear_value t1; on_goal 1 => unfold t1; try dsimp only)
      | (refine_lift have h1 : ∀ u a b, State.Ok que u → State.Ok que (t1 u a b) := ?_; ?_; on_goal 2 => clear_value t1; on_goal 1 => unfold t1; try dsimp only)
      | (refine_lift have h1 : ∀ u a b c, State.Ok que u → State.Ok que (t1 u a b c) := ?_; ?_; on_goal 2 => clear_value t1; on_goal 1 => unfold t1; try dsimp only)
      | clear_value t1)
    | dsimp only)

theorem malformed_ok {que : List Instr} {s : State} (hok : State.Ok que s) (port : Nat) :
    State.Ok que (State.malformed s port) := by
  unfold State.malformed
  repeat' (with_reducible first | assumption | intro _ | apply bump_ok | apply ok_ite | apply put_ok | split)

theorem noted_ok {que : List Instr} {s : State} (hok : State.Ok que s) (x : Session) (q : Nat) :
    State.Ok que (State.noted s x q) := by
  unfold State.noted
  repeat' (first
    | (with_reducible first | assumption | intro _ | apply ok_ite | apply put_ok | split | apply mk_ok | apply_assumption)
    | (extract_lets +onlyGivenNames t1; first
      | (refine_lift have h1 : State.Ok que t1 := ?_; ?_; on_goal 2 => clear_value t1; on_goal 1 => unfold t1; try dsimp only)
      | (refine_lift have h1 : State.Ok que t1.1 := ?_; ?_; on_goal 2 => clear_value t1; on_goal 1 => unfold t1; try dsimp only)
      | clear_value t1)
    | dsimp only)

theorem again_ok {que : List Instr} {s : State} (hok : State.Ok que s) (r : SeqRec) :
    State.Ok que (State.again s r) := by
  unfold State.again
  repeat' (first
    | (with_reducible first | assumption | intro _ | apply bump_ok | apply answerOn_ok | apply ok_ite | apply put_ok | split | apply mk_ok | apply_assumption)
    | (extract_lets +onlyGivenNames t1; first
      | (refine_lift have h1 : State.Ok que t1 := ?_; ?_; on_goal 2 => clear_value t1; on_goal 1 => unfold t1; try dsimp only)
      | (refine_lift have h1 : State.Ok que t1.1 := ?_; ?_; on_goal 2 => clear_value t1; on_goal 1 => unfold t1; try dsimp only)
      | clear_value t1)
    | dsimp only)

theorem sequenced_ok {que : List Instr} {s : State} (hok : s.Ok que) (x : Session) (m : Msg) (opcode : Nat) (key : SessKey)
    (first : Option State) (hfirst : ∀ t, first = some t → t.Ok que) (f : State → State) (hf : ∀ t, t.Ok que → (f t).Ok que) :
    State.Ok que (s.sequenced x m opcode key first f) := by
  unfold State.sequenced
  dsimp only
  split
  · exact again_ok hok _
  · split
    · cases first with
      | none => exact respond_ok (bump_ok hok _) ..
      | some t => exact hfirst t rfl
    · exact hf _ (noted_ok hok _ _)

theorem unlentClose_ok {que : List Instr} {s : State} (hok : State.Ok que s) :
    State.Ok que (State.unlentClose s) := by
  unfold State.unlentClose
  repeat' (with_reducible first | assumption | intro _ | apply closeSession_ok | apply ok_ite | apply put_ok | split | apply mk_ok)

theorem oldKeyEnd_ok {que : List Instr} {s : State} (hok : State.Ok que s) :
    State.Ok que (State.oldKeyEnd s) := by
  unfold State.oldKeyEnd
  repeat' (with_reducible first | assumption | intro _ | apply ok_ite | apply put_ok | split | apply mk_ok)

theorem graceEnd_ok {que : List Instr} {s : State} (hok : State.Ok que s) :
    State.Ok que (State.graceEnd s) := by
  unfold State.graceEnd
  repeat' (with_reducible first | assumption | intro _ | apply ok_ite | apply put_ok | split | apply mk_ok)

theorem endsDue_ok {que : List Instr} {s : State} (hok : State.Ok que s) :
    State.Ok que (State.endsDue s) := by
  unfold State.endsDue
  repeat' (with_reducible first | assumption | intro _ | apply loanExpiry_ok | apply unlentClose_ok | apply oldKeyEnd_ok | apply graceEnd_ok | apply ok_ite | apply put_ok | split)

theorem otherSession_ok {que : List Instr} {s : State} (hok : State.Ok que s) (m : Msg) (opcode : Nat) (payload : List Nat) :
    State.Ok que (State.otherSession s m opcode payload) := by
  unfold State.otherSession
  repeat' (with_reducible first | assumption | intro _ | apply respond_ok | apply authFail_ok | apply ok_ite | apply put_ok | split | apply mk_ok)

theorem receiveAs_ok {que : List Instr} {s : State} (hok : State.Ok que s) (x : Session) (m : Msg) (opcode : Nat)
    (count : Option Nat) (key : SessKey) (f : State → SessKey → State)
    (hf : ∀ t a, State.Ok que t → State.Ok que (f t a)) : State.Ok que (State.receiveAs s x m opcode count key f) := by
  unfold State.receiveAs
  exact sequenced_ok (mk_ok hok ..) _ _ _ _ _ (fun t h => by cases h) _ (fun t ht => ok_ite (hf t key ht) (respond_ok ht ..))

theorem receive_ok {que : List Instr} {s : State} (hok : State.Ok que s) (m : Msg) (opcode : Nat) (payload : List Nat)
    (count : Option Nat) (f : State → SessKey → State) (hf : ∀ t a, State.Ok que t → State.Ok que (f t a)) :
    State.Ok que (State.receive s m opcode payload count f) := by
  have h1 := endsDue_ok hok
  unfold State.receive
  apply ok_ite hok
  apply ok_ite (malformed_ok hok _)
  dsimp only
  split
  · exact otherSession_ok h1 ..
  · apply ok_ite (otherSession_ok h1 ..)
    split
    · exact authFail_ok h1 ..
    · exact receiveAs_ok h1 _ _ _ _ _ f hf

theorem readMsg_ok {que : List Instr} {s : State} (hok : State.Ok que s) (m : Msg) (addrs : List Nat) (key : SessKey) :
    State.Ok que (State.readMsg s m addrs key) := by
  unfold State.readMsg
  repeat' (first
    | (with_reducible first | assumption | intro _ | apply readAll_ok | apply respond_ok | apply ok_ite | apply put_ok | split | apply_assumption)
    | (extract_lets +onlyGivenNames t1; first
      | (refine_lift have h1 : State.Ok que t1 := ?_; ?_; on_goal 2 => clear_value t1; on_goal 1 => unfold t1; try dsimp only)
      | (refine_lift have h1 : State.Ok que t1.1 := ?_; ?_; on_goal 2 => clear_value t1; on_goal 1 => unfold t1; try dsimp only)
      | clear_value t1)
    | dsimp only)

theorem pingMsg_ok {que : List Instr} {s : State} (hok : State.Ok que s) (m : Msg) (key : SessKey) :
    State.Ok que (State.pingMsg s m key) := by
  unfold State.pingMsg
  repeat' (with_reducible first | assumption | intro _ | apply respond_ok | apply ok_ite | apply put_ok | split)

theorem pingPlain_ok {que : List Instr} {s : State} (hok : State.Ok que s) (m : Msg) :
    State.Ok que (State.pingPlain s m) := by
  unfold State.pingPlain
  repeat' (first
    | (with_reducible first | assumption | intro _ | apply answerOn_ok | apply malformed_ok | apply ok_ite | apply put_ok | split | apply mk_ok | apply_assumption)
    | (extract_lets +onlyGivenNames t1; first
      | (refine_lift have h1 : State.Ok que t1 := ?_; ?_; on_goal 2 => clear_value t1; on_goal 1 => unfold t1; try dsimp only)
      | (refine_lift have h1 : State.Ok que t1.1 := ?_; ?_; on_goal 2 => clear_value t1; on_goal 1 => unfold t1; try dsimp only)
      | clear_value t1)
    | dsimp only)

theorem pingIn_ok {que : List Instr} {s : State} (hok : State.Ok que s) (m : Msg) :
    State.Ok que (State.pingIn s m) := by
  unfold State.pingIn
  repeat' (with_reducible first | assumption | intro _ | apply receive_ok | apply pingMsg_ok | apply pingPlain_ok | apply ok_ite | apply put_ok | split)

theorem reqApply_ok {que : List Instr} {s : State} (hok : State.Ok que s) (mirrored : Bool) (at_ : Nat) (r : MirrorReq) :
    State.Ok que (State.reqApply s mirrored at_ r) := by
  unfold State.reqApply
  repeat' (with_reducible first | assumption | intro _ | apply armApply_ok | apply stageApply_ok | apply writeApply_ok | apply cancelApply_ok | apply ok_ite | apply put_ok | split | apply mk_ok)

theorem reqRefused_ok {que : List Instr} {s : State} (hok : State.Ok que s) (r : MirrorReq) (sts : List Status) :
    State.Ok que (State.reqRefused s r sts) := by
  unfold State.reqRefused
  repeat' (with_reducible first | assumption | intro _ | apply armRefused_ok | apply writeRefused_ok | apply ok_ite | apply put_ok | split | apply mk_ok)

theorem finish_ok {que : List Instr} {s : State} (hok : State.Ok que s) (back : Back) (sts : List Status) :
    State.Ok que (State.finish s back sts) := by
  unfold State.finish
  repeat' (with_reducible first | assumption | intro _ | apply send_ok | apply answer_ok | apply respond_ok | apply ok_ite | apply put_ok | split | apply mk_ok)

theorem commitReq_ok {que : List Instr} {s : State} (hok : State.Ok que s) (r : MirrorReq) (sts : List Status) (back : Back) :
    State.Ok que (State.commitReq s r sts back) := by
  unfold State.commitReq
  repeat' (first
    | (with_reducible first | assumption | intro _ | apply sendTwin_ok | apply reqApply_ok | apply finish_ok | apply ok_ite | apply put_ok | split | apply mk_ok | apply_assumption)
    | (extract_lets +onlyGivenNames t1; first
      | (refine_lift have h1 : State.Ok que t1 := ?_; ?_; on_goal 2 => clear_value t1; on_goal 1 => unfold t1; try dsimp only)
      | (refine_lift have h1 : State.Ok que t1.1 := ?_; ?_; on_goal 2 => clear_value t1; on_goal 1 => unfold t1; try dsimp only)
      | clear_value t1)
    | dsimp only)

theorem mirrorFails_ok {que : List Instr} {s : State} (hok : State.Ok que s) (w : MirrorWait) :
    State.Ok que (State.mirrorFails s w) := by
  unfold State.mirrorFails
  repeat' (first
    | (with_reducible first | assumption | intro _ | apply raise_ok | apply reconStart_ok | apply finish_ok | apply ok_ite | apply put_ok | split | apply mk_ok | apply_assumption)
    | (extract_lets +onlyGivenNames t1; first
      | (refine_lift have h1 : State.Ok que t1 := ?_; ?_; on_goal 2 => clear_value t1; on_goal 1 => unfold t1; try dsimp only)
      | (refine_lift have h1 : State.Ok que t1.1 := ?_; ?_; on_goal 2 => clear_value t1; on_goal 1 => unfold t1; try dsimp only)
      | clear_value t1)
    | dsimp only)

theorem unwait_ok {que : List Instr} {s : State} (hok : State.Ok que s) (w : MirrorWait) :
    State.Ok que (State.unwait s w) := by
  unfold State.unwait
  repeat' (with_reducible first | assumption | intro _ | apply ok_ite | apply put_ok | split | apply mk_ok)

theorem mirrorsFail_ok {que : List Instr} {s : State} (hok : State.Ok que s) (past : Int → Bool) :
    State.Ok que (State.mirrorsFail s past) := by
  unfold State.mirrorsFail
  repeat' (with_reducible first | assumption | intro _ | apply mirrorFails_ok | apply unwait_ok | apply ok_ite | apply put_ok | apply each_ok | split)

theorem mirrorAck_ok {que : List Instr} {s : State} (hok : State.Ok que s) (tag : Bool) (seq : Nat) (st : Status) :
    State.Ok que (State.mirrorAck s tag seq st) := by
  unfold State.mirrorAck
  repeat' (first
    | (with_reducible first | assumption | intro _ | apply bump_ok | apply reqApply_ok | apply reqRefused_ok | apply finish_ok | apply mirrorFails_ok | apply unwait_ok | apply mirrorsFail_ok | apply ok_ite | apply put_ok | split | apply mk_ok | apply_assumption)
    | (extract_lets +onlyGivenNames t1; first
      | (refine_lift have h1 : State.Ok que t1 := ?_; ?_; on_goal 2 => clear_value t1; on_goal 1 => unfold t1; try dsimp only)
      | (refine_lift have h1 : State.Ok que t1.1 := ?_; ?_; on_goal 2 => clear_value t1; on_goal 1 => unfold t1; try dsimp only)
      | clear_value t1)
    | dsimp only)

theorem mirrorTimeout_ok {que : List Instr} {s : State} (hok : State.Ok que s) :
    State.Ok que (State.mirrorTimeout s) := by
  unfold State.mirrorTimeout
  repeat' (with_reducible first | assumption | intro _ | apply mirrorsFail_ok | apply ok_ite | apply put_ok | split)

theorem request_ok {que : List Instr} {s : State} (hok : State.Ok que s) (r : MirrorReq) (back : Back) :
    State.Ok que (State.request s r back) := by
  unfold State.request
  repeat' (first
    | (with_reducible first | assumption | intro _ | apply reqRefused_ok | apply finish_ok | apply commitReq_ok | apply ok_ite | apply put_ok | split | apply_assumption)
    | (extract_lets +onlyGivenNames t1; first
      | (refine_lift have h1 : State.Ok que t1 := ?_; ?_; on_goal 2 => clear_value t1; on_goal 1 => unfold t1; try dsimp only)
      | (refine_lift have h1 : State.Ok que t1.1 := ?_; ?_; on_goal 2 => clear_value t1; on_goal 1 => unfold t1; try dsimp only)
      | clear_value t1)
    | dsimp only)

theorem armRequest_ok {que : List Instr} {s : State} (hok : State.Ok que s) (n : Nat) (items : List Item) (back : Back) :
    State.Ok que (State.armRequest s n items back) := by
  unfold State.armRequest
  repeat' (first
    | (with_reducible first | assumption | intro _ | apply armRefused_ok | apply finish_ok | apply commitReq_ok | apply ok_ite | apply put_ok | split | apply_assumption)
    | (extract_lets +onlyGivenNames t1; first
      | (refine_lift have h1 : State.Ok que t1 := ?_; ?_; on_goal 2 => clear_value t1; on_goal 1 => unfold t1; try dsimp only)
      | (refine_lift have h1 : State.Ok que t1.1 := ?_; ?_; on_goal 2 => clear_value t1; on_goal 1 => unfold t1; try dsimp only)
      | clear_value t1)
    | dsimp only)

theorem controllerWrite_ok {que : List Instr} {s : State} (hok : State.Ok que s) (items : List Item) :
    State.Ok que (State.controllerWrite s items) := by
  unfold State.controllerWrite
  repeat' (first
    | (with_reducible first | assumption | intro _ | apply send_ok | apply endsDue_ok | apply request_ok | apply ok_ite | apply put_ok | split | apply_assumption)
    | (extract_lets +onlyGivenNames t1; first
      | (refine_lift have h1 : State.Ok que t1 := ?_; ?_; on_goal 2 => clear_value t1; on_goal 1 => unfold t1; try dsimp only)
      | (refine_lift have h1 : State.Ok que t1.1 := ?_; ?_; on_goal 2 => clear_value t1; on_goal 1 => unfold t1; try dsimp only)
      | clear_value t1)
    | dsimp only)

theorem weed_ok {que : List Instr} {s : State} (hok : State.Ok que s) (f : Nat) :
    State.Ok que (State.weed s f) := by
  unfold State.weed
  repeat' (with_reducible first | assumption | intro _ | apply commitReq_ok | apply ok_ite | apply put_ok | split)

theorem blockRead_ok {que : List Instr} {s : State} (hok : State.Ok que s) (m : Msg) (addr : Nat) (offset : Nat) (len : Nat) (key : SessKey) :
    State.Ok que (State.blockRead s m addr offset len key) := by
  unfold State.blockRead
  repeat' (first
    | (with_reducible first | assumption | intro _ | apply answer_ok | apply afterRead_ok | apply respond_ok | apply ok_ite | apply put_ok | split | apply mk_ok | apply_assumption)
    | (extract_lets +onlyGivenNames t1; first
      | (refine_lift have h1 : State.Ok que t1 := ?_; ?_; on_goal 2 => clear_value t1; on_goal 1 => unfold t1; try dsimp only)
      | (refine_lift have h1 : State.Ok que t1.1 := ?_; ?_; on_goal 2 => clear_value t1; on_goal 1 => unfold t1; try dsimp only)
      | (refine_lift have h1 : ∀ u, State.Ok que u → State.Ok que (t1 u) := ?_; ?_; on_goal 2 => clear_value t1; on_goal 1 => unfold t1; try dsimp only)
      | (refine_lift have h1 : ∀ u a, State.Ok que u → State.Ok que (t1 u a) := ?_; ?_; on_goal 2 => clear_value t1; on_goal 1 => unfold t1; try dsimp only)
      | (refine_lift have h1 : ∀ u a b, State.Ok que u → State.Ok que (t1 u a b) := ?_; ?_; on_goal 2 => clear_value t1; on_goal 1 => unfold t1; try dsimp only)
      | (refine_lift have h1 : ∀ u a b c, State.Ok que u → State.Ok que (t1 u a b c) := ?_; ?_; on_goal 2 => clear_value t1; on_goal 1 => unfold t1; try dsimp only)
      | clear_value t1)
    | dsimp only)

theorem xfersIdle_ok {que : List Instr} {s : State} (hok : State.Ok que s) (past : Xfer → Bool) :
    State.Ok que (State.xfersIdle s past) := by
  unfold State.xfersIdle
  repeat' (with_reducible first | assumption | intro _ | apply ok_ite | apply put_ok | split | apply mk_ok)

theorem xferIdle_ok {que : List Instr} {s : State} (hok : State.Ok que s) (id : Nat) :
    State.Ok que (State.xferIdle s id) := by
  unfold State.xferIdle
  repeat' (with_reducible first | assumption | intro _ | apply xfersIdle_ok | apply ok_ite | apply put_ok | split)

theorem blockWrite_ok {que : List Instr} {s : State} (hok : State.Ok que s) (m : Msg) (addr : Nat) (offset : Nat) (len : Nat) (data : Nat) (key : SessKey) :
    State.Ok que (State.blockWrite s m addr offset len data key) := by
  unfold State.blockWrite
  repeat' (first
    | (with_reducible first | assumption | intro _ | apply answer_ok | apply respond_ok | apply request_ok | apply xfersIdle_ok | apply ok_ite | apply put_ok | apply foldl_ok | apply foldl_fst_ok | split | apply mk_ok | apply_assumption)
    | (extract_lets +onlyGivenNames t1; first
      | (refine_lift have h1 : State.Ok que t1 := ?_; ?_; on_goal 2 => clear_value t1; on_goal 1 => unfold t1; try dsimp only)
      | (refine_lift have h1 : State.Ok que t1.1 := ?_; ?_; on_goal 2 => clear_value t1; on_goal 1 => unfold t1; try dsimp only)
      | (refine_lift have h1 : ∀ u, State.Ok que u → State.Ok que (t1 u) := ?_; ?_; on_goal 2 => clear_value t1; on_goal 1 => unfold t1; try dsimp only)
      | (refine_lift have h1 : ∀ u a, State.Ok que u → State.Ok que (t1 u a) := ?_; ?_; on_goal 2 => clear_value t1; on_goal 1 => unfold t1; try dsimp only)
      | (refine_lift have h1 : ∀ u a b, State.Ok que u → State.Ok que (t1 u a b) := ?_; ?_; on_goal 2 => clear_value t1; on_goal 1 => unfold t1; try dsimp only)
      | (refine_lift have h1 : ∀ u a b c, State.Ok que u → State.Ok que (t1 u a b c) := ?_; ?_; on_goal 2 => clear_value t1; on_goal 1 => unfold t1; try dsimp only)
      | clear_value t1)
    | dsimp only)

theorem snapExpiry_ok {que : List Instr} {s : State} (hok : State.Ok que s) (id : Nat) :
    State.Ok que (State.snapExpiry s id) := by
  unfold State.snapExpiry
  repeat' (with_reducible first | assumption | intro _ | apply ok_ite | apply put_ok | split | apply mk_ok)

theorem notifyOne_ok {que : List Instr} {s : State} (hok : State.Ok que s) (keys : List Key) :
    State.Ok que (State.notifyOne s keys) := by
  unfold State.notifyOne
  repeat' (first
    | (with_reducible first | assumption | intro _ | apply send_ok | apply afterRead_ok | apply notify_ok | apply ok_ite | apply put_ok | apply each_ok | split | apply mk_ok | apply_assumption)
    | (extract_lets +onlyGivenNames t1; first
      | (refine_lift have h1 : State.Ok que t1 := ?_; ?_; on_goal 2 => clear_value t1; on_goal 1 => unfold t1; try dsimp only)
      | (refine_lift have h1 : State.Ok que t1.1 := ?_; ?_; on_goal 2 => clear_value t1; on_goal 1 => unfold t1; try dsimp only)
      | clear_value t1)
    | dsimp only)

theorem notify_ok {que : List Instr} {s : State} (hok : State.Ok que s) (keys : List Key) :
    State.Ok que (State.notify s keys) := by
  unfold State.notify
  repeat' (with_reducible first | assumption | intro _ | apply notifyOne_ok | apply ok_ite | apply put_ok | apply each_ok | split)

theorem subscribe_ok {que : List Instr} {s : State} (hok : State.Ok que s) (m : Msg) (items : List SubItem) (key : SessKey) :
    State.Ok que (State.subscribe s m items key) := by
  unfold State.subscribe
  repeat' (first
    | (with_reducible first | assumption | intro _ | apply respond_ok | apply notify_ok | apply ok_ite | apply put_ok | split | apply mk_ok | apply_assumption)
    | (extract_lets +onlyGivenNames t1; first
      | (refine_lift have h1 : State.Ok que t1 := ?_; ?_; on_goal 2 => clear_value t1; on_goal 1 => unfold t1; try dsimp only)
      | (refine_lift have h1 : State.Ok que t1.1 := ?_; ?_; on_goal 2 => clear_value t1; on_goal 1 => unfold t1; try dsimp only)
      | clear_value t1)
    | dsimp only)

theorem notifyDue_ok {que : List Instr} {s : State} (hok : State.Ok que s) :
    State.Ok que (State.notifyDue s) := by
  unfold State.notifyDue
  repeat' (first
    | (with_reducible first | assumption | intro _ | apply notify_ok | apply ok_ite | apply put_ok | split | apply mk_ok | apply_assumption)
    | (extract_lets +onlyGivenNames t1; first
      | (refine_lift have h1 : State.Ok que t1 := ?_; ?_; on_goal 2 => clear_value t1; on_goal 1 => unfold t1; try dsimp only)
      | (refine_lift have h1 : State.Ok que t1.1 := ?_; ?_; on_goal 2 => clear_value t1; on_goal 1 => unfold t1; try dsimp only)
      | (refine_lift have h1 : ∀ u, State.Ok que u → State.Ok que (t1 u) := ?_; ?_; on_goal 2 => clear_value t1; on_goal 1 => unfold t1; try dsimp only)
      | (refine_lift have h1 : ∀ u a, State.Ok que u → State.Ok que (t1 u a) := ?_; ?_; on_goal 2 => clear_value t1; on_goal 1 => unfold t1; try dsimp only)
      | (refine_lift have h1 : ∀ u a b, State.Ok que u → State.Ok que (t1 u a b) := ?_; ?_; on_goal 2 => clear_value t1; on_goal 1 => unfold t1; try dsimp only)
      | (refine_lift have h1 : ∀ u a b c, State.Ok que u → State.Ok que (t1 u a b c) := ?_; ?_; on_goal 2 => clear_value t1; on_goal 1 => unfold t1; try dsimp only)
      | clear_value t1)
    | dsimp only)

theorem lend_ok {que : List Instr} {s : State} (hok : State.Ok que s) (t : Token) :
    State.Ok que (State.lend s t) := by
  unfold State.lend
  repeat' (first
    | (with_reducible first | assumption | intro _ | apply setPairing_ok | apply sendHealth_ok | apply ok_ite | apply put_ok | split | apply_assumption)
    | (extract_lets +onlyGivenNames t1; first
      | (refine_lift have h1 : State.Ok que t1 := ?_; ?_; on_goal 2 => clear_value t1; on_goal 1 => unfold t1; try dsimp only)
      | (refine_lift have h1 : State.Ok que t1.1 := ?_; ?_; on_goal 2 => clear_value t1; on_goal 1 => unfold t1; try dsimp only)
      | clear_value t1)
    | dsimp only)

theorem openSession_ok {que : List Instr} {s : State} (hok : State.Ok que s) (m : Msg) (t : Token) (key : SessKey) :
    State.Ok que (State.openSession s m t key) := by
  unfold State.openSession
  repeat' (first
    | (with_reducible first | assumption | intro _ | apply ok_ite | apply put_ok | split | apply mk_ok | apply_assumption)
    | (extract_lets +onlyGivenNames t1; first
      | (refine_lift have h1 : State.Ok que t1 := ?_; ?_; on_goal 2 => clear_value t1; on_goal 1 => unfold t1; try dsimp only)
      | (refine_lift have h1 : State.Ok que t1.1 := ?_; ?_; on_goal 2 => clear_value t1; on_goal 1 => unfold t1; try dsimp only)
      | clear_value t1)
    | dsimp only)

theorem tokenFails_ok {que : List Instr} {s : State} (hok : State.Ok que s) (m : Msg) (reason : Nat) :
    State.Ok que (State.tokenFails s m reason) := by
  unfold State.tokenFails
  repeat' (with_reducible first | assumption | intro _ | apply bump_ok | apply authFail_ok | apply ok_ite | apply put_ok | split)

theorem loanExec_ok {que : List Instr} {s : State} (hok : State.Ok que s) (m : Msg) (t : Token) (key : SessKey) :
    State.Ok que (State.loanExec s m t key) := by
  unfold State.loanExec
  repeat' (first
    | (with_reducible first | assumption | intro _ | apply respond_ok | apply lend_ok | apply openSession_ok | apply tokenFails_ok | apply ok_ite | apply put_ok | split | apply mk_ok | apply_assumption)
    | (extract_lets +onlyGivenNames t1; first
      | (refine_lift have h1 : State.Ok que t1 := ?_; ?_; on_goal 2 => clear_value t1; on_goal 1 => unfold t1; try dsimp only)
      | (refine_lift have h1 : State.Ok que t1.1 := ?_; ?_; on_goal 2 => clear_value t1; on_goal 1 => unfold t1; try dsimp only)
      | clear_value t1)
    | dsimp only)

theorem loanMsg_ok {que : List Instr} {s : State} (hok : State.Ok que s) (m : Msg) (t : Token) :
    State.Ok que (State.loanMsg s m t) := by
  have h1 := endsDue_ok hok
  unfold State.loanMsg
  apply ok_ite hok
  apply ok_ite (malformed_ok hok _)
  dsimp only
  split
  · exact authFail_ok h1 ..
  · split
    · exact loanExec_ok h1 ..
    · refine ok_ite (sequenced_ok (mk_ok h1 ..) _ _ _ _ _ (fun u hu => ?_) _ (fun v hv => loanExec_ok hv ..)) (loanExec_ok h1 ..)
      split at hu
      · cases hu; exact tokenFails_ok (mk_ok h1 ..) ..
      · cases hu

/-! ### Recon -/

theorem mirrorIn_ok {que : List Instr} {s : State} (hok : State.Ok que s) (tag : Bool) (seq : Nat) (r : MirrorReq) :
    State.Ok que (State.mirrorIn s tag seq r) := by
  unfold State.mirrorIn
  repeat' (first
    | (with_reducible first | assumption | intro _ | apply bump_ok | apply sendTwin_ok | apply reqApply_ok | apply mirrorAck_ok | apply ok_ite | apply put_ok | split | apply_assumption)
    | (extract_lets +onlyGivenNames t1; first
      | (refine_lift have h1 : State.Ok que t1 := ?_; ?_; on_goal 2 => clear_value t1; on_goal 1 => unfold t1; try dsimp only)
      | (refine_lift have h1 : State.Ok que t1.1 := ?_; ?_; on_goal 2 => clear_value t1; on_goal 1 => unfold t1; try dsimp only)
      | clear_value t1)
    | dsimp only)

theorem reconConfig_ok {que : List Instr} {s : State} (hok : State.Ok que s) (l : List (Key × Int)) :
    State.Ok que (State.reconConfig s l) := by
  unfold State.reconConfig
  repeat' (first
    | (with_reducible first | assumption | intro _ | apply syncSettle_ok | apply refreshAdmission_ok | apply applyValues_ok | apply restoreItem_ok | apply ok_ite | apply put_ok | apply each_ok | split | apply_assumption)
    | (extract_lets +onlyGivenNames t1; first
      | (refine_lift have h1 : State.Ok que t1 := ?_; ?_; on_goal 2 => clear_value t1; on_goal 1 => unfold t1; try dsimp only)
      | (refine_lift have h1 : State.Ok que t1.1 := ?_; ?_; on_goal 2 => clear_value t1; on_goal 1 => unfold t1; try dsimp only)
      | clear_value t1)
    | dsimp only)

theorem reconStaged_ok {que : List Instr} {s : State} (hok : State.Ok que s) (l : List (Key × Int)) :
    State.Ok que (State.reconStaged s l) := by
  unfold State.reconStaged
  repeat' (first
    | (with_reducible first | assumption | intro _ | apply launchEffects_ok | apply ok_ite | apply put_ok | apply each_ok | split | apply mk_ok | apply_assumption)
    | (extract_lets +onlyGivenNames t1; first
      | (refine_lift have h1 : State.Ok que t1 := ?_; ?_; on_goal 2 => clear_value t1; on_goal 1 => unfold t1; try dsimp only)
      | (refine_lift have h1 : State.Ok que t1.1 := ?_; ?_; on_goal 2 => clear_value t1; on_goal 1 => unfold t1; try dsimp only)
      | clear_value t1)
    | dsimp only)

theorem reconAudio_ok {que : List Instr} {s : State} (hok : State.Ok que s) :
    State.Ok que (State.reconAudio s) := by
  unfold State.reconAudio
  repeat' (first
    | (with_reducible first | assumption | intro _ | apply compileStart_ok | apply compileEnd_ok | apply ok_ite | apply put_ok | split | apply mk_ok | apply_assumption)
    | (extract_lets +onlyGivenNames t1; first
      | (refine_lift have h1 : State.Ok que t1 := ?_; ?_; on_goal 2 => clear_value t1; on_goal 1 => unfold t1; try dsimp only)
      | (refine_lift have h1 : State.Ok que t1.1 := ?_; ?_; on_goal 2 => clear_value t1; on_goal 1 => unfold t1; try dsimp only)
      | clear_value t1)
    | dsimp only)

theorem reconTable_ok {que : List Instr} {s : State} (hok : State.Ok que s) (l : List SlipCopy) :
    State.Ok que (State.reconTable s l) := by
  unfold State.reconTable
  repeat' (first
    | (with_reducible first | assumption | intro _ | apply armApply_ok | apply cancelSlip_ok | apply launchEffects_ok | apply ok_ite | apply put_ok | apply each_ok | split | apply_assumption)
    | (extract_lets +onlyGivenNames t1; first
      | (refine_lift have h1 : State.Ok que t1 := ?_; ?_; on_goal 2 => clear_value t1; on_goal 1 => unfold t1; try dsimp only)
      | (refine_lift have h1 : State.Ok que t1.1 := ?_; ?_; on_goal 2 => clear_value t1; on_goal 1 => unfold t1; try dsimp only)
      | clear_value t1)
    | dsimp only)

theorem reconJournal_ok {que : List Instr} {s : State} (hok : State.Ok que s) (standing : List (Nat × Nat × Nat × Int)) :
    State.Ok que (State.reconJournal s standing) := by
  unfold State.reconJournal
  repeat' (first
    | (with_reducible first | assumption | intro _ | apply ok_ite | apply put_ok | apply foldl_ok | apply foldl_fst_ok | split | apply mk_ok | apply_assumption)
    | (extract_lets +onlyGivenNames t1; first
      | (refine_lift have h1 : State.Ok que t1 := ?_; ?_; on_goal 2 => clear_value t1; on_goal 1 => unfold t1; try dsimp only)
      | (refine_lift have h1 : State.Ok que t1.1 := ?_; ?_; on_goal 2 => clear_value t1; on_goal 1 => unfold t1; try dsimp only)
      | clear_value t1)
    | dsimp only)

theorem reconDone_ok {que : List Instr} {s : State} (hok : State.Ok que s) :
    State.Ok que (State.reconDone s) := by
  unfold State.reconDone
  repeat' (with_reducible first | assumption | intro _ | apply bump_ok | apply setPairing_ok | apply ok_ite | apply put_ok | split)

theorem reconApply_ok {que : List Instr} {s : State} (hok : State.Ok que s) (standing : List (Nat × Nat × Nat × Int)) (slips : List SlipCopy) :
    State.Ok que (State.reconApply s standing slips) := by
  unfold State.reconApply
  repeat' (first
    | (with_reducible first | assumption | intro _ | apply reconConfig_ok | apply reconStaged_ok | apply reconAudio_ok | apply reconTable_ok | apply reconJournal_ok | apply reconDone_ok | apply ok_ite | apply put_ok | split | apply mk_ok | apply_assumption)
    | (extract_lets +onlyGivenNames t1; first
      | (refine_lift have h1 : State.Ok que t1 := ?_; ?_; on_goal 2 => clear_value t1; on_goal 1 => unfold t1; try dsimp only)
      | (refine_lift have h1 : State.Ok que t1.1 := ?_; ?_; on_goal 2 => clear_value t1; on_goal 1 => unfold t1; try dsimp only)
      | clear_value t1)
    | dsimp only)

theorem reconcileIn_ok {que : List Instr} {s : State} (hok : State.Ok que s) (tag : Bool) (measurement : Option Nat) (last : Bool) (values : List (Nat × Nat × Nat × Int)) (standing : List (Nat × Nat × Nat × Int)) (slips : List SlipCopy) :
    State.Ok que (State.reconcileIn s tag measurement last values standing slips) := by
  unfold State.reconcileIn
  repeat' (first
    | (with_reducible first | assumption | intro _ | apply bump_ok | apply setPairing_ok | apply reconSend_ok | apply reconApply_ok | apply ok_ite | apply put_ok | split | apply mk_ok | apply_assumption)
    | (extract_lets +onlyGivenNames t1; first
      | (refine_lift have h1 : State.Ok que t1 := ?_; ?_; on_goal 2 => clear_value t1; on_goal 1 => unfold t1; try dsimp only)
      | (refine_lift have h1 : State.Ok que t1.1 := ?_; ?_; on_goal 2 => clear_value t1; on_goal 1 => unfold t1; try dsimp only)
      | clear_value t1)
    | dsimp only)

theorem reconBoundary_ok {que : List Instr} {s : State} (hok : State.Ok que s) (at_ : Int) :
    State.Ok que (State.reconBoundary s at_) := by
  unfold State.reconBoundary
  repeat' (first
    | (with_reducible first | assumption | intro _ | apply canvasRetire_ok | apply programApply_ok | apply takeRetire_ok | apply applySlip_ok | apply reconDone_ok | apply ok_ite | apply put_ok | apply each_ok | split | apply mk_ok | apply_assumption)
    | (extract_lets +onlyGivenNames t1; first
      | (refine_lift have h1 : State.Ok que t1 := ?_; ?_; on_goal 2 => clear_value t1; on_goal 1 => unfold t1; try dsimp only)
      | (refine_lift have h1 : State.Ok que t1.1 := ?_; ?_; on_goal 2 => clear_value t1; on_goal 1 => unfold t1; try dsimp only)
      | clear_value t1)
    | dsimp only)

/-! ### Effects -/

theorem live_ok {que : List Instr} {s : State} (hok : State.Ok que s) (f : State → State) (hf : ∀ t, State.Ok que t → State.Ok que (f t)) :
    State.Ok que (State.live s f) := by
  unfold State.live
  repeat' (with_reducible first | assumption | intro _ | apply hf | apply closing_ok | apply ok_ite | apply put_ok | split)

theorem controlIn_ok {que : List Instr} {s : State} (hok : State.Ok que s) (l : Nat) (crcOk : Bool) (kind : Nat) (f : State → State) (hf : ∀ t, State.Ok que t → State.Ok que (f t)) :
    State.Ok que (State.controlIn s l crcOk kind f) := by
  unfold State.controlIn
  repeat' (first
    | (with_reducible first | assumption | intro _ | apply hf | apply cellIn_ok | apply live_ok | apply ok_ite | apply put_ok | split | apply_assumption)
    | (extract_lets +onlyGivenNames t1; first
      | (refine_lift have h1 : State.Ok que t1 := ?_; ?_; on_goal 2 => clear_value t1; on_goal 1 => unfold t1; try dsimp only)
      | (refine_lift have h1 : State.Ok que t1.1 := ?_; ?_; on_goal 2 => clear_value t1; on_goal 1 => unfold t1; try dsimp only)
      | clear_value t1)
    | dsimp only)

theorem arrived_ok {que : List Instr} {s : State} (hok : State.Ok que s) (old : State) :
    State.Ok que (State.arrived s old) := by
  unfold State.arrived
  repeat' (with_reducible first | assumption | intro _ | apply framesMoved_ok | apply ok_ite | apply put_ok | split)

theorem twinMessage_ok {que : List Instr} {s : State} (hok : State.Ok que s) (n : Nat) (f : State → State) (hf : ∀ t, State.Ok que t → State.Ok que (f t)) :
    State.Ok que (State.twinMessage s n f) := by
  unfold State.twinMessage
  repeat' (with_reducible first | assumption | intro _ | apply hf | apply bump_ok | apply twinIn_ok | apply live_ok | apply ok_ite | apply put_ok | split)

theorem svcIn_ok {que : List Instr} {s : State} (hok : State.Ok que s) (f : State → State) (hf : ∀ t, State.Ok que t → State.Ok que (f t)) :
    State.Ok que (State.svcIn s f) := by
  unfold State.svcIn
  repeat' (with_reducible first | assumption | intro _ | apply hf | apply live_ok | apply ok_ite | apply put_ok | split)

/-! ### ExecWrites -/

theorem takeWrite_ok {que : List Instr} {s : State} (hok : State.Ok que s) (items : List Item) :
    State.Ok que (State.takeWrite s items) := by
  unfold State.takeWrite
  repeat' (with_reducible first | assumption | intro _ | apply closing_ok | apply controllerWrite_ok | apply ok_ite | apply put_ok | split)

/-! ### ExecKeys -/

theorem svcReads_ok {que : List Instr} {s : State} (hok : State.Ok que s) (m : SvcMsg) (addrs : List Nat) :
    State.Ok que (State.svcReads s m addrs) := by
  unfold State.svcReads
  repeat' (first
    | (with_reducible first | assumption | intro _ | apply svcAnswer_ok | apply svcRun_ok | apply readAll_ok | apply ok_ite | apply put_ok | split | apply_assumption)
    | (extract_lets +onlyGivenNames t1; first
      | (refine_lift have h1 : State.Ok que t1 := ?_; ?_; on_goal 2 => clear_value t1; on_goal 1 => unfold t1; try dsimp only)
      | (refine_lift have h1 : State.Ok que t1.1 := ?_; ?_; on_goal 2 => clear_value t1; on_goal 1 => unfold t1; try dsimp only)
      | clear_value t1)
    | dsimp only)

end Sys2Proof.Machine
end

