-- ==== Sys2Proof/Laws/Protocol.lean ====
section
/-! SUPPORT. What the reception of a message comes to: for a command of a running device its effect and what every command ends with,
for a message that is heard its header's judgement, for one that passes its execution, and for the twin's its effect, once. -/
namespace Sys2Proof.Machine

/-- A message that is heard goes to its header's judgement in the state that notes it. -/
theorem State.receive_hears {s u : State} {m : Msg} {opcode : Nat} {payload : List Nat} {key : SessKey}
    (h : s.hearsMsg m opcode payload key u) (count : Option Nat) (f : State → SessKey → State) :
    s.receive m opcode payload count f =
      (if u.headerStatus m opcode count = Status.ok then f u key
        else u.respond (refusal m opcode (u.headerStatus m opcode count)) (some key)) := by
  obtain ⟨-, -, hh, hv, hl, x, hx, hid, hk, hn, ho, rfl⟩ := h
  unfold State.receive
  rw [if_neg (by simp [hh]), if_neg (by simp [hv, hl])]
  dsimp only
  generalize s.endsDue = w at hx hk ho ⊢
  have h3 : ({ w with session := some { x with lastMsg := w.tickLf } } : State).seqOld { x with lastMsg := w.tickLf } m.hdr.sequence = false := ho
  have hid' : ¬x.id ≠ m.hdr.session := not_not_intro hid
  simp only [hx, hk, State.receiveAs, State.sequenced, hn, h3, Bool.false_eq_true, if_false, State.takenUp]
  rw [if_neg hid']
  rfl

/-- A message that passes every check before its items is executed. -/
theorem State.receive_takes {s u : State} {m : Msg} {opcode : Nat} {payload : List Nat} {count : Option Nat} {key : SessKey}
    (h : s.takesMsg m opcode payload count key u) (f : State → SessKey → State) : s.receive m opcode payload count f = f u key := by
  rw [State.receive_hears h.1, if_pos h.2]

/-- A command of a running device has its effect, then what every command ends with. -/
theorem State.live_alive {s : State} (h : s.alive = true) (f : State → State) : s.live f = (f s).closing s := by simp [State.live, h]

/-- A twin message that is taken has its effect once it is noted. -/
theorem State.twinMessage_heard {s : State} {n : Nat} (h : s.hearsTwin n) (f : State → State) :
    s.twinMessage n f = (f (s.heardTwin n)).closing s := by
  obtain ⟨ha, hu, he, hl, hs⟩ := h
  rw [State.twinMessage, State.live_alive ha, if_pos hu, State.twinIn, if_neg (by simp [he, hl]), if_neg (by rw [hs]; exact Bool.false_ne_true)]
  rfl

/-- Nothing comes over a twin link that is down. -/
theorem State.twinMessage_down {s : State} (ha : s.alive = true) (h : s.twinUp = false) (n : Nat) (f : State → State) :
    s.twinMessage n f = s.closing s := by
  rw [State.twinMessage, State.live_alive ha, if_neg (by rw [h]; exact Bool.false_ne_true)]

end Sys2Proof.Machine
end

