-- ==== Sys2Proof/Laws/Writes.lean ====
section
/-! SUPPORT. When a register write command is taken: the checks of its one item, and the power cap, which refuses no candidate whose
estimate does not rise. -/
namespace Sys2Proof.Machine

/-- The power cap refuses no candidate whose estimate does not rise (R324). -/
theorem powerRefuses_of_le {s c : State} (h : c.estimateUw ≤ s.estimateUw) : powerRefuses s c = false := by
  simp [powerRefuses, Nat.not_lt.mpr h]

/-- The power cap never refuses the state as it stands (R324). -/
@[simp] theorem powerRefuses_self (s : State) : powerRefuses s s = false := powerRefuses_of_le (Nat.le_refl _)

/-- A load adds nothing to itself (R277). -/
@[simp] theorem State.hbmAdds_self (s : State) : s.hbmAdds s = false := by
  simp only [State.hbmAdds, List.any_eq_false, Bool.and_eq_true, decide_eq_true_eq, not_and]
  intro p hp _
  obtain ⟨x, -, rfl⟩ := List.mem_map.mp (by rwa [List.zip_eq_zipWith, List.zipWith_self] at hp)
  exact Nat.lt_irrefl _

/-- The stacks never refuse the load as it stands (R277). -/
@[simp] theorem hbmRefuses_self (s : State) : hbmRefuses s s = false := by
  simp [hbmRefuses]

/-- The function-specific status of a write whose candidate is the state itself has no CAPACITY of a budget (R53). -/
theorem writeOwn_self (s : State) (mirrored : Bool) (k : Key) (v : Int) :
    s.writeOwn s mirrored k v =
      if k.idx = 0x4000 ∧ k.sub = 1 then s.portModeStatus k.el v
      else if k.idx = 0x4100 ∧ s.get (Reg.FLOW_ENABLE (k.el % 16384)) = 1 then s.accessionStatus (k.el % 16384)
      else if k.idx = 0x5030 then (if k.sub = 1 then s.cancelGroupStatus v.toNat else .ok)
      else if k.idx = 0x8810 ∧ k.sub = 1 ∧ v = 1 then s.bundleStatus k.el
      else if k.idx = 0x9300 ∧ k.sub = 5 ∧ v = 1 then s.captureStatus (s.candidate none 65535) k.el
      else if k.idx = 0xB000 then s.keyStatus k.el v.toNat
      else if k.idx = 0xD200 ∧ k.sub = 12 ∧ v = 1 ∧ !mirrored then s.submitStatus k.el
      else if k.idx = 0xE100 ∧ v = 1 then
        statusIf ((s.fixedOf k.el || decide (4 ≤ s.severityOf k.el)) && !s.injectSafe) .maintConflict
      else .ok := by
  simp [State.writeOwn]

/-- Statuses that are all OK have no first bad one. -/
theorem firstBad_ok {l : List Status} (h : ∀ st ∈ l, st = Status.ok) : firstBad l = .ok := by
  induction l with
  | nil => rfl
  | cons a t ih =>
    have ha : a = Status.ok := h a (by simp)
    simp [firstBad, ha, ih (fun st m => h st (by simp [m]))]

/-- The checks of one item on a candidate `c`, apart from those its function alone makes; `force` is what the message gives. -/
def State.itemPasses (s c : State) (force : Bool) (i : Item) : Bool :=
  match s.lookup i.addr with
  | none => false
  | some (k, f) =>
    let d := decodeValue f i.val
    decide (s.writeMode c false k d.2 = .ok) && s.keyReady k && !s.refusesItems false && !s.writeDenied k && !s.writeLocked false k &&
      decide (d.1 = .ok) && !s.writeRange c k d.2 && !s.writeBusy c k d.2 && decide (s.stepItem c k d.2 force = .ok)

/-- An item whose checks pass on the candidate is OK. -/
theorem writeItem_ok {s c' : State} {force : Bool} {i : Item} {k : Key} {f : FieldDef} {v : Int} (hk : s.lookup i.addr = some (k, f))
    (hv : (decodeValue f i.val).2 = v) (hp : s.itemPasses c' force i = true) (ho : s.writeOwn c' false k v = .ok) :
    s.writeItem c' false force i = .ok := by
  subst hv
  simp only [State.itemPasses, hk, Bool.and_eq_true, Bool.not_eq_true', decide_eq_true_eq] at hp
  simp only [State.writeItem, hk, Bool.false_and, Bool.false_eq_true, if_false]
  obtain ⟨⟨⟨⟨⟨⟨⟨⟨a, b⟩, c⟩, d⟩, e⟩, g⟩, h⟩, j⟩, l⟩ := hp
  have hlock : (s.stepItem c' k (decodeValue f i.val).2 force == Status.lockedOut) = false := by
    rw [l]; rfl
  apply firstBad_ok
  intro st hst
  simp only [List.mem_cons, List.not_mem_nil, or_false] at hst
  rcases hst with h' | h' | h' | h' | h' | h' | h' | h' | h' <;> subst h' <;> simp_all [statusIf]

/-- A write command is taken where the checks of each of its items pass on the candidate. -/
theorem takesWrite_of_all {s c : State} {items : List Item}
    (hd : (s.alive && s.ready 1 && s.lent && !(s.edge && s.paired)) = true) (he : s.endsDue = s) (hc : s.withItems (s.decoded items) = c)
    (h : ∀ i ∈ items, ∃ k f v, s.lookup i.addr = some (k, f) ∧ (decodeValue f i.val).2 = v ∧
      s.itemPasses c (forceOf (s.decoded items)) i = true ∧ s.writeOwn c false k v = .ok) : s.takesWrite items := by
  simp only [Bool.and_eq_true, Bool.not_eq_true'] at hd
  obtain ⟨⟨⟨h1, h2⟩, h3⟩, h4⟩ := hd
  refine ⟨h1, h2, h3, he, h4, ?_⟩
  intro st hst
  simp only [State.writePlan, hc, List.mem_map] at hst
  obtain ⟨i, hi, rfl⟩ := hst
  obtain ⟨k, f, v, hk, hv, hp, ho⟩ := h i hi
  exact writeItem_ok hk hv hp ho

/-- A write command of one item is taken where its checks pass on the candidate. -/
theorem takesWrite_of {s c : State} {i : Item} {k : Key} {f : FieldDef} {v : Int}
    (hd : (s.alive && s.ready 1 && s.lent && !(s.edge && s.paired)) = true) (he : s.endsDue = s)
    (hc : s.withItems (s.decoded [i]) = c) (hk : s.lookup i.addr = some (k, f)) (hv : (decodeValue f i.val).2 = v)
    (hp : s.itemPasses c (forceOf (s.decoded [i])) i = true) (ho : s.writeOwn c false k v = .ok) : s.takesWrite [i] :=
  takesWrite_of_all hd he hc (fun j hj => by
    obtain rfl := List.mem_singleton.mp hj
    exact ⟨k, f, v, hk, hv, hp, ho⟩)

/-! ### The power estimate -/

/-- A list of the store's entries at one index is untouched by a put at another index. -/
theorem storeDrop_filterMap {α : Type} (f : Key × Int → Option α) (t : Store) (k : Key) (hf : ∀ v, f (k, v) = none) :
    (storeDrop t k).filterMap f = t.filterMap f := by
  induction t with
  | nil => rfl
  | cons a t ih =>
    obtain ⟨l, w⟩ := a
    simp only [storeDrop]
    split
    · next h => subst h; simp [hf, ih]
    · simp [List.filterMap_cons, ih]

/-- The same for an entry put at its place. -/
theorem storeIns_filterMap {α : Type} (f : Key × Int → Option α) (t : Store) (k : Key) (v : Int) (hf : f (k, v) = none) :
    (storeIns t k v).filterMap f = t.filterMap f := by
  induction t with
  | nil => simp [storeIns, hf]
  | cons a t ih =>
    obtain ⟨l, w⟩ := a
    simp only [storeIns]
    split
    · simp [List.filterMap_cons, hf]
    · simp [List.filterMap_cons, ih]

/-- The elements of an object are untouched by a put at another index. -/
theorem State.elsWith_put (s : State) (k : Key) (v w : Int) (idx sub : Nat) (h : k.idx ≠ idx) :
    (s.put k v).elsWith idx sub w = s.elsWith idx sub w := by
  have hf : ∀ u : Int, (fun (p : Key × Int) => if p.1.idx = idx ∧ p.1.sub = sub ∧ p.2 = w then some p.1.el else none) (k, u) = none := by
    intro u; simp [h]
  simp only [State.elsWith, State.put, storePut]
  split
  · exact storeDrop_filterMap _ _ _ hf
  · rw [storeIns_filterMap _ _ _ _ (hf v)]; exact storeDrop_filterMap _ _ _ hf

/-- The objects whose values the power estimate reads (R418), and the model's own registers. -/
def estimateReads (i : Nat) : Bool :=
  [0x1120, 0x1200, 0x1210, 0x3100, 0x4010, 0x4100, 0x5400, 0x6000, 0x6210, 0x6400, 0x7010, 0x8400, 0x9000, 0x9400, 0x9410].contains i ||
    decide (0x10000 ≤ i)

/-- The estimate does not move with an object it does not read. -/
theorem State.estimateUw_put (s : State) (k : Key) (v : Int) (h : estimateReads k.idx = false) :
    (s.put k v).estimateUw = s.estimateUw := by
  have hg : ∀ l : Key, estimateReads l.idx = true → (s.put k v).get l = s.get l := by
    intro l hl
    refine State.get_put_ne s v ?_
    intro e
    rw [← e, h] at hl
    cases hl
  have hn : ∀ l : Key, estimateReads l.idx = true → (s.put k v).getN l = s.getN l := fun l hl => by
    simp only [State.getN, hg l hl]
  have hr : ∀ i, (s.put k v).runs i = s.runs i := fun i => by
    simp only [State.runs, State.up, State.ready, hn Reg.READY rfl, hg (Reg.ISLAND_STATE i) rfl]
  have he : (s.put k v).elsWith 0x4100 1 1 = s.elsWith 0x4100 1 1 :=
    s.elsWith_put k v 1 0x4100 1 (by intro e; rw [e] at h; cases h)
  simp only [State.estimateUw, hr, he, State.put_fabSubs, hg Reg.SUPPLY_LID rfl, hg Reg.SUPPLY_TARGET rfl,
    fun n => hg (Reg.SDI_TX_STATE n) rfl, fun n => hg (Reg.MAC_LINK n) rfl, fun n => hn (Reg.MAC_RATE n) rfl,
    fun n => hg (Reg.FAB_LANE_STATE n) rfl, fun n => hg (Hid.twinLane n) rfl, hn Reg.STACKS_POPULATED rfl,
    fun n => hn (Reg.DDR_ADMISSION_ADMITTED n) rfl, fun n => hg (Reg.FAB_SUB_CENTRE0 n) rfl,
    fun n => hg (Reg.FAB_SUB_CENTRE1 n) rfl, fun n => hn (Reg.FAB_SUB_K n) rfl, fun n => hn (Hid.subLinks n) rfl,
    fun n => hn (Hid.syncOn n) rfl, fun n => hn (Hid.storeOn n) rfl, hn Reg.XPT_STORE_PROMOTE_USED rfl,
    fun n => hn (Reg.SLICE_FETCH_LOAD n) rfl, fun n => hn (Reg.SLICE_OUTPUT_LOAD n) rfl, fun n => hn (Reg.FLOW_MAX_RATE n) rfl,
    fun n => hn (Reg.MAC_ADMITTED n) rfl, hg Reg.AUDIO_COMPILE_RUNNING_RATE rfl, hn Reg.ADMISSION_HBM_ADMITTED rfl,
    hn Reg.AUDIO_COMPILE_RUNNING_OPERATIONS rfl]

/-- The function-specific status of a write of a register that neither the estimate nor the stacks' load reads (R53). -/
theorem writeOwn_put (s : State) (mirrored : Bool) (k : Key) (v : Int) (he : estimateReads k.idx = false)
    (h3 : k.idx ≠ 0x3000 ∧ k.idx ≠ 0x3200) (h4 : k.idx ≠ 0x4000) (hb : k.idx ≠ 0x5030 ∧ k.idx ≠ 0xB000)
    (hc : k.idx ≠ 0x8810 ∧ k.idx ≠ 0x9300 ∧ k.idx ≠ 0xD200) :
    s.writeOwn (s.put k v) mirrored k v =
      if k.idx = 0xE100 ∧ v = 1 then
        statusIf ((s.fixedOf k.el || decide (4 ≤ s.severityOf k.el)) && !s.injectSafe) .maintConflict
      else .ok := by
  have hf : k.idx ≠ 0x4100 := by intro e; rw [e] at he; cases he
  have hp : powerRefuses s (s.put k v) = false := powerRefuses_of_le (Nat.le_of_eq (s.estimateUw_put k v he))
  simp [State.writeOwn, hp, hf, h3, h4, hb, hc]

end Sys2Proof.Machine
end

