-- ==== Sys2Proof/Machine/Matrix.lean ====
section
/-! DEFINITION. The Keeper's bus matrix: who may reach a target, and whose request a target grants
(17_islands_and_crossings.md, R365 to R367, Tables 17.5 and 17.6). -/
namespace Sys2Proof.Machine

/-- The initiators of the matrix (Table 17.6). -/
inductive Initiator
  | logbookCopier
  | twinGateway
  | activePair
  | idlePair
  | portDma
  | catalogueEngine
  | flashEngine
deriving DecidableEq, Repr

/-- The targets of the matrix (Table 17.5). -/
inductive MatrixTarget
  /-- Control SRAM bank 0 to 2. -/
  | sramBank (b : Fin 3)
  /-- Control SRAM bank 3, which holds the handover folio. -/
  | handoverFolio
  | bootRom
  | catalogueEngine
  | islandGateway
  | portBuffers
  | cryptoEngine
  | qspi
  | smbus
  | gpio
  | watchdog
  | fltWindow
deriving DecidableEq, Repr

/-- The layer of a target: 0, 1 or 2 (Table 17.5). -/
def MatrixTarget.layer : MatrixTarget → Nat
  | .sramBank _ | .handoverFolio | .bootRom | .catalogueEngine | .islandGateway => 0
  | .portBuffers | .cryptoEngine => 1
  | .qspi | .smbus | .gpio | .watchdog | .fltWindow => 2

/-- The clock of a layer in Hz: the fast clock and its integer submultiples (Table 17.5). -/
def layerHz (l : Nat) : Nat := if l = 0 then 1000000000 else if l = 1 then 500000000 else 125000000

/-- The initiators that reach a target, in order of priority (Table 17.6). No row gives any initiator the Catalogue engine as a target. -/
def MatrixTarget.priority : MatrixTarget → List Initiator
  | .sramBank _ => [.logbookCopier, .twinGateway, .activePair, .portDma, .catalogueEngine, .flashEngine]
  | .handoverFolio => [.idlePair, .activePair]
  | .bootRom => [.activePair, .idlePair]
  | .catalogueEngine => []
  | .islandGateway => [.twinGateway, .activePair, .catalogueEngine]
  | .portBuffers | .cryptoEngine => [.portDma, .activePair, .catalogueEngine]
  | .qspi => [.flashEngine, .activePair, .idlePair]
  | .smbus | .gpio | .watchdog | .fltWindow => [.activePair]

/-- The request that a target grants next, of those that wait: the first in its order of priority (R365). A pair whose processors disagree at
the compare point has its request dropped before it gets there (R367). -/
def MatrixTarget.grant (t : MatrixTarget) (waiting agreed : List Initiator) : Option Initiator :=
  t.priority.find? (fun i => waiting.contains i && ((i != .activePair && i != .idlePair) || agreed.contains i))

/-- The longest an initiator waits at a target, in lf: less where it ranks above the active pair (R366). -/
def MatrixTarget.waitBound (t : MatrixTarget) (i : Initiator) : Option Nat :=
  if i = .activePair ∨ !t.priority.contains i then none
  else if t.priority.idxOf i < t.priority.idxOf .activePair then some 846720 else some 1693440

end Sys2Proof.Machine
end

