-- ==== Sys2Proof/Tests/Slice0.lean ====
section
/-! SUPPORT. Tests: terms that well-formedness refuses, values the manual's own examples and tables give, and for each statement with
hypotheses a concrete state and operands that meet them. -/
namespace Sys2Proof.Tests
open Sys2Proof Sys2Proof.Machine

-- one theorem after another: many kernel evaluations at once would each hold a thread's stack
set_option Elab.async false

/-! ### Helpers -/

/-- A device out of reset with these registers set. -/
def dev (l : List (Key × Int)) : State :=
  l.foldl (fun (s : State) p => s.put p.1 p.2) { State.reset with held := .running }

/-- An edge device alone in its slot, every READY bit up, lent, its Ledger time set. -/
def solo : State := dev [(Reg.READY, 2 ^ 57 - 1), (Reg.LOAN_STATE, 1), (Reg.LOAN_EXPIRY, 2 ^ 79), (Reg.TIME_STATE, 1), (Reg.PAIRING_STATE, 0)]

/-- The same device at one second of Ledger time, raster 31 with a format. -/
def soloAt1 : State := { solo.put (Reg.RASTER_FORMAT 31) 9 with ledger := 52920000000 * 2 ^ 32, ticks := 1000000000 }

/-! ### Steps, form, reset (statements of the first group) -/

theorem test_StepRunsFront_witness : ({ solo with pending := [.slipCancelAll, .commit] } : State).pending = .slipCancelAll :: [.commit] := by
  decide

theorem test_IdleStepTicks_witness :
    solo.pending = [] ∧ solo.alive = true ∧ State.reset.pending = [] ∧ State.reset.alive = false := by decide

theorem test_StepKeepsForm_witness : solo.wf ∧ solo.tablesWf ∧ ∃ t, step solo = .next t := by
  refine ⟨?_, ?_, ⟨_, rfl⟩⟩
  · unfold State.wf; decide
  · unfold State.tablesWf; decide

theorem test_CommandsKeepQueue_witness : ∃ t, exec (.timestampCapture 18 true) solo = .next t := ⟨_, rfl⟩

theorem test_WellFormedNeverStops_witness : exec (.sdiRawTransition 96 none) solo = .next solo ∧ (96 ≤ 96) ∧
    exec (.railBrownout 0) solo = .next solo ∧ exec (.railBrownout 7) solo = .next solo ∧
    State.reset.regs.all (fun p => p.1.idx != (Hid.slipFell 0).idx) = true ∧ State.reset.up 2 = false := by
  refine ⟨rfl, by decide, rfl, rfl, by decide, by decide +kernel⟩

theorem test_QueueOfSoundCommandsRuns_witness : ({ solo with pending := [.idcode, .tapReset] } : State).pending.length = 2 := by decide

theorem test_HeldInReset_witness : State.reset.alive = false ∧ Instr.commit.actsInReset = false := by decide

/-! ### Reset, bring-up, restarts -/

theorem test_PorstClearsDevice_witness : solo.held = .running ∧ keptKey Reg.READY = false ∧ Reg.READY ≠ Reg.SUPPLY_BROWNOUTS ∧
    keptKey Reg.TAMPER_COUNT = true ∧ Reg.TAMPER_COUNT ∉ [Hid.fallCause, Reg.SUPPLY_RESET_CAUSE, Reg.ALMANAC_POWERED] ∧
    Reg.TAMPER_COUNT.idx ≠ 0xC100 := by decide +kernel

/-- The internal reset of a rail monitor stands. -/
def browned : State := { State.reset with held := .brownout }

theorem test_ReleaseSamplesStraps_witness : State.reset.held = .porst ∧ State.reset.ready 5 = false ∧ browned.held = .brownout ∧
    browned.ready 5 = false ∧ solo.held ≠ .porst ∧ solo.held ≠ .brownout ∧ centreHeld 46 = true ∧ centreHeld 0 = false := by
  decide +kernel

theorem test_ReadyBitChange_witness :
    0 ≤ solo.get Reg.READY ∧ solo.get Reg.READY < 2 ^ 64 ∧ solo.ready 63 = false ∧ solo.ready 63 ≠ true ∧ solo.ready 0 = true := by
  decide +kernel

/-- KEEP runs; AUD and D0 have come out of their own resets and hold their tokens. -/
def rising : State := dev [(Reg.READY, 1), (Reg.ISLAND_STATE 46, 3), (crossKey 0 46, 1), (Reg.ISLAND_STATE 34, 3), (crossKey 0 34, 1)]

theorem test_IslandsRise_witness : rising.mayRise 46 = true ∧ ¬(34 ≤ 46 ∧ 46 ≤ 37) ∧ rising.mayRise 34 = true ∧ rising.alive = true ∧
    rising.ready 0 = true ∧ rising.ready 55 = false ∧ rising.hasIsland 46 = true ∧ rising.up 46 = false ∧
    rising.get (Hid.heldReset 46) = 0 := by decide +kernel

/-- Bit 56 still reads 0, and raster 31 waits for time that is set. -/
def restoring : State := dev [(Reg.READY, 1), (Hid.rasterWait 31, 1), (Reg.TIME_STATE, 1)]

theorem test_StandingOrderRestored_witness : restoring.alive = true ∧ restoring.ready 0 = true ∧ restoring.ready 56 = false ∧
    restoring.get Hid.imageRecovery ≠ 1 ∧ restoring.get (Hid.rasterWait 31) = 1 ∧ restoring.timeSet = true := by decide +kernel

theorem test_CommitBecomesDurable_witness :
    let s : State := { solo.put Reg.STANDING_COMMIT_STATE 1 with commitCopy := some [(Reg.STEP_LIMIT, 5)] }
    s.alive = true ∧ s.commitCopy = some [(Reg.STEP_LIMIT, 5)] ∧ s.get Reg.STANDING_COMMIT_STATE = 1 := by decide +kernel

/-- X runs; AUD is DOWN in its restart, and G11 in its start-up. -/
def restarting : State := dev [(Reg.READY, 2 ^ 57 - 1 - 2 ^ 47 - 2 ^ 19), (Hid.restarting 46, 1), (Reg.ISLAND_STATE 46, 2), (Reg.ISLAND_STATE 18, 3)]

theorem test_IslandRestartsAndCrossings_witness : restarting.alive = true ∧ restarting.hasIsland 45 = true ∧ restarting.up 45 = true ∧
    restarting.get (Hid.restarting 45) ≠ 1 ∧ restarting.get (Hid.restarting 46) = 1 ∧ restarting.get (Reg.ISLAND_STATE 46) = 2 ∧
    restarting.get (Hid.heldReset 46) = 0 ∧ crossingOf 18 5 = true ∧ restarting.up 5 = true ∧ restarting.get (Reg.ISLAND_STATE 18) = 3 ∧
    crossingOf 5 45 = true ∧ restarting.up 45 = true := by decide +kernel


/-! ### The Catalogue protocol -/

/-- The key of the tests' session 7. -/
def sKey : SessKey := ⟨11, 0, 5, 7⟩

/-- Session 7 under that key, with no request seen. -/
def sess : Session := ⟨7, sKey, 5, [], [], [], [], [], 0, 0⟩

/-- CTLB answers at 10.0.0.1. -/
def ctlbAt : Nat := 0xFFFF0A000001

/-- A device with session 7 open. -/
def withSess : State := { solo.put (Reg.CTL_PORT_PORT_ADDRESS 1) ctlbAt with session := some sess }

/-- A request of session 7 that CTLB hears, under the session's key: opcode, transfer, number of items, reserved bytes and payload. -/
def msg (op transfer items : Nat) (reserved payload : List Nat) : Msg :=
  ⟨1, 2 ^ 48 - 1, ctlbAt, 47321, ⟨1, 0, 0, 7, 1, 0, payload.length, transfer, items⟩, reserved,
    sKey.tag ((⟨1, 0, 0, 7, 1, 0, payload.length, transfer, items⟩ : Header).bytes op ++ payload)⟩

/-- The state in which a first request of session 7 is judged and executed. -/
def taken : State := withSess.takenUp sess 1

theorem withSess_endsDue : withSess.endsDue = withSess := by decide +kernel

/-- CTLB hears what is sent to its address, broadcast, on the port of the Catalogue. -/
theorem hears_of {m : Msg} (hp : m.port = 1) (ha : m.mac = 2 ^ 48 - 1) (hi : m.ip = ctlbAt) (hu : m.udp = 47321) :
    withSess.hears m = true := by
  simp only [State.hears, hp, ha, hi, hu, beq_self_eq_true, Bool.or_true, Bool.true_or, Bool.and_true]
  decide +kernel

/-- A request of session 7 is heard. -/
theorem hears_msg (op transfer items : Nat) (reserved payload : List Nat) :
    withSess.hearsMsg (msg op transfer items reserved payload) op payload sKey taken := by
  simp only [State.hearsMsg, withSess_endsDue]
  refine ⟨rfl, rfl, hears_of rfl rfl rfl rfl, rfl, rfl, sess, rfl, rfl, ?_, rfl,
    show withSess.seqOld sess 1 = false by decide +kernel, rfl⟩
  simp [State.verifyingKey, Msg.verifies, msg, sess]

/-- A request of session 7 whose header fits its opcode is taken. -/
theorem takes_msg (op transfer items : Nat) (reserved payload : List Nat) (count : Option Nat)
    (h : taken.headerStatus (msg op transfer items reserved payload) op count = Status.ok) :
    withSess.takesMsg (msg op transfer items reserved payload) op payload count sKey taken :=
  ⟨hears_msg op transfer items reserved payload, h⟩

theorem test_ReadsAndPings_witness :
    withSess.takesMsg (msg 1 0 1 [] (addrBytes [addrOf Reg.STEP_LIMIT])) 1 (addrBytes [addrOf Reg.STEP_LIMIT])
        (some [addrOf Reg.STEP_LIMIT].length) sKey taken ∧
      taken.readBytes [addrOf Reg.STEP_LIMIT] ≤ taken.payloadLimit ∧
      withSess.takesMsg (msg 10 0 0 [] []) 10 [] none sKey taken ∧
      ¬((msg 10 0 0 [] []).hdr.session = 0 ∧ (msg 10 0 0 [] []).tag = 0) := by
  refine ⟨takes_msg 1 0 1 [] _ (some 1) (by decide +kernel), by decide +kernel, takes_msg 10 0 0 [] [] none (by decide +kernel), ?_⟩
  rintro ⟨h, -⟩
  exact absurd h (by decide)

theorem test_ReadsAndPings_block_witness :
    let a := addrOf (Reg.MAC_HASH_HASH 15)
    ∃ k f n, withSess.takesMsg (msg 7 0 0 [0, 0, 0, 0] (blockBytes [0, 0, 0, 0] a 0 512)) 7 (blockBytes [0, 0, 0, 0] a 0 512) none sKey taken ∧
      (msg 7 0 0 [0, 0, 0, 0] (blockBytes [0, 0, 0, 0] a 0 512)).hdr.transfer = 0 ∧ taken.readTarget a = (.ok, some (k, f)) ∧
      octetsLen f.ty = some n ∧ 0 + 512 ≤ n ∧ 16 + 512 ≤ taken.payloadLimit := by
  refine ⟨_, _, _, takes_msg 7 0 0 _ _ none (by decide +kernel), rfl, rfl, rfl, by decide +kernel, by decide +kernel⟩

theorem test_ReadsAndPings_respond_witness :
    let r : Resp := ⟨10, .ok, false, 7, 1, 0, 0, 1, .ping 0 0 1 1⟩
    ∃ x q, taken.session = some x ∧ x.id = r.session ∧ q ∈ x.seen ∧ q.seq = r.sequence ∧ q.resp = none := by
  exact ⟨_, _, rfl, rfl, List.mem_cons_self, rfl, rfl⟩

theorem test_RegisterRead_witness : solo.lookup 0 = none ∧
    (∃ p, solo.lookup (addrOf (Reg.SLIP_COUNT_FAILED)) = some p ∧ solo.keyReady p.1 = true ∧ p.2.acc ≠ .wo ∧ p.2.acc ≠ .wos) ∧
    (∃ p, solo.lookup (addrOf Reg.SLIP_CANCEL_ALL) = some p ∧ solo.keyReady p.1 = true ∧ p.2.acc = .wo) ∧
    (∃ p, (dev []).lookup (addrOf Reg.STEP_LIMIT) = some p ∧ (dev []).keyReady p.1 = false) := by
  refine ⟨by decide +kernel, ⟨_, rfl, by decide +kernel⟩, ⟨_, rfl, by decide +kernel⟩, ⟨_, rfl, by decide +kernel⟩⟩

/-- The raw value of 52,920,000,000 leaves in the Leaves field. -/
def wholeSecond : Value := ⟨tyCode .lt, 12, 52920000000 * 2 ^ 12⟩

theorem test_LtBeyondSecondRefused_witness : solo.alive = true ∧ solo.ready 1 = true ∧ solo.endsDue = solo ∧ solo.lent = true ∧
    (∃ k f, solo.lookup (addrOf (Reg.BOOKING_START 31)) = some (k, f) ∧ f.acc = .rw ∧ k.idx ∉ [0x2010, 0x4100, 0x8400, 0x8810, 0x9300, 0xB000] ∧
      solo.keyReady k = true ∧ f.ty = .lt) ∧ solo.get Reg.PAIRING_STATE ≠ 2 ∧ wholeSecond.code = tyCode .lt ∧
    wholeSecond.len = 12 ∧ wholeSecond.raw < 2 ^ 96 ∧ 52920000000 ≤ wholeSecond.raw / 2 ^ 12 % 2 ^ 36 := by
  refine ⟨by decide, by decide, by decide +kernel, by decide, ⟨_, _, rfl, by decide +kernel⟩, by decide, rfl, rfl, by decide, by decide⟩

/-- A sessionless PING that CTLB hears. -/
def plainPing : Msg := ⟨1, 2 ^ 48 - 1, ctlbAt, 47321, ⟨1, 0, 0, 0, 1, 0, 0, 0, 0⟩, [], 0⟩

theorem test_SessionlessPing_witness : withSess.alive = true ∧ portOk plainPing = true ∧ withSess.hears plainPing = true ∧
    plainPing.hdr.version = 1 ∧ plainPing.hdr.length = 0 ∧ plainPing.hdr.session = 0 ∧ plainPing.tag = 0 ∧
    withSess.headerStatus plainPing 10 none = .ok ∧ withSess.ctlPorts = [0, 1] := by
  exact ⟨rfl, rfl, hears_of rfl rfl rfl rfl, rfl, rfl, rfl, rfl, by decide +kernel, by decide +kernel⟩

theorem taken_endsDue : taken.endsDue = taken := by decide +kernel

theorem test_RequestsTakeEffect_write_witness :
    let i := [regItem Reg.STANDING_COMMIT_COMMIT 1]
    (taken.edge && taken.paired) = false ∧ withSess.takesMsg (msg 2 0 1 [] (itemBytes [] i)) 2 (itemBytes [] i) (some 1) sKey taken ∧
      ∀ st ∈ taken.writePlan false i, st = Status.ok := by
  have h : taken.takesWrite [regItem Reg.STANDING_COMMIT_COMMIT 1] :=
    takesWrite_of (c := taken) (by decide +kernel) taken_endsDue (by decide +kernel) (k := Reg.STANDING_COMMIT_COMMIT) rfl rfl
      (by decide +kernel) (by rw [writeOwn_self]; decide +kernel)
  exact ⟨by decide +kernel, takes_msg 2 0 1 [] _ (some 1) (by decide +kernel), h.2.2.2.2.2⟩

theorem test_RequestsTakeEffect_stage_witness :
    let i := [regItem Reg.MODE_MODE_L 1]
    i ≠ [] ∧ withSess.takesMsg (msg 3 0 1 [0, 0] (slipBytes [0, 0] 8191 i)) 3 (slipBytes [0, 0] 8191 i) (some 1) sKey taken ∧
      ∀ st ∈ taken.stagePlan false 8191 i, st = Status.ok := by
  refine ⟨by decide, takes_msg 3 0 1 _ _ (some 1) (by decide +kernel), by decide +kernel⟩

/-- The same state with slip 8191 staged empty. -/
def arming : State := { taken with slips := [{ emptySlip 8191 with st := .staged }] }

theorem test_RequestsTakeEffect_cancel_witness :
    let p := [8191].flatMap (fun n => beBytes 2 n)
    withSess.takesMsg (msg 5 0 1 [] p) 5 p (some 1) sKey taken ∧ ∃ st ∈ arming.cancelPlan false [8191], st = Status.ok := by
  refine ⟨takes_msg 5 0 1 [] _ (some 1) (by decide +kernel), by decide +kernel⟩

theorem test_RequestsTakeEffect_arm_witness :
    let i := [regItem Reg.SLIP_ARM_KIND 13, regItem Reg.SLIP_ARM_LAUNCH (ltOfLf (3 * 52920000000 - 26460000))]
    withSess.takesMsg (msg 4 0 2 [0, 0] (slipBytes [0, 0] 8191 i)) 4 (slipBytes [0, 0] 8191 i) (some 2) sKey taken ∧
      (arming.armPlan none false 8191 i arming.nowLT.toNat).1 = .ok := by
  refine ⟨takes_msg 4 0 2 _ _ (some 2) (by decide +kernel), by decide +kernel⟩

theorem test_SlipCommandsOnTheTable_witness :
    let s : State := { solo with slips := [{ emptySlip 0 with st := .armed, group := 4095 }, { emptySlip 5 with st := .launched },
      { emptySlip 8191 with st := .staged }] }
    (s.slips.map Slip.num).Pairwise (· < ·) ∧ s.slips.any (fun x => x.num == 8191 && decide (x.st = .staged)) = true ∧
      s.slips.any (fun x => x.num == 0 && decide (x.st = .armed) && x.group == 4095) = true ∧
      s.slips.any (fun x => decide (x.st = .launched)) = true ∧ (s.slip 1).st ≠ .staged ∧ (s.slip 1).st ≠ .armed := by decide +kernel

theorem test_SubscriptionsAndBlocks_subscribe_witness :
    let l := [(⟨addrOf Reg.STEP_LIMIT, 1, 0⟩ : SubItem)]
    let r := [0, 0, 0, 0, 0, 0, 0]
    ∃ x, taken.session = some x ∧ withSess.takesMsg (msg 6 0 1 r (subBytes r l)) 6 (subBytes r l) (some 1) sKey taken := by
  exact ⟨_, rfl, takes_msg 6 0 1 _ _ (some 1) (by decide +kernel)⟩

theorem test_SubscriptionsAndBlocks_block_witness :
    let a := addrOf Reg.OWNER_ANSWER_CHALLENGE
    let p := blockBytes [0, 0, 0, 0] a 16 16 ++ beBytes 16 5
    ∃ x, taken.session = some x ∧ withSess.takesMsg (msg 8 9 0 [0, 0, 0, 0] p) 8 p none sKey taken ∧
      (∀ t ∈ x.xfers, taken.xferOver t = false) ∧
      (∃ k n, taken.segmentStatus x (msg 8 9 0 [0, 0, 0, 0] p) a 16 16 = (Status.ok, some (k, n)) ∧ 16 < n) ∧
      (x.xfers.find? (fun (t : Xfer) => t.id == 9)) = none := by
  refine ⟨_, rfl, takes_msg 8 9 0 _ _ none (by decide +kernel), by decide, ⟨_, _, rfl, by decide⟩, rfl⟩

/-- Transfer 9 and the keys and sessions whose times have run out, at 11 s. -/
def late : State := { solo.put Reg.LOAN_STATE 2 with
  ledger := 582120000000 * 2 ^ 32
  ticks := 11000000000
  session := some { sess with xfers := [⟨9, Reg.OWNER_ANSWER_CHALLENGE, 32, [(0, 16, 0)], none, 0⟩] }
  oldSession := some ⟨6, ⟨11, 0, 4, 6⟩, 529200000000⟩
  grace := some (1, 529200000) }

theorem test_SubscriptionsAndBlocks_times_witness :
    (∃ x, late.session = some x ∧ x.xfers.any (fun t => t.id == 9 && decide (t.lastAt + 105840000000 ≤ late.tickLf)) = true ∧
      max x.unlentAt x.lastMsg + 529200000000 ≤ late.tickLf) ∧ late.lent = false ∧
    (∃ o, late.oldSession = some o ∧ o.until_ ≤ late.tickLf) ∧ (∃ n e, late.grace = some (n, e) ∧ e ≤ late.now) := by
  refine ⟨⟨_, rfl, by decide +kernel⟩, by decide +kernel, ⟨_, rfl, by decide +kernel⟩, ⟨_, _, rfl, by decide +kernel⟩⟩

/-- Session 7 watches the step limit, which is due. -/
def watching : State := { solo with session := some { sess with subs := [⟨Reg.STEP_LIMIT, 1, 529200000, 0, 0⟩] } }

theorem test_NotificationsDue_witness : ∃ x, watching.alive = true ∧ watching.session = some x ∧ watching.ctlPorts ≠ [] ∧
    (let told := x.subs.filter (fun u => decide (u.due ≤ watching.tickLf) && watching.keyReady u.key && (u.mode == 2 || u.last != watching.view u.key))
     told.map (fun (u : Sub) => u.key) = [Reg.STEP_LIMIT] ∧ noticePacks watching.payloadLimit [Reg.STEP_LIMIT] = [[Reg.STEP_LIMIT]] ∧
     (∀ u ∈ told, accessOf u.key ≠ some .rc) ∧ (∀ u ∈ told, u.key ≠ Reg.TAMPER_TAMPER_N ∧ u.key ≠ Reg.TAMPER_VBAT)) := by
  refine ⟨_, by decide, rfl, by decide, by decide +kernel⟩

/-- A public key of P-256, X then Y. -/
def deskKey : Nat := 0xE145BDD1596CB72285406386A438914B9F2EE2C26B4D66F54BB201987D973517D982E74ECE52CB5DEEE2FB7D9751D9F2C46CA18BD3851F3E10A12279BC5C889D

/-- A token for the part with serial 9, valid for the first 10 s, epoch 1, with its signature under that key. -/
def token : Token := ⟨1, 0, 0, 0, 3, 1, 9, 0, 10 * 2 ^ 48, 2, 0, 0xF300E2F3A9996E5039EC6EF32449D2A4C07C28BE6F7F07436A227C457EBDFB29,
  0xF300E2F3A9996E5039EC6EF32449D2A4C07C28BE6F7F07436A227C457EBDFB29⟩

/-- A part with serial 9, whose slots 0 and 1 hold that key and the key 11 in their first banks. -/
def keyed : State :=
  let s := (((((withSess.put (Hid.bankKey 0 0) deskKey).put (Hid.bankGen 0 0) 1).put (Hid.bankCrc 0 0) (bankCrcOf deskKey 1)).put
    (Hid.bankKey 1 0) 11).put (Hid.bankGen 1 0) 1).put (Hid.bankCrc 1 0) (bankCrcOf 11 1)
  { s with regs := storeIns s.regs Reg.IDENTITY_SERIAL 9 }

/-- The key of session 8 under that token. -/
def lKey : SessKey := ⟨11, 0, 2, 8⟩

/-- A LOAN for session 8 under that token. -/
def loanMsg : Msg :=
  ⟨1, 2 ^ 48 - 1, ctlbAt, 47321, ⟨1, 0, 0, 8, 1, 0, 160, 0, 0⟩, [], lKey.tag ((⟨1, 0, 0, 8, 1, 0, 160, 0, 0⟩ : Header).bytes 9 ++ token.bytes)⟩

theorem keyed_keys : keyed.keyOf 0 = some deskKey ∧ keyed.keyOf 1 = some 11 := by decide +kernel

theorem keyed_hears : keyed.hears loanMsg = true := by
  simp only [State.hears, loanMsg, beq_self_eq_true, Bool.or_true, Bool.true_or, Bool.and_true]
  decide +kernel

theorem token_signed : token.signedBy deskKey = true := by decide +kernel

theorem test_LoanOpensSession_witness : keyed.alive = true ∧ portOk loanMsg = true ∧ keyed.hears loanMsg = true ∧ loanMsg.hdr.version = 1 ∧
    loanMsg.hdr.length = 160 ∧ keyed.endsDue = keyed ∧ keyed.loanVerifies loanMsg token = some lKey ∧
    keyed.session.map Session.id ≠ some loanMsg.hdr.session ∧ keyed.get Reg.SAFE_REACTION < 4 ∧
    keyed.tokenReason loanMsg.hdr.session token = 0 ∧ keyed.headerStatus loanMsg 9 none = .ok ∧ keyed.up 3 = true := by
  refine ⟨rfl, rfl, keyed_hears, rfl, rfl, by decide +kernel, ?_, by decide, by decide +kernel, ?_, by decide +kernel, by decide +kernel⟩
  · rw [State.loanVerifies, State.loanKey, keyed_keys.2]
    have h : keyed.getN Reg.COLOPHON_MEASUREMENT = 0 := by decide +kernel
    simp [h, State.verifyingKey, Msg.verifies, loanMsg, lKey, token]
  · simp only [State.tokenReason, keyed_keys.1, Option.getD_some, token_signed]
    decide +kernel

theorem test_LoanOpensSession_expiry_witness :
    let s := withSess.put Reg.LOAN_EXPIRY 0
    s.alive = true ∧ s.lent = true ∧ s.session = some sess ∧ s.get Reg.LOAN_EXPIRY ≤ s.nowLT := by decide +kernel

theorem test_BadMessagesRefused_witness : solo.alive = true ∧ 1 < 2 ∧ solo.listens 1 = true ∧
    withSess.hearsMsg (msg 11 0 0 [] [1, 2, 3]) 11 [1, 2, 3] sKey taken ∧ headerBad (msg 11 0 0 [] [1, 2, 3]) 11 = false ∧
    headerBad (msg 0 0 0 [] []) 0 = false ∧ (msg 11 0 0 [] [1, 2, 3]).hdr.length ≤ taken.payloadLimit := by
  exact ⟨rfl, by decide, by decide +kernel, hears_msg 11 0 0 [] [1, 2, 3], by decide +kernel, by decide +kernel, by decide +kernel⟩

theorem test_BadMessagesRefused_ping_witness :
    let s : State := { withSess with session := none }
    let m : Msg := { plainPing with tag := 1 }
    s.alive = true ∧ portOk m = true ∧ s.hears m = true ∧ m.hdr.version = 1 ∧ m.hdr.length = 0 ∧ s.endsDue = s ∧ s.session = none ∧
      s.oldSession = none ∧ (m.hdr.session ≠ 0 ∨ m.tag ≠ 0) := by
  refine ⟨rfl, rfl, ?_, rfl, rfl, by decide +kernel, rfl, rfl, .inr (by decide)⟩
  simp only [State.hears, plainPing, beq_self_eq_true, Bool.or_true, Bool.true_or, Bool.and_true]
  decide +kernel


/-! ### Register writes as commands -/

/-- The servo hands Ledger time to the controller. -/
def owned : State := { solo.put Reg.DISCIPLINE_OWNER 1 with ledger := 52920000000 * 2 ^ 32, ticks := 1000000000 }

/-- Booking 31 runs for INJECT over every island and serial lane, out of service allowed. -/
def booked : State := ((((solo.put (Reg.BOOKING_STATE 31) 2).put (Reg.BOOKING_KIND 31) 9).put (Reg.BOOKING_FLAGS 31) 1).put
  (Reg.BOOKING_ISLANDS 31) (2 ^ 47 - 1)).put (Reg.BOOKING_SERIAL 31) (2 ^ 96 - 1)

/-- Booking 30 is filled in for island SEC, and 10 s of recorder 255 lie before the clip's OUT point. -/
def filled : State := ((solo.put (Reg.BOOKING_KIND 30) 1).put (Reg.BOOKING_ISLANDS 30) 8).put (Reg.BOOKING_DURATION 30) 52920000000

/-- The mode CONCERT, which lists every island. -/
def concert : State := solo.put Reg.MODE_ACTIVE 5

/-- Recorder 255 runs at home 0, and clip 1023 lies between its points. -/
def clipReady : State := (((((concert.put (Reg.RECORDER_ENABLE 255) 1).put (Reg.RECORDER_HOME_IN_FORCE 255) 0).put
  (Reg.CLIP_RECORDER 1023) 255).put (Reg.CLIP_IN 1023) 0).put (Reg.CLIP_OUT 1023) (2 ^ 48))

/-- Generator 255 makes row 4 of Table 6.2 on raster 31. -/
def generating : State := (((((solo.put (Reg.TEST_GEN_RASTER 255) 31).put (Reg.RASTER_FORMAT 31) 9).put (Reg.TEST_GEN_GROUP 255) 1).put
  (Reg.TEST_GEN_RATE 255) 3).put (Reg.TEST_GEN_LEVEL 255) 1)

/-- Image 2 is verified, and a booking covers KEEP. -/
def imaged : State := booked.put (Reg.IMAGE_WINDOW_STATE 2) 2

/-- The same in SERVICE, for the key store. -/
def serviced : State := booked.put Reg.MODE_ACTIVE 7

theorem test_TimeWrites_increment_witness : (owned).takesWrite [regItem (Reg.TIME_INCREMENT) (0x34EB851EB8)] :=
  takesWrite_of (c := owned) (by decide +kernel) (by decide +kernel) (by decide +kernel) (k := (Reg.TIME_INCREMENT)) (v := 0x34EB851EB8) rfl
    (by decide +kernel) (by decide +kernel) (by rw [writeOwn_self]; decide +kernel)

theorem test_TimeWrites_step_witness : (owned).takesWrite [regItem (Reg.TIME_STEP_AMOUNT) (-5)] :=
  takesWrite_of (c := owned) (by decide +kernel) (by decide +kernel) (by decide +kernel) (k := (Reg.TIME_STEP_AMOUNT)) (v := -5) rfl
    (by decide +kernel) (by decide +kernel) (by rw [writeOwn_self]; decide +kernel)

theorem test_TimeWrites_owner_witness : (owned).takesWrite [regItem (Reg.DISCIPLINE_OWNER) (1)] :=
  takesWrite_of (c := owned) (by decide +kernel) (by decide +kernel) (by decide +kernel) (k := (Reg.DISCIPLINE_OWNER)) (v := 1) rfl
    (by decide +kernel) (by decide +kernel) (by rw [writeOwn_self]; decide +kernel)

theorem test_TimeWrites_group_witness : (solo).takesWrite [regItem (Reg.SLIP_CANCEL_GROUP) (4095)] :=
  takesWrite_of (c := solo) (by decide +kernel) (by decide +kernel) (by decide +kernel) (k := (Reg.SLIP_CANCEL_GROUP)) (v := 4095) rfl
    (by decide +kernel) (by decide +kernel) (by rw [writeOwn_self]; decide +kernel)

theorem test_TimeWrites_all_witness : (solo).takesWrite [regItem (Reg.SLIP_CANCEL_ALL) (1)] :=
  takesWrite_of (c := solo) (by decide +kernel) (by decide +kernel) (by decide +kernel) (k := (Reg.SLIP_CANCEL_ALL)) (v := 1) rfl
    (by decide +kernel) (by decide +kernel) (by rw [writeOwn_self]; decide +kernel)

theorem test_ControlWrites_commit_witness : (solo).takesWrite [regItem (Reg.STANDING_COMMIT_COMMIT) (1)] :=
  takesWrite_of (c := solo) (by decide +kernel) (by decide +kernel) (by decide +kernel) (k := (Reg.STANDING_COMMIT_COMMIT)) (v := 1) rfl
    (by decide +kernel) (by decide +kernel) (by rw [writeOwn_self]; decide +kernel)

theorem test_ControlWrites_release_witness : (solo).takesWrite [regItem (Reg.LOAN_RELEASE) (1)] :=
  takesWrite_of (c := solo) (by decide +kernel) (by decide +kernel) (by decide +kernel) (k := (Reg.LOAN_RELEASE)) (v := 1) rfl
    (by decide +kernel) (by decide +kernel) (by rw [writeOwn_self]; decide +kernel)

theorem test_ControlWrites_compile_witness : (concert).takesWrite [regItem (Reg.AUDIO_COMPILE_COMPILE) (1)] :=
  takesWrite_of (c := concert) (by decide +kernel) (by decide +kernel) (by decide +kernel) (k := (Reg.AUDIO_COMPILE_COMPILE)) (v := 1) rfl
    (by decide +kernel) (by decide +kernel) (by rw [writeOwn_self]; decide +kernel)

theorem test_ControlWrites_capture_witness : (clipReady).takesWrite [regItem (Reg.CLIP_CAPTURE 1023) (1)] :=
  takesWrite_of (c := clipReady) (by decide +kernel) (by decide +kernel) (by decide +kernel) (k := (Reg.CLIP_CAPTURE 1023)) (v := 1) rfl
    (by decide +kernel) (by decide +kernel) (by rw [writeOwn_self]; decide +kernel)

theorem test_ControlWrites_delete_witness : (solo).takesWrite [regItem (Reg.CLIP_DELETE 1023) (1)] :=
  takesWrite_of (c := solo) (by decide +kernel) (by decide +kernel) (by decide +kernel) (k := (Reg.CLIP_DELETE 1023)) (v := 1) rfl
    (by decide +kernel) (by decide +kernel) (by rw [writeOwn_self]; decide +kernel)

theorem test_ControlWrites_bootIdle_witness : (imaged).takesWrite [regItem (Reg.UPDATE_BOOT_IDLE) (2)] ∧
    (imaged).decoded [regItem (Reg.UPDATE_BOOT_IDLE) (2)] = [(Reg.UPDATE_BOOT_IDLE, 2)] :=
  ⟨takesWrite_of (c := (imaged.put (Reg.UPDATE_BOOT_IDLE) (2))) (by decide +kernel) (by decide +kernel) (by decide +kernel) (k := (Reg.UPDATE_BOOT_IDLE)) (v := 2) rfl
    (by decide +kernel) (by decide +kernel) (by rw [writeOwn_put] <;> decide +kernel), by decide +kernel⟩

theorem test_ControlWrites_confirm_witness : (solo).takesWrite [regItem (Reg.HEALTH_CONFIRM_CONFIRM) (1)] ∧
    (solo).decoded [regItem (Reg.HEALTH_CONFIRM_CONFIRM) (1)] = [(Reg.HEALTH_CONFIRM_CONFIRM, 1)] :=
  ⟨takesWrite_of (c := solo) (by decide +kernel) (by decide +kernel) (by decide +kernel) (k := (Reg.HEALTH_CONFIRM_CONFIRM)) (v := 1) rfl
    (by decide +kernel) (by decide +kernel) (by rw [writeOwn_self]; decide +kernel), by decide +kernel⟩

theorem test_ControlWrites_reject_witness : (solo).takesWrite [regItem (Reg.HEALTH_CONFIRM_REJECT) (1)] ∧
    (solo).decoded [regItem (Reg.HEALTH_CONFIRM_REJECT) (1)] = [(Reg.HEALTH_CONFIRM_REJECT, 1)] :=
  ⟨takesWrite_of (c := solo) (by decide +kernel) (by decide +kernel) (by decide +kernel) (k := (Reg.HEALTH_CONFIRM_REJECT)) (v := 1) rfl
    (by decide +kernel) (by decide +kernel) (by rw [writeOwn_self]; decide +kernel), by decide +kernel⟩

theorem test_ControlWrites_keyWrite_witness : (serviced).takesWrite [regItem (Reg.KEY_SLOT_KEY 15) (2 ^ 1023)] ∧
    (serviced).decoded [regItem (Reg.KEY_SLOT_KEY 15) (2 ^ 1023)] = [(Reg.KEY_SLOT_KEY 15, 2 ^ 1023)] :=
  ⟨takesWrite_of (c := serviced) (by decide +kernel) (by decide +kernel) (by decide +kernel) (k := (Reg.KEY_SLOT_KEY 15)) (v := 2 ^ 1023) rfl
    (by decide +kernel) (by decide +kernel) (by rw [writeOwn_self]; decide +kernel), by decide +kernel⟩

theorem test_ControlWrites_submit_witness : (filled).takesWrite [regItem (Reg.BOOKING_SUBMIT 30) (1)] :=
  takesWrite_of (c := filled) (by decide +kernel) (by decide +kernel) (by decide +kernel) (k := (Reg.BOOKING_SUBMIT 30)) (v := 1) rfl
    (by decide +kernel) (by decide +kernel) (by rw [writeOwn_self]; decide +kernel)

theorem test_ControlWrites_bookingCancel_witness : (solo).takesWrite [regItem (Reg.BOOKING_CANCEL 31) (1)] :=
  takesWrite_of (c := solo) (by decide +kernel) (by decide +kernel) (by decide +kernel) (k := (Reg.BOOKING_CANCEL 31)) (v := 1) rfl
    (by decide +kernel) (by decide +kernel) (by rw [writeOwn_self]; decide +kernel)

theorem test_ControlWrites_force_witness : (booked).takesWrite [regItem (Reg.FAULT_FORCE_FORCE 662) (1)] :=
  takesWrite_of (c := (booked.put (Reg.FAULT_FORCE_FORCE 662) (1))) (by decide +kernel) (by decide +kernel) (by decide +kernel) (k := (Reg.FAULT_FORCE_FORCE 662)) (v := 1) rfl
    (by decide +kernel) (by decide +kernel) (by rw [writeOwn_put] <;> decide +kernel)

theorem test_ControlWrites_injectEnable_witness : (solo).takesWrite [regItem (Reg.INJECT_ENABLE 63) (0)] :=
  takesWrite_of (c := solo) (by decide +kernel) (by decide +kernel) (by decide +kernel) (k := (Reg.INJECT_ENABLE 63)) (v := 0) rfl
    (by decide +kernel) (by decide +kernel) (by rw [writeOwn_self]; decide +kernel)

theorem test_ConfigurationWrites_accession_witness : (solo).takesWrite [regItem (Reg.FLOW_WEED 16383) (0)] :=
  takesWrite_of (c := solo) (by decide +kernel) (by decide +kernel) (by decide +kernel) (k := (Reg.FLOW_WEED 16383)) (v := 0) rfl
    (by decide +kernel) (by decide +kernel) (by rw [writeOwn_self]; decide +kernel)

theorem test_ConfigurationWrites_bundle_witness : (solo).takesWrite [regItem (Reg.BUNDLE_IN_ENABLE 255) (0)] ∧
    (solo).decoded [regItem (Reg.BUNDLE_IN_ENABLE 255) (0)] = [(Reg.BUNDLE_IN_ENABLE 255, 0)] :=
  ⟨takesWrite_of (c := solo) (by decide +kernel) (by decide +kernel) (by decide +kernel) (k := (Reg.BUNDLE_IN_ENABLE 255)) (v := 0) rfl
    (by decide +kernel) (by decide +kernel) (by rw [writeOwn_self]; decide +kernel), by decide +kernel⟩

theorem test_ConfigurationWrites_rxGroup_witness : (booked).takesWrite [regItem (Reg.LINK_GROUP_RX_SIZE 95) (1)] ∧
    (booked).decoded [regItem (Reg.LINK_GROUP_RX_SIZE 95) (1)] = [(Reg.LINK_GROUP_RX_SIZE 95, 1)] :=
  ⟨takesWrite_of (c := booked) (by decide +kernel) (by decide +kernel) (by decide +kernel) (k := (Reg.LINK_GROUP_RX_SIZE 95)) (v := 1) rfl
    (by decide +kernel) (by decide +kernel) (by rw [writeOwn_self]; decide +kernel), by decide +kernel⟩

theorem test_ConfigurationWrites_txGroup_witness : (booked).takesWrite [regItem (Reg.LINK_GROUP_TX_SIZE 95) (1)] ∧
    (booked).decoded [regItem (Reg.LINK_GROUP_TX_SIZE 95) (1)] = [(Reg.LINK_GROUP_TX_SIZE 95, 1)] :=
  ⟨takesWrite_of (c := booked) (by decide +kernel) (by decide +kernel) (by decide +kernel) (k := (Reg.LINK_GROUP_TX_SIZE 95)) (v := 1) rfl
    (by decide +kernel) (by decide +kernel) (by rw [writeOwn_self]; decide +kernel), by decide +kernel⟩

theorem test_ConfigurationWrites_portMode_witness : (booked).takesWrite [regItem (⟨0x4000, 3, 1⟩) (0)] ∧
    (booked).decoded [regItem (⟨0x4000, 3, 1⟩) (0)] = [(⟨0x4000, 3, 1⟩, 0)] :=
  ⟨takesWrite_of (c := booked) (by decide +kernel) (by decide +kernel) (by decide +kernel) (k := (⟨0x4000, 3, 1⟩)) (v := 0) rfl
    (by decide +kernel) (by decide +kernel) (by rw [writeOwn_self]; decide +kernel), by decide +kernel⟩

theorem test_ConfigurationWrites_portField_witness : (booked).takesWrite [regItem (⟨0x4000, 3, 3⟩) (1)] ∧
    (booked).decoded [regItem (⟨0x4000, 3, 3⟩) (1)] = [(⟨0x4000, 3, 3⟩, 1)] :=
  ⟨takesWrite_of (c := booked) (by decide +kernel) (by decide +kernel) (by decide +kernel) (k := (⟨0x4000, 3, 3⟩)) (v := 1) rfl
    (by decide +kernel) (by decide +kernel) (by rw [writeOwn_self]; decide +kernel), by decide +kernel⟩

theorem test_ConfigurationWrites_gpo_witness : (solo).takesWrite [regItem (Reg.GPO_LEVEL 15) (1)] ∧
    (solo).decoded [regItem (Reg.GPO_LEVEL 15) (1)] = [(Reg.GPO_LEVEL 15, 1)] :=
  ⟨takesWrite_of (c := (solo.put (Reg.GPO_LEVEL 15) (1))) (by decide +kernel) (by decide +kernel) (by decide +kernel) (k := (Reg.GPO_LEVEL 15)) (v := 1) rfl
    (by decide +kernel) (by decide +kernel) (by rw [writeOwn_put] <;> decide +kernel), by decide +kernel⟩

theorem test_ConfigurationWrites_gpi_witness : (solo).takesWrite [regItem (Reg.GPI_POLARITY 15) (1)] ∧
    (solo).decoded [regItem (Reg.GPI_POLARITY 15) (1)] = [(Reg.GPI_POLARITY 15, 1)] :=
  ⟨takesWrite_of (c := (solo.put (Reg.GPI_POLARITY 15) (1))) (by decide +kernel) (by decide +kernel) (by decide +kernel) (k := (Reg.GPI_POLARITY 15)) (v := 1) rfl
    (by decide +kernel) (by decide +kernel) (by rw [writeOwn_put] <;> decide +kernel), by decide +kernel⟩

theorem test_ConfigurationWrites_gen_witness : (generating).takesWrite [regItem (⟨0xE200, 255, 1⟩) (generating.get ⟨0xE200, 255, 1⟩)] :=
  takesWrite_of (c := generating) (by decide +kernel) (by decide +kernel) (by decide +kernel) (k := (⟨0xE200, 255, 1⟩)) (v := generating.get ⟨0xE200, 255, 1⟩) rfl
    (by decide +kernel) (by decide +kernel) (by rw [writeOwn_self]; decide +kernel)

theorem test_ConfigurationWrites_genLast_witness : (generating).takesWrite [regItem (⟨0xE200, 255, 9⟩) (generating.get ⟨0xE200, 255, 9⟩)] ∧
    (generating).decoded [regItem (⟨0xE200, 255, 9⟩) (generating.get ⟨0xE200, 255, 9⟩)] = [(⟨0xE200, 255, 9⟩, generating.get ⟨0xE200, 255, 9⟩)] :=
  ⟨takesWrite_of (c := generating) (by decide +kernel) (by decide +kernel) (by decide +kernel) (k := (⟨0xE200, 255, 9⟩)) (v := generating.get ⟨0xE200, 255, 9⟩) rfl
    (by decide +kernel) (by decide +kernel) (by rw [writeOwn_self]; decide +kernel), by decide +kernel⟩

theorem test_ConfigurationWrites_refRaster_witness : (solo).takesWrite [regItem (Reg.SDI_RX_REF_RASTER 95) (255)] ∧
    (solo).decoded [regItem (Reg.SDI_RX_REF_RASTER 95) (255)] = [(Reg.SDI_RX_REF_RASTER 95, 255)] :=
  ⟨takesWrite_of (c := solo) (by decide +kernel) (by decide +kernel) (by decide +kernel) (k := (Reg.SDI_RX_REF_RASTER 95)) (v := 255) rfl
    (by decide +kernel) (by decide +kernel) (by rw [writeOwn_self]; decide +kernel), by decide +kernel⟩

theorem test_ConfigurationWrites_rateMode_witness : (solo).takesWrite [regItem (Reg.SDI_RX_RATE_MODE 95) (0)] ∧
    (solo).decoded [regItem (Reg.SDI_RX_RATE_MODE 95) (0)] = [(Reg.SDI_RX_RATE_MODE 95, 0)] :=
  ⟨takesWrite_of (c := solo) (by decide +kernel) (by decide +kernel) (by decide +kernel) (k := (Reg.SDI_RX_RATE_MODE 95)) (v := 0) rfl
    (by decide +kernel) (by decide +kernel) (by rw [writeOwn_self]; decide +kernel), by decide +kernel⟩

theorem test_ConfigurationWrites_polarity_witness : (solo).takesWrite [regItem (Reg.SDI_RX_POLARITY 95) (0)] ∧
    (solo).decoded [regItem (Reg.SDI_RX_POLARITY 95) (0)] = [(Reg.SDI_RX_POLARITY 95, 0)] :=
  ⟨takesWrite_of (c := solo) (by decide +kernel) (by decide +kernel) (by decide +kernel) (k := (Reg.SDI_RX_POLARITY 95)) (v := 0) rfl
    (by decide +kernel) (by decide +kernel) (by rw [writeOwn_self]; decide +kernel), by decide +kernel⟩


theorem test_TimeWrites_force_witness : owned.takesWrite [regItem Reg.TIME_STEP_AMOUNT (-5), regItem Reg.TIME_STEP_FORCE 1] := by
  refine takesWrite_of_all (c := owned) (by decide +kernel) (by decide +kernel) (by decide +kernel) (fun i hi => ?_)
  simp only [List.mem_cons, List.not_mem_nil, or_false] at hi
  rcases hi with rfl | rfl
  · exact ⟨Reg.TIME_STEP_AMOUNT, _, -5, rfl, by decide +kernel, by decide +kernel, by rw [writeOwn_self]; decide +kernel⟩
  · exact ⟨Reg.TIME_STEP_FORCE, _, 1, rfl, by decide +kernel, by decide +kernel, by rw [writeOwn_self]; decide +kernel⟩

theorem test_PlainRegisterWrite_witness : solo.takesWrite [regItem (Reg.MAC_HASH_HASH 15) 1] ∧
    solo.decoded [regItem (Reg.MAC_HASH_HASH 15) 1] = [(Reg.MAC_HASH_HASH 15, 1)] ∧ (Reg.MAC_HASH_HASH 15).idx ≠ 0x2020 ∧
    (Reg.MAC_HASH_HASH 15).idx ≠ 0x4100 ∧ ∀ u : State, u.applyItem false (Reg.MAC_HASH_HASH 15) 1 = u.put (Reg.MAC_HASH_HASH 15) 1 :=
  ⟨takesWrite_of (c := solo.put (Reg.MAC_HASH_HASH 15) 1) (by decide +kernel) (by decide +kernel) (by decide +kernel) (k := Reg.MAC_HASH_HASH 15) (v := 1) rfl
    (by decide +kernel) (by decide +kernel) (by rw [writeOwn_put] <;> decide +kernel), by decide +kernel, by decide, by decide, fun _ => rfl⟩

theorem test_RefusedWriteChangesNothing_witness : (dev []).ready 1 = false ∧ (dev [(Reg.READY, 2)]).ready 1 = true ∧
    (dev [(Reg.READY, 2)]).lent = false ∧ solo.writePlan false [⟨0, ⟨0, 0, 0⟩⟩] = [.noObject] := by decide +kernel

theorem test_StepsOfLedgerTime_witness : owned.stepFits (-(52920000000 : Int)) = true ∧ owned.get Reg.STEP_LIMIT < (52920000000 : Int).natAbs ∧
    0 ≤ owned.get Reg.TIME_INCREMENT := by decide +kernel

/-- The left twin of a pair whose link is up. -/
def twinned : State := ((solo.put Reg.PAIRING_STATE 4).put Reg.TWIN_LINK_STATE 1).put Reg.TWIN_LINK_LANES 3

theorem test_MirrorBeforeWrite_witness : twinned.alive = true ∧ twinned.ready 1 = true ∧ twinned.endsDue = twinned ∧ twinned.lent = true ∧
    twinned.edge = true ∧ twinned.paired = true ∧ twinned.twinUp = true ∧ twinned.get Hid.rekeying ≠ 1 ∧
    (twinned.put Reg.TWIN_LINK_STATE 0).twinUp = false ∧
    (∀ st ∈ twinned.writePlan false [regItem Reg.LOAN_RELEASE 1], st = Status.ok) := by
  refine ⟨by decide, by decide, by decide +kernel, by decide, by decide, by decide, by decide, by decide +kernel, by decide, ?_⟩
  intro st hst
  have hc : twinned.withItems (twinned.decoded [regItem Reg.LOAN_RELEASE 1]) = twinned := by decide +kernel
  simp only [State.writePlan, hc, List.map_cons, List.map_nil, List.mem_singleton] at hst
  exact hst.trans (writeItem_ok (k := Reg.LOAN_RELEASE) (v := 1) rfl (by decide +kernel) (by decide +kernel) (by rw [writeOwn_self]; decide +kernel))

/-- A request of the twin's acknowledgement 3, due 5 ms after 0, at that time. -/
def waiting : State := { twinned with mirrorWait := [⟨3, .write [regItem Reg.LOAN_RELEASE 1], .command, 264600000, 0⟩],
                                      ledger := 264600000 * 2 ^ 32, ticks := 5000000 }

theorem test_MirrorBeforeWrite_ack_witness :
    let w : MirrorWait := ⟨3, .write [regItem Reg.LOAN_RELEASE 1], .command, 264600000, 0⟩
    waiting.alive = true ∧ waiting.edge = true ∧ waiting.get Reg.TWIN_LINK_LANES ≠ 0 ∧ waiting.twinSeen.contains 8 = false ∧
    (∀ x ∈ waiting.mirrorWait, waiting.tickLf ≤ x.deadline) ∧ waiting.mirrorWait.find? (fun x => x.seq == 3) = some w ∧
    waiting.mirrorWait = [w] ∧ w.deadline ≤ waiting.tickLf ∧ w.req = .write [regItem Reg.LOAN_RELEASE 1] := by decide +kernel


/-! ### Time, references, slips -/

theorem test_TruncatedStamps_witness : -(2 ^ 39) ≤ -(2 ^ 39 : Int) - 0 ∧ (2 ^ 39 - 1 : Int) - 0 < 2 ^ 39 ∧ -(2 ^ 39) ≤ (2 ^ 39 - 1 : Int) - 0 := by
  decide

theorem test_SpanArithmetic_witness : -(2 ^ 63) ≤ -(2 ^ 63 : Int) ∧ (2 ^ 63 - 1 : Int) < 2 ^ 63 ∧ (0 : Int) ≤ lfLimit - 1 ∧ lfLimit - 1 < lfLimit := by
  decide

theorem test_PtpConversions_witness : (999999999 : Nat) < 1000000000 ∧
    lfToNs (4095 % (52920000000 * 4096)) < 1000000000 * 65536 ∧
    1000000000 * 65536 ≤ lfToNs ((52920000000 * 4096 - 1) % (52920000000 * 4096)) := by decide +kernel

theorem test_NominalPoints_witness : (0 : Int) < soloAt1.rasterPeriod 31 := by decide +kernel

/-- PTP port 2 is in use in domain 5 with its link up, port 1 is not, and the servo has measured a new master on it over 8 Sync intervals; port 18 is in
use too. -/
def acquiring : State := ((((((((owned.put Reg.DISCIPLINE_OWNER 0).put (Reg.PTP_PORT_ENABLE 1) 0).put (Reg.PTP_PORT_ENABLE 2) 1).put (Reg.PTP_PORT_ENABLE 18) 1).put
  Reg.DISCIPLINE_SERVO_STATE 1).put Hid.syncCount 8).put Reg.DISCIPLINE_SELECTED_PORT 2).put Hid.lastClockId 77).put (Reg.PTP_PORT_DOMAIN 2) 5

theorem test_ServoAndPtp_witness : acquiring.alive = true ∧ acquiring.up 1 = true ∧ acquiring.up 0 = true ∧ acquiring.ptpOn 2 = true ∧
    acquiring.get (Reg.PTP_PORT_DOMAIN 2) = 5 ∧ acquiring.ptpOn 1 = false ∧ acquiring.ptpLink 2 = true ∧
    acquiring.get Reg.DISCIPLINE_OWNER = 0 ∧ acquiring.get Hid.lastClockId ≠ 78 ∧ acquiring.get Reg.DISCIPLINE_SERVO_STATE = 1 ∧
    8 ≤ acquiring.get Hid.syncCount ∧ acquiring.get Reg.DISCIPLINE_SELECTED_PORT = 2 ∧
    acquiring.stepFits (acquiring.get Reg.DISCIPLINE_OFFSET) = true ∧ acquiring.timeSet = true ∧
    (acquiring.get Reg.DISCIPLINE_OFFSET).natAbs ≤ acquiring.get Reg.DISCIPLINE_SLEW_THRESHOLD := by decide +kernel

theorem test_ServoAndPtp_mac_witness :
    let s := (acquiring.put (Reg.MAC_ACTIVE 15) 1).put (Reg.MAC_LINK 15) 2
    s.ptpOn 18 = true ∧ s.ptpLink 18 = true ∧ s.up 0 = true ∧ 3 ≤ 18 := by decide +kernel

theorem test_ServoAndPtp_steps_witness :
    (let s := acquiring.put Reg.DISCIPLINE_OFFSET (acquiring.get Reg.STEP_LIMIT)
     s.get Reg.DISCIPLINE_SLEW_THRESHOLD < (s.get Reg.DISCIPLINE_OFFSET).natAbs ∧
      (s.get Reg.DISCIPLINE_OFFSET).natAbs ≤ s.get Reg.STEP_LIMIT ∧ s.stepFits (s.get Reg.DISCIPLINE_OFFSET) = true) ∧
    (acquiring.put Reg.TIME_STATE 0).timeSet = false ∧
    (let s := acquiring.put Reg.DISCIPLINE_OFFSET (acquiring.get Reg.STEP_LIMIT + 1)
     s.get Reg.DISCIPLINE_SLEW_THRESHOLD < (s.get Reg.DISCIPLINE_OFFSET).natAbs ∧
      s.get Reg.STEP_LIMIT < (s.get Reg.DISCIPLINE_OFFSET).natAbs ∧ s.stepFits (s.get Reg.DISCIPLINE_OFFSET) = true) := by decide +kernel

/-- A twin message of TWIN_SEQUENCE 8 is taken by the twin of the tests; one of 7 has been seen. -/
theorem twinned_hears : ({ twinned with twinSeen := [7] } : State).hearsTwin 8 := by
  refine ⟨rfl, by decide, by decide, by decide +kernel, rfl⟩

theorem test_TwinTimeAndCaptures_witness :
    let s : State := { ((twinned.put Hid.twinStampNew 1).put Hid.twinStamp (-5292)).put (Reg.TIMESTAMP_CAPTURE_EDGE 2) 1 with twinSeen := [7] }
    s.alive = true ∧ s.twinUp = true ∧ s.edge = true ∧ s.get Reg.TWIN_LINK_LANES ≠ 0 ∧ s.twinSeen.contains 7 = true ∧
      s.get Hid.twinStampNew ≠ 0 ∧ solo.twinUp = false ∧ s.up 1 = true ∧
      s.get (Reg.TIMESTAMP_CAPTURE_EDGE 2) = (if true then 1 else 2) ∧
      s.get (Reg.TIMESTAMP_CAPTURE_EDGE 2) = (if false then 2 else 1) ∧ s.get (Reg.TIMESTAMP_CAPTURE_EDGE 0) = 0 := by decide +kernel

/-- REF in HOLDOVER since tick 0, candidate 4 present, raster 31 running, REF back from a restart. -/
def holding : State :=
  (((({ soloAt1 with ticks := 0 } : State).put (Reg.REF_CANDIDATE_STATUS 4) 2).put Reg.REF_STATE_STATE 3).put Hid.refRestartAt 1).put
    Hid.leftLocked 1

theorem test_ReferenceUnit_witness : holding.alive = true ∧ holding.up 2 = true ∧ 2 ≤ holding.get (Reg.REF_CANDIDATE_STATUS 4) ∧
    holding.get Reg.REF_STATE_STATE = 3 ∧ holding.get Hid.leftLocked ≠ 0 ∧
    (let el := holding.tickLf - (holding.get Hid.leftLocked - 1)
     let e := phaseEstimate (holding.get Reg.HOLDOVER_RESIDUAL) (holding.get Reg.HOLDOVER_DRIFT) (el / lfSec)
     el < holding.get Reg.HOLDOVER_TIME_LIMIT ∧ e < holding.get Reg.HOLDOVER_PHASE_LIMIT) ∧
    (let s := holding.put Reg.HOLDOVER_TIME_LIMIT 0
     s.get Reg.HOLDOVER_TIME_LIMIT ≤ s.tickLf - (s.get Hid.leftLocked - 1)) ∧
    (let s := (solo.put Reg.REF_STATE_STATE 2).put Hid.lockN 3600
     s.get Reg.REF_STATE_STATE = 2 ∧ 3600 ≤ s.get Hid.lockN) ∧
    holding.get Hid.refRestartAt ≠ 0 ∧ holding.rasterPeriod 31 ≠ 0 ∧ holding.get (Hid.rasterWait 31) ≠ 1 ∧
    [(true, (0 : Int)), (true, 0), (true, 0), (false, 0), (false, 0)].length = 5 := by decide +kernel

theorem test_SlipTimes_check_witness :
    let x : Slip := { emptySlip 8191 with st := .armed, kind := 13, boundary := some (105840000000 * 4096), check := some (52920000000 * 4096) }
    let s : State := { soloAt1 with slips := [x] }
    s.alive = true ∧ s.slips = [x] ∧ s.up 1 = true ∧ x.st = .armed ∧ x.check = some (52920000000 * 4096) ∧
      (52920000000 * 4096 : Int) / 4096 ≤ 52920000000 ∧ (52920000000 * 4096 : Int) ≤ s.nowFine ∧
      (52919999999 : Int) < 52920000000 * 4096 / 4096 := by decide +kernel

theorem test_SlipTimes_boundary_witness :
    let x : Slip := { emptySlip 8191 with st := .launched, kind := 10, target := 31, raster := 31, boundary := some 0 }
    let s : State := { soloAt1.put (Reg.RASTER_LAST_BOUNDARY 31) (ltOfLf 52920000000) with slips := [x] }
    s.slips = [x] ∧ x.st = .launched ∧ x.kind ≠ 11 ∧ s.get (Hid.slipApplied 8191) = 0 ∧
      (∃ b, s.firesAt x 52920000000 = some b) ∧ retiresAtB x.kind = true ∧ (soloAt1.slips = []) := by
  refine ⟨rfl, rfl, by decide, by decide +kernel, ⟨0, by decide +kernel⟩, by decide, rfl⟩

theorem test_SlipTimes_retire_witness :
    let s : State := { soloAt1.put (Hid.slipApplied 8191) 1 with slips := [{ emptySlip 8191 with st := .launched, kind := 1, boundary := some 0 }] }
    let u : State := { soloAt1.put (Hid.slipApplied 8191) 1 with slips := [{ emptySlip 8191 with st := .launched, kind := 4, boundary := some 0 }] }
    (s.slip 8191).st = .launched ∧ s.get (Hid.slipApplied 8191) = 1 ∧
      (s.slip 8191).boundary.getD 0 + s.slipPeriod (s.slip 8191) * 4096 ≤ s.nowFine ∧ (s.slip 8191).kind = 1 ∧
      (u.slip 8191).boundary.getD 0 + u.slipPeriod (u.slip 8191) * 4096 ≤ u.nowFine ∧ (u.slip 8191).kind = 4 := by decide +kernel

theorem test_SlipTimes_twin_witness : twinned.alive = true ∧ ({ twinned with twinSeen := [7] } : State).hearsTwin 8 ∧ solo.alive = true ∧
    solo.twinUp = false := ⟨rfl, twinned_hears, rfl, by decide⟩

/-! ### Serial lanes and outputs -/

/-- A 3G signal of row 4 of Table 6.2. -/
def link3g : SdiLink := ⟨3, 9, 1, 0, 0, 0, false⟩

/-- Lane 95 with a signal decided PRESENT, and its publication due. -/
def sdiOn : State := ((((soloAt1.put (Hid.sdiRaw 95) 1).put (Hid.sdiLane 95) 1).put (Hid.sdiDecided 95) 2).put (Hid.sdiPubAt 95) 1).put
  (Hid.sdiDue 95) 1

theorem test_SerialPresence_witness : soloAt1.alive = true ∧ soloAt1.sdiListens 95 = true ∧ soloAt1.sdiLocks 95 link3g = true ∧
    soloAt1.get (Hid.sdiRaw 95) = 0 ∧ soloAt1.get (Hid.sdiLane 95) = 0 ∧
    ((soloAt1.sdiNote 95).sdiEdgeCount 95 : Int) < soloAt1.get (Reg.SDI_RX_CHATTER_EDGES 95) ∧
    sdiOn.sdiListens 95 = true ∧ sdiOn.get (Hid.sdiRaw 95) = 1 ∧ sdiOn.get (Hid.sdiLane 95) = 1 ∧
    ((sdiOn.sdiNote 95).sdiEdgeCount 95 : Int) < sdiOn.get (Reg.SDI_RX_CHATTER_EDGES 95) ∧
    ((sdiOn.put (Reg.SDI_RX_CHATTER_EDGES 95) 1).get (Reg.SDI_RX_CHATTER_EDGES 95) ≤ ((sdiOn.put (Reg.SDI_RX_CHATTER_EDGES 95) 1).sdiNote 95).sdiEdgeCount 95) := by
  decide +kernel

theorem test_SerialPresence_times_witness : sdiOn.get (Hid.sdiDue 95) ≠ 0 ∧ sdiOn.get (Hid.sdiDue 95) ≤ sdiOn.tickLf ∧
    (sdiOn.put (Hid.sdiLane 95) 0).get (Hid.sdiLane 95) = 0 ∧ (sdiOn.put (Hid.sdiRaw 95) 0).get (Hid.sdiLane 95) = 1 ∧
    (sdiOn.put (Hid.sdiLane 95) 3).get (Hid.sdiQuiet 95) ≤ sdiOn.tickLf ∧ sdiOn.get (Hid.sdiPubAt 95) ≠ 0 ∧
    sdiOn.get (Hid.sdiPubAt 95) - 1 ≤ sdiOn.now ∧ sdiOn.get (Reg.LINK_GROUP_RX_SIZE 95) = 1 ∧ sdiOn.get (Reg.LINK_GROUP_RX_BASE 95) = 95 ∧
    sdiOn.get (Hid.sdiDecided 95) = 2 ∧ sdiOn.get (Hid.sdiSig 95) = 0 ∧ sdiOn.get (Reg.SDI_RX_SIGNAL 95) = 0 ∧
    (let s := ((sdiOn.put (Hid.sdiDecided 95) 1).put (Hid.sdiSig 95) 1).put (Reg.SDI_RX_SIGNAL 95) 1
     s.get (Hid.sdiDecided 95) = 1 ∧ s.get (Hid.sdiSig 95) = 1 ∧ s.get (Reg.SDI_RX_SIGNAL 95) = 1 ∧ s.get (Hid.sdiPubAt 95) ≠ 0) := by
  decide +kernel

/-- Output 95 sends on raster 31, and output 94 shows a freeze that has lasted its limit. -/
def sending : State := ((((soloAt1.put (Reg.SDI_TX_STATE 95) 1).put (Reg.SDI_TX_RASTER 95) 31).put (Hid.outShow 94) 2).put (Hid.outSince 94) 1).put
  (Reg.OUT_POLICY_FREEZE_LIMIT 94) 52920000000

theorem test_FramesInAndOut_witness : sdiOn.sdiListens 95 = true ∧ sdiOn.get (Hid.sdiRaw 95) = 1 ∧
    sdiOn.get (Reg.LINK_GROUP_RX_SIZE 95) = 1 ∧ (sdiOn.put (Hid.sdiSig 95) 1).get (Hid.sdiSig 95) = 1 ∧
    sending.rasterPeriod (sending.outRaster 95) ≠ 0 ∧
    (let w := (sending.txWake 95).when (decide (95 < 96) && (sending.txWake 95).get Reg.PAIRING_STATE != 3 && (sending.txWake 95).reconSlips == [])
      (fun u => u.put (Hid.reconHold 95) 0)
     w.outputSends 95 = true) ∧ sending.txBase 95 = 95 ∧
    sending.rasterPeriod (sending.outRaster 16479) = 0 ∧ sending.get (Hid.outShow 94) = 2 ∧ sending.get (Hid.outSince 94) ≠ 0 ∧
    (sending.policyOf 94).2.2.2 ≠ 0 ∧ sending.get (Hid.outSince 94) - 1 + (sending.policyOf 94).2.2.2 ≤ sending.now ∧
    solo.twinUp = false := by decide +kernel

theorem test_FramesInAndOut_decision_witness :
    let s : State := { twinned.put Reg.PAIRING_SIDE 1 with twinSeen := [7] }
    s.hearsTwin 8 ∧ (s.heardTwin 8).follower = true := by
  refine ⟨⟨rfl, by decide, by decide, by decide +kernel, rfl⟩, by decide +kernel⟩


/-! ### Fabric -/

/-- Fabric lanes 60 to 63 and the twin lanes in the states of the tests, X running. -/
def fabric : State := (((((((soloAt1.put (Reg.FAB_LANE_STATE 60) 4).put (Reg.FAB_LANE_STATE 61) 1).put (Reg.FAB_LANE_STATE 62) 2).put
  (Reg.FAB_LANE_STATE 63) 3).put (Hid.alignRun 62) 10).put (laneKey 65) 1).put (Hid.laneAt 61) 26460000001).put (laneKey 64) 3

theorem test_FabricLanes_witness : fabric.alive = true ∧ fabric.laneState 59 = 0 ∧ fabric.laneAllowed 59 = true ∧
    fabric.laneState 61 = 1 ∧ fabric.get (Hid.laneAt 61) + 26460000000 ≤ fabric.tickLf + 1 ∧
    (fabric.put (Hid.laneAt 61) 0).get (Hid.laneAt 61) + 26460000000 ≤ fabric.tickLf ∧
    fabric.tickLf < (fabric.put (Hid.laneAt 61) 26460000001).get (Hid.laneAt 61) + 26460000000 ∧
    fabric.identityOk 61 1 30 (2 * fabric.slot + 1) 0 = true ∧ fabric.identityOk 61 0 30 1 0 = false ∧ fabric.laneState 65 = 1 ∧
    fabric.identityOk 65 0 (fabric.slot ^^^ 1) 1 1 = true ∧ fabric.laneState 62 = 2 ∧ 10 ≤ fabric.get (Hid.alignRun 62) ∧
    fabric.laneState 63 = 3 ∧ fabric.laneState 64 = 3 ∧ fabric.laneState 0 ≠ 3 ∧ fabric.laneState 60 = 4 ∧
    fabric.get (Hid.laneAt 60) + 5292000000 ≤ fabric.tickLf ∧ fabric.laneAllowed 60 = true ∧
    (fabric.put (Reg.FAB_LANE_ENABLE 60) 0).laneAllowed 60 = false := by decide +kernel

theorem test_PatternSlots_witness : (4410 : Nat) ≤ 4410 ∧ (2 ^ 4416 - 1 : Nat) < 2 ^ 4416 ∧ (2 : Nat) < 3 := by decide +kernel

theorem test_ControlCells_witness : fabric.laneUp 63 = true ∧ fabric.runs 5 = true ∧
    (fabric.bump (Reg.FAB_STATS_CELLS_RX 63)).edge = true ∧
    ((fabric.put Reg.ROLE 1).bump (Reg.FAB_STATS_CELLS_RX 63)).edge = false ∧ (fabric.put Reg.ROLE 1).laneUp 63 = true ∧
    (fabric.put (Reg.ISLAND_STATE 5) 1).runs 5 = false ∧ fabric.laneUp 62 = false := by decide +kernel

/-- An essence cell of stream 5. -/
def essCell : Cell := ⟨1, 0, 5, 0, 0, 120, true, true, true, 0, 9, 3, 1, 1, 0, .words 0⟩

/-- A granted plane of centre 31 that has just brought a cell, one that has brought none since 0, and one not in use. -/
def planeUp : Plane := ⟨2, 31, 0, 1, 0, 0, 52920000000, 0, none, none⟩
def planeStale : Plane := ⟨2, 31, 0, 1, 0, 0, 0, 0, none, none⟩
def noPlane : Plane := ⟨0, 255, 0, 0, 0, 0, 0, 0, none, none⟩

/-- Subscription 4095 of stream 5 with one plane of two granted for longer than 10 ms. -/
def protectedSub : FabSub := ⟨4095, 5, 0, 1, 1, [0], true, planeUp, noPlane, [], none, 0, 0, 1, false, 0⟩

/-- An unprotected one whose plane every centre denied. -/
def deniedSub : FabSub := ⟨4094, 6, 0, 1, 1, [1], false, ⟨3, 255, 0, 1, 0, 0, 0, -1000000000000, none, none⟩, noPlane, [], none, 0, 0, 0, false, 0⟩

/-- A protected one whose first plane has failed. -/
def lostSub : FabSub := ⟨4093, 7, 0, 1, 1, [2], true, planeStale, planeUp, [], none, 0, 0, 0, false, 0⟩

/-- A device with those subscriptions and one offer of stream 5. -/
def subbed : State := { fabric with fabSubs := [protectedSub, deniedSub, lostSub], offers := [(⟨5, 1, 0, 1, 9, 3, 1⟩, 0)] }

theorem test_EssenceAndPeriods_witness : subbed.alive = true ∧ subbed.getN Hid.calPeriod ≠ subbed.period ∧
    (subbed.put Hid.calPeriod subbed.period).getN Hid.calPeriod = (subbed.put Hid.calPeriod subbed.period).period ∧
    subbed.runs 5 = true ∧ subbed.edge = true ∧ (({ subbed with ledger := 0 } : State)).now % calLf < 4233600 ∧
    ¬(3 ≤ essCell.kind ∧ essCell.kind ≤ 7) ∧ essCell.kind ≠ 0 ∧ subbed.laneUp 63 = true ∧ (subbed.put Reg.ROLE 1).edge = false ∧
    (subbed.bump (Reg.FAB_STATS_CELLS_RX 63)).subOf essCell.shelf = some protectedSub := by decide +kernel

theorem test_EssenceAndPeriods_planes_witness : subbed.fabSubs.find? (fun y => y.el == 4093) = some lostSub ∧
    subbed.planeFailed lostSub 0 = true ∧ (lostSub.plane 1).st = 2 ∧ subbed.planeFailed lostSub 1 = false ∧
    subbed.fabSubs.find? (fun y => y.el == 4094) = some deniedSub ∧ deniedSub.protect = false ∧ (deniedSub.plane 0).st = 3 ∧
    (deniedSub.plane 0).since + 100 * calLf ≤ subbed.tickLf ∧ deniedSub.users ≠ [] ∧
    subbed.fabSubs.find? (fun y => y.el == 4095) = some protectedSub ∧ protectedSub.protect = true ∧
    protectedSub.plane0.st = 2 ∧ protectedSub.plane1.st ≠ 2 ∧ protectedSub.singleAt ≠ 0 ∧ protectedSub.unprotected = false ∧
    protectedSub.singleAt + 529200000 ≤ subbed.tickLf := by decide +kernel

/-! ### Twins and outputs -/

theorem test_TwinMessages_witness : twinned.alive = true ∧ twinned.edge = true ∧ twinned.get Reg.TWIN_LINK_LANES ≠ 0 ∧
    twinned.twinSeen.contains 8 = false ∧ ({ twinned with twinSeen := [8] } : State).twinSeen.contains 8 = true ∧
    (({ twinned.put Reg.LOAN_STATE 0 with twinSeen := [8] } : State).bump Reg.TWIN_LINK_MESSAGES_RX).mirrorStatus (.cancel [0]) = .ok ∧
    (({ twinned with twinSeen := [8] } : State).bump Reg.TWIN_LINK_MESSAGES_RX).mirrorStatus (.cancel [0]) ≠ .ok ∧
    (twinned.put Reg.PAIRING_STATE 3).get Reg.PAIRING_STATE = 3 ∧
    solo.get Reg.TWIN_LINK_LANES = 0 ∧ twinned.twinUp = true ∧ twinned.twinAlive = false ∧ 2 ≤ twinned.get Reg.PAIRING_STATE ∧
    twinned.get Reg.PAIRING_STATE ≤ 4 := by decide +kernel

/-- A HEALTH has just come, and a reconciliation has stood for 2 s and is due to start again. -/
def reconciled : State := { (twinned.put Reg.PAIRING_STATE 2).put Hid.reconRestart 1 with
  twin := some ⟨0, 1, 4, 1, false, false, false, 0, 0, 0, 0, 0, 0, 0, []⟩, ledger := 105840000000 * 2 ^ 32, ticks := 2000000000 }

theorem test_TwinMessages_times_witness : reconciled.reconciling = true ∧ reconciled.get Hid.reconRestart ≠ 0 ∧
    reconciled.get Hid.reconRestart ≤ reconciled.tickLf ∧ reconciled.twinUp = true ∧
    (reconciled.put Hid.reconRestart 0).get Hid.reconRestart = 0 ∧ reconciled.get Hid.reconAt + 105840000000 ≤ reconciled.tickLf ∧
    (let s := (reconciled.put Reg.TWIN_LINK_STATE 0).put Hid.healthAt 105840000000
     s.twinUp = false ∧ s.twinAlive = true) := by decide +kernel

theorem test_GoodOutputs_witness : solo.edge = true ∧ solo.runs 5 = true ∧ solo.get Hid.gobCount < 256 ∧
    (solo.put Reg.ROLE 1).edge = false ∧ solo.get Hid.egressMuted = 0 ∧ (soloAt1.put Hid.egressAt 1).get Hid.egressAt ≠ 0 ∧
    (soloAt1.put Hid.egressAt 1).get Hid.egressAt - 1 ≤ soloAt1.now ∧ solo.get Hid.egressAt = 0 ∧
    (let s := (soloAt1.put Hid.egressMuted 1).put Hid.safeExitAt 1
     s.get Hid.egressMuted = 1 ∧ s.get Hid.safeExitAt ≠ 0 ∧ msCeil (s.get Hid.safeExitAt) ≤ s.now ∧ s.get Hid.egressAt = 0) := by
  decide +kernel


/-! ### Network and flows -/

/-- MAC 15 of a 100G port is UP, MAC 14 is not; MAC 15 owes two reports. -/
def netted : State := ((((soloAt1.put (Reg.NET_PORT_MODE 3) 2).put (Reg.MAC_LINK 15) 2).put (Hid.reports 15) 2).put (Hid.reportAt 15) 1).put
  (Hid.macBusy 15) 52920000001

/-- A frame of 64 bytes to the broadcast address. -/
def frame : NetFrame := ⟨2 ^ 48 - 1, [], true, 64, 0, 0, false, .other⟩

theorem test_NetworkPorts_witness : netted.alive = true ∧ netted.macActive 14 = true ∧ netted.runs 22 = true ∧ netted.get (Reg.MAC_LINK 14) ≠ 2 ∧
    netted.get (Reg.MAC_LINK 15) = 2 ∧ netted.macActive 15 = true ∧ frame.fcsOk = true ∧ frame.spoiled = false ∧ 64 ≤ frame.bytes ∧
    frame.bytes ≤ 9216 ∧ frame.kind ≠ .pause ∧ (netted.fecCount 15 0 0).tagOk 15 frame.tags = true ∧
    (netted.fecCount 15 0 0).tagOk 15 [7] = false ∧
    netted.tickLf < netted.get (Hid.macBusy 15) ∧ 1 < netted.get (Hid.reports 15) ∧
    (netted.put (Hid.reportAt 15) 0).get (Hid.reportAt 15) = 0 ∧ netted.get (Hid.reportAt 15) ≠ 0 ∧
    netted.tickLf < (netted.put (Hid.reportAt 15) 52920000000).get (Hid.reportAt 15) + netted.get Reg.MEMBERSHIP_INTERVAL := by decide +kernel

theorem test_NetworkPorts_filter_witness : (netted.fecCount 15 0 0).filterPass 15 frame.dest = true ∧
    (netted.fecCount 15 0 0).filterPass 15 0 = false := by
  refine ⟨by simp [State.filterPass, frame], ?_⟩
  simp only [State.filterPass, bne_self_eq_false, Bool.and_false, Bool.false_and, Bool.false_or]
  decide +kernel

theorem test_NetworkPorts_gate_witness : ∃ j left, gateAt (netted.gates 15) 0 (netted.now - netted.cycleStart 15 netted.now) = some (j, left) := by
  exact ⟨0, 52920000, by decide +kernel⟩

/-- Flow 16383 is an ST 2110-30 flow in use whose path A receives. -/
def flowing : State := ((((soloAt1.put (Reg.FLOW_TYPE 16383) 2).put (Reg.FLOW_ENABLE 16383) 1).put (Reg.FLOW_PATH_ENABLE 16383) 1).put
  (Reg.FLOW_PATH_STATE 16383) 2).put (Reg.FLOW_MAX_RATE 16383) 10000000000

/-- A well-formed packet of it, sampled at one second. -/
def packet : Rtp := ⟨2, 7, 0, 48000, 1200, true, true⟩

theorem test_PacketConcordance_witness : flowing.get (Reg.FLOW_TYPE 16383) ≠ 5 ∧ flowing.get (Reg.FLOW_PATH_STATE 16383) = 2 ∧
    packet.version = 2 ∧ packet.fits = true ∧ (flowing.bufOf 16383).held = [] ∧ (flowing.bufOf 16383).any = false ∧
    flowing.now ≤ flowing.lastNeed 16383 (flowing.keyTime 16383 packet.ts) ∧ packet.bytes ≤ flowing.bufferBytes 16383 := by decide +kernel

/-- The key of that packet on the flow, held, and consumed. -/
def held : State := { flowing with flowBufs := [⟨16383, [⟨flowing.keyTime 16383 48000, 7, 1200, false, 0, false⟩], false, 0, 0⟩] }
def consumed : State := { flowing with flowBufs := [⟨16383, [], true, flowing.keyTime 16383 48000, 7⟩] }

theorem test_PacketConcordance_held_witness :
    (∃ h ∈ (held.bufOf 16383).held, h.t = held.keyTime 16383 packet.ts ∧ h.q = held.keySeq 16383 packet) ∧
    (consumed.bufOf 16383).held = [] ∧ (consumed.bufOf 16383).any = true ∧
    flowKeyLe (consumed.seqBits 16383) (consumed.keyTime 16383 packet.ts, consumed.keySeq 16383 packet)
      ((consumed.bufOf 16383).t, (consumed.bufOf 16383).q) = true := by decide +kernel

theorem test_FlowCommands_witness : flowing.alive = true ∧ flowing.get (Reg.FLOW_ENABLE 16383) ≠ 0 ∧ flowing.get (Reg.FLOW_TYPE 16383) ≠ 5 ∧
    flowing.runs 6 = true ∧
    flowing.needTime 16383 0 1 ≤ flowing.now ∧ flowing.now < flowing.needTime 16383 52920000000 1 ∧
    flowing.get (Reg.FLOW_PATH_STATE 16383) = 2 ∧ flowing.get (Hid.flowLastA 16383) - 1 + 529200000 ≤ flowing.tickLf ∧
    flowing.get (Reg.FLOW_PATH_STATE 32767) ≠ 2 ∧
    (flowing.put (Reg.FLOW_PATH_STATE 32767) 2).get (Reg.FLOW_PATH_STATE (16383 + 16384)) = 2 ∧
    flowing.get (Hid.flowLastB 16383) - 1 + 529200000 ≤ flowing.tickLf ∧
    (flowing.put (Hid.flowPubAt 16383) 1).get (Hid.flowPubAt 16383) ≠ 0 ∧
    (flowing.put (Hid.flowPubAt 16383) 1).get (Hid.flowPubAt 16383) - 1 ≤ flowing.now ∧ flowing.get (Reg.FLOW_ENABLE 0) = 0 ∧
    flowing.paced (32768 + 16383) 0 0 = none := by decide +kernel

/-- Both paths of the flow receive, the second 1 ms after the first. -/
def skewed : State := { flowing.put (Reg.FLOW_PATH_STATE 32767) 2 with
  skews := [⟨16383, 0, 7, some 52000000000, some 52052920000⟩] }

theorem test_FlowCommands_skew_witness : skewed.get (Reg.FLOW_ENABLE 16383) ≠ 0 ∧ skewed.get (Reg.FLOW_PATH_STATE 16383) = 2 ∧
    skewed.get (Reg.FLOW_PATH_STATE (16383 + 16384)) = 2 ∧ skewed.skewLags 16383 = [52920000] ∧
    (∃ d ∈ skewed.skewLags 16383, -d ≤ 7938000000) ∧ (∃ d ∈ skewed.skewLags 16383, d ≤ 7938000000) := by decide +kernel

/-- Egress flow 16383 is an audio flow on raster 31. -/
def pacing : State := ((soloAt1.put (Reg.FLOW_ENABLE 49151) 1).put (Reg.FLOW_TYPE 49151) 2).put (Reg.FLOW_RASTER 49151) 31

theorem test_FlowCommands_pacer_witness : (pacing.paced (32768 + 16383) 0 10000).any (fun x => decide (pacing.now < x.2.release)) = true := by
  decide +kernel

theorem test_FlowCommands_weed_witness :
    let s := (flowing.put (Reg.FLOW_WEED 16383) 1000).put (Reg.FLOW_STATE 16383) 2
    s.now % lfSec < 53 ∧ s.get (Reg.FLOW_WEED 16383) ≠ 0 ∧ s.get (Reg.FLOW_STATE 16383) = 2 ∧
      lfOfLt (s.get (Reg.CONCORDANCE_SINCE 16383)) + s.get (Reg.FLOW_WEED 16383) ≤ s.now ∧ s.flowUsers 16383 = 0 ∧ s.paired = false ∧
      s.lent = true ∧ (s.put Reg.LOAN_STATE 2).lent = false := by decide +kernel

theorem test_FlowCommands_gap_witness :
    let s := held.put (Reg.FLOW_TYPE 16383) 5
    s.get (Reg.FLOW_TYPE 16383) = 5 ∧ firstKey 16 (s.bufOf 16383).held = some ⟨flowing.keyTime 16383 48000, 7, 1200, false, 0, false⟩ ∧
      (0 : Int) + lfMs ≤ s.tickLf ∧ (s.bufOf 16383).any = false ∧ ({ s with ticks := 0 } : State).tickLf < (0 : Int) + lfMs := by decide +kernel

/-! ### Canvases, recorders, memories, audio -/

/-- Canvas 255 runs on raster 31 in COMPOSE, canvas 254 does not; clip 1023 is capturing from recorder 255. -/
def composing : State := (((((((soloAt1.put Reg.MODE_ACTIVE 3).put (Reg.CANVAS_ENABLE 255) 1).put (Reg.CANVAS_RASTER 255) 31).put
  (Reg.CANVAS_SLICES 255) 128).put Reg.AUDIO_COMPILE_STATE 1).put (Hid.clipRec 1023) 256).put (Reg.CLIP_STATE 1023) 1).put
    (Reg.CLIP_OUT 1023) (2 ^ 48)

theorem test_CanvasesAndMemories_witness : composing.canvasStateOf 254 ≠ 1 ∧ composing.canvasStateOf 255 = 1 ∧
    composing.get Reg.AUDIO_COMPILE_STATE = 1 ∧ solo.get Reg.AUDIO_COMPILE_STATE ≠ 1 ∧ composing.compileVerdict.1 = .ok ∧
    composing.get (Hid.clipRec 1023) = 255 + 1 ∧ composing.get (Reg.CLIP_STATE 1023) = 1 ∧
    fineOfLt (composing.get (Reg.RECORDER_NEWEST 255)) < fineOfLt (composing.get (Reg.CLIP_OUT 1023)) ∧
    fineOfLt (composing.get (Reg.CLIP_OUT 1023)) ≤ fineOfLt ((composing.put (Reg.RECORDER_NEWEST 255) (2 ^ 48)).get (Reg.RECORDER_NEWEST 255)) ∧
    composing.memWorks 17 = true ∧ (dev []).memWorks 17 = false := by decide +kernel

/-- Path 1023 waits for a zero crossing that its deadline has passed. -/
def faded : PathSt := ⟨true, 1023, false, 0, 100, none, 0⟩

/-- AUD runs; AES3 receiver 31 is idle, 30 acquires, 29 tracks, 28 recovers, 27 is transparent. -/
def audioOn : State := { (((((((((soloAt1.put (Reg.AES_RX_ENABLE 31) 1).put (Reg.AES_RX_ENABLE 30) 1).put (Reg.AES_RX_ENABLE 29) 1).put
  (Reg.AES_RX_ENABLE 27) 1).put (Reg.AES_RX_STATE 30) 1).put (Reg.AES_RX_STATE 29) 2).put (Reg.AES_RX_STATE 28) 3).put
    (Reg.AES_RX_STATE 27) 2).put (Reg.AES_RX_MODE 27) 1) with paths := [faded] }

theorem test_AudioPorts_witness : audioOn.edge = true ∧ (audioOn.put Reg.ROLE 1).edge = false ∧ writerHere (.flow 16383) = true ∧
    writerHere (.bundle 255) = true ∧ writerHere (.aes 31) = true ∧ writerHere (.lane 95) = true ∧ audioOn.runs 46 = true ∧ (dev []).runs 46 = false ∧ audioOn.pathOf true 1023 = some faded ∧
    faded.ramp = none ∧ faded.deadline ≤ audioOn.now ∧ audioOn.aesRuns 31 = true ∧ audioOn.get (Reg.AES_RX_STATE 31) = 0 ∧
    audioOn.aesRuns 30 = true ∧ audioOn.get (Reg.AES_RX_STATE 30) = 1 ∧ audioOn.get (Reg.AES_RX_MODE 30) = 0 ∧
    audioOn.get (Reg.AES_RX_STATE 29) = 2 ∧ audioOn.aesRuns 29 = true ∧ audioOn.get (Reg.AES_RX_MODE 29) = 0 ∧
    audioOn.get (Reg.AES_RX_STATE 28) = 3 ∧ audioOn.aesRuns 27 = true ∧ audioOn.get (Reg.AES_RX_MODE 27) = 1 ∧
    audioOn.get (Reg.AES_RX_STATE 27) = 2 ∧ audioOn.up 46 = true ∧ (dev []).up 46 = false ∧ audioOn.get (Reg.AES_TX_CLOCK 31) = 0 := by
  decide +kernel

theorem test_AudioArithmetic_witness : (0 : Int) < 480 ∧ -(2 ^ 31) ≤ (-(2 ^ 31) : Int) ∧ (2 ^ 31 - 1 : Int) < 2 ^ 31 ∧
    (solo.busValues ⟨0, [(0, 0, 0x4000)], [0], 1⟩ [(0, 5)] 0 2) ≠ [] := by decide +kernel

/-! ### Faults, keys, images -/

/-- Source 662 is in its quiet period, which has ended; KEEP feeds the watchdog since 0. -/
def quieting : State := ((((soloAt1.put (Reg.FAULT_SOURCE_STATE 662) 2).put (Reg.FAULT_SOURCE_IN_FORCE 662) 1).put (Hid.quietLen 662) 52920000000).put
  Hid.watchdogFrom 1)

theorem test_FaultCollector_witness : srcReserved 662 = false ∧ (662 : Nat) ≠ 1 ∧ quieting.get Hid.collectorSelf ≠ 1 ∧ quieting.ready 5 = true ∧
    quieting.get (Reg.FAULT_SOURCE_STATE 662) = 2 ∧ quieting.get (Reg.FAULT_SOURCE_IN_FORCE 662) ≤ 1 ∧
    quieting.get (Hid.quietFrom 662) + quieting.get (Hid.quietLen 662) ≤ quieting.tickLf ∧
    (quieting.put (Hid.quietFrom 662) 1).tickLf < (quieting.put (Hid.quietFrom 662) 1).get (Hid.quietFrom 662) + quieting.get (Hid.quietLen 662) ∧
    quieting.ready 0 = true ∧ quieting.get Hid.watchdogFrom ≠ 0 ∧ quieting.get Hid.watchdogFrom - 1 + 2646000000 ≤ quieting.tickLf ∧
    solo.get Hid.watchdogFrom = 0 ∧ (dev []).ready 0 = false ∧ (dev []).ready 5 = false := by decide +kernel

/-- A Logbook entry. -/
def entry : LogEntry := ⟨0, 0, 662, 2, 1, 0, 0⟩

theorem test_FaultCollector_log_witness : ({ solo with log := [entry] } : State).log = [] ++ [entry] ∧ entry.flags < 2 ∧ solo.log = [] ∧
    (solo.logTicks.filter (fun t => decide (solo.ticks < t + 1000000000))).length < 256 ∧
    256 ≤ (({ solo with logTicks := List.replicate 256 0 } : State).logTicks.filter (fun t => decide (solo.ticks < t + 1000000000))).length := by
  decide +kernel

/-- A TAMPER cause waits to be recorded; an image of slot 1 boots on the idle pair. -/
def tampered : State := ((soloAt1.put Hid.tamperCause 3).put Reg.UPDATE_IDLE_STATE 1).put Reg.UPDATE_IDLE_SLOT 1

/-- A probation whose deadline, or a REJECT before which, has come; its conditions hold and no controller need confirm it. -/
def probing : State := (((((soloAt1.put Reg.HEALTH_CONFIRM_STATE 1).put Reg.HEALTH_CONFIRM_DEADLINE (2 ^ 48)).put Hid.rejectAt 1).put
  Reg.UPDATE_IDLE_SLOT 1).put Reg.HEALTH_CONFIRM_REQUIRE_CONTROLLER 0)

/-- The same after a minute in which the conditions held. -/
def probed : State := { probing.put Hid.probFrom 1 with ticks := 60000000001 }

theorem test_TamperAndBoot_witness : tampered.held ≠ .brownout ∧ browned.held = .brownout ∧ tampered.get Hid.tamperCause ≠ 0 ∧
    solo.get Hid.tamperCause = 0 ∧
    solo.ready 0 = true ∧ tampered.get Reg.UPDATE_IDLE_STATE = 1 ∧ (tampered.bootCheck (tampered.getN Reg.UPDATE_IDLE_SLOT)).2 ≠ .ok ∧
    solo.get Reg.UPDATE_IDLE_STATE ≠ 1 ∧ probing.get Reg.HEALTH_CONFIRM_STATE = 1 ∧
    msCeil (lfOfLt (probing.get Reg.HEALTH_CONFIRM_DEADLINE)) ≤ probing.now ∧
    (let s := probing.put Reg.HEALTH_CONFIRM_DEADLINE (2 ^ 49)
     s.now < msCeil (lfOfLt (s.get Reg.HEALTH_CONFIRM_DEADLINE))) ∧ probing.get Hid.rejectAt ≠ 0 ∧
    msCeil (probing.get Hid.rejectAt - 1) ≤ probing.now ∧ solo.get Reg.HEALTH_CONFIRM_STATE ≠ 1 := by decide +kernel

theorem test_TamperAndBoot_keep_witness : (dev []).ready 0 = false ∧
    ((dev []).fallRecord.bootFirst ((if (dev []).getN Hid.dirActive = 0 then [] else [(dev []).getN Hid.dirActive - 1]) ++
       (if (dev []).getN Hid.dirPrevious = 0 then [] else [(dev []).getN Hid.dirPrevious - 1]) ++ [2])).2 = none := by decide +kernel

theorem test_TamperAndBoot_probation_witness : probed.get Reg.HEALTH_CONFIRM_STATE = 1 ∧ (probing.probTest false).get Hid.probFrom = 0 ∧
    (probed.probTest true).get Hid.probFrom ≠ 0 ∧
    (probed.probTest true).get Hid.probFrom - 1 + 3175200000000 ≤ (probed.probTest true).tickLf ∧
    (probed.probTest true).get Reg.HEALTH_CONFIRM_REQUIRE_CONTROLLER = 0 := by decide +kernel

/-- Slot 1 holds this image. -/
def slotted (x : FlashImage) : State := { tampered.put (Reg.IMAGE_WINDOW_STATE 1) 2 with flash := [x] }

/-- An image whose check passes makes the idle pair's boot one that ends READY. Which images pass rests on the maker's public key, which
the manual does not give. -/
theorem test_TamperAndBoot_ready_witness (x : FlashImage) (hx : x.slot = 1) (h : (slotted x).imageCheck x = .ok) :
    (slotted x).get Reg.UPDATE_IDLE_STATE = 1 ∧ ((slotted x).bootCheck ((slotted x).getN Reg.UPDATE_IDLE_SLOT)).2 = .ok := by
  have hg (k : Key) : (slotted x).get k = (tampered.put (Reg.IMAGE_WINDOW_STATE 1) 2).get k := rfl
  have hs : (slotted x).getN Reg.UPDATE_IDLE_SLOT = 1 := by
    rw [show (slotted x).getN Reg.UPDATE_IDLE_SLOT = ((slotted x).get Reg.UPDATE_IDLE_SLOT).toNat from rfl, hg]
    decide +kernel
  have hf : (slotted x).flashOf 1 = some x := by simp [State.flashOf, slotted, hx]
  have hw : (slotted x).get (Reg.IMAGE_WINDOW_STATE 1) = 2 := by
    rw [hg]
    decide +kernel
  refine ⟨by rw [hg]; decide +kernel, ?_⟩
  simp only [hs, State.bootCheck, hf, hw, h]
  decide

/-- The service port is enabled by its strap, and a session 9 is open under slot 3's key, its image 1 begun. -/
def svcKeyed : SvcKey := ⟨5, 1, 2⟩
def served : State := { (solo.put Reg.IDENTITY_SVC_EN 1).put Hid.imgOpen 2 with
  svc := some ⟨9, svcKeyed, some ⟨1, .ok, 9, 4, []⟩, 0⟩, flash := [⟨1, 705, []⟩] }

/-- A request on the service port: session, sequence, length of its payload and tag. -/
def svcMsg (session seq length tag : Nat) : SvcMsg := ⟨2 ^ 48 - 1, 0xFFFFA9FE0301, 47322, 1, 0, 0, session, seq, length, 0, tag⟩

/-- A request of session 9 with its tag. -/
def svcReq (op : SvcOp) (seq : Nat) (payload : List Nat) : SvcMsg :=
  svcMsg 9 seq payload.length (served.svcTag svcKeyed (svcMsg 9 seq payload.length 0) op payload)

theorem beBytes_length (n v : Nat) : (beBytes n v).length = n := by
  induction n with
  | zero => rfl
  | succ n ih => simp [beBytes, ih]

/-- The port hears any such request whose payload has the length its header gives. -/
theorem served_hears (x : SvcMsg) (p : List Nat) (h : (x.ip, x.udp, x.version, x.status, x.flags, x.reserved, x.length) =
    (0xFFFFA9FE0301, 47322, 1, 0, 0, 0, p.length)) (hm : x.mac = 2 ^ 48 - 1) (hp : p.length ≤ 1440) : served.svcHears x p = true := by
  have hr : served.ready 53 = true := by decide +kernel
  have ha : (served.portAddress 2).toNat = 0xFFFFA9FE0301 := by decide +kernel
  simp only [Prod.mk.injEq] at h
  obtain ⟨h1, h2, h3, h4, h5, h6, h7⟩ := h
  simp [State.svcHears, hr, ha, h1, h2, h3, h4, h5, h6, h7, hm, hp]

/-- A next request of the session is executed, whatever the operation; with the sequence answered last it is answered again. -/
theorem served_way (op : SvcOp) (seq : Nat) (p : List Nat) (hp : p.length ≤ 1440) :
    served.svcWay (svcReq op seq p) op p = if seq ≤ 4 then .again true ⟨1, .ok, 9, 4, []⟩ else .run true := by
  have hh : served.svcHears (svcReq op seq p) p = true := served_hears _ _ (by simp [svcReq, svcMsg]) (by simp [svcReq, svcMsg]) hp
  have ht : served.svcTag svcKeyed (svcReq op seq p) op p = (svcReq op seq p).tag := by
    rw [svcReq, State.svcTag, svcMsg, svcMsg, State.svcTag]
  have hen : served.get Reg.IDENTITY_SVC_EN = 1 := by decide +kernel
  have ha : svcAccepts op true true = true := by cases op <;> rfl
  simp only [State.svcWay, hh, hen]
  simp [served, ha, show (svcReq op seq p).session = 9 from rfl, show (svcReq op seq p).seq = seq from rfl]
  intro hn
  exact absurd ht.symm hn

theorem test_ServicePort_ways_witness : served.alive = true ∧ served.svcTimeout = served ∧
    served.svcWay { svcReq .close 5 [] with ip := 0 } .close [] = .drop ∧
    served.svcWay (svcReq .close 4 []) .close [] = .again true ⟨1, .ok, 9, 4, []⟩ ∧
    (∀ p : SvcOp × List Nat, p ∈ [(SvcOp.hello, beBytes 16 7), (.colophon, beBytes 32 7), (.imageOpen, [1] ++ beBytes 3 0 ++ beBytes 4 705),
      (.imageData, beBytes 4 0 ++ beBytes 705 1), (.imageClose, beBytes 48 0), (.keyWrite, [15] ++ beBytes 3 0 ++ beBytes 128 (2 ^ 256 * 2 ^ 256)),
      (.read, addrBytes [addrOf Reg.STEP_LIMIT]), (.close, []), (.timeSet, beBytes 12 (2 ^ 48))] →
      served.svcWay (svcReq p.1 5 p.2) p.1 p.2 = .run true) := by
  refine ⟨rfl, by decide +kernel, ?_, served_way .close 4 [] (by decide), ?_⟩
  · have h : served.svcHears { svcReq .close 5 [] with ip := 0 } [] = false := by
      have ha : (served.portAddress 2).toNat = 0xFFFFA9FE0301 := by decide +kernel
      simp [State.svcHears, ha]
    simp [State.svcWay, h]
  · intro p hp
    have h : p.2.length ≤ 1440 := by
      simp only [List.mem_cons, List.not_mem_nil, or_false] at hp
      obtain rfl | rfl | rfl | rfl | rfl | rfl | rfl | rfl | rfl := hp <;> simp [beBytes_length, addrBytes]
    exact served_way p.1 5 p.2 h

/-- The same port out of a session, its strap low. -/
def closed : State := { (served.put Reg.IDENTITY_SVC_EN 0) with svc := none }

/-- There a READ is locked out and a HELLO executed. -/
theorem test_ServicePort_locked_witness : closed.svcWay (svcMsg 0 5 6 0) .read (addrBytes [0]) = .locked false ∧
    closed.svcWay (svcMsg 0 5 16 0) .hello (beBytes 16 7) = .run false := by
  have hr : closed.ready 53 = true := by decide +kernel
  have ha : (closed.portAddress 2).toNat = 0xFFFFA9FE0301 := by decide +kernel
  have hp : closed.svcPlain = none := by decide +kernel
  have he : closed.get Reg.IDENTITY_SVC_EN = 0 := by decide +kernel
  constructor <;> simp [State.svcWay, State.svcHears, svcMsg, hr, ha, hp, he, svcAccepts, addrBytes, beBytes_length]

theorem test_ServicePort_operands_witness : served.keyOf 3 = none ∧ served.imageOpenStatus 1 0 705 = .ok ∧ served.imageOpenStatus 1 0 704 ≠ .ok ∧
    served.imageOpenStatus 2 0 (704 + 12582208) = .ok ∧ served.imageOpenStatus 2 0 (704 + 12582209) ≠ .ok ∧ served.imageOpenStatus 3 0 705 ≠ .ok ∧
    served.get Hid.imgOpen ≠ 0 ∧ served.flashOf (served.getN Hid.imgOpen - 1) = some ⟨1, 705, []⟩ ∧ 0 + 705 ≤ 705 ∧
    solo.get Hid.imgOpen = 0 ∧ (⟨1, 705, []⟩ : FlashImage).held ≠ (⟨1, 705, []⟩ : FlashImage).total ∧ served.up 3 = true ∧
    (served.setReady (islandBit 3) false).up 3 = false ∧
    served.keyStatus 15 (2 ^ 256 * 2 ^ 256) = .ok ∧ served.readBytes [addrOf Reg.STEP_LIMIT] ≤ 1440 ∧ served.timeSet = true ∧
    (dev []).timeSet = false ∧ ltValid (2 ^ 48) = true ∧ (dev []).stepFits ((fineOfLt (2 ^ 48) - (dev []).nowFine) / 4096) = true ∧
    (0 : Int) + 3175200000000 ≤ ({ served with ticks := 60000000000 } : State).tickLf ∧ served.tickLf < (0 : Int) + 3175200000000 := by
  decide +kernel

/-- Slot 3 holds a key; image 1 is complete, and its digest is that of its bytes. -/
theorem test_ServicePort_key_witness : let s := ((served.put (Hid.bankKey 3 0) 11).put (Hid.bankGen 3 0) 1).put (Hid.bankCrc 3 0) (bankCrcOf 11 1)
    s.keyOf 3 = some 11 ∧ s.up 3 = true ∧ (⟨1, 705, [(0, 705, 1)]⟩ : FlashImage).held = (⟨1, 705, [(0, 705, 1)]⟩ : FlashImage).total ∧
      served.get Hid.imageRecovery ≠ 1 := by
  decide +kernel

/-! ### Wear, bookings, pins -/

/-- Booking 31 HELD at its time, solo with nothing in its way, and booking 30 RUNNING past its window. -/
def booking : State := (((((((soloAt1.put (Reg.BOOKING_STATE 31) 1).put (Reg.BOOKING_KIND 31) 1).put (Reg.BOOKING_ISLANDS 31) 8).put
  (Reg.BOOKING_DURATION 31) 52920000000).put (Reg.BOOKING_STATE 30) 2).put (Reg.BOOKING_KIND 30) 9).put (Reg.BOOKING_DURATION 30) 52920000000)

theorem test_WearAndBookings_witness : booking.ready 55 = true ∧ (dev []).ready 55 = false ∧ booking.ready 0 = true ∧
    (booking.put Reg.MARGIN_CONTROL_SILENT 0).get Reg.MARGIN_CONTROL_SILENT = 0 ∧ booking.get (Reg.BOOKING_STATE 31) = 1 ∧
    booking.bookingActs 31 = true ∧ booking.get (Hid.bookTs 31) ≤ booking.now ∧
    booking.get (Reg.BOOKING_CLASS 31) ≠ 2 ∧ booking.drainOk 31 = true ∧ booking.bookingHealthy 31 = true ∧
    (booking.put (Reg.BOOKING_CLASS 31) 1).bookingHealthy 31 = false ∧ (booking.put (Reg.BOOKING_CLASS 31) 2).get (Reg.BOOKING_CLASS 31) = 2 ∧
    booking.get Reg.MODE_ACTIVE ≠ 7 ∧ booking.get (Reg.BOOKING_STATE 30) = 2 ∧ booking.bookingActs 30 = true ∧
    booking.get (Hid.bookTs 30) + booking.get (Reg.BOOKING_DURATION 30) ≤ booking.now := by decide +kernel

theorem test_WearAndBookings_conflict_witness :
    (booking.put (Reg.BOOKING_STATE 30) 0).bookingConflict 31 ((booking.put (Reg.BOOKING_STATE 30) 0).get (Hid.bookTs 31)) = false := by
  decide +kernel

/-- Monitor 255 and the first sensor stand in island KEEP of this part. -/
def monitored : State := { booking with regs := storeIns (storeIns booking.regs (Reg.WEAR_ISLAND 255) 0) (Reg.THERMAL_ISLAND 0) 0 }

theorem test_WearAndBookings_sample_witness : monitored.runs (monitored.wearIsland 255) = true ∧
    monitored.runs (monitored.getN (Reg.THERMAL_ISLAND 0)) = true ∧ monitored.runs (eyeIsland 180) = true ∧ monitored.almDue = none ∧
    ({ monitored with ledger := 600 * 52920000000 * 2 ^ 32 } : State).almDue = some 1 := by
  decide +kernel

/-- Inputs 12 to 15: quiet, chattering, due to qualify, and high too long. -/
def inputs : State := ((((((soloAt1.put (Reg.GPI_STATE 13) 1).put (Hid.gpiDue 14) 1).put (Hid.gpiRaw 14) 1).put (Reg.GPI_LEVEL 15) 1).put
  (Hid.gpiStuck 15) 1).put (Hid.gpiFrom 15) 0)

theorem test_PinsAndBoundaryScan_witness : inputs.ready 54 = true ∧ inputs.get (Hid.gpiRaw 13) ≠ b2i true ∧ inputs.get (Reg.GPI_STATE 13) = 1 ∧
    inputs.get (Hid.gpiDue 14) ≠ 0 ∧ inputs.get (Hid.gpiDue 14) - 1 ≤ inputs.tickLf ∧ inputs.get (Reg.GPI_LEVEL 14) = 0 ∧
    inputs.get (Hid.gpiRaw 14) ≠ inputs.get (Reg.GPI_POLARITY 14) ∧ inputs.get (Reg.GPI_STATE 14) = 0 ∧ inputs.get (Hid.gpiSilent 14) = 0 ∧
    (inputs.put (Reg.GPI_POLARITY 14) 1).get (Reg.GPI_LEVEL 14) = b2i (inputs.get (Hid.gpiRaw 14) != 1) ∧
    inputs.tickLf < (inputs.put (Hid.gpiDue 14) 52920000002).get (Hid.gpiDue 14) - 1 ∧ inputs.get (Hid.gpiQuiet 13) ≤ inputs.tickLf ∧
    inputs.gpiStuckNow 13 = false ∧ inputs.gpiStuckNow 15 = true ∧ inputs.get (Reg.GPI_STATE 15) = 0 ∧ inputs.injectHeld 63 = [] ∧
    (dev [(Reg.READY, 1)]).ready 0 = true ∧ (dev [(Reg.READY, 1)]).ready 53 = false ∧ inputs.ready 53 = true := by decide +kernel

theorem test_PinsAndBoundaryScan_tap_witness : State.reset.porstLow = true ∧ solo.porstLow = false ∧ solo.tapActs 3 = false ∧
    solo.tapActs 255 = false ∧ (0x49 ≠ 0x4A ∨ solo.alive = false ∨ solo.ready 0 = false) := by decide +kernel


/-! ### Values the manual works out -/

/-- Scope and Conventions: the LT of 1,700,000,000.25 s, and that LT 42.5 s earlier. -/
theorem test_lt_example : ltOfLf (1700000000 * 52920000000 + 13230000000) = 0x6553F10031491C780000 ∧
    ltAddSpan 0x6553F10031491C780000 (-2249100000000) = 1699999957 * 2 ^ 48 + 39690000000 * 2 ^ 12 := by decide

/-- Ledger Time: 123,456,789 ns to leaves and back. -/
theorem test_ptp_example : nsToLf (123456789 * 65536) = 6533333273 * 4096 + 3604 ∧
    lfToNs (6533333273 * 4096 + 3604) = 123456789 * 65536 := by decide

/-- Ledger Time: the residue falls on the ticks R56 lists, 8 in 25. -/
theorem test_residue_pattern : (List.range 25).filter (fun t => residue t == 1) = [3, 6, 9, 12, 15, 18, 21, 24] := by decide

/-- The Reference Unit: on a TCXO board the estimate reaches 1 us at 359 s and not at 358 s; on an OCXO board not at 4 h. -/
theorem test_holdover_example : phaseEstimate 1000 10000000 358 < 52920 ∧ 52920 ≤ phaseEstimate 1000 10000000 359 ∧
    phaseEstimate 10 5000 14400 < 52920 := by decide

/-- Slips: a launch 700,000 lf after a calendar boundary lies near its edge, one at mid-period does not. -/
theorem test_near_edge_example : solo.nearEdge (.grid calLf) (26487160000 * 2 ^ 12) = true ∧
    solo.nearEdge (.grid calLf) (26489106000 * 2 ^ 12) = false := by decide +kernel

/-- Electrical: a base of 0.80 V, BIN 4 and +20 mV clamp at 0.85 V. -/
theorem test_vdd_example : (((solo.put Reg.SUPPLY_BASE 8000).put Reg.MARGIN_CONTROL_BIN 4).put Reg.MARGIN_CONTROL_AVS_OFFSET 200).vddTarget = 8500 := by
  simp [State.vddTarget, clampInt, State.get_put]

/-- Catalogue Index: COMPONENTS and ENTRIES_0 of the output LUT of canvas 3 on the wire. -/
theorem test_address_example : addrOf ⟨0x7300, 4099, 1⟩ = 0x730010030101 ∧ addrOf ⟨0x7300, 4099, 2⟩ = 0x730010030201 ∧
    addrOf Reg.TIME_NOW = 0x200000000000 := by decide +kernel

/-- Catalogue Index: under R22 those addresses name nothing in the centre role. -/
theorem test_centre_has_no_lut : (solo.put Reg.ROLE 1).lookup 0x730010030101 = none ∧ (solo.lookup 0x730010030101).isSome = true := by
  decide +kernel

/-- The Catalogue Protocol: request 0x105 of the example is executed once; its copy on the other port is counted and has no effect. -/
theorem test_duplicate_example :
    let m (p : Nat) : Msg := { msg 1 0 1 [] [] with port := p, hdr := ⟨1, 0, 0, 7, 0x105, 0, 6, 0, 1⟩ }
    let f (s : State) : State := s.bump Reg.LOGBOOK_DROPPED
    let t := (withSess.put Reg.SESSION_HIGHEST_SEQ 0x104).sequenced sess (m 0) 1 sKey none f
    let u := t.sequenced (t.session.getD sess) (m 1) 1 sKey none f
    t.get Reg.SESSION_HIGHEST_SEQ = 0x105 ∧ t.get Reg.SESSION_DUPLICATES = 0 ∧ t.get Reg.LOGBOOK_DROPPED = 1 ∧
      u.get Reg.SESSION_DUPLICATES = 1 ∧ u.get Reg.LOGBOOK_DROPPED = 1 ∧ u.out = t.out := by decide +kernel

/-- Islands: G5 is island 12, its CLOCK source is 114 and its READY bit is 13 (the example of Table 17.5). -/
theorem test_g5_example : islandBit 12 = 13 ∧ 64 + 4 * 12 + 2 = 114 ∧ srcOwner 114 = 12 := by decide

/-- Electrical: the IDCODE of the TAP. -/
theorem test_idcode : (match exec .idcode State.reset with
    | .next t => t.out
    | _ => []) = [.pin 6 1 0x1060086B] := by decide +kernel

/-- The SMBus target acknowledges no write, and no read of another address (R425). -/
theorem test_smbus : (match exec (.smbusWrite 0x4A) solo with
    | .next t => t.out
    | _ => []) = [.smbus none] := by decide +kernel

/-- A tick from reset of time with the nominal increment and no residue (R56). -/
theorem test_tick : (match step solo with
    | .next t => (t.ledger, t.ticks)
    | _ => (0, 0)) = (0x34EB851EB8, 1) := by decide +kernel

/-- A step of -1 s under the limit given to a controller that owns time (R63). -/
theorem test_step_refused : owned.stepStatus (-52920000000) false = .stepRefused := by decide +kernel

/-- 9,216 bytes and the gap on the wire at 400G: 9,236 x 8 x 1,323 / 10,000, rounded up (R203). -/
theorem test_wire_time : wireTime 400 9216 = 9776 := by decide

/-- Serial numbers order around their wrap (R217). -/
theorem test_serial_wrap : serialAfter 16 0 65535 = true ∧ serialAfter 16 65535 0 = false ∧ serialAfter 16 0x8000 0 = false := by decide

/-- Ties round to even, negative ones too (R66, R265). -/
theorem test_round_even : roundEven 5 2 = 2 ∧ roundEven 7 2 = 4 ∧ roundEven (-5) 2 = -2 ∧ roundEven (-7) 2 = -4 := by decide

/-- A saturated sample stays at its end (R265). -/
theorem test_saturates : sat32 (2 ^ 31) = 2 ^ 31 - 1 ∧ sat32 (-(2 ^ 31) - 1) = -(2 ^ 31) := by decide

/-- The cells of packets of 705, 240 and 476 bytes (R164, R168, R224). -/
theorem test_packet_cells : packetCells 705 = [(120, false), (120, false), (113, true)] ∧ packetCells 240 = [(120, false), (0, true)] ∧
    packetCells 476 = [(120, false), (118, true)] := by decide

/-- Egress flow 16383 is COMPRESSED and carries a flow of slot 1; a packet of one cell leaves on it as soon as it is put together (R223). -/
def carrying : State := { (((solo.put (Reg.FLOW_ENABLE 49151) 1).put (Reg.FLOW_TYPE 49151) 5).put (Reg.FLOW_SOURCE 49151) (0x8100)) with
  fabSubs := [{ protectedSub with shelf := 0x8100, users := [0x40000 + 16383] }] }

theorem test_remote_compressed :
    let t := carrying.joinPacket { protectedSub with shelf := 0x8100, users := [0x40000 + 16383] }
      { essCell with shelf := 0x8100, length := 6, sou := true, eou := true, body := .words (0x806000070001 * 2 ^ 48) }
    t.get (Hid.cprN 4095) = 1 ∧ t.getN (Hid.cprPacket 4095 0) / 2 ^ 33 % 65536 = 7 ∧ t.getN (Hid.cprPacket 4095 0) / 2 ^ 50 = 12 ∧
      t.remotePackets.get (Reg.FLOW_TX_RELEASED 16383) = 1 ∧ t.remotePackets.get (Hid.cprN 4095) = 0 := by
  decide +kernel

/-! ### Terms that well-formedness refuses -/

/-- A sound value and message for the terms below. -/
def v0 : Value := ⟨1, 1, 0⟩
def m0 : Msg := ⟨0, 0, 0, 0, ⟨1, 0, 0, 7, 1, 0, 0, 0, 0⟩, [], 0⟩

theorem test_illFormed_messages : ([
    .read { m0 with port := 2 } [], .read { m0 with mac := 2 ^ 48 } [], .read { m0 with ip := 2 ^ 128 } [], .read { m0 with udp := 65536 } [],
    .read { m0 with reserved := [256] } [], .read { m0 with tag := 2 ^ 128 } [], .read { m0 with hdr := { m0.hdr with version := 256 } } [],
    .read { m0 with hdr := { m0.hdr with status := 256 } } [], .read { m0 with hdr := { m0.hdr with flags := 256 } } [],
    .read { m0 with hdr := { m0.hdr with session := 2 ^ 32 } } [], .read { m0 with hdr := { m0.hdr with sequence := 2 ^ 32 } } [],
    .read { m0 with hdr := { m0.hdr with segment := 65536 } } [], .read { m0 with hdr := { m0.hdr with length := 65536 } } [],
    .read { m0 with hdr := { m0.hdr with transfer := 65536 } } [], .read { m0 with hdr := { m0.hdr with items := 65536 } } [],
    .read m0 [2 ^ 48], .write m0 [⟨2 ^ 48, v0⟩], .write m0 [⟨0, ⟨256, 1, 0⟩⟩], .write m0 [⟨0, ⟨1, 65536, 0⟩⟩], .write m0 [⟨0, ⟨1, 1, 256⟩⟩],
    .stage m0 65536 [], .stage m0 0 [⟨2 ^ 48, v0⟩], .arm m0 65536 [], .arm m0 0 [⟨2 ^ 48, v0⟩], .cancel m0 [65536],
    .subscribe m0 [⟨2 ^ 48, 0, 0⟩], .subscribe m0 [⟨0, 256, 0⟩], .subscribe m0 [⟨0, 0, 2 ^ 63⟩], .blockRead m0 (2 ^ 48) 0 0,
    .blockRead m0 0 (2 ^ 32) 0, .blockRead m0 0 0 65536, .blockWrite m0 (2 ^ 48) 0 0 0, .blockWrite m0 0 0 1 256, .blockWrite m0 0 0 65536 0,
    .blockWrite m0 0 (2 ^ 32) 0 0, .loan m0 { token with format := 256 }, .loan m0 { token with side := 256 },
    .loan m0 { token with deskId := 2 ^ 32 }, .loan m0 { token with epoch := 2 ^ 64 }, .loan m0 { token with serial := 2 ^ 128 },
    .loan m0 { token with notBefore := 2 ^ 96 }, .loan m0 { token with expiry := 2 ^ 96 }, .loan m0 { token with salt := 2 ^ 256 },
    .ping { m0 with port := 2 }, .sessionlessPing { m0 with port := 2 }, .loan m0 { token with flags := 256 },
    .loan m0 { token with spare := 256 }, .loan m0 { token with reserved := 2 ^ 64 }, .loan m0 { token with sigR := 2 ^ 256 },
    .loan m0 { token with sigS := 2 ^ 256 }, .undefinedOpcode m0 256 [], .undefinedOpcode m0 0 [256], .malformedDatagram 2,
    .mirrorAck (2 ^ 32) true 0 .ok, .mirrorAck 0 true (2 ^ 32) .ok, .mirror (2 ^ 32) true 0 (.cancel []),
    .mirror 0 true (2 ^ 32) (.cancel []), .blockTransferIdle 65536, .snapshotExpiry 65536] : List Instr).all (fun c => !c.wellFormed) = true := by
  decide +kernel

theorem test_illFormed_device : ([
    .porstNRelease ⟨false, 32, false, false, 0⟩, .brownoutRelease ⟨false, 0, false, false, 65536⟩, .railBrownout 0, .railBrownout 7,
    .islandReady 57 [], .bringupLate 57, .rasterStartAtTime 32, .faultRaise 33 0, .faultRaise 252 0, .faultRaise 663 0, .faultRaise 0 (2 ^ 32),
    .faultQuietExpiry 63, .keepBoot [(3, 0, 0)], .islandRestartOrder 47 1, .islandRestartOrder 0 0, .islandRestartOrder 0 5,
    .islandResetRelease 47, .readyToken 47 0, .readyToken 0 47, .pointerWrong 47 0 0, .pointerWrong 0 47 0, .crossingSaturation 47 0,
    .crossingSaturation 0 47, .tamper 5] : List Instr).all (fun c => !c.wellFormed) = true := by decide +kernel

theorem test_illFormed_writes : ([
    .registerWrite (2 ^ 48) v0, .registerWrite 0 ⟨256, 1, 0⟩, .timeIncrementWrite (2 ^ 64), .timeStepWrite (2 ^ 63) false, .ownerWrite 256,
    .slipCancelGroup 65536, .bundleInEnable 256 v0, .bundleInEnable 0 ⟨1, 1, 256⟩, .capture 1024, .captureComplete 1024, .delete 1024,
    .bootIdle ⟨1, 1, 256⟩, .confirm ⟨1, 1, 256⟩, .reject ⟨1, 1, 256⟩, .keyWrite 16 v0, .keyWrite 0 ⟨1, 1, 256⟩, .submit 32, .bookingCancel 32,
    .force 1024, .injectEnable 64 true, .accession [⟨2 ^ 48, v0⟩], .linkGroupWrite 96 false v0, .linkGroupWrite 0 true ⟨1, 1, 256⟩,
    .netPortModeWrite 4 1 v0, .netPortModeWrite 0 0 v0, .netPortModeWrite 0 4 v0, .netPortModeWrite 0 1 ⟨1, 1, 256⟩, .gpoLevelWrite 16 v0,
    .gpoLevelWrite 0 ⟨1, 1, 256⟩, .testGenWrite 256 1 0, .testGenWrite 0 0 0, .testGenWrite 0 10 0, .testGenWrite 0 1 (2 ^ 63),
    .refRasterWrite 96 v0, .refRasterWrite 0 ⟨1, 1, 256⟩, .rateModeWrite 96 false v0, .rateModeWrite 0 false ⟨1, 1, 256⟩, .gpiPolarityWrite 16 v0,
    .gpiPolarityWrite 0 ⟨1, 1, 256⟩] : List Instr).all (fun c => !c.wellFormed) = true := by decide +kernel

theorem test_illFormed_time : ([
    .ptpEventRx 19 ⟨0, 0, 0, 0, 0, 0, 0⟩, .ptpEventRx 0 ⟨4, 0, 0, 0, 0, 0, 0⟩, .ptpEventRx 0 ⟨0, 65536, 0, 0, 0, 0, 0⟩, .ptpEventRx 0 ⟨0, 0, 2 ^ 48, 0, 0, 0, 0⟩,
    .ptpEventRx 0 ⟨0, 0, 0, 2 ^ 32, 0, 0, 0⟩, .delayReq 19, .masterSelected 19 0, .masterSelected 0 (2 ^ 64), .time (2 ^ 32) 0, .time 0 (2 ^ 96), .timestampCapture 19 true,
    .candidateLoss 5, .refMeasurement [] 0 0, .rasterBoundary 32, .slipRetire 8192, .gpiResolve (2 ^ 32) 0 0 0, .gpiResolve 0 8192 0 0,
    .gpiResolve 0 0 (2 ^ 96) 0, .gpiResolve 0 0 0 (2 ^ 64), .slipOutcome (2 ^ 32) 0 0 0, .slipOutcome 0 8192 0 0, .slipOutcome 0 0 8 0] : List Instr).all (fun c => !c.wellFormed) = true := by decide +kernel

/-- A sound reservation payload, cell and status for the terms below. -/
def r0 : Resv := ⟨0, 0, 0, 0, 0, 0, 0, 0, 1, 1, []⟩
def x0 : LaneStatus := ⟨255, 0, 0, 0, 0, 0, 0, 0⟩

theorem test_illFormed_fabric : ([
    .fabTrainingStart 66, .fabTrainingDone 66 0 0 0 0 0, .fabTrainingDone 0 256 0 0 0 0, .fabTrainingDone 0 0 256 0 0 0,
    .fabTrainingDone 0 0 0 256 0 0, .fabTrainingDone 0 0 0 0 256 0, .fabTrainingDone 0 0 0 0 0 (2 ^ 63), .fabTrainingTimeout 66, .fabAligned 66,
    .fabLaneDown 66, .fabRetry 66, .calendarPeriod [⟨64, 0, 0, 0⟩], .essence 64 0 true essCell, .essence 0 4410 true essCell,
    .essence 0 0 true { essCell with kind := 16 }, .presence 64 0 true essCell, .presence 0 4410 true essCell,
    .presence 0 0 true { essCell with plane := 2 }, .essence 0 0 true { essCell with shelf := 2 ^ 20 }, .essence 0 0 true { essCell with seq := 2 ^ 24 },
    .essence 0 0 true { essCell with stamp := 2 ^ 40 }, .essence 0 0 true { essCell with length := 121 }, .essence 0 0 true { essCell with link := 4 },
    .essence 0 0 true { essCell with format := 256 }, .essence 0 0 true { essCell with rate := 8 }, .essence 0 0 true { essCell with group := 4 },
    .essence 0 0 true { essCell with level := 2 }, .essence 0 0 true { essCell with division := 2 }, .reserve 64 true r0, .grant 64 true r0, .assign 64 true r0,
    .deny 64 true r0, .releaseCell 64 true r0, .reserve 0 true { r0 with shelf := 2 ^ 20 }, .grant 0 true { r0 with period := 2 ^ 32 },
    .assign 0 true { r0 with request := 65536 }, .deny 0 true { r0 with subscriber := 32 }, .releaseCell 0 true { r0 with origin := 32 },
    .reserve 0 true { r0 with cls := 2 }, .reserve 0 true { r0 with plane := 2 }, .reserve 0 true { r0 with reason := 256 }, .reserve 0 true { r0 with k := 65536 },
    .reserve 0 true { r0 with links := 5 }, .reserve 0 true { r0 with patterns := [⟨2, 0, 0, 0⟩] }, .reserve 0 true { r0 with patterns := [⟨0, 4, 0, 0⟩] },
    .reserve 0 true { r0 with patterns := [⟨0, 0, 4410, 0⟩] }, .reserve 0 true { r0 with patterns := [⟨0, 0, 0, 4411⟩] },
    .reserve 0 true { r0 with patterns := List.replicate 9 ⟨0, 0, 0, 0⟩ }] : List Instr).all (fun c => !c.wellFormed) = true := by decide +kernel

theorem test_illFormed_offers : ([
    .offer 64 true 0 [], .offer 0 true (2 ^ 40) [], .offer 0 true 0 (List.replicate 20 ⟨0, 0, 0, 0, 0, 0, 0⟩), .offer 0 true 0 [⟨2 ^ 20, 0, 0, 0, 0, 0, 0⟩], .offer 0 true 0 [⟨0, 65536, 0, 0, 0, 0, 0⟩],
    .offer 0 true 0 [⟨0, 0, 2, 0, 0, 0, 0⟩], .offer 0 true 0 [⟨0, 0, 0, 0, 0, 0, 3⟩], .offerExpiry (2 ^ 20), .laneStatus 64 true x0, .laneStatus 0 true { x0 with part := 3 },
    .laneStatus 0 true { x0 with role := 2 }, .laneStatus 0 true { x0 with slot := 32 }, .laneStatus 0 true { x0 with lane := 64 },
    .laneStatus 0 true { x0 with period := 2 ^ 32 }, .laneStatus 0 true { x0 with arrival := 32768 }, .laneStatus 0 true { x0 with admitting := 3 },
    .laneStatus 0 true { x0 with mask := 2 ^ 1792 }, .cellHoldExpiry 4096 0, .cellHoldExpiry 0 4, .planeFailure 4096 0, .planeFailure 0 2, .pathRetry 4096,
    .fabUnprotected 4096, .health (2 ^ 32) ⟨0, 0, 0, 0, false, false, false, 0, 0, 0, 0, 0, 0, 0, []⟩,
    .health 0 ⟨2 ^ 64, 0, 0, 0, false, false, false, 0, 0, 0, 0, 0, 0, 0, []⟩,
    .health 0 ⟨0, 0, 0, 0, false, false, false, 0, 2 ^ 64, 0, 0, 0, 0, 0, []⟩,
    .health 0 ⟨0, 0, 0, 0, false, false, false, 0, 0, 0, 0, 0, 0, 0, List.replicate 33 0⟩] : List Instr).all (fun c => !c.wellFormed) = true := by
  decide +kernel

theorem test_illFormed_carriage : ([
    .sdiRawTransition 96 none, .acquireElapsed 96, .lossElapsed 96, .chatterWindowQuiet 96, .signalPublish 96,
    .sdiInputFrame 96 ⟨0, 0, 0, 0, [], 0, 0, 0, 0, false⟩, .outputFrameBoundary 16480, .decision (2 ^ 32) 0 0 0 0, .decision 0 6 0 0 0,
    .decision 0 0 (2 ^ 32) 0 0, .decision 0 0 0 (2 ^ 64) 0,
    .freezeLimitExpiry 16480, .macLinkUp 16, .netLinkDown 16 0 0, .macFrameRx 19 frame, .macFrameRx 0 { frame with dest := 2 ^ 48 },
    .macFrameRx 0 { frame with tags := [4096] }, .pacerRelease 16384 0 0, .macFrameStart 19, .gateEntry 16, .membershipReport 16,
    .needTime 16384 0 0 0, .noPackets 16384 0, .noPackets 0 2, .flowSkew 16384, .flowPresencePublish 16384, .weed 16384,
    .compressedGap 16384, .canvasBoundary 256 [] [], .engineSample [⟨.flow 16384, 0, 0, false, 0, false⟩] [],
    .engineSample [⟨.bundle 256, 0, 0, false, 0, false⟩] [], .engineSample [⟨.aes 32, 0, 0, false, 0, false⟩] [],
    .engineSample [⟨.lane 96, 0, 0, false, 0, false⟩] [], .engineSample [⟨.lane 0, 0, 0, false, 2 ^ 31, false⟩] [],
    .engineSample [] [⟨32, 0, 0, false, false, false, false⟩], .zcTimeout true 1024,
    .zcTimeout false 65536, .aesRxPreamble 32, .aesRxTracking 32 0 0 0 0, .aesRxTracking 0 0 0 65 0, .aesRxTracking 0 0 0 0 (2 ^ 192),
    .aesRxLoss 32, .aesRxUnderrun 32, .aesRxOverrun 32, .aesRxRecovered 32, .transparentSlip 32, .aesTxBlockStart 32,
    .memUncorrectable 18 0 0 .none, .memCorrectedError 18 0 0, .scrubPass 18] : List Instr).all (fun c => !c.wellFormed) = true := by decide +kernel

def s0 : SvcMsg := svcMsg 0 0 0 0

theorem test_illFormed_service : ([
    .hello { s0 with session := 2 ^ 32 } 0, .hello { s0 with seq := 2 ^ 32 } 0, .hello { s0 with mac := 2 ^ 48 } 0, .hello { s0 with ip := 2 ^ 128 } 0, .hello { s0 with udp := 65536 } 0,
    .hello { s0 with version := 256 } 0, .hello { s0 with status := 256 } 0, .hello { s0 with flags := 256 } 0, .hello { s0 with length := 65536 } 0,
    .hello { s0 with reserved := 65536 } 0, .hello { s0 with tag := 2 ^ 128 } 0, .hello (s0) (2 ^ 128), .colophon (s0) (2 ^ 256),
    .imageOpen (s0) 256 0 0, .imageOpen (s0) 0 (2 ^ 24) 0, .imageOpen (s0) 0 0 (2 ^ 32), .imageData (s0) (2 ^ 32) 0 0,
    .imageData (s0) 0 1437 0, .imageData (s0) 0 1 256, .imageClose (s0) (2 ^ 384), .svcKeyWrite (s0) 256 0 0,
    .svcKeyWrite (s0) 0 (2 ^ 24) 0, .svcKeyWrite (s0) 0 0 (2 ^ 1024), .svcRead (s0) [2 ^ 48],
    .close { s0 with seq := 2 ^ 32 }, .timeSet (s0) (2 ^ 96), .wearSample [(256, 0, 0)], .thermalSample (List.replicate 65 0),
    .eyeSample [(181, 0, 0, false)], .bookingStart 32, .bookingDone 32 [], .bookingDone 0 [(181, 0, 0)], .bookingWindowEnd 32, .injectDelayRelease 64,
    .gpiRawTransition 16 true, .gpiQualify 16, .gpiChatterQuiet 16, .gpiStuck 16, .smbusRead 128 0, .smbusRead 0 256, .smbusWrite 128,
    .extest (2 ^ 4096), .samplePreload (2 ^ 4096), .extestPulse (2 ^ 4096), .extestTrain (2 ^ 4096), .bypass 256, .ctlLinkUp 3, .ctlLinkDown 3,
    .reconcile (2 ^ 32) true none true [] [] [], .reconcile 0 true none true [] [] [⟨8192, false, 0, 0, 0, 0, 0, 0, 0, 0, 0, 0, 0, 0, []⟩]] : List Instr).all (fun c => !c.wellFormed) = true := by
  decide +kernel

/-- The terms the ones above are made from are well formed. -/
theorem test_wellFormed_terms : ([.read m0 [2 ^ 48 - 1], .write m0 [⟨0, v0⟩], .loan m0 token, .undefinedOpcode m0 255 [255], .reserve 63 true r0,
    .laneStatus 63 true x0, .essence 63 4409 true essCell, .offer 63 true 0 [⟨0, 0, 0, 0, 0, 0, 0⟩], .macFrameRx 18 frame, .hello s0 0,
    .ptpEventRx 18 ⟨3, 65535, 0, 0, 0, 0, 0⟩, .decision 0 5 0 0 0] : List Instr).all Instr.wellFormed = true := by decide +kernel

end Sys2Proof.Tests
end

section
/-! What every command keeps, for any property of a state. Of the state's fields a command writes five by fixed rules alone: the queue
stays, a register is written by `State.put`, and the slips, the Logbook and the Almanac's intervals change as their tables allow. A
property that those rules keep (`Steady`) is therefore kept by every operation of the model, one lemma for each, and so by every command
(`exec_keeps`). `State.Ok` asks for the queue, the registers' form and the tables together and so says nothing of a state in which one of
them fails; a statement about one of them alone is an instance of `exec_keeps`. -/
namespace Sys2Proof.Machine

/-- The updates that the operations of the model are built from keep `P`: a register is written, a slip is put at its place, the Logbook
is replaced within its bound, so are the Almanac's intervals, a reset leaves some of the registers and empties the slips and the Logbook,
and every other field is free. -/
structure Steady (P : State → Prop) : Prop where
  put : ∀ {s : State}, P s → ∀ (k : Key) (v : Int), P (s.put k v)
  setSlip : ∀ {s : State}, P s → ∀ x : Slip, P (s.setSlip x)
  log : ∀ {s : State}, P s → ∀ {l : List LogEntry}, l.length ≤ max 64 s.log.length → P { s with log := l }
  intervals : ∀ {s : State}, P s → ∀ {iv : List AlmRec}, iv.length ≤ 8192 → P { s with almIntervals := iv }
  reset : ∀ {s t : State}, P s → ∀ p : Key → Bool, t.pending = s.pending → t.regs = storeKeep p s.regs → t.slips = [] →
    t.log = [] → t.almIntervals = s.almIntervals → P t
  other : ∀ {s t : State}, P s → t.pending = s.pending → t.regs = s.regs → t.slips = s.slips → t.log = s.log →
    t.almIntervals = s.almIntervals → P t

section
variable {P : State → Prop} {s : State}

/-! ### The constructs operations are built from -/

theorem ite_keeps {c : Prop} [Decidable c] {a b : State} (ha : P a) (hb : P b) : P (if c then a else b) := by
  split <;> assumption

theorem each_keeps {α : Type} (h : P s) (l : List α) (f : State → α → State) (hf : ∀ t a, P t → P (f t a)) :
    P (s.each l f) :=
  State.each_induct P l f s h hf

theorem foldl_keeps {α : Type} (h : P s) (l : List α) (f : State → α → State) (hf : ∀ t a, P t → P (f t a)) :
    P (l.foldl f s) :=
  each_keeps h l f hf

theorem foldl_fst_keeps {α β : Type} (l : List α) (f : State × β → α → State × β) (p : State × β) (h : P p.1)
    (hf : ∀ (t : State × β) a, P t.1 → P (f t a).1) : P (l.foldl f p).1 := by
  induction l generalizing p with
  | nil => exact h
  | cons a l ih => exact ih (f p a) (hf p a h)

theorem repeat_keeps (h : P s) (f : State → State) (n : Nat) (hf : ∀ t, P t → P (f t)) : P (Nat.repeat f n s) := by
  induction n with
  | zero => exact h
  | succ n ih => exact hf _ ih

theorem when_keeps (h : P s) (b : Bool) (f : State → State) (hf : ∀ t, P t → P (f t)) : P (s.when b f) := by
  unfold State.when
  exact ite_keeps (hf s h) h

theorem storeKeep_storeKeep (p q : Key → Bool) (t : Store) : storeKeep p (storeKeep q t) = storeKeep (fun k => q k && p k) t := by
  induction t with
  | nil => rfl
  | cons a t ih => by_cases hq : q a.1 = true <;> simp [storeKeep, hq, ih]

theorem txIdle_leaves (s : State) (n : Nat) :
    (s.txIdle n).pending = s.pending ∧ (s.txIdle n).almIntervals = s.almIntervals := by
  unfold State.txIdle
  split <;> exact ⟨rfl, rfl⟩

/-! ### Updates of fields of no table -/

variable (K : Steady P)
include K

/-- An update of any fields but the queue, the registers, the slips, the Logbook and the Almanac's intervals. -/
theorem mk_keeps (h : P s) (x2 : List Emit) (x3 : Nat) (x4 : Held) (x5 : Nat) (x6 : Nat)
    (x7 : List (Nat × Nat)) (x8 : Option Session) (x9 : Option OldSession) (x10 : Option (Nat × Int)) (x11 : List (Nat
    × Nat)) (x12 : List (Nat × Nat)) (x13 : List MirrorWait) (x16 : List Nat) (x17 : List (Nat × Int)) (x18 : List
    HeldRaise) (x19 : List CommitRec) (x20 : Option Store) (x21 : Option HealthMsg) (x22 : List (Key × Int)) (x24 :
    List AlmRec) (x25 : List (List Int)) (x26 : List Int) (x27 : List (Option Int)) (x28 : List (Nat × Int)) (x29 :
    List (Nat × Int)) (x30 : List (Nat × SdiLink)) (x31 : List (Nat × Int × List AncPkt)) (x32 : List Cut) (x33 : List
    (Nat × List Int)) (x34 : List Promo) (x35 : List (Nat × Nat × Nat × Int)) (x36 : List (OfferRec × Int)) (x37 :
    List OfferRec) (x38 : List FabSub) (x39 : List Pattern) (x40 : List (Bool × Resv)) (x41 : List FlowBuf) (x42 :
    List SkewKey) (x43 : List FlowTail) (x44 : List (Nat × Bool × Nat × Option Nat)) (x45 : List Nat) (x46 : List
    TxFrame) (x47 : List LayerStore) (x48 : List Recording) (x49 : List Recording) (x50 : List MemErr) (x51 : List
    (Nat × Nat × Nat)) (x52 : Prog) (x53 : Prog) (x54 : Option Prog) (x55 : List PathSt) (x56 : List LimSt) (x57 :
    List SlotFade) (x58 : Option AudFade) (x59 : List (Nat × Int)) (x60 : List Nat) (x61 : List InjHeld) (x62 : Option
    SvcSession) (x63 : Option SvcResp) (x64 : List FlashImage) (x65 : List Slip) :
    P (State.mk s.pending s.regs x2 x3 x4 x5 x6 x7 x8 x9 x10 x11 x12 x13 s.slips s.log x16 x17 x18 x19 x20
    x21 x22 s.almIntervals x24 x25 x26 x27 x28 x29 x30 x31 x32 x33 x34 x35 x36 x37 x38 x39 x40 x41 x42 x43 x44 x45 x46
    x47 x48 x49 x50 x51 x52 x53 x54 x55 x56 x57 x58 x59 x60 x61 x62 x63 x64 x65) := K.other h rfl rfl rfl rfl rfl

/-! ### Ops -/

theorem send_keeps (hs : P s) (e : Emit) : P (s.send e) := mk_keeps K hs ..

theorem bumpBy_keeps (hs : P s) (k : Key) (n : Int) : P (s.bumpBy k n) := K.put hs ..

theorem bump_keeps (hs : P s) (k : Key) : P (s.bump k) := bumpBy_keeps K hs ..

theorem drawn_keeps (hs : P s) : P s.drawn := mk_keeps K hs ..

theorem sendFrame_keeps (hs : P s) (port cls : Nat) (p : Packet) : P (s.sendFrame port cls p) := send_keeps K hs ..

/-! ### SlipTable -/

theorem rearm_keeps (hs : P s) (n : Nat) (items : List (Key × Int)) : P (s.rearm n items) := by
  unfold State.rearm
  repeat' (with_reducible first | assumption | apply K.setSlip | apply ite_keeps | apply K.put)

theorem failRecord_keeps (hs : P s) (n : Nat) (st : Status) (cause : Nat) : P (s.failRecord n st cause) :=
  when_keeps (bump_keeps K (K.setSlip hs _) ..) _ _ (fun _ h => K.put h ..)

/-! ### Islands -/

theorem probTouch_keeps (hs : P s) : P s.probTouch := ite_keeps hs (ite_keeps (K.put hs ..) (ite_keeps (K.put hs ..) hs))

theorem setReady_keeps (hs : P s) (b : Nat) (v : Bool) : P (s.setReady b v) :=
  ite_keeps hs (probTouch_keeps K (bump_keeps K (K.put (K.put (K.put hs ..) ..) ..) ..))

theorem dropReady_keeps (hs : P s) (b : Nat) : P (s.dropReady b) :=
  each_keeps (setReady_keeps K hs ..) _ _ (fun _ _ h => setReady_keeps K h ..)

theorem releaseLoan_keeps (hs : P s) : P s.releaseLoan := by
  unfold State.releaseLoan
  repeat' (with_reducible first | assumption | apply ite_keeps | apply K.put | split | apply mk_keeps K)

theorem closeSession_keeps (hs : P s) : P s.closeSession := by
  unfold State.closeSession
  repeat' (with_reducible first | assumption | apply K.put | split | apply mk_keeps K)

theorem sdiDecide_keeps (hs : P s) (n st : Nat) : P (s.sdiDecide n st) := by
  unfold State.sdiDecide
  repeat' (with_reducible first | assumption | intro _ | apply K.put | apply when_keeps)

theorem sdiDrop_keeps (hs : P s) (n : Nat) : P (s.sdiDrop n) := when_keeps (K.put hs ..) _ _ (fun _ h => sdiDecide_keeps K h ..)

theorem startQuiet_keeps (hs : P s) (n : Nat) : P (s.startQuiet n) := K.put (K.put hs ..) ..

theorem endCond_keeps (hs : P s) (n : Nat) : P (s.endCond n) := by
  unfold State.endCond
  repeat' (with_reducible first | assumption | apply startQuiet_keeps K | apply ite_keeps | apply K.put | apply mk_keeps K)

theorem queueRaise_keeps (hs : P s) (n cause context : Nat) (cond : Bool) : P (s.queueRaise n cause context cond) := by
  unfold State.queueRaise
  repeat' (with_reducible first | assumption | apply ite_keeps | apply mk_keeps K)

theorem failLaunched_keeps (hs : P s) (i : Nat) : P (s.failLaunched i) :=
  each_keeps hs _ _ (fun _ _ h => rearm_keeps K (K.put (queueRaise_keeps K (failRecord_keeps K h ..) ..) ..) ..)

theorem egressDue_keeps (hs : P s) : P s.egressDue := K.put hs ..

theorem setPairing_keeps (hs : P s) (v : Int) : P (s.setPairing v) := by
  unfold State.setPairing
  repeat' (with_reducible first
    | assumption | intro _ | apply egressDue_keeps K | apply ite_keeps | apply K.put | apply each_keeps | apply when_keeps)

theorem linkFalls_keeps (hs : P s) : P s.linkFalls := by
  unfold State.linkFalls
  repeat' (with_reducible first
    | assumption | apply bump_keeps K | apply endCond_keeps K | apply queueRaise_keeps K | apply setPairing_keeps K
    | apply ite_keeps | apply K.put | apply mk_keeps K)

theorem macFalls_keeps (hs : P s) (m : Nat) : P (s.macFalls m) := by
  unfold State.macFalls
  repeat' (with_reducible first
    | assumption | apply bumpBy_keeps K | apply bump_keeps K | apply queueRaise_keeps K | apply ite_keeps | apply K.put
    | apply mk_keeps K)

theorem txIdle_keeps (hs : P s) (n : Nat) : P (s.txIdle n) := ite_keeps hs (send_keeps K (K.put hs ..) ..)

theorem flowsLost_keeps (hs : P s) : P s.flowsLost :=
  each_keeps (mk_keeps K hs ..) _ _ (fun _ _ h => when_keeps (K.put h ..) _ _ (fun _ h2 => K.put h2 ..))

theorem logLost_keeps (hs : P s) (other : Nat) : P (s.logLost other) := by
  unfold State.logLost
  exact ite_keeps hs (K.log hs (Nat.zero_le _))

theorem keepLoses_keeps (hs : P s) : P s.keepLoses :=
  when_keeps (mk_keeps K (closeSession_keeps K (releaseLoan_keeps K hs)) ..) _ _ (fun _ h2 => K.put h2 ..)

theorem islandLoses_keeps (hs : P s) (i : Nat) : P (s.islandLoses i) := by
  unfold State.islandLoses
  repeat' (with_reducible first
    | assumption | intro _ | apply sdiDrop_keeps K | apply linkFalls_keeps K | apply macFalls_keeps K | apply txIdle_keeps K
    | apply flowsLost_keeps K | apply logLost_keeps K | apply keepLoses_keeps K | apply ite_keeps | apply K.put
    | apply each_keeps | apply when_keeps | apply mk_keeps K)

theorem flushPartners_keeps (hs : P s) (i : Nat) : P (s.flushPartners i) :=
  each_keeps hs _ _ (fun _ _ h => ite_keeps (K.put (drawn_keeps K (bumpBy_keeps K h ..)) ..) (K.put h ..))

theorem restartIsland_keeps (hs : P s) (i cause : Nat) : P (s.restartIsland i cause) := by
  unfold State.restartIsland
  repeat' (with_reducible first
    | assumption | intro _ | apply bump_keeps K | apply dropReady_keeps K | apply failLaunched_keeps K
    | apply islandLoses_keeps K | apply flushPartners_keeps K | apply ite_keeps | apply K.put | apply when_keeps)

theorem addLog_keeps (hs : P s) (src sev flags detail lt : Nat) : P (s.addLog src sev flags detail lt) := by
  unfold State.addLog
  extract_lets +onlyGivenNames merged
  have hm : ∀ l, merged = some l → l.length ≤ max 64 s.log.length := by
    intro l h
    unfold merged at h
    split at h
    · cases h
    next e r hr =>
      have hlen := congrArg List.length hr
      split at h
      · cases h
        simp only [List.length_reverse, List.length_cons] at hlen ⊢
        omega
      · cases h
  clear_value merged
  dsimp only
  split
  next l => exact K.log hs (hm l rfl)
  · have hd : ∀ l : List LogEntry, (l.drop (l.length - 64)).length ≤ max 64 s.log.length := by
      intro l
      simp only [List.length_drop]
      omega
    refine ite_keeps (bump_keeps K hs _) ?_
    exact K.other (K.log (K.put hs Reg.LOGBOOK_NEXT ((s.get Reg.LOGBOOK_NEXT + 1) % 2 ^ 32)) (hd _)) rfl rfl rfl rfl rfl

theorem driveAlert_keeps (hs : P s) : P s.driveAlert := ite_keeps hs (send_keeps K (K.put hs ..) ..)

theorem settleReaction_keeps (hs : P s) (n : Nat) : P (s.settleReaction n) := by
  unfold State.settleReaction
  repeat' (with_reducible first
    | assumption | apply probTouch_keeps K | apply driveAlert_keeps K | apply ite_keeps | apply K.put)

theorem runOn_keeps (hs : P s) : P s.runOn := closeSession_keeps K (releaseLoan_keeps K hs)

theorem safeEntry_keeps (hs : P s) : P s.safeEntry :=
  K.put (when_keeps (K.put hs ..) _ _ (fun _ h => each_keeps (K.put h ..) _ _ (fun _ _ h2 => K.put h2 ..))) ..

theorem react_keeps (hs : P s) (n detail : Nat) : P (s.react n detail) := by
  unfold State.react
  repeat' (with_reducible first
    | assumption | apply restartIsland_keeps K | apply runOn_keeps K | apply safeEntry_keeps K | apply ite_keeps | split)

theorem settleRaise_keeps (hs : P s) (n detail : Nat) (cond forced : Bool) (lt : Nat) :
    P (s.settleRaise n detail cond forced lt) := by
  unfold State.settleRaise
  repeat' (with_reducible first
    | assumption | intro _ | apply bump_keeps K | apply startQuiet_keeps K | apply addLog_keeps K | apply settleReaction_keeps K
    | apply react_keeps K | apply ite_keeps | apply K.put | apply when_keeps)

theorem settleHeld_keeps (hs : P s) : P s.settleHeld := by
  unfold State.settleHeld
  repeat' (with_reducible first | assumption | intro _ | apply settleRaise_keeps K | apply each_keeps | apply mk_keeps K)

theorem settleRounds_keeps (n : Nat) (hs : P s) : P (s.settleRounds n) := by
  induction n generalizing s with
  | zero => exact hs
  | succ n ih => exact ite_keeps (ih (settleHeld_keeps K hs)) hs

theorem settleQueue_keeps (hs : P s) : P s.settleQueue := settleRounds_keeps K 47 hs

theorem raiseAs_keeps (hs : P s) (n detail : Nat) (cond forced : Bool) : P (s.raiseAs n detail cond forced) :=
  ite_keeps hs (ite_keeps (settleQueue_keeps K (settleRaise_keeps K hs ..)) (mk_keeps K hs ..))

theorem raise_keeps (hs : P s) (n cause context : Nat) : P (s.raise n cause context) := by
  unfold State.raise
  repeat' (with_reducible first | assumption | apply raiseAs_keeps K)

theorem raiseCond_keeps (hs : P s) (n context : Nat) : P (s.raiseCond n context) := by
  unfold State.raiseCond
  repeat' (with_reducible first | assumption | apply raiseAs_keeps K | apply ite_keeps)

theorem holdIsland_keeps (hs : P s) (i : Nat) : P (s.holdIsland i) :=
  ite_keeps hs (K.put (K.put (K.put (K.put (dropReady_keeps K hs ..) ..) ..) ..) ..)

theorem countRecovery_keeps (hs : P s) (n : Nat) : P (s.countRecovery n) := by
  unfold State.countRecovery
  repeat' (with_reducible first
    | assumption | apply bump_keeps K | apply addLog_keeps K | apply holdIsland_keeps K | apply ite_keeps | apply K.put | split
    | apply mk_keeps K)

theorem islandReturned_keeps (hs : P s) (i : Nat) : P (s.islandReturned i) := by
  unfold State.islandReturned
  repeat' (with_reducible first
    | assumption | intro _ | apply startQuiet_keeps K | apply settleReaction_keeps K | apply countRecovery_keeps K
    | apply ite_keeps | apply K.put | apply each_keeps)

theorem quietExpiry_keeps (hs : P s) (n : Nat) : P (s.quietExpiry n) := by
  unfold State.quietExpiry
  repeat' (with_reducible first
    | assumption | apply settleReaction_keeps K | apply countRecovery_keeps K | apply ite_keeps | apply K.put)

/-! ### Power -/

theorem refreshTarget_keeps (hs : P s) : P s.refreshTarget := K.put hs ..

/-! ### Wear -/

theorem submit_keeps (hs : P s) (b : Nat) : P (s.submit b) := K.put (K.put (K.put (K.put hs ..) ..) ..) ..

theorem refreshInject_keeps (hs : P s) : P s.refreshInject := by
  unfold State.refreshInject
  repeat' (with_reducible first | assumption | intro _ | apply ite_keeps | apply K.put | apply each_keeps)

theorem endBooking_keeps (hs : P s) (b : Nat) (st : Int) (r : Status) : P (s.endBooking b st r) :=
  refreshInject_keeps K (K.put (K.put hs ..) ..)

theorem cancelBooking_keeps (hs : P s) (b : Nat) : P (s.cancelBooking b) := ite_keeps (endBooking_keeps K hs ..) hs

theorem checkBookings_keeps (hs : P s) : P s.checkBookings :=
  each_keeps hs _ _ (fun _ _ h => ite_keeps (endBooking_keeps K h ..) h)

theorem bookingDone_keeps (hs : P s) (b : Nat) (eyes : List (Nat × Nat × Nat)) : P (s.bookingDone b eyes) := by
  unfold State.bookingDone
  repeat' (with_reducible first
    | assumption | intro _ | apply bumpBy_keeps K | apply endBooking_keeps K | apply ite_keeps | apply K.put | apply each_keeps
    | apply mk_keeps K)

theorem bookingWindowEnd_keeps (hs : P s) (b : Nat) : P (s.bookingWindowEnd b) :=
  ite_keeps hs (ite_keeps (endBooking_keeps K hs ..) (endBooking_keeps K hs ..))

theorem adoptBookings_keeps (hs : P s) (h : HealthMsg) : P (s.adoptBookings h) := by
  unfold State.adoptBookings
  repeat' (with_reducible first
    | assumption | intro _ | apply drawn_keeps K | apply refreshInject_keeps K | apply ite_keeps | apply K.put
    | apply each_keeps)

theorem timeCond_keeps (hs : P s) (k : Key) (c : Bool) : P (s.timeCond k c) :=
  ite_keeps (ite_keeps (K.put hs ..) hs) (K.put hs ..)

theorem wearSample_keeps (hs : P s) (readings : List (Nat × Nat × Int)) : P (s.wearSample readings) := by
  unfold State.wearSample
  repeat' (with_reducible first
    | assumption | intro _ | apply timeCond_keeps K | apply ite_keeps | apply K.put | apply each_keeps | split | dsimp only)

theorem memHot_keeps (hs : P s) (k : Nat) : P (s.memHot k) := K.put (K.put hs ..) ..

theorem memTemps_keeps (hs : P s) : P s.memTemps := each_keeps hs _ _ (fun _ _ h => memHot_keeps K h ..)

theorem thermalSample_keeps (hs : P s) (temps : List Int) : P (s.thermalSample temps) := by
  unfold State.thermalSample
  repeat' (with_reducible first
    | assumption | intro _ | apply endCond_keeps K | apply raiseCond_keeps K | apply timeCond_keeps K | apply memTemps_keeps K
    | apply ite_keeps | apply K.put | apply each_keeps)

theorem eyeSample_keeps (hs : P s) (readings : List (Nat × Nat × Nat × Bool)) : P (s.eyeSample readings) := by
  unfold State.eyeSample
  repeat' (with_reducible first | assumption | intro _ | apply K.put | apply each_keeps)

theorem marginJudge_keeps (hs : P s) : P s.marginJudge := by
  unfold State.marginJudge
  repeat' (with_reducible first | assumption | apply endCond_keeps K | apply raiseCond_keeps K | split | dsimp only)

theorem refit_keeps (hs : P s) : P s.refit := marginJudge_keeps K (each_keeps hs _ _ (fun _ _ h => K.put h ..))

theorem almanacInterval_keeps (hs : P s) : P s.almanacInterval := by
  have hi : ∀ iv : List AlmRec, P { s with almIntervals := iv.take 8192 } := fun _ => K.intervals hs (List.length_take_le _ _)
  unfold State.almanacInterval
  repeat' (with_reducible first
    | assumption | intro _ | apply hi | apply refit_keeps K | apply memTemps_keeps K | apply K.put | apply each_keeps | split
    | dsimp only | apply mk_keeps K)

theorem almanacBoundary_keeps (hs : P s) : P s.almanacBoundary := by
  unfold State.almanacBoundary
  repeat' (with_reducible first | assumption | apply almanacInterval_keeps K | apply K.put | split)

theorem avsStep_keeps (hs : P s) : P s.avsStep := by
  unfold State.avsStep
  repeat' (with_reducible first | assumption | apply bump_keeps K | apply refreshTarget_keeps K | apply ite_keeps | apply K.put)

theorem avsJudge_keeps (hs : P s) (vdd : Nat) : P (s.avsJudge vdd) := by
  unfold State.avsJudge
  repeat' (with_reducible first
    | assumption | apply bumpBy_keeps K | apply endCond_keeps K | apply raiseCond_keeps K | apply timeCond_keeps K
    | apply ite_keeps | apply K.put)

theorem powerJudge_keeps (hs : P s) (watts : Nat) : P (s.powerJudge watts) := by
  unfold State.powerJudge
  repeat' (with_reducible first
    | assumption | apply bumpBy_keeps K | apply endCond_keeps K | apply raiseCond_keeps K | apply timeCond_keeps K
    | apply ite_keeps | apply K.put)

/-! ### Time -/

theorem tickWith_keeps (hs : P s) (amount : Int) : P (s.tickWith amount) := mk_keeps K hs ..

theorem refreshSlipBit_keeps (hs : P s) : P s.refreshSlipBit := setReady_keeps K hs ..

theorem recordStep_keeps (hs : P s) (amount result source : Int) : P (s.recordStep amount result source) :=
  K.put (K.put (K.put (K.put hs ..) ..) ..) ..

theorem applyStep_keeps (hs : P s) (amount result source : Int) : P (s.applyStep amount result source) :=
  raise_keeps K (refreshSlipBit_keeps K (K.put (recordStep_keeps K (tickWith_keeps K hs ..) ..) ..)) ..

theorem refuseStep_keeps (hs : P s) (amount source : Int) : P (s.refuseStep amount source) :=
  raise_keeps K (bump_keeps K (recordStep_keeps K hs ..) ..) ..

theorem stepWrite_keeps (hs : P s) (amount : Int) (force : Bool) : P (s.stepWrite amount force) := by
  unfold State.stepWrite
  repeat' (with_reducible first | assumption | apply applyStep_keeps K | apply refuseStep_keeps K | split)

theorem setIncrement_keeps (hs : P s) (v : Int) : P (s.setIncrement v) := mk_keeps K (K.put hs ..) ..

theorem servoStep_keeps (hs : P s) (offset : Int) : P (s.servoStep offset) := by
  unfold State.servoStep
  repeat' (with_reducible first
    | assumption | apply applyStep_keeps K | apply refuseStep_keeps K | apply ite_keeps | apply K.put)

theorem acquire_keeps (hs : P s) : P s.acquire := K.put (K.put (K.put hs ..) ..) ..

theorem masterSelected_keeps (hs : P s) (port clockId : Nat) : P (s.masterSelected port clockId) := by
  unfold State.masterSelected
  repeat' (with_reducible first
    | assumption | intro _ | apply acquire_keeps K | apply ite_keeps | apply K.put | apply when_keeps)

theorem servoDecide_keeps (hs : P s) : P s.servoDecide := by
  unfold State.servoDecide
  repeat' (with_reducible first
    | assumption | apply setIncrement_keeps K | apply servoStep_keeps K | apply ite_keeps | apply K.put)

theorem announceTimeout_keeps (hs : P s) : P s.announceTimeout := by
  unfold State.announceTimeout
  repeat' (with_reducible first | assumption | apply setIncrement_keeps K | apply ite_keeps | apply K.put)

theorem ownerWrite_keeps (hs : P s) (v : Int) : P (s.ownerWrite v) :=
  ite_keeps (K.put (K.put hs ..) ..) (ite_keeps (K.put hs ..) (ite_keeps (acquire_keeps K (K.put hs ..)) (K.put (K.put hs ..)
    ..)))

theorem ptpMeasure_keeps (hs : P s) (n : Nat) (m : PtpMsg) : P (s.ptpMeasure n m) := by
  unfold State.ptpMeasure
  repeat' (with_reducible first | assumption | apply ite_keeps | apply K.put)

theorem rateMeasured_keeps (hs : P s) : P s.rateMeasured := drawn_keeps K (K.put hs ..)

theorem servoFeed_keeps (hs : P s) : P s.servoFeed := by
  unfold State.servoFeed
  repeat' (with_reducible first
    | assumption | apply drawn_keeps K | apply setIncrement_keeps K | apply acquire_keeps K | apply rateMeasured_keeps K
    | apply ite_keeps | apply K.put)

theorem ptpRx_keeps (hs : P s) (n : Nat) (m : PtpMsg) : P (s.ptpRx n m) := by
  unfold State.ptpRx
  repeat' (with_reducible first
    | assumption | apply ptpMeasure_keeps K | apply servoFeed_keeps K | apply ite_keeps | apply K.put)

theorem delayReq_keeps (hs : P s) (n : Nat) : P (s.delayReq n) := by
  unfold State.delayReq
  repeat' (with_reducible first | assumption | apply sendFrame_keeps K | apply ite_keeps | apply K.put | apply mk_keeps K)

theorem timeMessage_keeps (hs : P s) (lt : Nat) : P (s.timeMessage lt) := K.put (K.put hs ..) ..

theorem twinCompare_keeps (hs : P s) : P s.twinCompare := by
  unfold State.twinCompare
  repeat' (with_reducible first
    | assumption | apply endCond_keeps K | apply raiseCond_keeps K | apply timeCond_keeps K | apply ite_keeps | apply K.put)

theorem capture_keeps (hs : P s) (n : Nat) (rising : Bool) (stamp : Int) : P (s.capture n rising stamp) :=
  ite_keeps (bump_keeps K (K.put hs ..) ..) hs

theorem pulseSeen_keeps (hs : P s) (n : Nat) (rising : Bool) : P (s.pulseSeen n rising) := ite_keeps (K.put hs ..) hs

theorem timeSetStep_keeps (hs : P s) (amount : Int) : P (s.timeSetStep amount) := applyStep_keeps K hs ..

/-! ### Ref -/

theorem refAbsent_keeps (hs : P s) (c : Nat) : P (s.refAbsent c) :=
  ite_keeps (K.put hs ..) (mk_keeps K (K.put (K.put (bump_keeps K (K.put hs ..) ..) ..) ..) ..)

theorem noteMeas_keeps (hs : P s) (c : Nat) (v : Int) : P (s.noteMeas c v) := K.put (mk_keeps K hs ..) ..

theorem refStatus_keeps (hs : P s) (c : Nat) (clear : Bool) (v : Int) : P (s.refStatus c clear v) := by
  unfold State.refStatus
  repeat' (with_reducible first
    | assumption | apply raise_keeps K | apply refAbsent_keeps K | apply noteMeas_keeps K | apply ite_keeps | apply K.put)

theorem refDisagree_keeps (hs : P s) (measured : Bool) : P (s.refDisagree measured) := by
  unfold State.refDisagree
  repeat' (with_reducible first
    | assumption | intro _ | apply endCond_keeps K | apply raiseCond_keeps K | apply ite_keeps | apply K.put | apply each_keeps)

theorem refSelectables_keeps (hs : P s) : P s.refSelectables := K.put (each_keeps hs _ _ (fun _ _ h => K.put h ..)) ..

theorem refEnter_keeps (hs : P s) (st : Int) : P (s.refEnter st) := by
  unfold State.refEnter
  repeat' (with_reducible first | assumption | apply bump_keeps K | apply raise_keeps K | apply ite_keeps | apply K.put)

theorem enterHoldover_keeps (hs : P s) : P s.enterHoldover := refEnter_keeps K (K.put (K.put hs ..) ..) ..

theorem refMove_keeps (hs : P s) (lock : Option Bool) : P (s.refMove lock) := by
  unfold State.refMove
  repeat' (with_reducible first
    | assumption | apply refEnter_keeps K | apply enterHoldover_keeps K | apply ite_keeps | apply K.put | split | dsimp only)

theorem refPresence_keeps (hs : P s) : P s.refPresence := by
  unfold State.refPresence
  repeat' (with_reducible first
    | assumption | intro _ | apply refAbsent_keeps K | apply refDisagree_keeps K | apply refSelectables_keeps K
    | apply refMove_keeps K | apply ite_keeps | apply K.put | apply each_keeps)

theorem refMeasurement_keeps (hs : P s) (readings : List (Bool × Int)) (loop fine : Int) :
    P (s.refMeasurement readings loop fine) := by
  unfold State.refMeasurement
  repeat' (with_reducible first
    | assumption | intro _ | apply refStatus_keeps K | apply refDisagree_keeps K | apply refSelectables_keeps K
    | apply refMove_keeps K | apply refPresence_keeps K | apply ite_keeps | apply K.put | apply each_keeps | apply mk_keeps K)

theorem candidateLoss_keeps (hs : P s) (c : Nat) : P (s.candidateLoss c) :=
  ite_keeps hs (refMove_keeps K (refSelectables_keeps K (refDisagree_keeps K (refAbsent_keeps K hs ..) ..)) ..)

theorem holdoverEval_keeps (hs : P s) : P s.holdoverEval := by
  unfold State.holdoverEval
  repeat' (with_reducible first | assumption | apply refEnter_keeps K | apply ite_keeps | apply K.put)

theorem xoCorrect_keeps (hs : P s) : P s.xoCorrect := ite_keeps (K.put (K.put (K.put hs ..) ..) ..) hs

theorem refReturn_keeps (hs : P s) : P s.refReturn := by
  unfold State.refReturn
  repeat' (with_reducible first
    | assumption | intro _ | apply refAbsent_keeps K | apply refDisagree_keeps K | apply refSelectables_keeps K
    | apply refEnter_keeps K | apply ite_keeps | apply K.put | apply each_keeps | apply mk_keeps K)

theorem refRanks_keeps (hs : P s) : P s.refRanks := by
  unfold State.refRanks
  repeat' (with_reducible first
    | assumption | intro _ | apply refAbsent_keeps K | apply refDisagree_keeps K | apply refSelectables_keeps K
    | apply refMove_keeps K | apply ite_keeps | apply K.put | apply each_keeps)

theorem loadRefBlock_keeps (hs : P s) (image : Nat) : P (s.loadRefBlock image) := by
  unfold State.loadRefBlock
  repeat' (with_reducible first | assumption | intro _ | apply refRanks_keeps K | apply K.put | apply each_keeps)

theorem fpulseIdle_keeps (hs : P s) (n : Nat) : P (s.fpulseIdle n) := send_keeps K hs ..

theorem fpulse_keeps (hs : P s) (r : Nat) : P (s.fpulse r) := each_keeps hs _ _ (fun _ _ h => ite_keeps (send_keeps K h ..) h)

theorem fpulseOff_keeps (hs : P s) (r : Nat) : P (s.fpulseOff r) := each_keeps hs _ _ (fun _ _ h => fpulseIdle_keeps K h ..)

theorem fpulseWrite_keeps (hs : P s) (n sub : Nat) (v : Int) : P (s.fpulseWrite n sub v) :=
  when_keeps (K.put hs ..) _ _ (fun _ h2 => fpulseIdle_keeps K h2 ..)

theorem rasterDrift_keeps (hs : P s) (r : Nat) (beyond : Bool) : P (s.rasterDrift r beyond) := by
  unfold State.rasterDrift
  repeat' (with_reducible first
    | assumption | apply endCond_keeps K | apply raiseAs_keeps K | apply raiseCond_keeps K | apply ite_keeps | apply K.put)

theorem rasterTick_keeps (hs : P s) (r : Nat) : P (s.rasterTick r) :=
  fpulse_keeps K (rasterDrift_keeps K (K.put (K.put (K.put (K.put (K.put hs ..) ..) ..) ..) ..) ..) ..

theorem applyRaster_keeps (hs : P s) (r : Nat) (b was : Int) : P (s.applyRaster r b was) := by
  unfold State.applyRaster
  repeat' (with_reducible first
    | assumption | intro _ | apply fpulseOff_keeps K | apply rasterDrift_keeps K | apply ite_keeps | apply K.put
    | apply when_keeps)

theorem applyAlign_keeps (hs : P s) (r : Nat) (b : Int) : P (s.applyAlign r b) := by
  unfold State.applyAlign
  repeat' (with_reducible first
    | assumption | apply send_keeps K | apply bump_keeps K | apply drawn_keeps K | apply ite_keeps | apply K.put)

/-! ### Serial -/

theorem sdiDetect_keeps (hs : P s) (n : Nat) (d : SdiLink) : P (s.sdiDetect n d) :=
  K.put (K.put (K.put (K.put (K.put (K.put (K.put (K.put (K.put hs ..) ..) ..) ..) ..) ..) ..) ..) ..

theorem sdiPayload_keeps (hs : P s) (n : Nat) (d : SdiLink) : P (s.sdiPayload n d) := K.put (K.put hs ..) ..

theorem sdiNote_keeps (hs : P s) (n : Nat) : P (s.sdiNote n) := mk_keeps K hs ..

theorem sdiRawEdge_keeps (hs : P s) (n : Nat) (present : Bool) : P (s.sdiRawEdge n present) := by
  unfold State.sdiRawEdge
  repeat' (with_reducible first | assumption | apply sdiDecide_keeps K | apply sdiNote_keeps K | apply ite_keeps | apply K.put)

theorem sdiReacquire_keeps (hs : P s) (n : Nat) : P (s.sdiReacquire n) :=
  ite_keeps (K.put (ite_keeps (sdiDecide_keeps K hs ..) hs) ..) (K.put (ite_keeps (sdiDecide_keeps K hs ..) hs) ..)

theorem sdiRestructure_keeps (hs : P s) (n : Nat) : P (s.sdiRestructure n) := sdiReacquire_keeps K (bump_keeps K hs ..) ..

theorem setPinSignal_keeps (hs : P s) (n : Nat) (d : Option SdiLink) : P (s.setPinSignal n d) := mk_keeps K hs ..

theorem cut_keeps (hs : P s) (c : Cut) : P (s.cut c) := mk_keeps K hs ..

theorem sdiCut_keeps (hs : P s) (n : Nat) (present : Bool) : P (s.sdiCut n present) := by
  unfold State.sdiCut
  repeat' (with_reducible first | assumption | apply cut_keeps K | apply ite_keeps | split | apply mk_keeps K)

theorem sdiArrive_keeps (hs : P s) (n : Nat) (d : SdiLink) : P (s.sdiArrive n d) := by
  unfold State.sdiArrive
  repeat' (with_reducible first
    | assumption | intro _ | apply bump_keeps K | apply sdiDecide_keeps K | apply sdiDetect_keeps K | apply sdiRawEdge_keeps K
    | apply sdiCut_keeps K | apply when_keeps)

theorem sdiVanish_keeps (hs : P s) (n : Nat) : P (s.sdiVanish n) := sdiRawEdge_keeps K (sdiCut_keeps K hs ..) ..

theorem sdiRawTransition_keeps (hs : P s) (n : Nat) (d : Option SdiLink) : P (s.sdiRawTransition n d) := by
  unfold State.sdiRawTransition
  repeat' (with_reducible first
    | assumption | intro _ | apply sdiDetect_keeps K | apply sdiPayload_keeps K | apply sdiRestructure_keeps K
    | apply setPinSignal_keeps K | apply sdiArrive_keeps K | apply sdiVanish_keeps K | apply ite_keeps | apply when_keeps
    | split)

theorem sdiAcquired_keeps (hs : P s) (n : Nat) : P (s.sdiAcquired n) := ite_keeps (K.put (sdiDecide_keeps K hs ..) ..) hs

theorem sdiLost_keeps (hs : P s) (n : Nat) : P (s.sdiLost n) := ite_keeps (K.put (sdiDecide_keeps K hs ..) ..) hs

theorem sdiChatterEnd_keeps (hs : P s) (n : Nat) : P (s.sdiChatterEnd n) := ite_keeps (K.put (sdiDecide_keeps K hs ..) ..) hs

theorem sdiShow_keeps (hs : P s) (n : Nat) (st : Int) : P (s.sdiShow n st) :=
  ite_keeps hs (when_keeps (K.put (K.put hs ..) ..) _ _ (fun _ h => K.put h ..))

theorem sdiPublishLane_keeps (hs : P s) (n : Nat) (st : Int) : P (s.sdiPublishLane n st) := by
  unfold State.sdiPublishLane
  repeat' (with_reducible first
    | assumption | apply bump_keeps K | apply raise_keeps K | apply sdiShow_keeps K | apply ite_keeps | apply K.put)

theorem groupSettle_keeps (hs : P s) (b : Nat) : P (s.groupSettle b) := by
  unfold State.groupSettle
  repeat' (with_reducible first
    | assumption | intro _ | apply sdiShow_keeps K | apply ite_keeps | apply K.put | apply foldl_keeps)

theorem sdiPublish_keeps (hs : P s) (n : Nat) : P (s.sdiPublish n) := by
  unfold State.sdiPublish
  repeat' (with_reducible first
    | assumption | intro _ | apply sdiPublishLane_keeps K | apply groupSettle_keeps K | apply ite_keeps | apply K.put
    | apply foldl_keeps)

theorem ancFrame_keeps (hs : P s) (n : Nat) (l : List AncPkt) : P (s.ancFrame n l) :=
  mk_keeps K (bumpBy_keeps K (bumpBy_keeps K hs ..) ..) ..

theorem groupSkew_keeps (hs : P s) (b size : Nat) : P (s.groupSkew b size) := by
  unfold State.groupSkew
  repeat' (with_reducible first | assumption | intro _ | apply raise_keeps K | apply ite_keeps | apply K.put | apply when_keeps)

theorem sdiTiming_keeps (hs : P s) (n : Nat) : P (s.sdiTiming n) := ite_keeps hs (K.put hs ..)

theorem syncWrite_keeps (hs : P s) (n : Nat) (f : Int) : P (s.syncWrite n f) := by
  unfold State.syncWrite
  repeat' (with_reducible first | assumption | apply ite_keeps | apply K.put | apply mk_keeps K)

theorem frameStamps_keeps (hs : P s) (n : Nat) : P (s.frameStamps n) := by
  unfold State.frameStamps
  repeat' (with_reducible first
    | assumption | intro _ | apply groupSkew_keeps K | apply sdiTiming_keeps K | apply syncWrite_keeps K | apply K.put
    | apply when_keeps | split)

theorem sdiInputFrame_keeps (hs : P s) (n : Nat) (f : SdiFrame) : P (s.sdiInputFrame n f) := by
  unfold State.sdiInputFrame
  repeat' (with_reducible first
    | assumption | intro _ | apply bumpBy_keeps K | apply bump_keeps K | apply ancFrame_keeps K | apply frameStamps_keeps K
    | apply ite_keeps | apply K.put | apply when_keeps)

theorem rateModeApply_keeps (hs : P s) (n sub : Nat) (v : Int) : P (s.rateModeApply n sub v) := by
  unfold State.rateModeApply
  repeat' (with_reducible first
    | assumption | apply sdiReacquire_keeps K | apply sdiArrive_keeps K | apply sdiVanish_keeps K | apply ite_keeps
    | apply K.put | split)

theorem groupApply_keeps (hs : P s) (tx : Bool) (n size : Nat) : P (s.groupApply tx n size) := by
  unfold State.groupApply
  repeat' (with_reducible first
    | assumption | intro _ | apply sdiDrop_keeps K | apply ite_keeps | apply K.put | apply each_keeps | apply when_keeps)

theorem txSet_keeps (hs : P s) (o : Nat) (v : Bool) : P (s.txSet o v) :=
  ite_keeps hs (send_keeps K (when_keeps (K.put hs ..) _ _ (fun _ h => bump_keeps K h ..)) ..)

theorem txDrop_keeps (hs : P s) (o : Nat) : P (s.txDrop o) := when_keeps hs _ _ (fun _ h => txSet_keeps K h ..)

theorem txApply_keeps (hs : P s) (o : Nat) : P (s.txApply o) := each_keeps hs _ _ (fun _ _ h => txSet_keeps K h ..)

/-! ### Inject -/

theorem injectHold_keeps (hs : P s) (j : Nat) (u : InjUnit) (left : Nat) (due : Int) : P (s.injectHold j u left due) :=
  ite_keeps (bump_keeps K hs ..) (mk_keeps K hs ..)

theorem injectPassed_keeps (hs : P s) (j : Nat) : P (s.injectPassed j).1 := by
  unfold State.injectPassed
  repeat' (with_reducible first | assumption | apply mk_keeps K)

theorem injectOne_keeps (hs : P s) (j : Nat) (u : InjPass) (len : Nat) : P (s.injectOne j u len).1 := by
  unfold State.injectOne
  repeat' (with_reducible first
    | assumption | apply injectHold_keeps K | apply injectPassed_keeps K | apply send_keeps K | apply bump_keeps K | apply K.put
    | split | dsimp only)

theorem inject_keeps (hs : P s) (point target plane : Nat) (u : InjUnit) (len : Nat) :
    P (s.inject point target plane u len).1 := by
  unfold State.inject
  repeat' (with_reducible first | assumption | intro _ | apply injectOne_keeps K | apply foldl_fst_keeps | split)

theorem injectBare_keeps (hs : P s) (point target len n : Nat) : P (s.injectBare point target len n) := by
  unfold State.injectBare
  repeat' (with_reducible first | assumption | intro _ | apply inject_keeps K | apply ite_keeps | apply repeat_keeps)

theorem injectDue_keeps (hs : P s) (j : Nat) : P (s.injectDue j).1 := by
  unfold State.injectDue
  repeat' (with_reducible first | assumption | apply mk_keeps K)

/-! ### Fabric -/

theorem refreshTwinLanes_keeps (hs : P s) : P s.refreshTwinLanes :=
  ite_keeps (settleQueue_keeps K (linkFalls_keeps K (K.put hs ..))) (K.put hs ..)

theorem laneEnter_keeps (hs : P s) (l : Nat) (st : Int) : P (s.laneEnter l st) := by
  unfold State.laneEnter
  repeat' (with_reducible first
    | assumption | intro _ | apply bump_keeps K | apply refPresence_keeps K | apply refreshTwinLanes_keeps K | apply ite_keeps
    | apply K.put | apply when_keeps)

theorem trainStart_keeps (hs : P s) (l : Nat) : P (s.trainStart l) := ite_keeps (K.put (laneEnter_keeps K hs ..) ..) hs

theorem trainDone_keeps (hs : P s) (l role slot lane side delay : Nat) : P (s.trainDone l role slot lane side delay) := by
  unfold State.trainDone
  repeat' (with_reducible first | assumption | apply raise_keeps K | apply laneEnter_keeps K | apply ite_keeps | apply K.put)

theorem trainTimeout_keeps (hs : P s) (l : Nat) : P (s.trainTimeout l) := ite_keeps (laneEnter_keeps K hs ..) hs

theorem aligned_keeps (hs : P s) (l : Nat) : P (s.aligned l) := ite_keeps (laneEnter_keeps K hs ..) hs

theorem laneFail_keeps (hs : P s) (l : Nat) : P (s.laneFail l) :=
  ite_keeps hs (ite_keeps (raise_keeps K (laneEnter_keeps K hs ..) ..) (laneEnter_keeps K hs ..))

theorem laneRetry_keeps (hs : P s) (l : Nat) : P (s.laneRetry l) :=
  ite_keeps (ite_keeps (K.put (laneEnter_keeps K hs ..) ..) (laneEnter_keeps K hs ..)) hs

theorem laneEnable_keeps (hs : P s) (l : Nat) (v : Int) : P (s.laneEnable l v) :=
  ite_keeps (laneEnter_keeps K (K.put hs ..) ..) (K.put hs ..)

theorem sendCell_keeps (hs : P s) (l : Nat) (c : Cell) (k : Nat) : P (s.sendCell l c k) := by
  unfold State.sendCell
  repeat' (with_reducible first
    | assumption | intro _ | apply send_keeps K | apply bump_keeps K | apply inject_keeps K | apply each_keeps | split)

theorem cellIn_keeps (hs : P s) (l : Nat) (crcOk : Bool) (kind : Nat) : P (s.cellIn l crcOk kind).1 := by
  unfold State.cellIn
  repeat' (with_reducible first | assumption | apply bump_keeps K | split)

theorem sendControl_keeps (hs : P s) (l : Nat) (c : Cell) : P (s.sendControl l c) := K.put (sendCell_keeps K hs ..) ..

theorem refreshCalendars_keeps (hs : P s) (n : Nat) : P (s.refreshCalendars n) := by
  unfold State.refreshCalendars
  repeat' (with_reducible first | assumption | intro _ | apply K.put | apply each_keeps)

theorem setSub_keeps (hs : P s) (x : FabSub) : P (s.setSub x) := mk_keeps K hs ..

theorem showSub_keeps (hs : P s) (x : FabSub) : P (s.showSub x) := by
  unfold State.showSub
  repeat' (with_reducible first | assumption | apply K.put)

theorem refreshFabCounts_keeps (hs : P s) : P s.refreshFabCounts := K.put (K.put hs ..) ..

theorem toCentre_keeps (hs : P s) (c kind : Nat) (r : Resv) : P (s.toCentre c kind r) := by
  unfold State.toCentre
  repeat' (with_reducible first | assumption | apply sendControl_keeps K | split)

theorem reservePlane_keeps (hs : P s) (x : FabSub) (plane : Nat) : P (s.reservePlane x plane) := by
  unfold State.reservePlane
  repeat' (with_reducible first
    | assumption | apply raise_keeps K | apply setSub_keeps K | apply showSub_keeps K | apply toCentre_keeps K | apply K.put
    | split)

theorem movePlane_keeps (hs : P s) (x : FabSub) (plane : Nat) : P (s.movePlane x plane) := by
  unfold State.movePlane
  repeat' (with_reducible first
    | assumption | apply setSub_keeps K | apply toCentre_keeps K | apply ite_keeps | apply K.put | split)

theorem openSub_some_keeps {m user : Nat} {t : State} (e : s.openSub m user = some t) (hs : P s) : P t := by
  unfold State.openSub at e
  split at e
  · cases e
    exact showSub_keeps K (setSub_keeps K hs _) _
  · split at e
    · cases e
    · cases e
      repeat' (with_reducible first
        | assumption | apply refreshFabCounts_keeps K | apply reservePlane_keeps K | split | dsimp only | apply mk_keeps K)

theorem openSub_keeps {t : State} (hs : P s) (ht : P t) (m user : Nat) : P ((s.openSub m user).getD t) := by
  cases e : s.openSub m user with
  | none => exact ht
  | some u => exact openSub_some_keeps K e hs

theorem releasePath_keeps (hs : P s) (x : FabSub) (plane c rq : Nat) : P (s.releasePath x plane c rq) :=
  toCentre_keeps K (mk_keeps K hs ..) ..

theorem releasePlane_keeps (hs : P s) (x : FabSub) (plane : Nat) : P (s.releasePlane x plane) := by
  unfold State.releasePlane
  repeat' (with_reducible first | assumption | apply releasePath_keeps K | apply ite_keeps | split | dsimp only)

theorem closeSub_keeps (hs : P s) (m user : Nat) : P (s.closeSub m user) := by
  unfold State.closeSub
  repeat' (with_reducible first
    | assumption | apply setSub_keeps K | apply showSub_keeps K | apply releasePlane_keeps K | apply ite_keeps | split)

theorem grantCell_keeps (hs : P s) (l : Nat) (r : Resv) : P (s.grantCell l r) := by
  unfold State.grantCell
  repeat' (with_reducible first | assumption | apply setSub_keeps K | apply showSub_keeps K | split | apply mk_keeps K)

theorem denyCell_keeps (hs : P s) (r : Resv) : P (s.denyCell r) := by
  unfold State.denyCell
  repeat' (with_reducible first | assumption | apply setSub_keeps K | apply showSub_keeps K | split)

theorem assignCell_keeps (hs : P s) (l : Nat) (r : Resv) : P (s.assignCell l r) := ite_keeps hs (mk_keeps K hs ..)

theorem releaseAtOrigin_keeps (hs : P s) (l : Nat) (r : Resv) : P (s.releaseAtOrigin l r) := mk_keeps K hs ..

theorem placeNew_keeps (hs : P s) {r : Resv} {n : Nat} {ks : List Nat} {x : State × List Pat × List Pat}
    (e : s.placeNew r n ks = some x) : P x.1 := by
  induction ks generalizing s x with
  | nil => cases e; exact hs
  | cons k ks ih =>
    simp only [State.placeNew] at e
    split at e
    · cases e
    · split at e
      · cases e
      next e' =>
        cases e
        have ht := ih (mk_keeps K hs ..) e'
        exact ht

theorem placeRiding_keeps (hs : P s) {r : Resv} {n : Nat} {ks : List Nat} {x : State × List Pat}
    (e : s.placeRiding r n ks = some x) : P x.1 := by
  induction ks generalizing s x with
  | nil => cases e; exact hs
  | cons k ks ih =>
    simp only [State.placeRiding] at e
    split at e
    · cases e
    · split at e
      · cases e
      next e' =>
        cases e
        have ht := ih (mk_keeps K hs ..) e'
        exact ht

theorem tryPlace_keeps (hs : P s) {r : Resv} {n : Nat} {x : State × List Pat × List Pat} (e : s.tryPlace r n = some x) :
    P x.1 := by
  unfold State.tryPlace at e
  dsimp only at e
  split at e
  next y hy =>
    cases e
    split at hy
    · obtain ⟨z, hz, rfl⟩ := Option.map_eq_some_iff.mp hy
      exact placeRiding_keeps K hs hz
    · cases hy
  · split at e
    · cases e
    · exact placeNew_keeps K hs e

theorem answer_keeps (hs : P s) (edgeSlot kind : Nat) (r : Resv) : P (s.answer edgeSlot kind r) := toCentre_keeps K hs ..

theorem settleRelease_keeps (hs : P s) (r : Resv) : P (s.settleRelease r) :=
  ite_keeps (mk_keeps K hs ..) (answer_keeps K (mk_keeps K (mk_keeps K hs ..) ..) ..)

theorem settleRequest_keeps (hs : P s) {start t : State} {r : Resv} {n : Nat} {up down : List Pat}
    (e : s.settleRequest start r n = .granted t up down) : P t := by
  unfold State.settleRequest at e
  cases hx : s.tryPlace r (n + 2) with
  | none =>
    simp only [hx] at e
    split_ifs at e
  | some x =>
    simp only [hx] at e
    split_ifs at e
    cases e
    exact tryPlace_keeps K hs hx

theorem cutoff_keeps (hs : P s) : P s.cutoff := by
  unfold State.cutoff
  refine ite_keeps hs (foldl_keeps (each_keeps (mk_keeps K hs ..) _ _ (fun _ _ h => settleRelease_keeps K h _)) _ _ fun t r h => ?_)
  split
  · exact answer_keeps K h ..
  next e =>
    have hu := settleRequest_keeps K h e
    exact ite_keeps (answer_keeps K hu ..) (answer_keeps K (answer_keeps K hu ..) ..)

theorem centreRequest_keeps (hs : P s) (isReserve : Bool) (r : Resv) : P (s.centreRequest isReserve r) :=
  ite_keeps hs (mk_keeps K hs ..)

theorem offerCell_keeps (hs : P s) (stamp : Nat) (recs : List OfferRec) : P (s.offerCell stamp recs) := by
  unfold State.offerCell
  repeat' (with_reducible first
    | assumption | intro _ | apply sendControl_keeps K | apply refreshFabCounts_keeps K | apply ite_keeps | apply each_keeps
    | apply mk_keeps K)

theorem offerExpiry_keeps (hs : P s) (m : Nat) : P (s.offerExpiry m) := refreshFabCounts_keeps K (mk_keeps K hs ..)

theorem arrivalKnown_keeps (hs : P s) (l : Nat) (arrival : Int) : P (s.arrivalKnown l arrival) := K.put (K.put hs ..) ..

theorem laneStatus_keeps (hs : P s) (l : Nat) (x : LaneStatus) : P (s.laneStatus l x) := by
  unfold State.laneStatus
  repeat' (with_reducible first | assumption | apply arrivalKnown_keeps K | apply ite_keeps | apply K.put)

theorem sendMask_keeps (hs : P s) (l : Nat) (full : Bool) (m admitting from_ : Nat) :
    P (s.sendMask l full m admitting from_) := by
  unfold State.sendMask
  repeat' (with_reducible first | assumption | intro _ | apply sendControl_keeps K | apply each_keeps)

theorem sendStatus_keeps (hs : P s) (l : Nat) (full : Bool) : P (s.sendStatus l full) := sendMask_keeps K hs ..

theorem joinPacket_keeps (hs : P s) (x : FabSub) (c : Cell) : P (s.joinPacket x c) := by
  unfold State.joinPacket
  repeat' (with_reducible first | assumption | apply ite_keeps | apply K.put)

theorem releaseCell_keeps (hs : P s) (x : FabSub) (c : Cell) (stamp : Int) : P (s.releaseCell x c stamp).1 :=
  joinPacket_keeps K (bump_keeps K hs ..) ..

theorem drainHeld_keeps (fuel : Nat) (hs : P s) (x : FabSub) (m : Merge) : P (s.drainHeld x m fuel).1 := by
  induction fuel generalizing s x m with
  | zero => exact hs
  | succ fuel ih =>
    unfold State.drainHeld
    split
    · exact hs
    · exact ih (releaseCell_keeps K hs ..) ..

theorem concordCell_keeps (hs : P s) (x : FabSub) (c : Cell) : P (s.concordCell x c) := by
  unfold State.concordCell
  repeat' (with_reducible first
    | assumption | apply bump_keeps K | apply setSub_keeps K | apply drainHeld_keeps K | apply ite_keeps | split | dsimp only)

theorem cellsCut_keeps (hs : P s) (x : FabSub) (stamp : Int) (a : Nat) (b : Option Nat) : P (s.cellsCut x stamp a b) := by
  unfold State.cellsCut
  repeat' (with_reducible first | assumption | apply cut_keeps K | apply ite_keeps | split)

theorem gapCut_keeps (hs : P s) (x : FabSub) (m : Merge) (stamp : Int) (seq : Nat) : P (s.gapCut x m stamp seq) :=
  ite_keeps (cellsCut_keeps K hs ..) (cellsCut_keeps K (ite_keeps (cellsCut_keeps K hs ..) hs) ..)

theorem releaseUpTo_keeps (fuel : Nat) (hs : P s) (x : FabSub) (m : Merge) (key : Int × Int) :
    P (s.releaseUpTo x m key fuel).1 := by
  induction fuel generalizing s x m with
  | zero => exact hs
  | succ fuel ih =>
    unfold State.releaseUpTo
    repeat' (with_reducible first
      | assumption | apply ih | apply releaseCell_keeps K | apply gapCut_keeps K | apply K.put | apply bumpBy_keeps K
      | apply drawn_keeps K | split | dsimp only)

theorem holdExpiry_keeps (hs : P s) (el link : Nat) : P (s.holdExpiry el link) := by
  unfold State.holdExpiry
  repeat' (with_reducible first
    | assumption | apply setSub_keeps K | apply drainHeld_keeps K | apply releaseUpTo_keeps K | split | dsimp only)

theorem originCell_keeps (hs : P s) (i : Nat) (c : Cell) (at_ : Int) : P (s.originCell i c at_) := by
  unfold State.originCell
  repeat' (with_reducible first | assumption | intro _ | apply sendCell_keeps K | apply K.put | apply each_keeps | split)

theorem forward_keeps (hs : P s) (l t : Nat) (c : Cell) : P (s.forward l t c) := by
  unfold State.forward
  repeat' (with_reducible first
    | assumption | intro _ | apply bump_keeps K | apply sendCell_keeps K | apply ite_keeps | apply each_keeps | split)

theorem concordUnit_keeps (hs : P s) (u : InjUnit) : P (s.concordUnit u) := by
  unfold State.concordUnit
  repeat' (with_reducible first | assumption | apply concordCell_keeps K | split)

theorem essence_keeps (hs : P s) (l t : Nat) (crcOk : Bool) (c : Cell) : P (s.essence l t crcOk c) := by
  unfold State.essence
  repeat' (with_reducible first
    | assumption | intro _ | apply inject_keeps K | apply cellIn_keeps K | apply forward_keeps K | apply concordUnit_keeps K
    | apply ite_keeps | apply each_keeps | split)

theorem presence_keeps (hs : P s) (l t : Nat) (crcOk : Bool) (c : Cell) : P (s.presence l t crcOk c) := by
  unfold State.presence
  repeat' (with_reducible first
    | assumption | apply cellIn_keeps K | apply setSub_keeps K | apply forward_keeps K | apply ite_keeps | split)

theorem planeFailure_keeps (hs : P s) (el plane : Nat) : P (s.planeFailure el plane) := by
  unfold State.planeFailure
  repeat' (with_reducible first
    | assumption | intro _ | apply bump_keeps K | apply setSub_keeps K | apply reservePlane_keeps K | apply releasePlane_keeps K
    | apply cellsCut_keeps K | apply ite_keeps | apply each_keeps | split)

theorem pathRetry_keeps (hs : P s) (el : Nat) : P (s.pathRetry el) := by
  unfold State.pathRetry
  repeat' (with_reducible first | assumption | apply reservePlane_keeps K | apply ite_keeps | split | dsimp only)

theorem unprotected_keeps (hs : P s) (el : Nat) : P (s.unprotected el) := by
  unfold State.unprotected
  repeat' (with_reducible first | assumption | apply raise_keeps K | apply setSub_keeps K | apply ite_keeps | split)

theorem nextReserves_keeps (hs : P s) : P s.nextReserves := by
  unfold State.nextReserves
  repeat' (with_reducible first
    | assumption | intro _ | apply setSub_keeps K | apply reservePlane_keeps K | apply movePlane_keeps K
    | apply releasePath_keeps K | apply ite_keeps | apply each_keeps | split | dsimp only)

theorem calendarPeriod_keeps (hs : P s) (lanes : List LanePeriod) : P (s.calendarPeriod lanes) := by
  unfold State.calendarPeriod
  repeat' (with_reducible first
    | assumption | intro _ | apply bumpBy_keeps K | apply refreshCalendars_keeps K | apply refreshFabCounts_keeps K
    | apply arrivalKnown_keeps K | apply sendStatus_keeps K | apply unprotected_keeps K | apply nextReserves_keeps K
    | apply ite_keeps | apply K.put | apply each_keeps | apply when_keeps | apply mk_keeps K)

theorem calendarApply_keeps (hs : P s) (l : Nat) : P (s.calendarApply l) :=
  sendStatus_keeps K (refreshCalendars_keeps K hs ..) ..

theorem twinSend_keeps (hs : P s) (m : TwinMsg) : P (s.twinSend m) := by
  unfold State.twinSend
  repeat' (with_reducible first
    | assumption | intro _ | apply send_keeps K | apply bump_keeps K | apply inject_keeps K | apply ite_keeps | apply K.put
    | apply each_keeps)

theorem sendTwin_keeps (hs : P s) (m : TwinMsg) : P (s.sendTwin m) := ite_keeps (twinSend_keeps K hs ..) hs

theorem twinOrdered_keeps (hs : P s) (old : State) : P (s.twinOrdered old) := by
  unfold State.twinOrdered
  repeat' (with_reducible first | assumption | apply ite_keeps | apply mk_keeps K)

theorem twinIn_keeps (hs : P s) (n : Nat) (f : State → State) (hf : ∀ t, P t → P (f t)) : P (s.twinIn n f) := by
  unfold State.twinIn
  repeat' (with_reducible first | assumption | apply hf | apply bump_keeps K | apply ite_keeps | apply mk_keeps K)

/-! ### Net -/

theorem refreshMac_keeps (hs : P s) (m : Nat) : P (s.refreshMac m) :=
  ite_keeps (K.put (K.put (K.put hs ..) ..) ..) (K.put (K.put (K.put (K.put (K.put hs ..) ..) ..) ..) ..)

theorem refreshEgress_keeps (hs : P s) : P s.refreshEgress := by
  unfold State.refreshEgress
  repeat' (with_reducible first | assumption | intro _ | apply bump_keeps K | apply K.put | apply each_keeps | apply mk_keeps K)

theorem egressSwitch_keeps (hs : P s) : P s.egressSwitch := by
  unfold State.egressSwitch
  repeat' (with_reducible first | assumption | apply refreshEgress_keeps K | apply ite_keeps | apply K.put)

theorem macTrain_keeps (hs : P s) (m : Nat) : P (s.macTrain m) := when_keeps hs _ _ (fun _ h => K.put h ..)

theorem macsTrain_keeps (hs : P s) (n : Nat) : P (s.macsTrain n) := each_keeps hs _ _ (fun _ _ h => macTrain_keeps K h ..)

theorem macUp_keeps (hs : P s) (m : Nat) : P (s.macUp m) := ite_keeps (K.put (K.put (K.put hs ..) ..) ..) hs

theorem fecCount_keeps (hs : P s) (m corrected lost : Nat) : P (s.fecCount m corrected lost) :=
  bumpBy_keeps K (bumpBy_keeps K hs ..) ..

theorem macDown_keeps (hs : P s) (m corrected lost : Nat) : P (s.macDown m corrected lost) :=
  ite_keeps (macTrain_keeps K (settleQueue_keeps K (macFalls_keeps K (fecCount_keeps K hs ..) ..)) ..) hs

theorem gateStep_keeps (hs : P s) (m : Nat) : P (s.gateStep m) := by
  unfold State.gateStep
  repeat' (with_reducible first | assumption | apply K.put | split | dsimp only)

theorem gateApply_keeps (hs : P s) (m : Nat) : P (s.gateApply m) := bump_keeps K (gateStep_keeps K hs ..) ..

theorem enqueue_keeps (hs : P s) (x : TxFrame) : P (s.enqueue x) := ite_keeps (bump_keeps K hs ..) (mk_keeps K hs ..)

theorem stampFrame_keeps (hs : P s) (m : Nat) (x : TxFrame) : P (s.stampFrame m x).1 := by
  unfold State.stampFrame
  repeat' (with_reducible first | assumption | apply K.put | split)

theorem ctlFrameStart_keeps (hs : P s) (m : Nat) : P (s.ctlFrameStart m) := by
  unfold State.ctlFrameStart
  repeat' (with_reducible first | assumption | apply sendFrame_keeps K | apply ite_keeps | split | apply mk_keeps K)

theorem frameStart_keeps (hs : P s) (m : Nat) : P (s.frameStart m) := by
  unfold State.frameStart
  repeat' (with_reducible first
    | assumption | intro _ | apply bumpBy_keeps K | apply bump_keeps K | apply sendFrame_keeps K | apply inject_keeps K
    | apply stampFrame_keeps K | apply ite_keeps | apply K.put | apply each_keeps | apply when_keeps | split | apply mk_keeps K)

theorem releaseTo_keeps (hs : P s) (x : TxFrame) : P (s.releaseTo x) :=
  ite_keeps (bump_keeps K hs ..) (ite_keeps (bump_keeps K hs ..) (enqueue_keeps K hs ..))

theorem membershipNews_keeps (hs : P s) (m : Nat) (was : List (Nat × Option Nat)) : P (s.membershipNews m was) :=
  ite_keeps hs (K.put (K.put (mk_keeps K hs ..) ..) ..)

theorem refreshGroups_keeps (hs : P s) (old : State) : P (s.refreshGroups old) :=
  each_keeps hs _ _ (fun _ _ h => membershipNews_keeps K h ..)

theorem report_keeps (hs : P s) (m : Nat) (joined : Bool) (g : Nat × Option Nat) : P (s.report m joined g) :=
  enqueue_keeps K hs ..

theorem sendReports_keeps (hs : P s) (m : Nat) (group : Option Nat) : P (s.sendReports m group) := by
  unfold State.sendReports
  repeat' (with_reducible first | assumption | intro _ | apply report_keeps K | apply each_keeps)

theorem membershipReport_keeps (hs : P s) (m : Nat) : P (s.membershipReport m) := by
  unfold State.membershipReport
  repeat' (with_reducible first
    | assumption | intro _ | apply report_keeps K | apply ite_keeps | apply K.put | apply each_keeps | apply mk_keeps K)

theorem portApply_keeps (hs : P s) (n sub : Nat) (v : Int) : P (s.portApply n sub v) := by
  unfold State.portApply
  repeat' (with_reducible first
    | assumption | intro _ | apply macFalls_keeps K | apply settleQueue_keeps K | apply refreshMac_keeps K
    | apply refreshEgress_keeps K | apply macsTrain_keeps K | apply refreshGroups_keeps K | apply K.put | apply each_keeps)

/-! ### Flows -/

theorem flowWritten_keeps (hs : P s) (old : State) (f : Nat) : P (s.flowWritten old f) := by
  unfold State.flowWritten
  repeat' (with_reducible first | assumption | intro _ | apply ite_keeps | apply K.put | apply each_keeps | apply mk_keeps K)

theorem setBuf_keeps (hs : P s) (b : FlowBuf) : P (s.setBuf b) := mk_keeps K hs ..

theorem flowPubDue_keeps (hs : P s) (f : Nat) : P (s.flowPubDue f) := when_keeps hs _ _ (fun _ h => K.put h ..)

theorem forwardPacket_keeps (hs : P s) (f : Nat) (p : Rtp) (stamp : Int) : P (s.forwardPacket f p stamp) := by
  unfold State.forwardPacket
  repeat' (with_reducible first
    | assumption | intro _ | apply bumpBy_keeps K | apply drawn_keeps K | apply originCell_keeps K | apply ite_keeps
    | apply K.put | apply each_keeps)

theorem flowOut_keeps (hs : P s) (p : Nat) (x : TxFrame) : P (s.flowOut p x) := by
  unfold State.flowOut
  repeat' (with_reducible first
    | assumption | intro _ | apply inject_keeps K | apply releaseTo_keeps K | apply each_keeps | split)

theorem compressedSend_keeps (hs : P s) (m bytes ts q : Nat) (marker : Bool) : P (s.compressedSend m bytes ts q marker) := by
  unfold State.compressedSend
  repeat' (with_reducible first | assumption | intro _ | apply bump_keeps K | apply flowOut_keeps K | apply each_keeps)

theorem remotePackets_keeps (hs : P s) : P s.remotePackets := by
  unfold State.remotePackets
  repeat' (with_reducible first
    | assumption | intro _ | apply compressedSend_keeps K | apply ite_keeps | apply K.put | apply each_keeps)

theorem compressedDrain_keeps (hs : P s) (f fuel : Nat) : P (s.compressedDrain f fuel) := by
  induction fuel generalizing s with
  | zero => exact hs
  | succ fuel ih =>
    simp only [State.compressedDrain]
    split
    · exact hs
    · exact ih (compressedSend_keeps K (setBuf_keeps K hs _) ..)

theorem noteArrival_keeps (hs : P s) (f : Nat) (pathB : Bool) (t : Int) (q : Nat) : P (s.noteArrival f pathB t q) := by
  unfold State.noteArrival
  repeat' (with_reducible first | assumption | apply ite_keeps | apply mk_keeps K)

theorem flowPacket_keeps (hs : P s) (f : Nat) (pathB : Bool) (p : Rtp) : P (s.flowPacket f pathB p) := by
  unfold State.flowPacket
  repeat' (with_reducible first
    | assumption | apply bump_keeps K | apply setBuf_keeps K | apply flowPubDue_keeps K | apply forwardPacket_keeps K
    | apply compressedDrain_keeps K | apply noteArrival_keeps K | apply ite_keeps | apply K.put)

theorem flowUnit_keeps (hs : P s) (u : InjUnit) : P (s.flowUnit u) := by
  unfold State.flowUnit
  repeat' (with_reducible first | assumption | apply flowPacket_keeps K | split)

theorem localFrame_keeps {port bytes host : Nat} {k : NetKind} {t : State} (e : s.localFrame port bytes host k = some t)
    (hs : P s) : P t := by
  unfold State.localFrame at e
  dsimp only at e
  split at e
  · cases e
    exact ptpRx_keeps K hs ..
  · split at e
    · cases e
      exact enqueue_keeps K hs _
    · cases e
  · split at e
    · cases e
      exact enqueue_keeps K hs _
    · cases e
  · split at e
    · cases e
      exact hs
    · cases e
      exact ite_keeps (bump_keeps K hs _) (sendReports_keeps K hs ..)
  · cases e

theorem localFrame_getD_keeps {t : State} (hs : P s) (ht : P t) (port bytes host : Nat) (k : NetKind) :
    P ((s.localFrame port bytes host k).getD t) := by
  cases e : s.localFrame port bytes host k with
  | none => exact ht
  | some u => exact localFrame_keeps K e hs

theorem ctlFrameRx_keeps (hs : P s) (port : Nat) (f : NetFrame) : P (s.ctlFrameRx port f) :=
  ite_keeps hs (localFrame_getD_keeps K hs hs ..)

theorem frameRx_keeps (hs : P s) (m : Nat) (f : NetFrame) : P (s.frameRx m f) := by
  unfold State.frameRx
  repeat' (with_reducible first
    | assumption | intro _ | apply localFrame_getD_keeps K | apply flowUnit_keeps K | apply inject_keeps K
    | apply fecCount_keeps K | apply bumpBy_keeps K | apply bump_keeps K | apply each_keeps | apply ite_keeps | split)

theorem consume_keeps (hs : P s) (f : Nat) (t : Int) (q : Nat) : P (s.consume f t q) :=
  ite_keeps hs (setBuf_keeps K (bumpBy_keeps K hs ..) ..)

theorem needTimeAt_keeps (hs : P s) (f : Nat) (t : Int) (q line : Nat) : P (s.needTimeAt f t q line) :=
  ite_keeps hs (consume_keeps K hs ..)

theorem compressedGap_keeps (hs : P s) (f : Nat) : P (s.compressedGap f) := by
  unfold State.compressedGap
  repeat' (with_reducible first
    | assumption | apply bumpBy_keeps K | apply setBuf_keeps K | apply compressedDrain_keeps K | apply ite_keeps | split
    | dsimp only)

theorem noPackets_keeps (hs : P s) (f : Nat) (pathB : Bool) : P (s.noPackets f pathB) := by
  unfold State.noPackets
  repeat' (with_reducible first | assumption | apply raise_keeps K | apply flowPubDue_keeps K | apply ite_keeps | apply K.put)

theorem flowSkew_keeps (hs : P s) (f : Nat) : P (s.flowSkew f) := by
  unfold State.flowSkew
  repeat' (with_reducible first
    | assumption | apply raise_keeps K | apply flowPubDue_keeps K | apply ite_keeps | apply K.put | apply mk_keeps K)

theorem flowPublish_keeps (hs : P s) (f : Nat) : P (s.flowPublish f) := by
  unfold State.flowPublish
  repeat' (with_reducible first | assumption | apply ite_keeps | apply K.put)

theorem refreshAdmitted_keeps (hs : P s) : P s.refreshAdmitted := each_keeps hs _ _ (fun _ _ h => K.put h ..)

theorem flowApply_keeps (hs : P s) (old : State) (e : Nat) (b : Int) : P (s.flowApply old e b) :=
  refreshAdmitted_keeps K (mk_keeps K (each_keeps (K.put (K.put hs ..) ..) _ _ (fun _ _ h2 => K.put h2 ..)) ..)

theorem pacerPath_keeps (hs : P s) (r : State) (e i : Nat) (pathB : Bool) (plan : PacketPlan) :
    P (s.pacerPath r e i pathB plan) := ite_keeps hs (flowOut_keeps K hs ..)

theorem pacerRelease_keeps (hs : P s) (j : Nat) (f : Int) (i : Nat) : P (s.pacerRelease j f i) := by
  unfold State.pacerRelease
  repeat' (with_reducible first
    | assumption | intro _ | apply pacerPath_keeps K | apply bumpBy_keeps K | apply bump_keeps K | apply K.put
    | apply when_keeps | split | dsimp only)

/-! ### Src -/

theorem genBoundary_keeps (hs : P s) (r : Nat) : P (s.genBoundary r) :=
  each_keeps hs _ _ (fun _ _ h => ite_keeps (K.put (K.put h ..) ..) (K.put (K.put h ..) ..))

theorem genStop_keeps (hs : P s) (r : Nat) : P (s.genStop r) := each_keeps hs _ _ (fun _ _ h => K.put (K.put h ..) ..)

theorem compare_keeps (hs : P s) (kind el : Nat) (idx own : Int) : P (s.compare kind el idx own).1 := by
  unfold State.compare
  repeat' (with_reducible first | assumption | apply sendTwin_keeps K | split | apply mk_keeps K)

theorem decision_keeps (hs : P s) (kind el idx : Nat) (v : Int) : P (s.decision kind el idx v) :=
  ite_keeps (mk_keeps K hs ..) hs

theorem syncSettle_keeps (hs : P s) (n : Nat) : P (s.syncSettle n) := by
  unfold State.syncSettle
  repeat' (with_reducible first | assumption | apply ite_keeps | apply K.put | apply mk_keeps K)

theorem syncDeliver_keeps (hs : P s) (n : Nat) (bs : Int) : P (s.syncDeliver n bs) := by
  unfold State.syncDeliver
  repeat' (with_reducible first
    | assumption | intro _ | apply send_keeps K | apply bumpBy_keeps K | apply bump_keeps K | apply compare_keeps K
    | apply syncSettle_keeps K | apply ite_keeps | apply K.put | apply when_keeps)

theorem syncBoundary_keeps (hs : P s) (r : Nat) : P (s.syncBoundary r) :=
  each_keeps hs _ _ (fun _ _ h => when_keeps h _ _ (fun _ h2 => syncDeliver_keeps K h2 ..))

/-! ### Stacks -/

theorem refreshAdmission_keeps (hs : P s) : P s.refreshAdmission := by
  unfold State.refreshAdmission
  repeat' (with_reducible first | assumption | intro _ | apply K.put | apply each_keeps)

theorem ddrTrain_keeps {d : Nat} {dimms : List (Nat × Nat × Nat)} {t : State} (e : s.ddrTrain d dimms = some t) (hs : P s) :
    P t := by
  unfold State.ddrTrain at e
  split at e
  · split at e
    · cases e
      exact K.put (each_keeps hs _ _ fun _ _ h => K.put (K.put (K.put h ..) ..) ..) ..
    · cases e
  · cases e

theorem hbmRises_keeps (hs : P s) (h : Nat) : P (s.hbmRises h) := K.put (ite_keeps (K.put (K.put hs ..) ..) hs) ..

theorem withHome_keeps (hs : P s) (r : Nat) : P (s.withHome r) := K.put hs ..

theorem setIndex_keeps (hs : P s) (r : Nat) (l : List RecEntry) : P (s.setIndex r l) :=
  K.put (K.put (K.put (mk_keeps K hs ..) ..) ..) ..

theorem setClip_keeps (hs : P s) (k : Nat) (l : List RecEntry) : P (s.setClip k l) := K.put (K.put (mk_keeps K hs ..) ..) ..

theorem recEntry_keeps (hs : P s) (r : Nat) (e : RecEntry) : P (s.recEntry r e) :=
  each_keeps (bump_keeps K (setIndex_keeps K hs ..) ..) _ _ (fun _ _ h2 => when_keeps h2 _ _ (fun _ h2 => setClip_keeps K h2
    ..))

theorem recordFrames_keeps (hs : P s) (old : State) : P (s.recordFrames old) := by
  unfold State.recordFrames
  repeat' (with_reducible first
    | assumption | intro _ | apply recEntry_keeps K | apply ite_keeps | apply K.put | apply each_keeps)

theorem recBoundary_keeps (hs : P s) (r : Nat) : P (s.recBoundary r) := by
  unfold State.recBoundary
  repeat' (with_reducible first | assumption | apply recEntry_keeps K | apply ite_keeps | apply K.put)

theorem recApply_keeps (hs : P s) (old : State) (r : Nat) (b : Int) : P (s.recApply old r b) := by
  unfold State.recApply
  repeat' (with_reducible first | assumption | apply withHome_keeps K | apply setIndex_keeps K | apply ite_keeps | apply K.put)

theorem headShow_keeps (hs : P s) (h : Nat) (f : Option (Int × Bool)) : P (s.headShow h f) := by
  unfold State.headShow
  repeat' (with_reducible first
    | assumption | intro _ | apply send_keeps K | apply bump_keeps K | apply K.put | apply when_keeps | split)

theorem headPlay_keeps (hs : P s) (h : Nat) : P (s.headPlay h) := by
  unfold State.headPlay
  repeat' (with_reducible first | assumption | apply headShow_keeps K | apply ite_keeps | apply K.put)

theorem headBoundary_keeps (hs : P s) (h : Nat) : P (s.headBoundary h) := by
  unfold State.headBoundary
  repeat' (with_reducible first
    | assumption | apply headShow_keeps K | apply headPlay_keeps K | apply ite_keeps | apply K.put | split)

theorem headApply_keeps (hs : P s) (h : Nat) (b : Int) : P (s.headApply h b) := by
  unfold State.headApply
  repeat' (with_reducible first | assumption | apply headBoundary_keeps K | apply ite_keeps | apply K.put)

theorem stacksBoundary_keeps (hs : P s) (r : Nat) : P (s.stacksBoundary r) := by
  unfold State.stacksBoundary
  repeat' (with_reducible first
    | assumption | intro _ | apply recBoundary_keeps K | apply headBoundary_keeps K | apply ite_keeps | apply K.put
    | apply each_keeps)

theorem clipCapture_keeps (hs : P s) (k : Nat) : P (s.clipCapture k) :=
  refreshAdmission_keeps K (setClip_keeps K (K.put (K.put (K.put (K.put (K.put (K.put hs ..) ..) ..) ..) ..) ..) ..)

theorem captureComplete_keeps (hs : P s) (k : Nat) : P (s.captureComplete k) := by
  unfold State.captureComplete
  repeat' (with_reducible first | assumption | apply refreshAdmission_keeps K | apply ite_keeps | apply K.put)

theorem clipDelete_keeps (hs : P s) (k : Nat) : P (s.clipDelete k) := by
  unfold State.clipDelete
  repeat' (with_reducible first
    | assumption | intro _ | apply refreshAdmission_keeps K | apply K.put | apply each_keeps | apply mk_keeps K)

theorem rowCandidate_keeps (hs : P s) (k row pages : Nat) : P (s.rowCandidate k row pages) := by
  unfold State.rowCandidate
  repeat' (with_reducible first
    | assumption | apply bump_keeps K | apply raise_keeps K | apply refreshAdmission_keeps K | apply setIndex_keeps K
    | apply ite_keeps | apply K.put | split | apply mk_keeps K)

theorem spoilFolios_keeps (hs : P s) (r : Nat) (st : Int) : P (s.spoilFolios r st) :=
  when_keeps (each_keeps hs _ _ (fun _ _ h => setClip_keeps K h ..)) _ _ (fun _ h2 => bump_keeps K (setIndex_keeps K h2 ..) ..)

theorem memUnit_keeps (hs : P s) (u : MemUnit) : P (s.memUnit u) := by
  unfold State.memUnit
  repeat' (with_reducible first
    | assumption | intro _ | apply setBuf_keeps K | apply spoilFolios_keeps K | apply when_keeps | split | apply mk_keeps K)

theorem memUncorrectable_keeps (hs : P s) (k row pages : Nat) (u : MemUnit) : P (s.memUncorrectable k row pages u) :=
  rowCandidate_keeps K (memUnit_keeps K (raise_keeps K (bump_keeps K hs ..) ..) ..) ..

theorem memCorrected_keeps (hs : P s) (k row pages : Nat) : P (s.memCorrected k row pages) := by
  unfold State.memCorrected
  repeat' (with_reducible first
    | assumption | intro _ | apply bump_keeps K | apply memHot_keeps K | apply rowCandidate_keeps K | apply when_keeps
    | apply mk_keeps K)

/-! ### Comp -/

theorem refreshCanvases_keeps (hs : P s) : P s.refreshCanvases := by
  unfold State.refreshCanvases
  repeat' (with_reducible first | assumption | intro _ | apply K.put | apply each_keeps)

theorem refreshCanvasStates_keeps (hs : P s) : P s.refreshCanvasStates := each_keeps hs _ _ (fun _ _ h => K.put h ..)

theorem openStores_keeps (hs : P s) (sources : List Nat) : P (s.openStores sources) := mk_keeps K hs ..

theorem canvasLaunch_keeps (hs : P s) (c : State) (k : Nat) : P (s.canvasLaunch c k) := by
  unfold State.canvasLaunch
  repeat' (with_reducible first | assumption | intro _ | apply openSub_keeps K | apply openStores_keeps K | apply each_keeps)

theorem canvasApply_keeps (hs : P s) (old : State) (k : Nat) : P (s.canvasApply old k) := by
  unfold State.canvasApply
  repeat' (with_reducible first
    | assumption | intro _ | apply refreshAdmission_keeps K | apply refreshCanvases_keeps K | apply openStores_keeps K
    | apply ite_keeps | apply K.put | apply each_keeps)

theorem canvasRetire_keeps (hs : P s) (k : Nat) : P (s.canvasRetire k) :=
  mk_keeps K (each_keeps hs _ _ (fun _ _ h => closeSub_keeps K h ..)) ..

theorem storeFrames_keeps (hs : P s) (old : State) : P (s.storeFrames old) := by
  unfold State.storeFrames
  repeat' (with_reducible first | assumption | apply mk_keeps K)

theorem layerChoose_keeps (hs : P s) (k l : Nat) (bc : Int) : P (s.layerChoose k l bc) := by
  unfold State.layerChoose
  repeat' (with_reducible first
    | assumption | intro _ | apply bumpBy_keeps K | apply bump_keeps K | apply raise_keeps K | apply compare_keeps K
    | apply ite_keeps | apply K.put | apply when_keeps)

theorem probePixel_keeps (hs : P s) (k : Nat) (pics : List SrcPic) (p : Probe) : P (s.probePixel k pics p) := by
  unfold State.probePixel
  repeat' (with_reducible first | assumption | apply send_keeps K | apply ite_keeps | split)

theorem canvasBoundary_keeps (hs : P s) (k : Nat) (pics : List SrcPic) (probes : List Probe) :
    P (s.canvasBoundary k pics probes) := by
  unfold State.canvasBoundary
  repeat' (with_reducible first
    | assumption | intro _ | apply send_keeps K | apply bump_keeps K | apply layerChoose_keeps K | apply probePixel_keeps K
    | apply ite_keeps | apply K.put | apply each_keeps | apply when_keeps)

/-! ### Audio -/

theorem compileStart_keeps (hs : P s) : P s.compileStart := K.put hs ..

theorem compileEnd_keeps (hs : P s) : P s.compileEnd := by
  unfold State.compileEnd
  repeat' (with_reducible first | assumption | apply ite_keeps | apply K.put | apply mk_keeps K)

theorem showEdge_keeps (hs : P s) (e : Nat) : P (s.showEdge e) := by
  unfold State.showEdge
  repeat' (with_reducible first | assumption | apply K.put)

theorem setPath_keeps (hs : P s) (bus : Bool) (n : Nat) (p : Option PathSt) : P (s.setPath bus n p) := by
  unfold State.setPath
  repeat' (with_reducible first | assumption | apply showEdge_keeps K | apply ite_keeps | apply mk_keeps K)

theorem pathChange_keeps (hs : P s) (old : State) (bus : Bool) (n : Nat) (b : Int) : P (s.pathChange old bus n b) := by
  unfold State.pathChange
  repeat' (with_reducible first | assumption | apply setPath_keeps K | apply ite_keeps | split)

theorem zcTimeout_keeps (hs : P s) (bus : Bool) (n : Nat) : P (s.zcTimeout bus n) := by
  unfold State.zcTimeout
  repeat' (with_reducible first | assumption | apply bump_keeps K | apply setPath_keeps K | apply ite_keeps | split)

theorem setLimiter_keeps (hs : P s) (l : LimSt) : P (s.setLimiter l) := K.put (K.put (mk_keeps K hs ..) ..) ..

theorem slotFade_keeps (hs : P s) (base count : Nat) (up : Bool) : P (s.slotFade base count up) := mk_keeps K hs ..

theorem aesPreamble_keeps (hs : P s) (r : Nat) : P (s.aesPreamble r) := ite_keeps (K.put hs ..) hs

theorem aesTracking_keeps (hs : P s) (r rate : Nat) (ratio : Int) (fill status : Nat) :
    P (s.aesTracking r rate ratio fill status) := by
  unfold State.aesTracking
  repeat' (with_reducible first | assumption | apply ite_keeps | apply K.put)

theorem aesLoss_keeps (hs : P s) (r : Nat) : P (s.aesLoss r) := by
  unfold State.aesLoss
  repeat' (with_reducible first
    | assumption | intro _ | apply bump_keeps K | apply raise_keeps K | apply ite_keeps | apply K.put | apply when_keeps)

theorem aesSlip_keeps (hs : P s) (r : Nat) (beyond : Bool) : P (s.aesSlip r beyond) := by
  unfold State.aesSlip
  repeat' (with_reducible first
    | assumption | apply bump_keeps K | apply raise_keeps K | apply slotFade_keeps K | apply ite_keeps | apply K.put)

theorem aesRecovered_keeps (hs : P s) (r : Nat) : P (s.aesRecovered r) :=
  ite_keeps hs (slotFade_keeps K (K.put (K.put (K.put hs ..) ..) ..) ..)

theorem transparentSlip_keeps (hs : P s) (r : Nat) : P (s.transparentSlip r) :=
  ite_keeps (raise_keeps K (bump_keeps K hs ..) ..) hs

theorem aesRxWrite_keeps (hs : P s) (r sub : Nat) (v : Int) : P (s.aesRxWrite r sub v) :=
  ite_keeps (K.put (K.put (K.put (K.put hs ..) ..) ..) ..) (K.put hs ..)

theorem refreshAesBit_keeps (hs : P s) : P s.refreshAesBit := setReady_keeps K hs ..

theorem aesBlock_keeps (hs : P s) (t : Nat) : P (s.aesBlock t) := by
  unfold State.aesBlock
  repeat' (with_reducible first
    | assumption | intro _ | apply send_keeps K | apply raise_keeps K | apply refreshAesBit_keeps K | apply ite_keeps
    | apply K.put | apply when_keeps)

theorem refreshSide_keeps (hs : P s) : P s.refreshSide := each_keeps hs _ _ (fun _ _ h => K.put h ..)

theorem aesSend_keeps (hs : P s) (t rate n : Nat) (at_ : Int) (a : Int × Bool) (b : Int × Bool) :
    P (s.aesSend t rate n at_ a b) := by
  unfold State.aesSend
  repeat' (with_reducible first | assumption | apply send_keeps K | apply inject_keeps K)

theorem aesMedia_keeps (hs : P s) (k : Int) (given : List (Nat × Int × Bool)) : P (s.aesMedia k given) := by
  unfold State.aesMedia
  repeat' (with_reducible first
    | assumption | intro _ | apply drawn_keeps K | apply aesSend_keeps K | apply ite_keeps | apply each_keeps)

theorem aesClocked_keeps (hs : P s) (t r : Nat) (a : Int × Bool) (b : Int × Bool) : P (s.aesClocked t r a b) := by
  unfold State.aesClocked
  repeat' (with_reducible first | assumption | apply aesSend_keeps K | apply K.put)

theorem aesFrameIn_keeps (hs : P s) (x : AesIn) : P (s.aesFrameIn x) := by
  unfold State.aesFrameIn
  repeat' (with_reducible first
    | assumption | intro _ | apply bump_keeps K | apply drawn_keeps K | apply aesClocked_keeps K | apply ite_keeps | apply K.put
    | apply each_keeps | apply when_keeps)

theorem frameLink_keeps (hs : P s) (i link : Nat) (stamp : Int) : P (s.frameLink i link stamp) := by
  unfold State.frameLink
  repeat' (with_reducible first | assumption | intro _ | apply drawn_keeps K | apply originCell_keeps K | apply each_keeps)

theorem frameCell_keeps (hs : P s) (i : Nat) (stamp : Int) : P (s.frameCell i stamp) :=
  ite_keeps hs (each_keeps hs _ _ (fun _ _ h => frameLink_keeps K h ..))

theorem noteSource_keeps (hs : P s) (i : Nat) : P (s.noteSource i) := by
  unfold State.noteSource
  repeat' (with_reducible first | assumption | intro _ | apply K.put | apply when_keeps)

theorem presenceLink_keeps (hs : P s) (i link : Nat) : P (s.presenceLink i link) := by
  unfold State.presenceLink
  repeat' (with_reducible first
    | assumption | intro _ | apply sendCell_keeps K | apply ite_keeps | apply K.put | apply each_keeps | split)

theorem presenceCells_keeps (hs : P s) : P s.presenceCells :=
  ite_keeps hs (each_keeps hs _ _ (fun _ _ h => presenceLink_keeps K (noteSource_keeps K h ..) ..))

theorem bundleCells_keeps (hs : P s) (instant : Int) (outs : List (Nat × Int)) : P (s.bundleCells instant outs) := by
  unfold State.bundleCells
  repeat' (with_reducible first | assumption | intro _ | apply originCell_keeps K | apply each_keeps)

theorem refreshBundle_keeps (hs : P s) (i : Nat) : P (s.refreshBundle i) := by
  unfold State.refreshBundle
  repeat' (with_reducible first | assumption | apply ite_keeps | apply K.put)

theorem bundleEnable_keeps (hs : P s) (i : Nat) (v : Int) : P (s.bundleEnable i v) := by
  unfold State.bundleEnable
  repeat' (with_reducible first
    | assumption | apply openSub_keeps K | apply closeSub_keeps K | apply refreshBundle_keeps K | apply ite_keeps | apply K.put)

theorem embedFrame_keeps (hs : P s) (n samples : Nat) : P (s.embedFrame n samples) := by
  unfold State.embedFrame
  repeat' (with_reducible first
    | assumption | apply bump_keeps K | apply raise_keeps K | apply slotFade_keeps K | apply ite_keeps | apply K.put)

theorem overlapCount_keeps (hs : P s) (l : List (Nat × SampleIn)) : P (s.overlapCount l) := mk_keeps K (bumpBy_keeps K hs ..) ..

theorem bundleMissing_keeps (hs : P s) (l : List (Nat × SampleIn)) (at_ : Int) : P (s.bundleMissing l at_) := by
  unfold State.bundleMissing
  repeat' (with_reducible first | assumption | apply bumpBy_keeps K)

theorem crossings_keeps (hs : P s) (ins : List (Nat × Int)) (buses : List (Nat × Int)) (at_ : Int) :
    P (s.crossings ins buses at_) := by
  unfold State.crossings
  repeat' (with_reducible first | assumption | intro _ | apply setPath_keeps K | apply ite_keeps | apply each_keeps)

theorem endRamps_keeps (hs : P s) (at_ : Int) : P (s.endRamps at_) := by
  unfold State.endRamps
  repeat' (with_reducible first | assumption | intro _ | apply setPath_keeps K | apply each_keeps)

theorem saturated_keeps (hs : P s) (n : Nat) : P (s.saturated n) := by
  unfold State.saturated
  repeat' (with_reducible first | assumption | apply bumpBy_keeps K | apply raise_keeps K | apply ite_keeps | apply K.put)

theorem engineSample_keeps (hs : P s) (raw : List SampleIn) (frames : List AesIn) : P (s.engineSample raw frames) := by
  unfold State.engineSample
  repeat' (with_reducible first
    | assumption | intro _ | apply send_keeps K | apply zcTimeout_keeps K | apply setLimiter_keeps K | apply aesMedia_keeps K
    | apply aesFrameIn_keeps K | apply bundleCells_keeps K | apply overlapCount_keeps K | apply bundleMissing_keeps K
    | apply crossings_keeps K | apply endRamps_keeps K | apply saturated_keeps K | apply ite_keeps | apply K.put
    | apply each_keeps | dsimp only | apply mk_keeps K)

theorem installProgram_keeps (hs : P s) (p : Prog) (kind : Nat) (b : Int) : P (s.installProgram p kind b) :=
  each_keeps (K.put (K.put (K.put (mk_keeps K hs ..) ..) ..) ..) _ _ (fun _ _ h2 => showEdge_keeps K h2 ..)

theorem programApply_keeps (hs : P s) (b : Int) : P (s.programApply b) := by
  unfold State.programApply
  repeat' (with_reducible first
    | assumption | intro _ | apply bump_keeps K | apply aesBlock_keeps K | apply installProgram_keeps K | apply ite_keeps
    | apply K.put | apply each_keeps)

theorem setApply_keeps (hs : P s) (old : State) (keys : List Key) (b : Int) : P (s.setApply old keys b) := by
  unfold State.setApply
  repeat' (with_reducible first
    | assumption | intro _ | apply pathChange_keeps K | apply aesBlock_keeps K | apply refreshSide_keeps K | apply ite_keeps
    | apply K.put | apply each_keeps)

theorem audReturn_keeps (hs : P s) : P s.audReturn := by
  unfold State.audReturn
  repeat' (with_reducible first | assumption | apply installProgram_keeps K | apply ite_keeps | apply K.put | apply mk_keeps K)

/-! ### Xpt -/

theorem promote_keeps (hs : P s) (m r e : Nat) : P (s.promote m r e) := by
  unfold State.promote
  repeat' (with_reducible first | assumption | apply bump_keeps K | apply K.put | split | apply mk_keeps K)

theorem promoFrames_keeps (hs : P s) (old : State) : P (s.promoFrames old) := by
  unfold State.promoFrames
  repeat' (with_reducible first | assumption | apply mk_keeps K)

theorem promoBoundary_keeps (hs : P s) (r : Nat) : P (s.promoBoundary r) := by
  unfold State.promoBoundary
  repeat' (with_reducible first
    | assumption | intro _ | apply compare_keeps K | apply K.put | apply each_keeps | apply mk_keeps K)

theorem audioFollows_keeps (hs : P s) (old : State) (e : Nat) (at_ : Int) : P (s.audioFollows old e at_) :=
  ite_keeps hs (when_keeps hs _ _ (fun _ h => send_keeps K h ..))

theorem raiseUntimed_keeps (hs : P s) (e : Nat) : P (s.raiseUntimed e) := raise_keeps K hs ..

theorem underPolicy_keeps (hs : P s) (e : Nat) (bf status : Int) : P (s.underPolicy e bf status) :=
  K.put (K.put (when_keeps hs _ _ (fun _ h => K.put h ..)) ..) ..

theorem carries_keeps (hs : P s) (e : Nat) (status stamp : Int) : P (s.carries e status stamp) :=
  K.put (K.put (K.put (K.put (K.put hs ..) ..) ..) ..) ..

theorem timedVerdict_keeps (hs : P s) (e : Nat) (f : Feed) (known : Option Bool) : P (s.timedVerdict e f known).1 := by
  unfold State.timedVerdict
  repeat' (with_reducible first | assumption | apply compare_keeps K | split)

theorem settleOutput_keeps (hs : P s) (e : Nat) (bf : Int) (known : Option Bool) : P (s.settleOutput e bf known).1 := by
  unfold State.settleOutput
  repeat' (with_reducible first
    | assumption | apply underPolicy_keeps K | apply carries_keeps K | apply promote_keeps K | apply timedVerdict_keeps K
    | apply K.put | split | dsimp only)

theorem noteUntimed_keeps (hs : P s) (e : Nat) (report : Bool) : P (s.noteUntimed e report) :=
  ite_keeps (raiseUntimed_keeps K (K.put hs ..) ..) hs

theorem txWake_keeps (hs : P s) (e : Nat) : P (s.txWake e) :=
  ite_keeps hs (each_keeps hs _ _ (fun _ _ h => when_keeps h _ _ (fun _ h2 => txSet_keeps K h2 ..)))

theorem injectLines_keeps (hs : P s) (o : Nat) : P (s.injectLines o) := by
  unfold State.injectLines
  repeat' (with_reducible first | assumption | apply injectBare_keeps K | apply ite_keeps)

theorem emitOutput_keeps (hs : P s) (e line : Nat) : P (s.emitOutput e line) :=
  send_keeps K (when_keeps hs _ _ (fun _ h => bumpBy_keeps K h ..)) ..

theorem cutsShown_keeps (hs : P s) (old : State) : P (s.cutsShown old) :=
  ite_keeps hs (each_keeps hs _ _ (fun _ _ h => each_keeps h _ _ (fun _ _ h2 => emitOutput_keeps K h2 ..)))

theorem frameWhole_keeps (hs : P s) (e : Nat) : P (s.frameWhole e) := when_keeps hs _ _ (fun _ h => K.put h ..)

theorem takeLook_keeps (hs : P s) (e : Nat) (bf : Int) : P (s.takeLook e bf) := by
  unfold State.takeLook
  repeat' (with_reducible first | assumption | apply compare_keeps K | apply ite_keeps | apply K.put | split | dsimp only)

theorem outputFrame_keeps (hs : P s) (e : Nat) : P (s.outputFrame e) := by
  unfold State.outputFrame
  repeat' (with_reducible first
    | assumption | intro _ | apply bump_keeps K | apply headShow_keeps K | apply audioFollows_keeps K
    | apply settleOutput_keeps K | apply noteUntimed_keeps K | apply txWake_keeps K | apply injectLines_keeps K
    | apply emitOutput_keeps K | apply frameWhole_keeps K | apply takeLook_keeps K | apply ite_keeps | apply K.put
    | apply each_keeps | apply when_keeps | split | dsimp only)

theorem freezeExpiry_keeps (hs : P s) (e : Nat) : P (s.freezeExpiry e) := by
  unfold State.freezeExpiry
  repeat' (with_reducible first | assumption | apply emitOutput_keeps K | apply ite_keeps | apply K.put)

theorem takeCompare_keeps (hs : P s) (c : State) (e : Nat) : P (s.takeCompare c e) := by
  unfold State.takeCompare
  repeat' (with_reducible first | assumption | apply compare_keeps K | apply ite_keeps | apply K.put)

theorem takeLaunch_keeps (hs : P s) (c : State) (e : Nat) : P (s.takeLaunch c e) := by
  unfold State.takeLaunch
  repeat' (with_reducible first | assumption | apply openSub_keeps K | apply promote_keeps K | apply ite_keeps | apply K.put)

theorem takeVerdict_keeps (hs : P s) (e : Nat) (bf : Int) : P (s.takeVerdict e bf).1 := by
  unfold State.takeVerdict
  repeat' (with_reducible first | assumption | apply compare_keeps K | apply K.put | split | dsimp only)

theorem takeApply_keeps (hs : P s) (old : State) (e : Nat) (bfine : Int) : P (s.takeApply old e bfine) := by
  unfold State.takeApply
  repeat' (with_reducible first
    | assumption | intro _ | apply bump_keeps K | apply refreshAdmission_keeps K | apply audioFollows_keeps K
    | apply raiseUntimed_keeps K | apply settleOutput_keeps K | apply noteUntimed_keeps K | apply emitOutput_keeps K
    | apply takeVerdict_keeps K | apply ite_keeps | apply K.put | apply when_keeps)

theorem takeRetire_keeps (hs : P s) (e : Nat) : P (s.takeRetire e) := by
  unfold State.takeRetire
  repeat' (with_reducible first
    | assumption | intro _ | apply closeSub_keeps K | apply ite_keeps | apply K.put | apply each_keeps)

theorem inputFrame_keeps (hs : P s) (n : Nat) (f : SdiFrame) : P (s.inputFrame n f) := by
  unfold State.inputFrame
  repeat' (with_reducible first
    | assumption | apply sdiInputFrame_keeps K | apply frameCell_keeps K | apply embedFrame_keeps K | apply ite_keeps
    | apply K.put | split | dsimp only)

theorem boundaryCells_keeps (hs : P s) (r : Nat) : P (s.boundaryCells r) :=
  ite_keeps hs (each_keeps hs _ _ (fun _ _ h => frameCell_keeps K h ..))

theorem boundaryWork_keeps (hs : P s) (r : Nat) : P (s.boundaryWork r) := by
  unfold State.boundaryWork
  repeat' (with_reducible first
    | assumption | apply rasterTick_keeps K | apply genBoundary_keeps K | apply syncBoundary_keeps K
    | apply recordFrames_keeps K | apply stacksBoundary_keeps K | apply storeFrames_keeps K | apply promoFrames_keeps K
    | apply promoBoundary_keeps K | apply boundaryCells_keeps K)

theorem framesMoved_keeps (hs : P s) (old : State) : P (s.framesMoved old) :=
  cutsShown_keeps K (promoFrames_keeps K (storeFrames_keeps K (recordFrames_keeps K (remotePackets_keeps K hs) ..) ..) ..) ..

theorem injectRelease_keeps (hs : P s) (j : Nat) : P (s.injectRelease j) := by
  unfold State.injectRelease
  repeat' (with_reducible first
    | assumption | intro _ | apply injectDue_keeps K | apply concordUnit_keeps K | apply releaseTo_keeps K
    | apply flowPacket_keeps K | apply framesMoved_keeps K | apply each_keeps | split)

theorem injectFlush_keeps (hs : P s) : P s.injectFlush :=
  each_keeps hs _ _ (fun _ _ h => ite_keeps h (injectRelease_keeps K h ..))

theorem gobWord_keeps (hs : P s) : P s.gobWord := ite_keeps hs (send_keeps K (K.put (bump_keeps K (K.put hs ..) ..) ..) ..)

/-! ### Vault -/

theorem keyRefresh_keeps (hs : P s) (n : Nat) : P (s.keyRefresh n) := by
  unfold State.keyRefresh
  repeat' (with_reducible first | assumption | intro _ | apply raise_keeps K | apply K.put | apply when_keeps)

theorem keysRefresh_keeps (hs : P s) : P s.keysRefresh := each_keeps hs _ _ (fun _ _ h => keyRefresh_keeps K h ..)

theorem rekey_keeps (hs : P s) : P s.rekey := when_keeps hs _ _ (fun _ h => sendTwin_keeps K (K.put h ..) ..)

theorem keyWrite_keeps (hs : P s) (n v : Nat) : P (s.keyWrite n v) := by
  unfold State.keyWrite
  repeat' (with_reducible first
    | assumption | intro _ | apply keyRefresh_keeps K | apply rekey_keeps K | apply K.put | apply when_keeps)

theorem zeroise_keeps (hs : P s) : P s.zeroise :=
  each_keeps (each_keeps hs _ _ (fun _ _ h => each_keeps h _ _ (fun _ _ h2 => K.put (K.put (K.put h2 ..) ..) ..))) _ _ (fun _ _
    h => ite_keeps (keyRefresh_keeps K h ..) h)

theorem keysLost_keeps (hs : P s) : P s.keysLost := by
  unfold State.keysLost
  repeat' (with_reducible first
    | assumption | intro _ | apply drawn_keeps K | apply keyRefresh_keeps K | apply ite_keeps | apply K.put | apply each_keeps)

theorem tamper_keeps (hs : P s) (cause : Nat) : P (s.tamper cause) :=
  ite_keeps (keysLost_keeps K hs) (ite_keeps hs (K.put (K.put (zeroise_keeps K hs) ..) ..))

theorem tamperRecord_keeps (hs : P s) : P s.tamperRecord :=
  ite_keeps hs (raise_keeps K (K.put (K.put (K.put (K.put hs ..) ..) ..) ..) ..)

theorem setFlash_keeps (hs : P s) (x : FlashImage) : P (s.setFlash x) := mk_keeps K hs ..

theorem bootCheck_keeps (hs : P s) (n : Nat) : P (s.bootCheck n).1 := by
  unfold State.bootCheck
  repeat' (with_reducible first | assumption | apply K.put | split)

theorem showImage_keeps (hs : P s) (n : Nat) (x : FlashImage) : P (s.showImage n x) := K.put (K.put hs ..) ..

theorem runImage_keeps (hs : P s) (n : Nat) (x : FlashImage) : P (s.runImage n x) := K.put (K.put (K.put hs ..) ..) ..

theorem idleImage_keeps (hs : P s) (st : Int) (n : Nat) (x : FlashImage) : P (s.idleImage st n x) :=
  K.put (K.put (K.put (K.put hs ..) ..) ..) ..

theorem bootFirst_keeps (l : List Nat) (hs : P s) : P (s.bootFirst l).1 := by
  induction l generalizing s with
  | nil => exact hs
  | cons n l ih =>
    simp only [State.bootFirst]
    split
    · exact bootCheck_keeps K hs _
    · exact ih (bootCheck_keeps K hs _)

theorem fallRecord_keeps (hs : P s) : P s.fallRecord :=
  ite_keeps hs (raise_keeps K (K.put (K.put (K.put (K.put hs ..) ..) ..) ..) ..)

theorem keepBoot_keeps (hs : P s) (images : List (Nat × Nat × Nat)) : P (s.keepBoot images) := by
  unfold State.keepBoot
  repeat' (with_reducible first
    | assumption | intro _ | apply raise_keeps K | apply loadRefBlock_keeps K | apply setFlash_keeps K | apply showImage_keeps K
    | apply runImage_keeps K | apply idleImage_keeps K | apply bootFirst_keeps K | apply fallRecord_keeps K | apply ite_keeps
    | apply K.put | apply each_keeps | apply when_keeps | split | dsimp only)

theorem bootIdle_keeps (hs : P s) (v : Int) : P (s.bootIdle v) :=
  ite_keeps (K.put (K.put hs ..) ..) (K.put (K.put (K.put hs ..) ..) ..)

theorem idleBootEnd_keeps (hs : P s) : P s.idleBootEnd := by
  unfold State.idleBootEnd
  repeat' (with_reducible first
    | assumption | apply bootCheck_keeps K | apply showImage_keeps K | apply idleImage_keeps K | apply ite_keeps | apply K.put
    | split | dsimp only)

theorem exchangePairs_keeps (hs : P s) (b : Int) : P (s.exchangePairs b) := by
  unfold State.exchangePairs
  repeat' (with_reducible first
    | assumption | apply loadRefBlock_keeps K | apply rekey_keeps K | apply K.put | split | apply mk_keeps K)

theorem handoverApply_keeps (hs : P s) (bf len : Int) : P (s.handoverApply bf len) := by
  unfold State.handoverApply
  repeat' (with_reducible first | assumption | apply bump_keeps K | apply exchangePairs_keeps K | apply K.put)

theorem confirmWrite_keeps (hs : P s) (v : Int) : P (s.confirmWrite v) := ite_keeps (K.put hs ..) hs

theorem rejectWrite_keeps (hs : P s) (v : Int) : P (s.rejectWrite v) := ite_keeps (K.put hs ..) hs

theorem probTest_keeps (hs : P s) (tests : Bool) : P (s.probTest tests) := probTouch_keeps K (K.put hs ..)

theorem probConfirmed_keeps (hs : P s) (tests : Bool) : P (s.probConfirmed tests) := by
  unfold State.probConfirmed
  repeat' (with_reducible first
    | assumption | intro _ | apply idleImage_keeps K | apply probTest_keeps K | apply ite_keeps | apply K.put | apply when_keeps
    | split)

theorem fallBack_keeps (hs : P s) (cause : Nat) : P (s.fallBack cause) := by
  unfold State.fallBack
  repeat' (with_reducible first
    | assumption | apply raise_keeps K | apply exchangePairs_keeps K | apply ite_keeps | apply K.put)

theorem probDeadline_keeps (hs : P s) : P s.probDeadline := ite_keeps (fallBack_keeps K hs ..) hs

theorem rejectFall_keeps (hs : P s) : P s.rejectFall := ite_keeps (fallBack_keeps K hs ..) hs

theorem svcSend_keeps (hs : P s) (keyed : Bool) (r : SvcResp) : P (s.svcSend keyed r) := send_keeps K hs ..

theorem svcTouch_keeps (hs : P s) (keyed : Bool) : P (s.svcTouch keyed) := ite_keeps (mk_keeps K hs ..) hs

theorem svcAnswer_keeps (hs : P s) (m : SvcMsg) (op : SvcOp) (keyed : Bool) (st : Status) (payload : List Nat) :
    P (s.svcAnswer m op keyed st payload) := by
  unfold State.svcAnswer
  repeat' (with_reducible first | assumption | apply svcSend_keeps K | apply ite_keeps | apply mk_keeps K)

theorem svcTimeout_keeps (hs : P s) : P s.svcTimeout := by
  unfold State.svcTimeout
  repeat' (with_reducible first | assumption | apply ite_keeps | split | apply mk_keeps K)

theorem svcRun_keeps (hs : P s) (m : SvcMsg) (op : SvcOp) (payload : List Nat) (f : State → Bool → State)
    (hf : ∀ t a, P t → P (f t a)) : P (s.svcRun m op payload f) := by
  have h := svcTimeout_keeps K hs
  unfold State.svcRun
  dsimp only
  split
  · exact h
  · exact svcSend_keeps K (svcTouch_keeps K h _) ..
  · exact svcSend_keeps K (svcTouch_keeps K h _) ..
  · exact hf _ _ (svcTouch_keeps K h _)

theorem svcHello_keeps (hs : P s) (m : SvcMsg) (nonce : Nat) : P (s.svcHello m nonce) := by
  unfold State.svcHello
  repeat' (with_reducible first
    | assumption | intro _ | apply drawn_keeps K | apply svcAnswer_keeps K | apply svcRun_keeps K | apply ite_keeps | split
    | apply mk_keeps K)

theorem svcColophon_keeps (hs : P s) (m : SvcMsg) (nonce : Nat) : P (s.svcColophon m nonce) :=
  svcRun_keeps K hs _ _ _ _ (fun _ _ h => ite_keeps (svcAnswer_keeps K h ..) (svcAnswer_keeps K h ..))

theorem svcImageOpen_keeps (hs : P s) (m : SvcMsg) (slot reserved total : Nat) : P (s.svcImageOpen m slot reserved total) := by
  unfold State.svcImageOpen
  repeat' (with_reducible first
    | assumption | intro _ | apply setFlash_keeps K | apply svcAnswer_keeps K | apply svcRun_keeps K | apply ite_keeps
    | apply K.put)

theorem svcImageData_keeps (hs : P s) (m : SvcMsg) (offset len data : Nat) : P (s.svcImageData m offset len data) := by
  unfold State.svcImageData
  repeat' (with_reducible first
    | assumption | intro _ | apply setFlash_keeps K | apply svcAnswer_keeps K | apply svcRun_keeps K | apply ite_keeps | split)

theorem svcImageClose_keeps (hs : P s) (m : SvcMsg) (digest : Nat) : P (s.svcImageClose m digest) := by
  unfold State.svcImageClose
  repeat' (with_reducible first
    | assumption | intro _ | apply restartIsland_keeps K | apply settleQueue_keeps K | apply svcAnswer_keeps K
    | apply svcRun_keeps K | apply ite_keeps | apply K.put | apply when_keeps | split)

theorem svcKeyWrite_keeps (hs : P s) (m : SvcMsg) (slot reserved key : Nat) : P (s.svcKeyWrite m slot reserved key) := by
  unfold State.svcKeyWrite
  repeat' (with_reducible first
    | assumption | intro _ | apply keyWrite_keeps K | apply svcAnswer_keeps K | apply svcRun_keeps K | apply ite_keeps)

theorem svcClose_keeps (hs : P s) (m : SvcMsg) : P (s.svcClose m) :=
  svcRun_keeps K hs _ _ _ _ (fun _ _ h => mk_keeps K (svcAnswer_keeps K h ..) ..)

theorem svcTimeSet_keeps (hs : P s) (m : SvcMsg) (lt : Nat) : P (s.svcTimeSet m lt) := by
  unfold State.svcTimeSet
  repeat' (with_reducible first
    | assumption | intro _ | apply timeSetStep_keeps K | apply svcAnswer_keeps K | apply svcRun_keeps K | apply ite_keeps)

/-! ### Mode -/

theorem gateIslands_keeps (hs : P s) : P s.gateIslands := each_keeps hs _ _ (fun _ _ h => ite_keeps (K.put h ..) h)

theorem gatedFlush_keeps (hs : P s) (old : State) : P (s.gatedFlush old) :=
  each_keeps hs _ _ (fun _ _ h => each_keeps h _ _ (fun _ _ h2 => drawn_keeps K (bumpBy_keeps K h2 ..)))

theorem gateFollow_keeps (hs : P s) (old : State) : P (s.gateFollow old) := by
  unfold State.gateFollow
  repeat' (with_reducible first
    | assumption | intro _ | apply macFalls_keeps K | apply settleQueue_keeps K | apply laneEnter_keeps K
    | apply macsTrain_keeps K | apply refreshGroups_keeps K | apply gatedFlush_keeps K | apply ite_keeps | apply each_keeps
    | apply when_keeps)

theorem inMode_keeps (hs : P s) (m : Int) : P (s.inMode m) := gateIslands_keeps K (K.put hs ..)

theorem obeyMode_keeps (hs : P s) : P s.obeyMode := ite_keeps hs (inMode_keeps K hs ..)

theorem pathsChange_keeps (hs : P s) (b : Int) : P (s.pathsChange b) := by
  unfold State.pathsChange
  repeat' (with_reducible first
    | assumption | intro _ | apply audioFollows_keeps K | apply underPolicy_keeps K | apply emitOutput_keeps K | apply ite_keeps
    | apply K.put | apply each_keeps)

theorem modeApply_keeps (hs : P s) (b : Int) : P (s.modeApply b) := by
  unfold State.modeApply
  repeat' (with_reducible first
    | assumption | intro _ | apply bump_keeps K | apply refreshTarget_keeps K | apply txDrop_keeps K | apply syncSettle_keeps K
    | apply refreshAdmission_keeps K | apply refreshCanvases_keeps K | apply gateFollow_keeps K | apply inMode_keeps K
    | apply pathsChange_keeps K | apply ite_keeps | apply K.put | apply each_keeps)

/-! ### Slips -/

theorem notePeak_keeps (hs : P s) (b : Int) : P (s.notePeak b) := by
  unfold State.notePeak
  repeat' (with_reducible first | assumption | intro _ | apply K.put | apply when_keeps)

theorem armApply_keeps (hs : P s) (z : Slip) : P (s.armApply z) := by
  unfold State.armApply
  repeat' (with_reducible first
    | assumption | intro _ | apply K.setSlip | apply notePeak_keeps K | apply K.put | apply when_keeps | split)

theorem armRefused_keeps (hs : P s) (st : Status) : P (s.armRefused st) :=
  ite_keeps (bump_keeps K hs ..) (ite_keeps (bump_keeps K hs ..) hs)

theorem stageApply_keeps (hs : P s) (n : Nat) (items : List (Key × Int)) : P (s.stageApply n items) := K.setSlip hs _

theorem cancelSlip_keeps (hs : P s) (n : Nat) : P (s.cancelSlip n) := ite_keeps (bump_keeps K (K.setSlip hs _) ..) hs

theorem cancelGroup_keeps (hs : P s) (g : Nat) : P (s.cancelGroup g) := each_keeps hs _ _ (fun _ _ h => cancelSlip_keeps K h ..)

theorem cancelAll_keeps (hs : P s) : P s.cancelAll := each_keeps hs _ _ (fun _ _ h => cancelSlip_keeps K h ..)

theorem noteRefusal_keeps (hs : P s) (x : Slip) : P (s.noteRefusal x) := ite_keeps (K.put hs ..) hs

theorem launchEffects_keeps (hs : P s) (x : Slip) : P (s.launchEffects x) := by
  unfold State.launchEffects
  repeat' (with_reducible first
    | assumption | apply openSub_keeps K | apply sendMask_keeps K | apply canvasLaunch_keeps K | apply takeLaunch_keeps K
    | apply ite_keeps | apply K.put | apply mk_keeps K)

theorem compareOutcome_keeps (hs : P s) (n : Nat) : P (s.compareOutcome n) := by
  unfold State.compareOutcome
  repeat' (with_reducible first | assumption | apply bump_keeps K | apply raise_keeps K | apply ite_keeps | apply K.put)

theorem tellOutcome_keeps (hs : P s) (n : Nat) (st : SlipSt) (index : Int) : P (s.tellOutcome n st index) :=
  ite_keeps (compareOutcome_keeps K (K.put (sendTwin_keeps K hs ..) ..) ..) hs

theorem twinOutcomeIn_keeps (hs : P s) (n st : Nat) (index : Int) : P (s.twinOutcomeIn n st index) :=
  compareOutcome_keeps K (K.put hs ..) ..

theorem failSlip_keeps (hs : P s) (n : Nat) (st : Status) (cause : Nat) : P (s.failSlip n st cause) := by
  unfold State.failSlip
  repeat' (with_reducible first
    | assumption | intro _ | apply bump_keeps K | apply rearm_keeps K | apply failRecord_keeps K | apply raise_keeps K
    | apply tellOutcome_keeps K | apply when_keeps)

theorem tellFallen_keeps (hs : P s) : P s.tellFallen := each_keeps hs _ _ (fun _ _ h => tellOutcome_keeps K (K.put h ..) ..)

theorem closing_keeps (hs : P s) (old : State) : P (s.closing old) :=
  twinOrdered_keeps K (refPresence_keeps K (tellFallen_keeps K hs)) ..

theorem supersede_keeps (hs : P s) (n cause : Nat) : P (s.supersede n cause) :=
  tellOutcome_keeps K (bump_keeps K (K.setSlip hs _) ..) ..

theorem markLaunched_keeps (hs : P s) (l : List Slip) : P (s.markLaunched l) := each_keeps hs _ _ (fun _ _ h => K.setSlip h _)

theorem takesCompared_keeps (hs : P s) (t : State) (l : List Slip) : P (s.takesCompared t l) :=
  each_keeps hs _ _ (fun _ _ h => takeCompare_keeps K h ..)

theorem settleUnit_keeps (hs : P s) (start : State) (l : List Slip) : P (s.settleUnit start l) := by
  unfold State.settleUnit
  repeat' (with_reducible first
    | assumption | intro _ | apply bump_keeps K | apply noteRefusal_keeps K | apply launchEffects_keeps K
    | apply tellOutcome_keeps K | apply failSlip_keeps K | apply supersede_keeps K | apply markLaunched_keeps K
    | apply takesCompared_keeps K | apply each_keeps | apply when_keeps | split | dsimp only)

theorem checkPoint_keeps (hs : P s) (at_ : Int) : P (s.checkPoint at_) := by
  unfold State.checkPoint
  repeat' (with_reducible first | assumption | intro _ | apply settleUnit_keeps K | apply ite_keeps | apply each_keeps)

theorem retire_keeps (hs : P s) (n : Nat) : P (s.retire n) := rearm_keeps K (bump_keeps K (K.setSlip hs _) ..) ..

theorem dropStale_keeps (hs : P s) (user : Nat) (keep : Option Nat) : P (s.dropStale user keep) :=
  each_keeps hs _ _ (fun _ _ h => closeSub_keeps K h ..)

theorem outputApply_keeps (hs : P s) (old : State) (o : Nat) (b : Int) : P (s.outputApply old o b) := by
  unfold State.outputApply
  repeat' (with_reducible first
    | assumption | intro _ | apply txApply_keeps K | apply refreshAdmission_keeps K | apply audioFollows_keeps K
    | apply settleOutput_keeps K | apply noteUntimed_keeps K | apply emitOutput_keeps K | apply ite_keeps | apply each_keeps)

theorem slipsTracked_keeps (hs : P s) (r : Nat) : P (s.slipsTracked r) :=
  each_keeps hs _ _ (fun _ _ h => notePeak_keeps K (K.setSlip h _) ..)

theorem rasterApply_keeps (hs : P s) (r : Nat) (b was : Int) : P (s.rasterApply r b was) := by
  unfold State.rasterApply
  repeat' (with_reducible first
    | assumption | intro _ | apply applyRaster_keeps K | apply txDrop_keeps K | apply genStop_keeps K
    | apply refreshAdmission_keeps K | apply refreshCanvases_keeps K | apply slipsTracked_keeps K | apply ite_keeps
    | apply each_keeps)

theorem applySlip_keeps (hs : P s) (x : Slip) (bf : Int) : P (s.applySlip x bf) := by
  unfold State.applySlip
  repeat' (with_reducible first
    | assumption | intro _ | apply K.setSlip | apply calendarApply_keeps K | apply gateApply_keeps K | apply flowApply_keeps K
    | apply recApply_keeps K | apply headApply_keeps K | apply canvasApply_keeps K | apply programApply_keeps K
    | apply setApply_keeps K | apply takeApply_keeps K | apply handoverApply_keeps K | apply modeApply_keeps K
    | apply dropStale_keeps K | apply outputApply_keeps K | apply rasterApply_keeps K | apply ite_keeps | apply K.put
    | apply each_keeps)

theorem alignOne_keeps (hs : P s) (x : Slip) (r : Nat) (bf : Int) : P (s.alignOne x r bf) := by
  unfold State.alignOne
  repeat' (with_reducible first
    | assumption | intro _ | apply K.setSlip | apply applyAlign_keeps K | apply retire_keeps K | apply ite_keeps | apply K.put
    | apply each_keeps)

theorem slipBoundary_keeps (hs : P s) (at_ : Int) : P (s.slipBoundary at_) := by
  unfold State.slipBoundary
  repeat' (with_reducible first
    | assumption | intro _ | apply retire_keeps K | apply applySlip_keeps K | apply alignOne_keeps K | apply ite_keeps
    | apply each_keeps)

theorem retireLate_keeps (hs : P s) (n : Nat) : P (s.retireLate n) :=
  ite_keeps hs (ite_keeps (takeRetire_keeps K (retire_keeps K hs ..) ..) (canvasRetire_keeps K (retire_keeps K hs ..) ..))

theorem resolvedTo_keeps (hs : P s) (n : Nat) (b launch c : Int) : P (s.resolvedTo n b launch c) :=
  notePeak_keeps K (K.setSlip hs _) ..

theorem resolved_keeps (hs : P s) (n : Nat) (b launch c : Int) : P (s.resolved n b launch c) :=
  ite_keeps (failSlip_keeps K hs ..) (resolvedTo_keeps K hs ..)

theorem gpiEdge_keeps (hs : P s) (g : Nat) (rising : Bool) (e : Int) : P (s.gpiEdge g rising e) := by
  unfold State.gpiEdge
  repeat' (with_reducible first
    | assumption | intro _ | apply sendTwin_keeps K | apply failSlip_keeps K | apply resolved_keeps K | apply ite_keeps
    | apply each_keeps | split)

theorem gpiResolveIn_keeps (hs : P s) (n launch seq : Nat) : P (s.gpiResolveIn n launch seq) := by
  unfold State.gpiResolveIn
  repeat' (with_reducible first
    | assumption | intro _ | apply K.setSlip | apply failSlip_keeps K | apply resolved_keeps K | apply ite_keeps | apply K.put
    | apply when_keeps | split | dsimp only)

theorem slipsReturn_keeps (hs : P s) : P s.slipsReturn := by
  unfold State.slipsReturn
  repeat' (with_reducible first
    | assumption | intro _ | apply failSlip_keeps K | apply resolvedTo_keeps K | apply ite_keeps | apply each_keeps | split)

theorem slipsStepped_keeps (hs : P s) (d : Int) : P (s.slipsStepped d) := by
  unfold State.slipsStepped
  repeat' (with_reducible first
    | assumption | intro _ | apply K.setSlip | apply notePeak_keeps K | apply each_keeps | split | dsimp only)

theorem afterStep_keeps (hs : P s) (old : State) : P (s.afterStep old) := ite_keeps (slipsStepped_keeps K hs ..) hs

/-! ### Pins -/

theorem gpiNote_keeps (hs : P s) (g : Nat) : P (s.gpiNote g) := mk_keeps K hs ..

theorem gpiTimers_keeps (hs : P s) (g : Nat) : P (s.gpiTimers g) := K.put (K.put (K.put hs ..) ..) ..

theorem gpiRawTransition_keeps (hs : P s) (g : Nat) (level : Bool) : P (s.gpiRawTransition g level) := by
  unfold State.gpiRawTransition
  repeat' (with_reducible first
    | assumption | apply raise_keeps K | apply gpiNote_keeps K | apply gpiTimers_keeps K | apply ite_keeps | apply K.put)

theorem gpiEvent_keeps (hs : P s) (g : Nat) (rising : Bool) : P (s.gpiEvent g rising) :=
  gpiEdge_keeps K (capture_keeps K (K.put (bump_keeps K hs ..) ..) ..) ..

theorem gpiQualify_keeps (hs : P s) (g : Nat) : P (s.gpiQualify g) := by
  unfold State.gpiQualify
  repeat' (with_reducible first
    | assumption | intro _ | apply gpiEvent_keeps K | apply ite_keeps | apply K.put | apply when_keeps)

theorem gpiToStuck_keeps (hs : P s) (g : Nat) : P (s.gpiToStuck g) := raise_keeps K (K.put hs ..) ..

theorem gpiStuckAt_keeps (hs : P s) (g : Nat) : P (s.gpiStuckAt g) := ite_keeps (gpiToStuck_keeps K hs ..) hs

theorem gpiChatterQuiet_keeps (hs : P s) (g : Nat) : P (s.gpiChatterQuiet g) :=
  ite_keeps hs (ite_keeps (gpiToStuck_keeps K hs ..) (K.put hs ..))

theorem gpiPolarity_keeps (hs : P s) (g : Nat) (v : Int) : P (s.gpiPolarity g v) :=
  ite_keeps (K.put hs ..) (K.put (K.put (K.put (K.put hs ..) ..) ..) ..)

theorem gpoDrive_keeps (hs : P s) (g : Nat) (v : Int) : P (s.gpoDrive g v) := send_keeps K (K.put hs ..) ..

theorem gpoWrite_keeps (hs : P s) (g : Nat) (v : Int) : P (s.gpoWrite g v) :=
  ite_keeps (K.put hs ..) (gpoDrive_keeps K (K.put hs ..) ..)

theorem gpioReady_keeps (hs : P s) : P s.gpioReady := by
  unfold State.gpioReady
  repeat' (with_reducible first
    | assumption | intro _ | apply gpiTimers_keeps K | apply gpoDrive_keeps K | apply ite_keeps | apply K.put | apply each_keeps)

theorem smbusRead_keeps (hs : P s) (address command : Nat) : P (s.smbusRead address command) := send_keeps K hs ..

theorem smbusWrite_keeps (hs : P s) : P s.smbusWrite := send_keeps K hs ..

theorem tapSelect_keeps (hs : P s) (code : Nat) : P (s.tapSelect code) := K.put hs ..

theorem tapBypass_keeps (hs : P s) (code : Nat) : P (s.tapBypass code) := ite_keeps hs (tapSelect_keeps K hs ..)

theorem tapExtest_keeps (hs : P s) (code what cells : Nat) : P (s.tapExtest code what cells) := by
  unfold State.tapExtest
  repeat' (with_reducible first | assumption | apply send_keeps K | apply tapSelect_keeps K | apply ite_keeps | apply K.put)

theorem tapPreload_keeps (hs : P s) (cells : Nat) : P (s.tapPreload cells) :=
  drawn_keeps K (send_keeps K (K.put (tapSelect_keeps K hs ..) ..) ..)

theorem tapIdcode_keeps (hs : P s) : P s.tapIdcode := send_keeps K (tapSelect_keeps K hs ..) ..

theorem tapHighz_keeps (hs : P s) : P s.tapHighz :=
  ite_keeps (send_keeps K (tapSelect_keeps K hs ..) ..) (tapSelect_keeps K hs ..)

theorem tapClamp_keeps (hs : P s) : P s.tapClamp :=
  ite_keeps (send_keeps K (tapSelect_keeps K hs ..) ..) (tapSelect_keeps K hs ..)

theorem tapReset_keeps (hs : P s) : P s.tapReset := tapSelect_keeps K hs ..

/-! ### Twin -/

theorem sendHealth_keeps (hs : P s) : P s.sendHealth := ite_keeps hs (twinSend_keeps K hs ..)

theorem loanTaken_keeps (hs : P s) (h : HealthMsg) : P (s.loanTaken h) :=
  ite_keeps (raise_keeps K (releaseLoan_keeps K hs) ..) hs

theorem watchPrograms_keeps (hs : P s) (h : HealthMsg) : P (s.watchPrograms h) := by
  unfold State.watchPrograms
  repeat' (with_reducible first | assumption | apply raise_keeps K | apply timeCond_keeps K | apply ite_keeps | apply K.put)

theorem watchBookings_keeps (hs : P s) (h : HealthMsg) : P (s.watchBookings h) :=
  ite_keeps (raise_keeps K (K.put (timeCond_keeps K hs ..) ..) ..) (timeCond_keeps K hs ..)

theorem sourceDone_keeps (hs : P s) (h : HealthMsg) : P (s.sourceDone h) := by
  unfold State.sourceDone
  repeat' (with_reducible first | assumption | apply bump_keeps K | apply setPairing_keeps K | apply ite_keeps | apply K.put)

theorem healthIn_keeps (hs : P s) (h : HealthMsg) : P (s.healthIn h) := by
  unfold State.healthIn
  repeat' (with_reducible first
    | assumption | intro _ | apply bump_keeps K | apply refreshInject_keeps K | apply checkBookings_keeps K
    | apply adoptBookings_keeps K | apply loanTaken_keeps K | apply watchPrograms_keeps K | apply watchBookings_keeps K
    | apply sourceDone_keeps K | apply K.put | apply when_keeps | apply mk_keeps K)

theorem reconSend_keeps (hs : P s) : P s.reconSend := ite_keeps (K.put (sendTwin_keeps K hs ..) ..) hs

theorem reconStart_keeps (hs : P s) : P s.reconStart := by
  unfold State.reconStart
  repeat' (with_reducible first
    | assumption | apply setPairing_keeps K | apply reconSend_keeps K | apply K.put | apply mk_keeps K)

theorem reconTimeout_keeps (hs : P s) : P s.reconTimeout := ite_keeps (K.put (raise_keeps K hs ..) ..) hs

theorem reconAgain_keeps (hs : P s) : P s.reconAgain := ite_keeps (reconStart_keeps K hs) hs

theorem twinLinkUp_keeps (hs : P s) : P s.twinLinkUp := by
  unfold State.twinLinkUp
  repeat' (with_reducible first | assumption | apply rekey_keeps K | apply reconStart_keeps K | apply ite_keeps | apply K.put)

theorem twinLinkDown_keeps (hs : P s) : P s.twinLinkDown := ite_keeps hs (settleQueue_keeps K (linkFalls_keeps K hs))

theorem loanExpiry_keeps (hs : P s) : P s.loanExpiry := ite_keeps (releaseLoan_keeps K hs) hs

theorem bookingEgress_keeps (hs : P s) (old : State) : P (s.bookingEgress old) := by
  unfold State.bookingEgress
  repeat' (with_reducible first | assumption | apply egressDue_keeps K | apply ite_keeps)

/-! ### Writes -/

theorem commitStart_keeps (hs : P s) : P s.commitStart := K.put (K.put (K.put (mk_keeps K hs ..) ..) ..) ..

theorem bookingActivity_keeps (hs : P s) (b : Nat) : P (s.bookingActivity b) := by
  unfold State.bookingActivity
  repeat' (with_reducible first
    | assumption | intro _ | apply sdiDrop_keeps K | apply macFalls_keeps K | apply restartIsland_keeps K
    | apply settleQueue_keeps K | apply refreshTarget_keeps K | apply refreshInject_keeps K | apply laneEnter_keeps K
    | apply macTrain_keeps K | apply ite_keeps | apply K.put | apply each_keeps)

theorem startBooking_keeps (hs : P s) (b : Nat) : P (s.startBooking b) :=
  ite_keeps hs (ite_keeps (K.put (K.put hs ..) ..) (ite_keeps (K.put (K.put hs ..) ..) (bookingActivity_keeps K (K.put hs ..)
    ..)))

theorem bookingCommand_keeps (hs : P s) (f : State → State) (hf : ∀ t, P t → P (f t)) : P (s.bookingCommand f) := by
  unfold State.bookingCommand
  repeat' (with_reducible first
    | assumption | apply hf | apply refreshInject_keeps K | apply gateIslands_keeps K | apply gateFollow_keeps K
    | apply bookingEgress_keeps K | apply ite_keeps)

theorem force_keeps (hs : P s) (n : Nat) : P (s.force n) := raiseAs_keeps K hs ..

theorem closeUser_keeps (hs : P s) (user : Nat) : P (s.closeUser user) := each_keeps hs _ _ (fun _ _ h => closeSub_keeps K h ..)

theorem bundleWrite_keeps (hs : P s) (i sub : Nat) (v : Int) : P (s.bundleWrite i sub v) := by
  unfold State.bundleWrite
  repeat' (with_reducible first
    | assumption | apply openSub_keeps K | apply refreshBundle_keeps K | apply bundleEnable_keeps K | apply closeUser_keeps K
    | apply ite_keeps | apply K.put)

theorem applyItem_keeps (hs : P s) (force : Bool) (k : Key) (v : Int) : P (s.applyItem force k v) := by
  unfold State.applyItem
  repeat' (with_reducible first
    | assumption | intro _ | apply releaseLoan_keeps K | apply driveAlert_keeps K | apply submit_keeps K
    | apply refreshInject_keeps K | apply cancelBooking_keeps K | apply marginJudge_keeps K | apply stepWrite_keeps K
    | apply setIncrement_keeps K | apply ownerWrite_keeps K | apply refPresence_keeps K | apply fpulseWrite_keeps K
    | apply rateModeApply_keeps K | apply groupApply_keeps K | apply laneEnable_keeps K | apply portApply_keeps K
    | apply refreshAdmitted_keeps K | apply syncSettle_keeps K | apply refreshAdmission_keeps K | apply clipCapture_keeps K
    | apply clipDelete_keeps K | apply compileStart_keeps K | apply aesRxWrite_keeps K | apply injectFlush_keeps K
    | apply keyWrite_keeps K | apply bootIdle_keeps K | apply confirmWrite_keeps K | apply rejectWrite_keeps K
    | apply cancelGroup_keeps K | apply cancelAll_keeps K | apply afterStep_keeps K | apply gpiPolarity_keeps K
    | apply gpoWrite_keeps K | apply commitStart_keeps K | apply bookingCommand_keeps K | apply force_keeps K
    | apply bundleWrite_keeps K | apply ite_keeps | apply K.put | apply each_keeps)

theorem applyValues_keeps (hs : P s) (l : List (Key × Int)) : P (s.applyValues l) := by
  unfold State.applyValues
  repeat' (with_reducible first
    | assumption | intro _ | apply refreshGroups_keeps K | apply flowWritten_keeps K | apply refreshAdmission_keeps K
    | apply applyItem_keeps K | apply ite_keeps | apply each_keeps)

theorem writeApply_keeps (hs : P s) (mirrored : Bool) (items : List Item) : P (s.writeApply mirrored items) :=
  applyValues_keeps K hs ..

theorem writeRefused_keeps (hs : P s) (items : List Item) (sts : List Status) : P (s.writeRefused items sts) := by
  unfold State.writeRefused
  repeat' (with_reducible first
    | assumption | intro _ | apply bump_keeps K | apply refuseStep_keeps K | apply ite_keeps | apply each_keeps | split)

theorem cancelApply_keeps (hs : P s) (mirrored : Bool) (slips : List Nat) : P (s.cancelApply mirrored slips) :=
  each_keeps hs _ _ (fun _ _ h => ite_keeps (cancelSlip_keeps K h ..) h)

/-! ### Views -/

theorem afterRead_keeps (hs : P s) (k : Key) : P (s.afterRead k) :=
  ite_keeps (K.put (ite_keeps (drawn_keeps K hs) hs) ..) (ite_keeps (drawn_keeps K hs) hs)

theorem readOne_keeps (hs : P s) (addr : Nat) : P (s.readOne addr).1 := by
  unfold State.readOne
  repeat' (with_reducible first | assumption | apply afterRead_keeps K | split)

theorem readAll_keeps (l : List Nat) (hs : P s) : P (s.readAll l).1 := by
  induction l generalizing s with
  | nil => exact hs
  | cons n l ih => exact ih (readOne_keeps K hs _)

/-! ### Bringup -/

theorem enterReset_keeps (hs : P s) (h : Held) : P (s.enterReset h) := by
  unfold State.enterReset
  extract_lets +onlyGivenNames t kept kept2
  have ht : P t ∧ t.pending = s.pending ∧ t.almIntervals = s.almIntervals := by
    refine each_keeps (P := fun u => P u ∧ u.pending = s.pending ∧ u.almIntervals = s.almIntervals) ?_ _ _ ?_
    · exact when_keeps (P := fun u => P u ∧ u.pending = s.pending ∧ u.almIntervals = s.almIntervals) ⟨hs, rfl, rfl⟩ _ _
        (fun u hu => ⟨K.put hu.1 _ _, hu.2⟩)
    · intro u n hu
      obtain ⟨hp, hq, hi⟩ := hu
      obtain ⟨hq', hi'⟩ := txIdle_leaves u n
      exact ⟨txIdle_keeps K hp n, hq'.trans hq, hi'.trans hi⟩
  obtain ⟨hp, hq, hi⟩ := ht
  have hr : kept2 = storeKeep _ _ := storeKeep_storeKeep ..
  clear_value t kept2
  refine send_keeps K ?_ _
  exact K.reset (K.put hp Reg.ALMANAC_POWERED s.powered) _ hq.symm hr rfl rfl hi.symm

theorem porstAssert_keeps (hs : P s) : P s.porstAssert := by
  unfold State.porstAssert
  repeat' (with_reducible first | assumption | apply enterReset_keeps K | apply K.put | split | apply mk_keeps K)

theorem railBrownout_keeps (hs : P s) (rail : Nat) : P (s.railBrownout rail) := by
  unfold State.railBrownout
  repeat' (with_reducible first | assumption | apply enterReset_keeps K | apply K.put | split)

theorem release_keeps (hs : P s) (x : Straps) : P (s.release x) := by
  unfold State.release
  repeat' (with_reducible first
    | assumption | intro _ | apply raise_keeps K | apply refRanks_keeps K | apply refreshMac_keeps K
    | apply refreshEgress_keeps K | apply refreshAdmission_keeps K | apply gpoDrive_keeps K | apply ite_keeps | apply K.put
    | apply each_keeps | apply mk_keeps K)

theorem porstRelease_keeps (hs : P s) (x : Straps) : P (s.porstRelease x) := ite_keeps (release_keeps K hs ..) hs

theorem brownoutRelease_keeps (hs : P s) (x : Straps) : P (s.brownoutRelease x) := ite_keeps (release_keeps K hs ..) hs

theorem wantSubs_keeps (hs : P s) : P s.wantSubs := by
  unfold State.wantSubs
  repeat' (with_reducible first | assumption | intro _ | apply openSub_keeps K | apply ite_keeps | apply each_keeps)

theorem refreshStacksBit_keeps (hs : P s) : P s.refreshStacksBit := setReady_keeps K hs ..

theorem recHomes_keeps (hs : P s) : P s.recHomes := by
  unfold State.recHomes
  repeat' (with_reducible first | assumption | intro _ | apply recApply_keeps K | apply each_keeps)

theorem afterRise_keeps (hs : P s) (i : Nat) : P (s.afterRise i) := by
  unfold State.afterRise
  repeat' (with_reducible first
    | assumption | intro _ | apply send_keeps K | apply driveAlert_keeps K | apply settleHeld_keeps K
    | apply refreshSlipBit_keeps K | apply fpulseIdle_keeps K | apply refreshFabCounts_keeps K | apply macsTrain_keeps K
    | apply syncSettle_keeps K | apply refreshAdmission_keeps K | apply hbmRises_keeps K | apply refreshCanvasStates_keeps K
    | apply refreshAesBit_keeps K | apply audReturn_keeps K | apply keysRefresh_keeps K | apply slipsReturn_keeps K
    | apply wantSubs_keeps K | apply refreshStacksBit_keeps K | apply recHomes_keeps K | apply ite_keeps | apply K.put
    | apply each_keeps | apply when_keeps)

theorem islandRises_keeps (hs : P s) (i : Nat) : P (s.islandRises i) := by
  unfold State.islandRises
  repeat' (with_reducible first
    | assumption | intro _ | apply setReady_keeps K | apply islandReturned_keeps K | apply refreshGroups_keeps K
    | apply afterRise_keeps K | apply K.put | apply when_keeps)

theorem ddrRises_keeps (hs : P s) (d : Nat) (dimms : List (Nat × Nat × Nat)) : P (s.ddrRises d dimms) := by
  unfold State.ddrRises
  split
  · exact islandRises_keeps K hs ..
  · split
    next e => exact islandRises_keeps K (ddrTrain_keeps K e hs) ..
    · exact ite_keeps (K.put (K.put hs ..) ..) (raise_keeps K (K.put (K.put hs ..) ..) ..)

theorem bitRises_keeps (hs : P s) (b : Nat) (dimms : List (Nat × Nat × Nat)) : P (s.bitRises b dimms) := by
  unfold State.bitRises
  repeat' (with_reducible first
    | assumption | apply setReady_keeps K | apply refreshTarget_keeps K | apply gpioReady_keeps K | apply islandRises_keeps K
    | apply ddrRises_keeps K | apply ite_keeps | split)

theorem bitLate_keeps (hs : P s) (b : Nat) : P (s.bitLate b) := by
  unfold State.bitLate
  repeat' (with_reducible first
    | assumption | apply restartIsland_keeps K | apply settleQueue_keeps K | apply raise_keeps K | apply ite_keeps | apply K.put
    | split)

theorem resetReleased_keeps (hs : P s) (i : Nat) : P (s.resetReleased i) := ite_keeps (K.put (K.put hs ..) ..) hs

theorem readyToken_keeps (hs : P s) (src dst : Nat) : P (s.readyToken src dst) :=
  ite_keeps (when_keeps (K.put hs ..) _ _ (fun _ h => K.put h ..)) hs

theorem pointerWrong_keeps (hs : P s) (src dst units : Nat) : P (s.pointerWrong src dst units) :=
  ite_keeps (raise_keeps K (K.put (bumpBy_keeps K (bump_keeps K hs ..) ..) ..) ..) hs

theorem crossingFull_keeps (hs : P s) (src dst : Nat) : P (s.crossingFull src dst) :=
  ite_keeps (raise_keeps K (bump_keeps K hs ..) ..) hs

theorem restartOrder_keeps (hs : P s) (i cause : Nat) : P (s.restartOrder i cause) :=
  ite_keeps (settleQueue_keeps K (restartIsland_keeps K hs ..)) hs

theorem restoreItem_keeps (hs : P s) (p : Key × Int) : P (s.restoreItem p) := by
  unfold State.restoreItem
  repeat' (with_reducible first
    | assumption | apply setIncrement_keeps K | apply ownerWrite_keeps K | apply groupApply_keeps K | apply ite_keeps
    | apply K.put)

theorem restoreRasters_keeps (hs : P s) : P s.restoreRasters :=
  each_keeps hs _ _ (fun _ _ h => ite_keeps h (ite_keeps (boundaryWork_keeps K h ..) (K.put h ..)))

theorem settleRestored_keeps (hs : P s) (old : State) : P (s.settleRestored old) := by
  unfold State.settleRestored
  repeat' (with_reducible first
    | assumption | intro _ | apply driveAlert_keeps K | apply refreshTarget_keeps K | apply refreshInject_keeps K
    | apply refreshMac_keeps K | apply refreshEgress_keeps K | apply refreshGroups_keeps K | apply flowWritten_keeps K
    | apply refreshAdmitted_keeps K | apply flowApply_keeps K | apply syncSettle_keeps K | apply refreshAdmission_keeps K
    | apply recApply_keeps K | apply headApply_keeps K | apply refreshCanvases_keeps K | apply openStores_keeps K
    | apply refreshSide_keeps K | apply refreshBundle_keeps K | apply gateFollow_keeps K | apply obeyMode_keeps K
    | apply wantSubs_keeps K | apply restoreRasters_keeps K | apply ite_keeps | apply K.put | apply each_keeps)

theorem restoreKeep_keeps (hs : P s) (l : Store) : P (s.restoreKeep l) :=
  each_keeps (each_keeps hs _ _ (fun _ _ h => K.put h ..)) _ _ (fun _ _ h2 => K.put h2 ..)

theorem standingRestore_keeps (hs : P s) (bad : Nat) : P (s.standingRestore bad) := by
  unfold State.standingRestore
  repeat' (with_reducible first
    | assumption | intro _ | apply setReady_keeps K | apply raise_keeps K | apply restoreItem_keeps K
    | apply settleRestored_keeps K | apply restoreKeep_keeps K | apply ite_keeps | apply K.put | apply each_keeps
    | apply when_keeps)

theorem commitComplete_keeps (hs : P s) (ok : Bool) : P (s.commitComplete ok) := by
  unfold State.commitComplete
  repeat' (with_reducible first | assumption | apply drawn_keeps K | apply ite_keeps | apply K.put | split | apply mk_keeps K)

theorem rasterAtTime_keeps (hs : P s) (r : Nat) : P (s.rasterAtTime r) := ite_keeps (boundaryWork_keeps K (K.put hs ..) ..) hs

/-! ### Offers -/

theorem sendOffers_keeps (hs : P s) (recs : List OfferRec) : P (s.sendOffers recs) :=
  each_keeps hs _ _ (fun _ _ h => each_keeps h _ _ (fun _ _ h2 => sendControl_keeps K h2 ..))

theorem offerResend_keeps (hs : P s) : P s.offerResend := by
  unfold State.offerResend
  repeat' (with_reducible first | assumption | apply sendOffers_keeps K | apply ite_keeps | apply K.put)

theorem offerChanges_keeps (hs : P s) : P s.offerChanges := by
  unfold State.offerChanges
  repeat' (with_reducible first | assumption | apply sendOffers_keeps K | apply ite_keeps | apply mk_keeps K)

/-! ### Protocol -/

theorem answerOn_keeps (hs : P s) (ports : List Nat) (key : Option SessKey) (r : Resp) : P (s.answerOn ports key r) :=
  ite_keeps hs (send_keeps K hs ..)

theorem respond_keeps (hs : P s) (r : Resp) (key : Option SessKey) : P (s.respond r key) := by
  unfold State.respond
  repeat' (with_reducible first | assumption | apply answerOn_keeps K | apply mk_keeps K)

theorem authFail_keeps (hs : P s) (m : Msg) (opcode : Nat) (counted : Bool) : P (s.authFail m opcode counted) := by
  unfold State.authFail
  repeat' (with_reducible first
    | assumption | intro _ | apply bump_keeps K | apply answerOn_keeps K | apply when_keeps | apply mk_keeps K)

theorem malformed_keeps (hs : P s) (port : Nat) : P (s.malformed port) := ite_keeps (bump_keeps K hs ..) hs

theorem noted_keeps (hs : P s) (x : Session) (q : Nat) : P (s.noted x q) := by
  unfold State.noted
  repeat' (with_reducible first | assumption | apply K.put | apply mk_keeps K)

theorem again_keeps (hs : P s) (r : SeqRec) : P (s.again r) := by
  unfold State.again
  repeat' (with_reducible first | assumption | apply bump_keeps K | apply answerOn_keeps K | apply ite_keeps | split)

theorem sequenced_keeps (hs : P s) (x : Session) (m : Msg) (opcode : Nat) (key : SessKey) (first : Option State)
    (hfirst : ∀ t, first = some t → P t) (f : State → State) (hf : ∀ t, P t → P (f t)) :
    P (s.sequenced x m opcode key first f) := by
  unfold State.sequenced
  dsimp only
  split
  · exact again_keeps K hs _
  · refine ite_keeps ?_ (hf _ (noted_keeps K hs ..))
    cases first with
    | none => exact respond_keeps K (bump_keeps K hs _) ..
    | some t => exact hfirst t rfl

theorem unlentClose_keeps (hs : P s) : P s.unlentClose := by
  unfold State.unlentClose
  repeat' (with_reducible first | assumption | apply closeSession_keeps K | apply ite_keeps | split)

theorem oldKeyEnd_keeps (hs : P s) : P s.oldKeyEnd := by
  unfold State.oldKeyEnd
  repeat' (with_reducible first | assumption | apply ite_keeps | split | apply mk_keeps K)

theorem graceEnd_keeps (hs : P s) : P s.graceEnd := by
  unfold State.graceEnd
  repeat' (with_reducible first | assumption | apply ite_keeps | split | apply mk_keeps K)

theorem endsDue_keeps (hs : P s) : P s.endsDue :=
  graceEnd_keeps K (oldKeyEnd_keeps K (unlentClose_keeps K (loanExpiry_keeps K hs)))

theorem otherSession_keeps (hs : P s) (m : Msg) (opcode : Nat) (payload : List Nat) : P (s.otherSession m opcode payload) := by
  unfold State.otherSession
  repeat' (with_reducible first | assumption | apply respond_keeps K | apply authFail_keeps K | apply ite_keeps | split)

theorem receiveAs_keeps (hs : P s) (x : Session) (m : Msg) (opcode : Nat) (count : Option Nat) (key : SessKey)
    (f : State → SessKey → State) (hf : ∀ t a, P t → P (f t a)) : P (s.receiveAs x m opcode count key f) := by
  unfold State.receiveAs
  exact sequenced_keeps K (mk_keeps K hs ..) _ _ _ _ _ (fun _ h => by cases h) _
    (fun t h => ite_keeps (hf t key h) (respond_keeps K h ..))

theorem receive_keeps (hs : P s) (m : Msg) (opcode : Nat) (payload : List Nat) (count : Option Nat)
    (f : State → SessKey → State) (hf : ∀ t a, P t → P (f t a)) : P (s.receive m opcode payload count f) := by
  have h := endsDue_keeps K hs
  unfold State.receive
  refine ite_keeps hs (ite_keeps (malformed_keeps K hs _) ?_)
  dsimp only
  split
  · exact otherSession_keeps K h ..
  · refine ite_keeps (otherSession_keeps K h ..) ?_
    split
    · exact authFail_keeps K h ..
    · exact receiveAs_keeps K h _ _ _ _ _ f hf

theorem readMsg_keeps (hs : P s) (m : Msg) (addrs : List Nat) (key : SessKey) : P (s.readMsg m addrs key) := by
  unfold State.readMsg
  repeat' (with_reducible first | assumption | apply readAll_keeps K | apply respond_keeps K | apply ite_keeps)

theorem pingMsg_keeps (hs : P s) (m : Msg) (key : SessKey) : P (s.pingMsg m key) := respond_keeps K hs ..

theorem pingPlain_keeps (hs : P s) (m : Msg) : P (s.pingPlain m) := by
  unfold State.pingPlain
  repeat' (with_reducible first
    | assumption | apply answerOn_keeps K | apply malformed_keeps K | apply ite_keeps | apply mk_keeps K)

theorem pingIn_keeps (hs : P s) (m : Msg) : P (s.pingIn m) :=
  ite_keeps (pingPlain_keeps K hs ..) (receive_keeps K hs _ _ _ _ _ (fun _ _ h => pingMsg_keeps K h ..))

theorem reqApply_keeps (hs : P s) (mirrored : Bool) (at_ : Nat) (r : MirrorReq) : P (s.reqApply mirrored at_ r) := by
  unfold State.reqApply
  repeat' (with_reducible first
    | assumption | apply armApply_keeps K | apply stageApply_keeps K | apply writeApply_keeps K | apply cancelApply_keeps K
    | split)

theorem reqRefused_keeps (hs : P s) (r : MirrorReq) (sts : List Status) : P (s.reqRefused r sts) := by
  unfold State.reqRefused
  repeat' (with_reducible first | assumption | apply armRefused_keeps K | apply writeRefused_keeps K | split)

theorem finish_keeps (hs : P s) (back : Back) (sts : List Status) : P (s.finish back sts) := by
  unfold State.finish
  repeat' (with_reducible first | assumption | apply send_keeps K | apply respond_keeps K | split)

theorem commitReq_keeps (hs : P s) (r : MirrorReq) (sts : List Status) (back : Back) : P (s.commitReq r sts back) := by
  unfold State.commitReq
  repeat' (with_reducible first
    | assumption | apply sendTwin_keeps K | apply reqApply_keeps K | apply finish_keeps K | apply ite_keeps | apply K.put
    | apply mk_keeps K)

theorem mirrorFails_keeps (hs : P s) (w : MirrorWait) : P (s.mirrorFails w) :=
  ite_keeps (reconStart_keeps K (raise_keeps K (finish_keeps K hs ..) ..)) (raise_keeps K (finish_keeps K hs ..) ..)

theorem unwait_keeps (hs : P s) (w : MirrorWait) : P (s.unwait w) := mk_keeps K hs ..

theorem mirrorsFail_keeps (hs : P s) (past : Int → Bool) : P (s.mirrorsFail past) :=
  each_keeps hs _ _ (fun _ _ h => mirrorFails_keeps K (unwait_keeps K h ..) ..)

theorem mirrorAck_keeps (hs : P s) (tag : Bool) (seq : Nat) (st : Status) : P (s.mirrorAck tag seq st) := by
  unfold State.mirrorAck
  repeat' (with_reducible first
    | assumption | apply bump_keeps K | apply reqApply_keeps K | apply reqRefused_keeps K | apply finish_keeps K
    | apply mirrorFails_keeps K | apply unwait_keeps K | apply mirrorsFail_keeps K | apply ite_keeps | split | dsimp only)

theorem mirrorTimeout_keeps (hs : P s) : P s.mirrorTimeout := by
  unfold State.mirrorTimeout
  repeat' (with_reducible first | assumption | apply mirrorsFail_keeps K)

theorem request_keeps (hs : P s) (r : MirrorReq) (back : Back) : P (s.request r back) :=
  ite_keeps (finish_keeps K (reqRefused_keeps K hs ..) ..) (commitReq_keeps K hs ..)

theorem armRequest_keeps (hs : P s) (n : Nat) (items : List Item) (back : Back) : P (s.armRequest n items back) :=
  ite_keeps (finish_keeps K (armRefused_keeps K hs ..) ..) (commitReq_keeps K hs ..)

theorem controllerWrite_keeps (hs : P s) (items : List Item) : P (s.controllerWrite items) := by
  unfold State.controllerWrite
  repeat' (with_reducible first
    | assumption | apply send_keeps K | apply endsDue_keeps K | apply request_keeps K | apply ite_keeps)

theorem weed_keeps (hs : P s) (f : Nat) : P (s.weed f) := ite_keeps (commitReq_keeps K hs ..) hs

theorem blockRead_keeps (hs : P s) (m : Msg) (addr offset len : Nat) (key : SessKey) :
    P (s.blockRead m addr offset len key) := by
  unfold State.blockRead
  repeat' (with_reducible first
    | assumption | apply afterRead_keeps K | apply respond_keeps K | apply ite_keeps | split | apply mk_keeps K)

theorem xfersIdle_keeps (hs : P s) (past : Xfer → Bool) : P (s.xfersIdle past) := by
  unfold State.xfersIdle
  repeat' (with_reducible first | assumption | split | apply mk_keeps K)

theorem xferIdle_keeps (hs : P s) (id : Nat) : P (s.xferIdle id) := by
  unfold State.xferIdle
  repeat' (with_reducible first | assumption | apply xfersIdle_keeps K)

theorem blockWrite_keeps (hs : P s) (m : Msg) (addr offset len data : Nat) (key : SessKey) :
    P (s.blockWrite m addr offset len data key) := by
  unfold State.blockWrite
  repeat' (with_reducible first
    | assumption | apply respond_keeps K | apply request_keeps K | apply xfersIdle_keeps K | apply ite_keeps | split
    | apply mk_keeps K)

theorem snapExpiry_keeps (hs : P s) (id : Nat) : P (s.snapExpiry id) := by
  unfold State.snapExpiry
  repeat' (with_reducible first | assumption | split | apply mk_keeps K)

theorem notifyOne_keeps (hs : P s) (keys : List Key) : P (s.notifyOne keys) := by
  unfold State.notifyOne
  repeat' (with_reducible first
    | assumption | intro _ | apply send_keeps K | apply afterRead_keeps K | apply ite_keeps | apply K.put | apply each_keeps
    | split)

theorem notify_keeps (hs : P s) (keys : List Key) : P (s.notify keys) := each_keeps hs _ _ (fun _ _ h => notifyOne_keeps K h ..)

theorem subscribe_keeps (hs : P s) (m : Msg) (items : List SubItem) (key : SessKey) : P (s.subscribe m items key) := by
  unfold State.subscribe
  repeat' (with_reducible first
    | assumption | apply respond_keeps K | apply notify_keeps K | apply K.put | split | apply mk_keeps K)

theorem notifyDue_keeps (hs : P s) : P s.notifyDue := by
  unfold State.notifyDue
  repeat' (with_reducible first | assumption | apply notify_keeps K | split | apply mk_keeps K)

theorem lend_keeps (hs : P s) (t : Token) : P (s.lend t) := by
  unfold State.lend
  repeat' (with_reducible first
    | assumption | apply setPairing_keeps K | apply sendHealth_keeps K | apply ite_keeps | apply K.put)

theorem openSession_keeps (hs : P s) (m : Msg) (t : Token) (key : SessKey) : P (s.openSession m t key) := by
  unfold State.openSession
  repeat' (with_reducible first | assumption | apply K.put | apply mk_keeps K)

theorem tokenFails_keeps (hs : P s) (m : Msg) (reason : Nat) : P (s.tokenFails m reason) :=
  authFail_keeps K (bump_keeps K (K.put hs ..) ..) ..

theorem loanExec_keeps (hs : P s) (m : Msg) (t : Token) (key : SessKey) : P (s.loanExec m t key) := by
  unfold State.loanExec
  repeat' (with_reducible first
    | assumption | apply respond_keeps K | apply lend_keeps K | apply openSession_keeps K | apply tokenFails_keeps K
    | apply ite_keeps)

theorem loanMsg_keeps (hs : P s) (m : Msg) (t : Token) : P (s.loanMsg m t) := by
  have h := endsDue_keeps K hs
  unfold State.loanMsg
  refine ite_keeps hs (ite_keeps (malformed_keeps K hs _) ?_)
  dsimp only
  split
  · exact authFail_keeps K h ..
  · split
    · exact loanExec_keeps K h ..
    · refine ite_keeps (sequenced_keeps K (mk_keeps K h ..) _ _ _ _ _ (fun u hu => ?_) _ fun _ h => loanExec_keeps K h ..)
        (loanExec_keeps K h ..)
      split at hu
      · cases hu
        exact tokenFails_keeps K (mk_keeps K h ..) ..
      · cases hu

/-! ### Recon -/

theorem mirrorIn_keeps (hs : P s) (tag : Bool) (seq : Nat) (r : MirrorReq) : P (s.mirrorIn tag seq r) := by
  unfold State.mirrorIn
  repeat' (with_reducible first
    | assumption | apply bump_keeps K | apply sendTwin_keeps K | apply reqApply_keeps K | apply ite_keeps)

theorem reconConfig_keeps (hs : P s) (l : List (Key × Int)) : P (s.reconConfig l) := by
  unfold State.reconConfig
  repeat' (with_reducible first
    | assumption | intro _ | apply syncSettle_keeps K | apply refreshAdmission_keeps K | apply applyValues_keeps K
    | apply restoreItem_keeps K | apply ite_keeps | apply K.put | apply each_keeps)

theorem reconStaged_keeps (hs : P s) (l : List (Key × Int)) : P (s.reconStaged l) :=
  each_keeps (mk_keeps K hs ..) _ _ (fun _ _ h2 => ite_keeps h2 (launchEffects_keeps K h2 ..))

theorem reconAudio_keeps (hs : P s) : P s.reconAudio := by
  unfold State.reconAudio
  repeat' (with_reducible first
    | assumption | apply compileStart_keeps K | apply compileEnd_keeps K | apply ite_keeps | apply mk_keeps K)

theorem reconTable_keeps (hs : P s) (l : List SlipCopy) : P (s.reconTable l) := by
  unfold State.reconTable
  repeat' (with_reducible first
    | assumption | intro _ | apply armApply_keeps K | apply cancelSlip_keeps K | apply launchEffects_keeps K | apply ite_keeps
    | apply each_keeps)

theorem reconJournal_keeps (hs : P s) (standing : List (Nat × Nat × Nat × Int)) : P (s.reconJournal standing) :=
  ite_keeps hs (mk_keeps K hs ..)

theorem reconDone_keeps (hs : P s) : P s.reconDone :=
  ite_keeps (K.put (K.put (bump_keeps K (setPairing_keeps K hs ..) ..) ..) ..) hs

theorem reconApply_keeps (hs : P s) (standing : List (Nat × Nat × Nat × Int)) (slips : List SlipCopy) :
    P (s.reconApply standing slips) := by
  unfold State.reconApply
  repeat' (with_reducible first
    | assumption | apply reconConfig_keeps K | apply reconStaged_keeps K | apply reconAudio_keeps K | apply reconTable_keeps K
    | apply reconJournal_keeps K | apply reconDone_keeps K | apply K.put | apply mk_keeps K)

theorem reconcileIn_keeps (hs : P s) (tag : Bool) (measurement : Option Nat) (last : Bool) (values : List (Nat × Nat × Nat ×
    Int)) (standing : List (Nat × Nat × Nat × Int)) (slips : List SlipCopy) :
    P (s.reconcileIn tag measurement last values standing slips) := by
  unfold State.reconcileIn
  repeat' (with_reducible first
    | assumption | apply bump_keeps K | apply setPairing_keeps K | apply reconSend_keeps K | apply reconApply_keeps K
    | apply ite_keeps | apply K.put | split | apply mk_keeps K)

theorem reconBoundary_keeps (hs : P s) (at_ : Int) : P (s.reconBoundary at_) := by
  unfold State.reconBoundary
  repeat' (with_reducible first
    | assumption | intro _ | apply canvasRetire_keeps K | apply programApply_keeps K | apply takeRetire_keeps K
    | apply applySlip_keeps K | apply reconDone_keeps K | apply ite_keeps | apply K.put | apply each_keeps | apply mk_keeps K)

/-! ### Effects -/

theorem live_keeps (hs : P s) (f : State → State) (hf : ∀ t, P t → P (f t)) : P (s.live f) :=
  ite_keeps (closing_keeps K (hf s hs) s) hs

theorem controlIn_keeps (hs : P s) (l : Nat) (crcOk : Bool) (kind : Nat) (f : State → State) (hf : ∀ t, P t → P (f t)) :
    P (s.controlIn l crcOk kind f) := by
  unfold State.controlIn
  repeat' (with_reducible first | assumption | intro _ | apply hf | apply cellIn_keeps K | apply live_keeps K | apply ite_keeps)

theorem arrived_keeps (hs : P s) (old : State) : P (s.arrived old) := framesMoved_keeps K hs ..

theorem twinMessage_keeps (hs : P s) (n : Nat) (f : State → State) (hf : ∀ t, P t → P (f t)) : P (s.twinMessage n f) := by
  unfold State.twinMessage
  repeat' (with_reducible first
    | assumption | intro _ | apply hf | apply bump_keeps K | apply twinIn_keeps K | apply live_keeps K | apply ite_keeps)

theorem svcIn_keeps (hs : P s) (f : State → State) (hf : ∀ t, P t → P (f t)) : P (s.svcIn f) := live_keeps K hs f hf

/-! ### ExecWrites -/

theorem takeWrite_keeps (hs : P s) (items : List Item) : P (s.takeWrite items) :=
  ite_keeps (closing_keeps K (controllerWrite_keeps K hs ..) ..) (controllerWrite_keeps K hs ..)

/-! ### ExecKeys -/

theorem svcReads_keeps (hs : P s) (m : SvcMsg) (addrs : List Nat) : P (s.svcReads m addrs) := by
  unfold State.svcReads
  repeat' (with_reducible first
    | assumption | intro _ | apply svcAnswer_keeps K | apply svcRun_keeps K | apply readAll_keeps K | apply ite_keeps)

/-! ### Commands -/

/-- What an outcome that goes on goes on with satisfies `P`. -/
def Out.Keeps (P : State → Prop) (o : Out) : Prop := ∀ t, o = .next t → P t

omit K in
theorem next_keeps {t : State} (ht : P t) : Out.Keeps P (.next t) := by
  rintro _ ⟨⟩
  exact ht

omit K in
theorem onElement_keeps {b : Bool} {t : State} (hs : P s) (ht : P t) : Out.Keeps P (onElement b s t) :=
  next_keeps (ite_keeps ht hs)

theorem live_next_keeps {f : State → State} (hs : P s) (hf : ∀ t, P t → P (f t)) : Out.Keeps P (.next (s.live f)) :=
  next_keeps (live_keeps K hs f hf)

theorem live_element_keeps {b : Bool} {f : State → State} (hs : P s) (hf : ∀ t, P t → P (f t)) :
    Out.Keeps P (onElement b s (s.live f)) :=
  onElement_keeps hs (live_keeps K hs f hf)

/-- Every command keeps a steady property. -/
theorem exec_keeps (hs : P s) (c : Instr) : Out.Keeps P (exec c s) := by
  cases c with
  | porstNAssert => exact next_keeps (porstAssert_keeps K hs)
  | porstNRelease => exact next_keeps (porstRelease_keeps K hs ..)
  | railBrownout => exact onElement_keeps hs (railBrownout_keeps K hs ..)
  | brownoutRelease => exact next_keeps (brownoutRelease_keeps K hs ..)
  | islandReady => exact onElement_keeps hs (bitRises_keeps K hs ..)
  | bringupLate => exact onElement_keeps hs (bitLate_keeps K hs ..)
  | standingRestore => exact next_keeps (standingRestore_keeps K hs ..)
  | rasterStartAtTime => exact live_element_keeps K hs fun _ h => rasterAtTime_keeps K h ..
  | read => exact live_element_keeps K hs fun _ h => receive_keeps K h _ _ _ _ _ (fun _ _ h => readMsg_keeps K h ..)
  | write => exact live_element_keeps K hs fun _ h => receive_keeps K h _ _ _ _ _ (fun _ _ h => request_keeps K h ..)
  | stage => exact live_element_keeps K hs fun _ h => receive_keeps K h _ _ _ _ _ (fun _ _ h => request_keeps K h ..)
  | arm => exact live_element_keeps K hs fun _ h => receive_keeps K h _ _ _ _ _ (fun _ _ h => armRequest_keeps K h ..)
  | cancel => exact live_element_keeps K hs fun _ h => receive_keeps K h _ _ _ _ _ (fun _ _ h => request_keeps K h ..)
  | subscribe => exact live_element_keeps K hs fun _ h => receive_keeps K h _ _ _ _ _ (fun _ _ h => subscribe_keeps K h ..)
  | blockRead => exact live_element_keeps K hs fun _ h => receive_keeps K h _ _ _ _ _ (fun _ _ h => blockRead_keeps K h ..)
  | blockWrite => exact live_element_keeps K hs fun _ h => receive_keeps K h _ _ _ _ _ (fun _ _ h => blockWrite_keeps K h ..)
  | loan => exact live_element_keeps K hs fun _ h => loanMsg_keeps K h ..
  | ping => exact live_element_keeps K hs fun _ h => pingIn_keeps K h ..
  | sessionlessPing => exact live_element_keeps K hs fun _ h => pingIn_keeps K h ..
  | undefinedOpcode => exact live_element_keeps K hs fun _ h => ite_keeps h (receive_keeps K h _ _ _ _ _ (fun _ _ h => h))
  | malformedDatagram => exact live_element_keeps K hs fun _ h => malformed_keeps K h ..
  | mirrorAck => exact live_next_keeps K hs fun _ ht => twinIn_keeps K ht _ _ (fun _ hu => mirrorAck_keeps K hu ..)
  | mirrorAckTimeout => exact live_next_keeps K hs fun _ h => mirrorTimeout_keeps K h
  | mirror => exact live_next_keeps K hs fun _ ht => twinIn_keeps K ht _ _ (fun _ hu => mirrorIn_keeps K hu ..)
  | blockTransferIdle => exact live_next_keeps K hs fun _ h => xferIdle_keeps K h ..
  | snapshotExpiry => exact live_next_keeps K hs fun _ h => snapExpiry_keeps K h ..
  | notificationInterval => exact live_next_keeps K hs fun _ h => notifyDue_keeps K h
  | unlentSessionClose => exact live_next_keeps K hs fun _ h => unlentClose_keeps K h
  | oldSessionKeyExpiry => exact live_next_keeps K hs fun _ h => oldKeyEnd_keeps K h
  | handoverKeyGraceEnd => exact live_next_keeps K hs fun _ h => graceEnd_keeps K h
  | commitComplete => exact live_next_keeps K hs fun _ h => commitComplete_keeps K h ..
  | compileComplete => exact live_next_keeps K hs fun _ h => compileEnd_keeps K h
  | captureComplete => exact live_element_keeps K hs fun _ h => captureComplete_keeps K h ..
  | idleBootComplete => exact live_next_keeps K hs fun _ h => idleBootEnd_keeps K h
  | ptpEventRx => exact live_element_keeps K hs fun _ h => afterStep_keeps K (ptpRx_keeps K h ..) ..
  | delayReq => exact live_element_keeps K hs fun _ h => delayReq_keeps K h ..
  | masterSelected => exact live_element_keeps K hs fun _ h => ite_keeps (masterSelected_keeps K h ..) h
  | servoMeasureDone => exact live_next_keeps K hs fun _ h => ite_keeps (afterStep_keeps K (servoDecide_keeps K h) ..) h
  | announceTimeout => exact live_next_keeps K hs fun _ h => ite_keeps (announceTimeout_keeps K h) h
  | twinTimeCompare => exact live_next_keeps K hs fun _ h => twinCompare_keeps K h
  | time => exact next_keeps (twinMessage_keeps K hs _ _ (fun _ h => timeMessage_keeps K h ..))
  | timestampCapture => exact live_element_keeps K hs fun _ h => ite_keeps (pulseSeen_keeps K (capture_keeps K h ..) ..) h
  | candidateLoss => exact live_element_keeps K hs fun _ h => candidateLoss_keeps K h ..
  | refMeasurement => exact live_element_keeps K hs fun _ h => refMeasurement_keeps K h ..
  | holdoverEvaluation => exact live_next_keeps K hs fun _ h => ite_keeps (holdoverEval_keeps K h) h
  | xoCorrection => exact live_next_keeps K hs fun _ h => ite_keeps (xoCorrect_keeps K h) h
  | refRestartReturn => exact live_next_keeps K hs fun _ h => refReturn_keeps K h
  | rasterBoundary => exact live_element_keeps K hs fun _ h => ite_keeps h (slipsTracked_keeps K (boundaryWork_keeps K h ..) ..)
  | slipCheckPoint => exact live_next_keeps K hs fun _ h => checkPoint_keeps K h ..
  | slipBoundary => exact live_next_keeps K hs fun _ h => reconBoundary_keeps K (slipBoundary_keeps K h ..) ..
  | slipRetire => exact live_element_keeps K hs fun _ h => retireLate_keeps K h ..
  | gpiResolve => exact onElement_keeps hs (twinMessage_keeps K hs _ _ (fun _ h => gpiResolveIn_keeps K h ..))
  | slipOutcome => exact onElement_keeps hs (twinMessage_keeps K hs _ _ (fun _ h => twinOutcomeIn_keeps K h ..))
  | sdiRawTransition => exact live_element_keeps K hs fun _ h => cutsShown_keeps K (sdiRawTransition_keeps K h ..) ..
  | acquireElapsed => exact live_element_keeps K hs fun _ h => sdiAcquired_keeps K h ..
  | lossElapsed => exact live_element_keeps K hs fun _ h => sdiLost_keeps K h ..
  | chatterWindowQuiet => exact live_element_keeps K hs fun _ h => sdiChatterEnd_keeps K h ..
  | signalPublish => exact live_element_keeps K hs fun _ h => sdiPublish_keeps K h ..
  | sdiInputFrame => exact live_element_keeps K hs fun _ h => arrived_keeps K (inputFrame_keeps K h ..) ..
  | outputFrameBoundary => exact live_element_keeps K hs fun _ h => outputFrame_keeps K h ..
  | decision => exact onElement_keeps hs (twinMessage_keeps K hs _ _ (fun _ h => decision_keeps K h ..))
  | freezeLimitExpiry => exact live_element_keeps K hs fun _ h => freezeExpiry_keeps K h ..
  | fabTrainingStart => exact live_element_keeps K hs fun _ h => trainStart_keeps K h ..
  | fabTrainingDone => exact live_element_keeps K hs fun _ h => trainDone_keeps K h ..
  | fabTrainingTimeout => exact live_element_keeps K hs fun _ h => trainTimeout_keeps K h ..
  | fabAligned => exact live_element_keeps K hs fun _ h => aligned_keeps K h ..
  | fabLaneDown => exact live_element_keeps K hs fun _ h => laneFail_keeps K h ..
  | fabRetry => exact live_element_keeps K hs fun _ h => laneRetry_keeps K h ..
  | calendarPeriod =>
    exact live_element_keeps K hs fun _ h =>
      ite_keeps h (offerChanges_keeps K (calendarPeriod_keeps K (presenceCells_keeps K h) ..))
  | essence => exact live_element_keeps K hs fun _ h => arrived_keeps K (essence_keeps K h ..) ..
  | presence => exact live_element_keeps K hs fun _ h => presence_keeps K h ..
  | reserve => exact onElement_keeps hs (controlIn_keeps K hs _ _ _ _ (fun _ h => centreRequest_keeps K h ..))
  | reservationCutoff => exact live_next_keeps K hs fun _ h => cutoff_keeps K h
  | grant => exact onElement_keeps hs (controlIn_keeps K hs _ _ _ _ (fun _ h => ite_keeps (grantCell_keeps K h ..) h))
  | assign => exact onElement_keeps hs (controlIn_keeps K hs _ _ _ _ (fun _ h => ite_keeps (assignCell_keeps K h ..) h))
  | deny => exact onElement_keeps hs (controlIn_keeps K hs _ _ _ _ (fun _ h => ite_keeps (denyCell_keeps K h ..) h))
  | releaseCell =>
    exact onElement_keeps hs (controlIn_keeps K hs _ _ _ _
      (fun _ h => ite_keeps (releaseAtOrigin_keeps K h ..) (centreRequest_keeps K h ..)))
  | offer => exact onElement_keeps hs (controlIn_keeps K hs _ _ _ _ (fun _ h => wantSubs_keeps K (offerCell_keeps K h ..)))
  | offerResend => exact live_next_keeps K hs fun _ h => offerResend_keeps K h
  | offerExpiry => exact live_next_keeps K hs fun _ h => offerExpiry_keeps K h ..
  | laneStatus =>
    exact live_element_keeps K hs fun _ h =>
      ite_keeps h (ite_keeps (bump_keeps K h ..) (laneStatus_keeps K (bump_keeps K h ..) ..))
  | cellHoldExpiry => exact live_element_keeps K hs fun _ h => arrived_keeps K (holdExpiry_keeps K h ..) ..
  | planeFailure => exact live_element_keeps K hs fun _ h => planeFailure_keeps K h ..
  | pathRetry => exact live_element_keeps K hs fun _ h => pathRetry_keeps K h ..
  | fabUnprotected => exact live_element_keeps K hs fun _ h => unprotected_keeps K h ..
  | healthSend => exact live_next_keeps K hs fun _ h => sendHealth_keeps K h
  | health => exact live_next_keeps K hs fun _ ht => twinIn_keeps K ht _ _ (fun _ hu => healthIn_keeps K hu ..)
  | twinLinkUp => exact live_next_keeps K hs fun _ h => twinLinkUp_keeps K h
  | twinLinkDown => exact live_next_keeps K hs fun _ h => twinLinkDown_keeps K h
  | reconcile => exact live_next_keeps K hs fun _ ht => twinIn_keeps K ht _ _ (fun _ hu => reconcileIn_keeps K hu ..)
  | reconcileTimeout => exact live_next_keeps K hs fun _ h => reconTimeout_keeps K h
  | reconcileRestart => exact live_next_keeps K hs fun _ h => reconAgain_keeps K h
  | loanExpiry => exact live_next_keeps K hs fun _ h => loanExpiry_keeps K h
  | gobWord => exact live_next_keeps K hs fun _ h => gobWord_keeps K h
  | egressSwitch => exact live_next_keeps K hs fun _ h => egressSwitch_keeps K h
  | macLinkUp => exact live_element_keeps K hs fun _ h => macUp_keeps K h ..
  | netLinkDown => exact live_element_keeps K hs fun _ h => macDown_keeps K h ..
  | macFrameRx =>
    exact live_element_keeps K hs fun _ h => ite_keeps (arrived_keeps K (frameRx_keeps K h ..) ..) (ctlFrameRx_keeps K h ..)
  | pacerRelease => exact live_element_keeps K hs fun _ h => pacerRelease_keeps K h ..
  | macFrameStart => exact live_element_keeps K hs fun _ h => ite_keeps (frameStart_keeps K h ..) (ctlFrameStart_keeps K h ..)
  | gateEntry => exact live_element_keeps K hs fun _ h => ite_keeps (gateStep_keeps K h ..) h
  | membershipReport => exact live_element_keeps K hs fun _ h => membershipReport_keeps K h ..
  | needTime => exact live_element_keeps K hs fun _ h => needTimeAt_keeps K h ..
  | noPackets => exact live_element_keeps K hs fun _ h => noPackets_keeps K h ..
  | flowSkew => exact live_element_keeps K hs fun _ h => flowSkew_keeps K h ..
  | flowPresencePublish => exact live_element_keeps K hs fun _ h => flowPublish_keeps K h ..
  | weed => exact live_element_keeps K hs fun _ h => weed_keeps K h ..
  | compressedGap => exact live_element_keeps K hs fun _ h => compressedGap_keeps K h ..
  | canvasBoundary => exact live_element_keeps K hs fun _ h => canvasBoundary_keeps K h ..
  | engineSample => exact live_element_keeps K hs fun _ h => engineSample_keeps K h ..
  | zcTimeout => exact live_element_keeps K hs fun _ h => zcTimeout_keeps K h ..
  | aesRxPreamble => exact live_element_keeps K hs fun _ h => aesPreamble_keeps K h ..
  | aesRxTracking => exact live_element_keeps K hs fun _ h => aesTracking_keeps K h ..
  | aesRxLoss => exact live_element_keeps K hs fun _ h => aesLoss_keeps K h ..
  | aesRxUnderrun => exact live_element_keeps K hs fun _ h => aesSlip_keeps K h ..
  | aesRxOverrun => exact live_element_keeps K hs fun _ h => aesSlip_keeps K h ..
  | aesRxRecovered => exact live_element_keeps K hs fun _ h => aesRecovered_keeps K h ..
  | transparentSlip => exact live_element_keeps K hs fun _ h => transparentSlip_keeps K h ..
  | aesTxBlockStart => exact live_element_keeps K hs fun _ h => ite_keeps (aesBlock_keeps K h ..) h
  | memUncorrectable => exact live_element_keeps K hs fun _ h => ite_keeps (memUncorrectable_keeps K h ..) h
  | memCorrectedError => exact live_element_keeps K hs fun _ h => ite_keeps (memCorrected_keeps K h ..) h
  | scrubPass => exact live_element_keeps K hs fun _ h => ite_keeps (bump_keeps K h ..) h
  | faultRaise => exact live_element_keeps K hs fun _ h => raiseAs_keeps K h ..
  | faultQuietExpiry => exact live_element_keeps K hs fun _ h => quietExpiry_keeps K h ..
  | collectorSelf => exact live_next_keeps K hs fun _ h => ite_keeps (raise_keeps K h ..) h
  | keeperWatchdog => exact live_next_keeps K hs fun _ h => ite_keeps (raise_keeps K h ..) h
  | keeperLockstep => exact live_next_keeps K hs fun _ h => ite_keeps (raise_keeps K h ..) h
  | keepBoot => exact next_keeps (keepBoot_keeps K hs ..)
  | islandRestartOrder => exact onElement_keeps hs (restartOrder_keeps K hs ..)
  | islandResetRelease => exact onElement_keeps hs (resetReleased_keeps K hs ..)
  | readyToken => exact onElement_keeps hs (readyToken_keeps K hs ..)
  | pointerWrong => exact onElement_keeps hs (pointerWrong_keeps K hs ..)
  | crossingSaturation => exact onElement_keeps hs (crossingFull_keeps K hs ..)
  | tamper => exact onElement_keeps hs (tamper_keeps K hs ..)
  | tamperRecord => exact next_keeps (tamperRecord_keeps K hs)
  | probationConfirm => exact live_next_keeps K hs fun _ h => probConfirmed_keeps K h ..
  | probationDeadline => exact live_next_keeps K hs fun _ h => probDeadline_keeps K h
  | hello => exact next_keeps (svcIn_keeps K hs _ (fun _ h => svcHello_keeps K h ..))
  | colophon => exact next_keeps (svcIn_keeps K hs _ (fun _ h => svcColophon_keeps K h ..))
  | imageOpen => exact next_keeps (svcIn_keeps K hs _ (fun _ h => svcImageOpen_keeps K h ..))
  | imageData => exact next_keeps (svcIn_keeps K hs _ (fun _ h => svcImageData_keeps K h ..))
  | imageClose => exact next_keeps (svcIn_keeps K hs _ (fun _ h => svcImageClose_keeps K h ..))
  | svcKeyWrite => exact next_keeps (svcIn_keeps K hs _ (fun _ h => svcKeyWrite_keeps K h ..))
  | svcRead => exact next_keeps (svcIn_keeps K hs _ (fun _ h => svcReads_keeps K h ..))
  | close => exact next_keeps (svcIn_keeps K hs _ (fun _ h => svcClose_keeps K h ..))
  | timeSet => exact next_keeps (svcIn_keeps K hs _ (fun _ h => afterStep_keeps K (svcTimeSet_keeps K h ..) ..))
  | svcSessionTimeout => exact next_keeps (svcIn_keeps K hs _ (fun _ h => svcTimeout_keeps K h))
  | wearSample => exact live_element_keeps K hs fun _ h => wearSample_keeps K h ..
  | thermalSample => exact live_element_keeps K hs fun _ h => thermalSample_keeps K h ..
  | eyeSample => exact live_element_keeps K hs fun _ h => eyeSample_keeps K h ..
  | almanacInterval => exact live_next_keeps K hs fun _ h => ite_keeps (almanacBoundary_keeps K h) h
  | avsStep => exact live_next_keeps K hs fun _ h => ite_keeps (avsStep_keeps K h) h
  | avsLimit => exact live_next_keeps K hs fun _ h => avsJudge_keeps K h ..
  | powerOverCap => exact live_next_keeps K hs fun _ h => powerJudge_keeps K h ..
  | bookingStart =>
    exact live_element_keeps K hs fun _ ht =>
      injectFlush_keeps K (bookingCommand_keeps K ht _ (fun _ hu => startBooking_keeps K hu ..))
  | bookingDone =>
    exact live_element_keeps K hs fun _ ht =>
      injectFlush_keeps K (bookingCommand_keeps K ht _ (fun _ hu => bookingDone_keeps K hu ..))
  | bookingWindowEnd =>
    exact live_element_keeps K hs fun _ ht =>
      injectFlush_keeps K (bookingCommand_keeps K ht _ (fun _ hu => bookingWindowEnd_keeps K hu ..))
  | injectDelayRelease => exact live_element_keeps K hs fun _ h => injectRelease_keeps K h ..
  | gpiRawTransition => exact live_element_keeps K hs fun _ h => gpiRawTransition_keeps K h ..
  | gpiQualify => exact live_element_keeps K hs fun _ h => gpiQualify_keeps K h ..
  | gpiChatterQuiet => exact live_element_keeps K hs fun _ h => gpiChatterQuiet_keeps K h ..
  | gpiStuck => exact live_element_keeps K hs fun _ h => gpiStuckAt_keeps K h ..
  | smbusRead => exact next_keeps (smbusRead_keeps K hs ..)
  | smbusWrite => exact next_keeps (smbusWrite_keeps K hs)
  | extest => exact next_keeps (tapExtest_keeps K hs ..)
  | idcode => exact next_keeps (tapIdcode_keeps K hs)
  | samplePreload => exact next_keeps (tapPreload_keeps K hs ..)
  | extestPulse => exact next_keeps (tapExtest_keeps K hs ..)
  | extestTrain => exact next_keeps (tapExtest_keeps K hs ..)
  | highz => exact next_keeps (tapHighz_keeps K hs)
  | clamp => exact next_keeps (tapClamp_keeps K hs)
  | bypass => exact next_keeps (tapBypass_keeps K hs ..)
  | ctlLinkUp =>
    exact live_element_keeps K hs fun _ ht => ite_keeps ht (setReady_keeps K (when_keeps ht _ _ (fun _ hu => K.put hu _ _)) ..)
  | ctlLinkDown =>
    exact live_element_keeps K hs fun _ ht =>
      ite_keeps ht (raise_keeps K (setReady_keeps K (when_keeps ht _ _ (fun _ hu => K.put hu _ _)) ..) ..)
  | fallback => exact live_next_keeps K hs fun _ h => rejectFall_keeps K h
  | tapReset => exact next_keeps (tapReset_keeps K hs)
  | registerWrite | timeIncrementWrite | timeStepWrite | ownerWrite | slipCancelGroup | slipCancelAll | commit | release |
    compile | bundleInEnable | capture | delete | bootIdle | confirm | reject | keyWrite | submit | bookingCancel | force |
    injectEnable | accession | linkGroupWrite | netPortModeWrite | gpoLevelWrite | testGenWrite | refRasterWrite |
    rateModeWrite | gpiPolarityWrite =>
    exact next_keeps (takeWrite_keeps K hs ..)

end

/-! ### The canonical form of the store -/

/-- The canonical form of the store looks at the registers alone, and every write of them keeps it. -/
theorem wf_steady : Steady State.wf where
  put hs k v := storeWf_put _ k v hs
  setSlip hs _ := hs
  log hs _ _ := hs
  intervals hs _ _ := hs
  reset hs p _ hr _ _ _ := by
    unfold State.wf
    rw [hr]
    exact storeWf_keep p _ hs
  other hs _ hr _ _ _ := by
    unfold State.wf
    rw [hr]
    exact hs

end Sys2Proof.Machine

namespace Sys2Proof
open Machine

/-- Settles O3: the canonical form is a steady property, so every command keeps it, and so does a tick. -/
theorem stepKeepsForm : Obligations.StepKeepsForm := by
  unfold Obligations.StepKeepsForm
  intro s t hs h
  cases hq : s.pending with
  | nil =>
    simp only [step, hq] at h
    cases h
    exact ite_keeps (tickWith_keeps wf_steady hs 0) hs
  | cons c rest =>
    simp only [step, hq] at h
    have hrest : State.wf { s with pending := rest } := hs
    exact exec_keeps wf_steady hrest c t h

end Sys2Proof
end


section
/-! Adding a SPAN to an LT (R7): the fields of the sum. -/
namespace Sys2Proof.Machine

theorem fromSigned_lt (w : Nat) (v : Int) : fromSigned w v < 2 ^ w := by
  have h0 : (0 : Int) < 2 ^ w := by positivity
  rw [fromSigned, Int.toNat_lt (Int.emod_nonneg v h0.ne')]
  exact_mod_cast Int.emod_lt_of_pos v h0

theorem toSigned_fromSigned_64 (v : Int) (h1 : -(2 ^ 63) ≤ v) (h2 : v < 2 ^ 63) : toSigned 64 (fromSigned 64 v) = v := by
  unfold toSigned fromSigned
  dsimp only
  split_ifs <;> omega

theorem toSigned_64_bounds (n : Nat) : -(2 ^ 63) ≤ toSigned 64 n ∧ toSigned 64 n < 2 ^ 63 := by
  unfold toSigned
  dsimp only
  split_ifs <;> omega

theorem ltValid_ltOfLf (n : Int) (h0 : 0 ≤ n) (h1 : n < lfLimit) : ltValid (ltOfLf n) = true := by
  have hs : n / lfSec < 2 ^ 48 := Int.ediv_lt_of_lt_mul (by decide) h1
  have hq : 0 ≤ n / lfSec := Int.ediv_nonneg h0 (by decide)
  have hr : 0 ≤ n % lfSec ∧ n % lfSec < lfSec := ⟨Int.emod_nonneg n (by decide), Int.emod_lt_of_pos n (by decide)⟩
  unfold ltValid ltOfLf
  simp only [Bool.and_eq_true, decide_eq_true_eq]
  unfold lfSec at *
  refine ⟨⟨?_, ?_⟩, ?_⟩ <;> omega

/-- An LT made of a whole leaf count and a Fraction has that leaf count (Table 0.4). -/
theorem lfOfLt_ltOfLf_add (n p : Int) (h0 : 0 ≤ p) (h1 : p < 2 ^ 12) : lfOfLt (ltOfLf n + p) = n := by
  simp only [lfOfLt, ltOfLf, lfSec]
  omega

/-- Its Leaves field is what the whole seconds leave. -/
theorem leaves_ltOfLf_add (n p : Int) (h0 : 0 ≤ p) (h1 : p < 2 ^ 12) : (ltOfLf n + p) / 2 ^ 12 % 2 ^ 36 = n % lfSec := by
  simp only [ltOfLf, lfSec]
  omega

/-- Its Fraction is the one it was made of. -/
theorem fraction_ltOfLf_add (n p : Int) (h0 : 0 ≤ p) (h1 : p < 2 ^ 12) : (ltOfLf n + p) % 2 ^ 12 = p := by
  simp only [ltOfLf, lfSec]
  omega

/-- The leaf count moves by the SPAN, and the Fraction stays (R7). -/
theorem ltAddSpan_spec (r d : Int) : lfOfLt (ltAddSpan r d) = lfOfLt r + d ∧ ltAddSpan r d % 2 ^ 12 = r % 2 ^ 12 ∧
    ltAddSpan r d / 2 ^ 12 % 2 ^ 36 = (lfOfLt r + d) % lfSec := by
  have h0 : 0 ≤ r % 2 ^ 12 := Int.emod_nonneg r (by decide)
  have h1 : r % 2 ^ 12 < 2 ^ 12 := Int.emod_lt_of_pos r (by decide)
  exact ⟨lfOfLt_ltOfLf_add _ _ h0 h1, fraction_ltOfLf_add _ _ h0 h1, leaves_ltOfLf_add _ _ h0 h1⟩

end Sys2Proof.Machine

namespace Sys2Proof
open Machine

/-- Settles O34: the sum of R7 is made of a whole leaf count and the old Fraction, so its fields are those of that count. -/
theorem spanArithmetic : Obligations.SpanArithmetic := by
  unfold Obligations.SpanArithmetic
  refine ⟨fun v h1 h2 => ⟨fromSigned_lt 64 v, toSigned_fromSigned_64 v h1 h2⟩, fun n _ => toSigned_64_bounds n, ?sum,
    fun n h0 h1 => ⟨ltValid_ltOfLf n h0 h1, ?back⟩, by decide, by decide⟩
  case sum =>
    intro r d
    obtain ⟨hn, hf, hl⟩ := ltAddSpan_spec r d
    refine ⟨hn, hf, ?_, ?_⟩
    · rw [hl]
      exact Int.emod_nonneg _ (by decide)
    · rw [hl]
      exact Int.emod_lt_of_pos _ (by decide)
  case back =>
    have h := lfOfLt_ltOfLf_add n 0 (by decide) (by decide)
    rwa [Int.add_zero] at h

end Sys2Proof
end


section
/-! A written LT whose Leaves field is a second or more (R6): what its value decodes to, and what a write command of it comes to. -/
namespace Sys2Proof.Machine

/-- An address that names an object names one of its fields (R29). -/
theorem fieldOf_of_lookup {s : State} {addr : Nat} {k : Key} {f : FieldDef} (h : s.lookup addr = some (k, f)) :
    Cat.fieldOf k = some f := by
  unfold State.lookup at h
  dsimp only at h
  split at h
  · cases h
  · split at h
    · cases h
    · split at h
      · cases h
      · obtain ⟨g, hg, he⟩ := Option.map_eq_some_iff.mp h
        cases he
        exact hg

/-- A call number whose field is RW has the access RW (Table 2.3, R435). -/
theorem accessOf_rw {k : Key} {f : FieldDef} (h : Cat.fieldOf k = some f) (ha : f.acc = .rw) : accessOf k = some .rw := by
  simp [accessOf, h, ha]

/-- R6: an LT whose Leaves field is a second or more is no value of its type, so it decodes as RANGE whatever the field's own range. -/
theorem decodeValue_lt_beyond {f : FieldDef} {v : Value} (hf : f.ty = .lt) (hc : v.code = tyCode .lt) (hl : v.len = 12)
    (hr : v.raw < 2 ^ 96) (hs : 52920000000 ≤ v.raw / 2 ^ 12 % 2 ^ 36) : (decodeValue f v).1 = .range := by
  have hm : v.raw % 256 ^ 12 = v.raw := Nat.mod_eq_of_lt (by omega)
  have hv : ltValid (v.raw : Int) = false := by
    have : ¬ ((v.raw : Int) / 2 ^ 12 % 2 ^ 36 < 52920000000) := by omega
    simp only [ltValid, lfSec, this, decide_false, Bool.and_false]
  simp only [decodeValue, hf, hc, hl, tyLen, hm, rawValue, typeHolds, hv, Bool.false_and]
  rfl

/-- A single item whose value is out of range gives the message no value (R36). -/
theorem decoded_range {s : State} {i : Item} {k : Key} {f : FieldDef} (hk : s.lookup i.addr = some (k, f))
    (hd : (decodeValue f i.val).1 = .range) : s.decoded [i] = [] := by
  simp [State.decoded, hk, hd]

/-- The status of an item on an RW object whose value is out of its type's range: RANGE, when no check before the value refuses (R53). -/
theorem writeItem_range {s : State} {force : Bool} {i : Item} {k : Key} {f : FieldDef} (hk : s.lookup i.addr = some (k, f))
    (ha : f.acc = .rw) (hx : k.idx ∉ [0x2010, 0x4100, 0x8400, 0x8810, 0x9300, 0xB000]) (hr : s.keyReady k = true)
    (hp : s.get Reg.PAIRING_STATE ≠ 2) (hd : (decodeValue f i.val).1 = .range) : s.writeItem s false force i = .range := by
  have hacc := accessOf_rw (fieldOf_of_lookup hk) ha
  simp only [List.mem_cons, List.not_mem_nil, or_false, not_or] at hx
  obtain ⟨h2, h4, h8, h81, h9, hB⟩ := hx
  have hm : ∀ v, s.writeMode s false k v = .ok := by
    intro v
    have hc : (k == Reg.AUDIO_COMPILE_COMPILE) = false := by
      rw [beq_eq_false_iff_ne]; exact fun e => h8 (e ▸ rfl)
    simp [State.writeMode, State.needsGated, statusIf, hc, h4, h81, h9, hB]
  have hn : s.refusesItems false = false := by simp [State.refusesItems, hp]
  have hw : s.writeDenied k = false := by simp [State.writeDenied, hacc, h2]
  have hl : s.writeLocked false k = false := by simp [State.writeLocked, hacc]
  simp [State.writeItem, hk, hm, hr, hn, hw, hl, hd, statusIf, firstBad]

/-- A register write command the value of which is out of its type's range answers RANGE and is not applied (R53). -/
theorem takeWrite_range {s : State} {i : Item} {k : Key} {f : FieldDef} (hv : s.alive = true) (h1 : s.ready 1 = true)
    (he : s.endsDue = s) (hl : s.lent = true) (hk : s.lookup i.addr = some (k, f)) (hd : (decodeValue f i.val).1 = .range)
    (hi : s.writeItem s false false i = .range) : s.takeWrite [i] = (s.send (.result .range)).closing s := by
  have hp : s.writePlan false [i] = [.range] := by
    simp [State.writePlan, decoded_range hk hd, State.withItems, State.each, forceOf, hi]
  have hr : s.writeRefused [i] [.range] = s := by
    simp [State.writeRefused, State.each, hk]
  simp [State.takeWrite, State.controllerWrite, State.request, State.reqWords, reqFails, State.reqRefused, State.finish, firstBad,
    hv, h1, he, hl, hp, hr]

end Sys2Proof.Machine

namespace Sys2Proof
open Machine

/-- Settles O19: such a value decodes as RANGE whatever the field, and a write command of it is refused with that status alone. -/
theorem ltBeyondSecondRefused : Obligations.LtBeyondSecondRefused := by
  unfold Obligations.LtBeyondSecondRefused
  refine ⟨fun f v => decodeValue_lt_beyond, ?_⟩
  intro s addr v k f hv h1 he hl hk ha hx hr hp hf hc hn hb hs
  have hd : (decodeValue f v).1 = .range := decodeValue_lt_beyond hf hc hn hb hs
  exact congrArg Host.Outcome.next (takeWrite_range hv h1 he hl hk hd (writeItem_range hk ha hx hr hp hd))

end Sys2Proof
end


section
/-! What a step comes to: every command's meaning goes on, none touches the queue, and a command of an element the part lacks is no
event. -/
namespace Sys2Proof.Machine

/-! ### Commands go on and leave the queue -/

/-- Every command has a next state: each meaning is the next state it names, on every path (log entry 1). -/
theorem exec_next (c : Instr) (s : State) : ∃ t, exec c s = .next t := by
  cases c <;> exact ⟨_, rfl⟩

/-- The queue is a steady property: no update of an operation writes it. -/
theorem pending_steady (q : List Instr) : Steady (fun s => s.pending = q) where
  put hs _ _ := hs
  setSlip hs _ := hs
  log hs _ _ := hs
  intervals hs _ _ := hs
  reset hs _ hp _ _ _ _ := hp.trans hs
  other hs hp _ _ _ _ := hp.trans hs

/-- No command touches the queue. -/
theorem exec_pending {c : Instr} {s t : State} (h : exec c s = .next t) : t.pending = s.pending :=
  exec_keeps (pending_steady s.pending) rfl c t h

theorem step_cons {c : Instr} {rest : List Instr} {s : State} (h : s.pending = c :: rest) :
    step s = exec c { s with pending := rest } := by
  simp [step, h]

theorem step_nil {s : State} (h : s.pending = []) : step s = .next (if s.alive then s.tickWith 0 else s) := by
  simp [step, h]

/-- No step stops. -/
theorem State.stepsOn_all (s : State) : s.stepsOn := by
  unfold State.stepsOn
  cases hq : s.pending with
  | nil => exact ⟨_, step_nil hq⟩
  | cons c rest =>
    rw [step_cons hq]
    exact exec_next c _

/-- A step takes exactly the front of the queue. -/
theorem step_pending {s t : State} (h : step s = .next t) : t.pending = s.pending.tail := by
  cases hq : s.pending with
  | nil =>
    rw [step_nil hq] at h
    cases h
    exact ite_keeps (P := fun u => u.pending = []) (tickWith_keeps (pending_steady []) hq 0) hq
  | cons c rest =>
    rw [step_cons hq] at h
    exact exec_pending h

/-! ### A queue worked off -/

/-- The state after a step, where the step goes on. -/
def State.stepped (s : State) : Option State :=
  match step s with
  | .next t => some t
  | _ => none

theorem State.stepped_some (s : State) : ∃ t, s.stepped = some t ∧ t.pending = s.pending.tail := by
  obtain ⟨t, ht⟩ := s.stepsOn_all
  exact ⟨t, by simp [State.stepped, ht], step_pending ht⟩

/-- As many steps as commands wait reach a state with an empty queue. -/
theorem steps_empty_queue (l : List Nat) (s : State) (h : s.pending.length = l.length) :
    ∃ t : State, l.foldl (fun (r : Option State) _ => r.bind State.stepped) (some s) = some t ∧ t.pending = [] := by
  induction l generalizing s with
  | nil => exact ⟨s, rfl, List.length_eq_zero_iff.mp h⟩
  | cons a l ih =>
    obtain ⟨u, hu, hq⟩ := s.stepped_some
    obtain ⟨t, ht, he⟩ := ih u (by simp [hq, h])
    exact ⟨t, by simpa [hu] using ht, he⟩

/-! ### Elements the part lacks -/

/-- An event at an element the part lacks is none (log entry 1). -/
theorem onElement_lacking {b : Bool} (h : b = false) (s t : State) : onElement b s t = .next s := by
  simp [onElement, h]

theorem onElement_beyond {n bound : Nat} (h : bound ≤ n) (s t : State) : onElement (decide (n < bound)) s t = .next s :=
  onElement_lacking (decide_eq_false (Nat.not_lt.mpr h)) s t

/-! ### What every command ends with -/

/-- Where no slip has fallen untold, nothing is told (R106, R112). -/
theorem State.tellFallen_none {u : State} (h : u.regs.all (fun p => p.1.idx != (Hid.slipFell 0).idx) = true) : u.tellFallen = u := by
  have hf : u.regs.filter (fun p => p.1.idx == (Hid.slipFell 0).idx) = [] := by
    simpa [List.filter_eq_nil_iff, List.all_eq_true] using h
  simp [State.tellFallen, State.each, hf]

/-- Where REF is not ready, the candidates stay (R74). -/
theorem State.refPresence_down {u : State} (h : u.up 2 = false) : u.refPresence = u := by
  simp [State.refPresence, h]

/-- Where no message was sent to the twin, there is none to order (R189). -/
theorem State.twinOrdered_none {u old : State}
    (h : (u.out.drop old.out.length).all (fun e => match e with | .twin _ _ _ _ => false | _ => true) = true) :
    u.twinOrdered old = u := by
  unfold State.twinOrdered
  dsimp only
  rw [if_pos]
  rw [List.all_eq_true] at h
  rw [List.filter_eq_nil_iff.mpr]
  · exact Nat.zero_le 1
  · intro e he
    have := h e he
    cases e <;> simp_all

end Sys2Proof.Machine

namespace Sys2Proof
open Machine

/-- Settles O6: the queue is a steady property, so every command keeps it, and a step runs its command on the queue's rest. -/
theorem commandsKeepQueue : Obligations.CommandsKeepQueue := by
  unfold Obligations.CommandsKeepQueue
  exact ⟨fun _ _ _ => exec_pending, fun _ _ => step_pending⟩

/-- Settles O8, by induction on the number of commands that wait: each step goes on and takes one of them. -/
theorem queueOfSoundCommandsRuns : Obligations.QueueOfSoundCommandsRuns := by
  unfold Obligations.QueueOfSoundCommandsRuns
  intro s
  exact steps_empty_queue (List.range s.pending.length) s List.length_range.symm

/-- Settles O1: the step's own case of a queue with a front. -/
theorem stepRunsFront : Obligations.StepRunsFront := by
  unfold Obligations.StepRunsFront
  intro c rest s h
  exact step_cons h

/-- Settles O7: every meaning names its next state, an element beyond the part's is no event, and the three parts of a command's end
each find nothing to do. -/
theorem wellFormedNeverStops : Obligations.WellFormedNeverStops := by
  unfold Obligations.WellFormedNeverStops
  refine ⟨exec_next, State.stepsOn_all, fun s => ?lacking, fun u old hf hr ht => ?closing⟩
  case lacking =>
    refine ⟨fun _ _ h => onElement_beyond h _ _, fun _ h => onElement_beyond h _ _, fun _ h => onElement_beyond h _ _,
      fun _ h => onElement_beyond h _ _, fun _ h => onElement_beyond h _ _, fun _ h => onElement_beyond h _ _,
      fun _ h => onElement_beyond h _ _, fun _ _ h => onElement_lacking (by simp [h]) _ _, fun _ _ h => onElement_beyond h _ _,
      fun r h => onElement_lacking ?_ _ _⟩
    rw [Bool.and_eq_false_iff, decide_eq_false_iff_not, decide_eq_false_iff_not]
    omega
  case closing =>
    rw [State.closing, State.tellFallen_none hf, State.refPresence_down hr, State.twinOrdered_none ht]

end Sys2Proof
end


section
/-! The datagram commands of the Catalogue protocol: what each comes to once its message is taken (R33 to R53), what a read leaves
(R31, R34), and what an answer changes (R44, R45). -/
namespace Sys2Proof.Machine

/-! ### Messages that are taken -/

/-- An event of a running device comes to its effect and what every command ends with. -/
theorem live_next {s t : State} {f : State → State} (ha : s.alive = true) (h : f s = t) :
    (.next (s.live f) : Out) = .next (t.closing s) := by
  rw [State.live_alive ha, h]

/-- So does one at an element that the part has. -/
theorem onElement_next {s t : State} {b : Bool} {f : State → State} (hb : b = true) (ha : s.alive = true) (h : f s = t) :
    onElement b s (s.live f) = .next (t.closing s) := by
  rw [onElement, if_pos hb, live_next ha h]

/-- A message that passes every check before its items comes to its execution. -/
theorem onElement_takes {s u : State} {m : Msg} {opcode : Nat} {payload : List Nat} {count : Option Nat} {key : SessKey}
    (h : s.takesMsg m opcode payload count key u) (f : State → SessKey → State) :
    onElement (portOk m) s (s.live (fun s => s.receive m opcode payload count f)) = .next ((f u key).closing s) :=
  onElement_next h.1.2.1 h.1.1 (State.receive_takes h f)

/-- A PING with a session or a tag is a request like any other (R51). -/
theorem State.pingIn_session {m : Msg} (h : ¬(m.hdr.session = 0 ∧ m.tag = 0)) (s : State) :
    s.pingIn m = s.receive m 10 [] none (fun t k => t.pingMsg m k) := if_neg h

/-! ### What an answer reads -/

/-- The registers of `t` are those of `s` but for object 1400, the session's. -/
def State.SessionOnly (s t : State) : Prop := ∀ k : Key, (k.idx == 0x1400) = false → t.get k = s.get k

theorem refl_sessionOnly (s : State) : s.SessionOnly s := fun _ _ => rfl

theorem put_sessionOnly {s t : State} (h : s.SessionOnly t) (k : Key) (v : Int) (hk : (k.idx == 0x1400) = true) :
    s.SessionOnly (t.put k v) := by
  intro l hl
  have hkl : k ≠ l := fun e => by simp [e, hl] at hk
  rw [State.get_put_ne t v hkl, h l hl]

/-- The ports an answer leaves on do not hang on the session's registers (R45). -/
theorem State.SessionOnly.ctlPorts {s t : State} (h : s.SessionOnly t) : t.ctlPorts = s.ctlPorts := by
  have hr : t.ready = s.ready := funext fun b => by rw [State.ready, State.getN, h Reg.READY rfl]; rfl
  rw [State.ctlPorts, hr]; rfl

/-- Nor does what stands before it on each (R32). -/
theorem State.SessionOnly.udpHeads {s t : State} (h : s.SessionOnly t) (ports : List Nat) : t.udpHeads ports = s.udpHeads ports := by
  simp only [State.udpHeads, State.frameHead, State.getN, fun p => h (Reg.CTL_PORT_PORT_MAC p) rfl,
    fun p => h (Reg.CTL_PORT_PORT_ADDRESS p) rfl, fun p => h (Reg.CTL_PORT_UDP_PORT p) rfl,
    fun p => h (Reg.MAC_UNICAST_ADDRESS0 p) rfl, fun p => h (Reg.MAC_VLAN p) rfl]

/-! ### Answers (R44, R45) -/

/-- An answer on some ports is sent and changes nothing else. -/
theorem State.answerOn_eq (s : State) (ports : List Nat) (key : Option SessKey) (r : Resp) :
    s.answerOn ports key r =
      { s with out := s.out ++ (if ports = [] then [] else [.response (s.udpHeads ports) key r (r.datagram key)]) } := by
  unfold State.answerOn
  split
  · simp
  · rfl

/-- A response is sent on the control ports that are up. -/
theorem State.respond_out (u : State) (r : Resp) (key : Option SessKey) :
    (u.respond r key).out = u.out ++ (if u.ctlPorts = [] then [] else [.response (u.udpHeads u.ctlPorts) key r (r.datagram key)]) := by
  rw [State.respond, State.answerOn_eq]
  rfl

@[simp] theorem State.respond_regs (u : State) (r : Resp) (key : Option SessKey) : (u.respond r key).regs = u.regs := by
  rw [State.respond, State.answerOn_eq]

@[simp] theorem State.respond_slips (u : State) (r : Resp) (key : Option SessKey) : (u.respond r key).slips = u.slips := by
  rw [State.respond, State.answerOn_eq]

/-- The record of a request with its response noted, where it has none yet (R44). -/
def SeqRec.answered (r : Resp) (key : Option SessKey) (q : SeqRec) : SeqRec :=
  if q.seq = r.sequence ∧ q.resp.isNone = true then { q with resp := some (key, r) } else q

/-- A session with a response to one of its requests noted (R44). -/
def Session.answered (r : Resp) (key : Option SessKey) (x : Session) : Session :=
  if x.id = r.session then { x with seen := x.seen.map (SeqRec.answered r key) } else x

theorem State.respond_session (u : State) (r : Resp) (key : Option SessKey) :
    (u.respond r key).session = u.session.map (Session.answered r key) := by
  rw [State.respond, State.answerOn_eq]
  rfl

/-- A response of the open session is kept with its request for a retransmission (R44). -/
theorem State.respond_kept {u : State} {r : Resp} {x : Session} {q : SeqRec} (key : Option SessKey) (hx : u.session = some x)
    (hid : x.id = r.session) (hq : q ∈ x.seen) (hs : q.seq = r.sequence) (hr : q.resp = none) :
    ∃ y, (u.respond r key).session = some y ∧ { q with resp := some (key, r) } ∈ y.seen := by
  refine ⟨x.answered r key, by rw [State.respond_session, hx, Option.map_some], ?_⟩
  have ha : SeqRec.answered r key q = { q with resp := some (key, r) } := if_pos ⟨hs, by simp [hr]⟩
  rw [Session.answered, if_pos hid, ← ha]
  exact List.mem_map_of_mem hq

/-! ### Reading (R31, R34) -/

/-- RC is the access of the field and of its call number alike (Table 2.3, R435). -/
theorem accessOf_rc_iff {k : Key} {f : FieldDef} (h : Cat.fieldOf k = some f) : accessOf k = some .rc ↔ f.acc = .rc := by
  rw [accessOf, h, Option.map_some, Option.some_inj]
  split
  · next hc => simp [hc.2.2]
  · rfl

theorem State.readTarget_noObject {s : State} {addr : Nat} (h : s.lookup addr = none) : s.readTarget addr = (.noObject, none) := by
  simp [State.readTarget, h]

theorem State.readTarget_notReady {s : State} {addr : Nat} {k : Key} {f : FieldDef} (h : s.lookup addr = some (k, f))
    (hr : s.keyReady k = false) : s.readTarget addr = (.notReady, none) := by
  simp [State.readTarget, h, hr]

theorem State.readTarget_writeOnly {s : State} {addr : Nat} {k : Key} {f : FieldDef} (h : s.lookup addr = some (k, f))
    (hr : s.keyReady k = true) (ha : f.acc = .wo ∨ f.acc = .wos) : s.readTarget addr = (.writeOnly, none) := by
  simp [State.readTarget, h, hr, ha]

theorem State.readTarget_ok {s : State} {addr : Nat} {k : Key} {f : FieldDef} (h : s.lookup addr = some (k, f))
    (hr : s.keyReady k = true) (h1 : f.acc ≠ .wo) (h2 : f.acc ≠ .wos) : s.readTarget addr = (.ok, some (k, f)) := by
  simp [State.readTarget, h, hr, h1, h2]

/-- A read that names no readable object answers its status with an empty value, and has no effect (R34). -/
theorem State.readOne_refused {s : State} {addr : Nat} {st : Status} (h : s.readTarget addr = (st, none)) :
    s.readOne addr = (s, ⟨st, 0, 0, 0⟩) := by
  simp [State.readOne, h]

/-- A read of a readable object answers its value as shown (R34). -/
theorem State.readOne_ok {s : State} {addr : Nat} {k : Key} {f : FieldDef} (h : s.readTarget addr = (.ok, some (k, f))) :
    s.readOne addr = (s.afterRead k, ⟨.ok, (encodeValue f.ty (s.view k)).code, (encodeValue f.ty (s.view k)).len,
      (encodeValue f.ty (s.view k)).raw⟩) := by
  simp [State.readOne, h]

/-- A read changes the counter of free values alone, and clears an RC object (R31). -/
theorem State.afterRead_eq (s : State) (k : Key) :
    s.afterRead k = { s with
      free := (if k = Reg.TAMPER_TAMPER_N ∨ k = Reg.TAMPER_VBAT then s.drawn else s).free
      regs := if accessOf k = some .rc then storePut s.regs k 0 else s.regs } := by
  unfold State.afterRead
  dsimp only
  split <;> split <;> rfl

/-- After a read an RC object holds 0, and every other register its value (R31). -/
theorem State.get_afterRead (s : State) (k l : Key) :
    (s.afterRead k).get l = if k = l ∧ accessOf k = some .rc then 0 else s.get l := by
  by_cases h : accessOf k = some .rc
  · simpa [State.afterRead_eq, State.get, State.put, h] using s.get_put k l 0
  · simp [State.afterRead_eq, State.get, h]

@[simp] theorem State.afterRead_slips (s : State) (k : Key) : (s.afterRead k).slips = s.slips := by rw [State.afterRead_eq]
@[simp] theorem State.afterRead_session (s : State) (k : Key) : (s.afterRead k).session = s.session := by rw [State.afterRead_eq]
@[simp] theorem State.afterRead_out (s : State) (k : Key) : (s.afterRead k).out = s.out := by rw [State.afterRead_eq]

/-- A READ whose results fit the payload answers them (R33, R34). -/
theorem State.readMsg_fits {s : State} {addrs : List Nat} (h : s.readBytes addrs ≤ s.payloadLimit) (m : Msg) (key : SessKey) :
    s.readMsg m addrs key = (s.readAll addrs).1.respond
      ⟨1, firstBad ((s.readAll addrs).2.map (fun (x : ReadResult) => x.status)), false, m.hdr.session, m.hdr.sequence, 0, 0,
        addrs.length, .reads (s.readAll addrs).2⟩ (some key) :=
  if_neg (Nat.not_lt.mpr h)

/-- A BLOCK_READ of the live object answers its bytes (R48). -/
theorem State.blockRead_live {s : State} {m : Msg} {addr offset len n : Nat} {k : Key} {f : FieldDef} (ht : m.hdr.transfer = 0)
    (hr : s.readTarget addr = (.ok, some (k, f))) (hn : octetsLen f.ty = some n) (ho : offset + len ≤ n)
    (hl : 16 + len ≤ s.payloadLimit) (key : SessKey) :
    s.blockRead m addr offset len key = (s.afterRead k).respond (blockResp m 7 .ok (decide (offset + len < n)) addr offset len
      (cutBytes (encodeValue f.ty (s.view k)).raw n offset len)) (some key) := by
  simp only [State.blockRead, hr, hn]
  rw [if_neg (Nat.not_lt.mpr ho), if_neg (Nat.not_lt.mpr hl), if_pos ht]

/-! ### A PING with no session (R51) -/

/-- A PING of session 0 with a zero tag is answered on the ports below their limit, and the ports answered are noted. -/
theorem State.pingPlain_answers {s : State} {m : Msg} (hh : s.hears m = true) (hv : m.hdr.version = 1) (hl : m.hdr.length = 0)
    (hs : s.headerStatus m 10 none = .ok) :
    s.pingPlain m =
      (let ports := s.ctlPorts.filter (fun p => decide (inSecond s.pingAnswers p s.ticks < 100))
       ({ s with pingAnswers := s.pingAnswers.filter (fun (p : Nat × Nat) => decide (s.ticks < p.2 + 1000000000)) ++
          ports.map (fun (p : Nat) => (p, s.ticks)) } : State).answerOn ports none
        ⟨10, .ok, false, 0, m.hdr.sequence, 0, 0, 1, .ping s.nowLT.toNat (s.getN Reg.ROLE) 0 0⟩) := by
  simp [State.pingPlain, hh, hv, hl, hs]

/-! ### Messages that are refused (R33, R34, R38) -/

/-- The header of an opcode that Table 2.5 does not define, sound otherwise, answers TYPE (R34, R53). -/
theorem State.headerStatus_undefined {s : State} {m : Msg} {op : Nat} (ho : op = 0 ∨ 10 < op) (hb : headerBad m op = false)
    (hl : m.hdr.length ≤ s.payloadLimit) : s.headerStatus m op none = .type := by
  have hn : needsLoan op = false := by
    simp only [needsLoan, List.contains_eq_mem, decide_eq_false_iff_not, List.mem_cons, List.not_mem_nil, or_false]
    omega
  have hd : (decide (1 ≤ op) && decide (op ≤ 10)) = false := by
    rw [Bool.and_eq_false_iff, decide_eq_false_iff_not, decide_eq_false_iff_not]
    omega
  simp [State.headerStatus, firstBad, statusIf, hn, hb, hd, Nat.not_lt.mpr hl]

/-- A request while no session is known, past its header, is answered AUTH_FAIL (R38, R41). -/
theorem State.receive_unknown {s : State} {m : Msg} {opcode : Nat} {payload : List Nat} (hh : s.hears m = true)
    (hv : m.hdr.version = 1) (hl : m.hdr.length = payload.length) (he : s.endsDue = s) (hs : s.session = none)
    (ho : s.oldSession = none) (count : Option Nat) (f : State → SessKey → State) :
    s.receive m opcode payload count f = s.authFail m opcode true := by
  simp [State.receive, State.otherSession, hh, hv, hl, he, hs, ho]

theorem counterMax_authFails : counterMax Reg.SESSION_AUTH_FAILS = 2 ^ 64 - 1 := by decide

/-- An AUTH_FAIL answer that counts adds one to the count (R38). -/
theorem State.get_authFail_counted (s : State) (m : Msg) (opcode : Nat) :
    (s.authFail m opcode true).get Reg.SESSION_AUTH_FAILS = min (s.get Reg.SESSION_AUTH_FAILS + 1) (2 ^ 64 - 1) := by
  rw [State.authFail, State.answerOn_eq, ← counterMax_authFails]
  exact (s.get_bump Reg.SESSION_AUTH_FAILS Reg.SESSION_AUTH_FAILS).trans (if_pos rfl)

/-- An AUTH_FAIL answer leaves with a zero tag, on the ports below their limit (R38, R439). -/
theorem State.authFail_out (s : State) (m : Msg) (opcode : Nat) :
    (s.authFail m opcode true).out =
      (let ports := s.ctlPorts.filter (fun p => decide (inSecond s.authAnswers p s.ticks < 10))
       s.out ++ (if ports = [] then [] else
        [.response (s.udpHeads ports) none (refusal m opcode .authFail) ((refusal m opcode .authFail).datagram none)])) := by
  have hs : s.SessionOnly (s.bump Reg.SESSION_AUTH_FAILS) := put_sessionOnly (refl_sessionOnly s) _ _ rfl
  rw [State.authFail, State.answerOn_eq]
  dsimp only
  rw [← hs.ctlPorts, ← hs.udpHeads]
  rfl

end Sys2Proof.Machine

namespace Sys2Proof
open Machine

/-- Settles O17: each message is taken, then answered; an answer is sent and noted in its session, and nothing else. -/
theorem readsAndPings : Obligations.ReadsAndPings := by
  unfold Obligations.ReadsAndPings
  refine ⟨fun s u m key => ⟨fun addrs h hf => ?read, fun h hp => ?ping, fun addr offset len k f n h ht hr hn ho hl => ?block⟩,
    fun u r key => ⟨u.respond_regs r key, u.respond_slips r key, u.respond_out r key,
      fun x q hx hid hq hs hr => State.respond_kept key hx hid hq hs hr⟩⟩
  case read => exact (onElement_takes h _).trans (by rw [State.readMsg_fits hf])
  case ping =>
    have hf : (fun t : State => t.pingIn m) = fun t => t.receive m 10 [] none (fun t k => t.pingMsg m k) :=
      funext (State.pingIn_session hp)
    change onElement (portOk m) s (s.live (fun t => t.pingIn m)) = _
    rw [hf]
    exact onElement_takes h _
  case block => exact (onElement_takes h _).trans (by rw [State.blockRead_live ht hr hn ho hl])

/-- Settles O18: by the status of the object that the address names, and what a read of an RC object clears. -/
theorem registerRead : Obligations.RegisterRead := by
  unfold Obligations.RegisterRead
  intro s addr
  refine ⟨fun h => State.readOne_refused (State.readTarget_noObject h), fun k f h =>
    ⟨fun hr => State.readOne_refused (State.readTarget_notReady h hr),
      fun hr ha => State.readOne_refused (State.readTarget_writeOnly h hr ha), fun hr h1 h2 => ?_⟩⟩
  rw [State.readOne_ok (State.readTarget_ok h hr h1 h2)]
  have hc := accessOf_rc_iff (fieldOf_of_lookup h)
  refine ⟨rfl, ?_, fun l hl => ?_, s.afterRead_slips k, s.afterRead_session k, s.afterRead_out k⟩
  · simp [State.get_afterRead, hc]
  · rw [State.get_afterRead, if_neg (fun e => hl e.1.symm)]

/-- Settles O20: such a PING passes its header, and the answer is sent on the ports below their limit. -/
theorem sessionlessPing : Obligations.SessionlessPing := by
  unfold Obligations.SessionlessPing
  intro s m ha hp hh hv hl hsess htag hs ports r asked t
  have hi : s.pingIn m = t := (if_pos ⟨hsess, htag⟩).trans (State.pingPlain_answers hh hv hl hs)
  have ht : t = { s with
      pingAnswers := asked
      out := s.out ++ (if ports = [] then [] else [.response (s.udpHeads ports) none r (r.datagram none)]) } :=
    State.answerOn_eq _ ports none r
  refine ⟨?_, by rw [ht], by rw [ht], by rw [ht], by rw [ht], fun p hm => ?_⟩
  · rintro c (rfl | rfl) <;> exact onElement_next hp ha hi
  · rw [ht]
    exact List.mem_append_right _ (List.mem_map_of_mem hm)

/-- Settles O26: each message fails one check, and its answer is the one that check gives. -/
theorem badMessagesRefused : Obligations.BadMessagesRefused := by
  unfold Obligations.BadMessagesRefused
  refine ⟨fun s port ha hp hl => ?malformed, fun s u m op payload key h ho hb hl => ?undefined,
    fun s m ha hp hh hv hl he hs hold htag => ⟨?unknown, State.get_authFail_counted s m 10, State.authFail_out s m 10⟩⟩
  case malformed =>
    exact onElement_next (decide_eq_true hp) ha (if_pos hl)
  case undefined =>
    have hn : ¬(1 ≤ op ∧ op ≤ 10) := by omega
    refine onElement_next h.2.1 h.1 ?_
    rw [if_neg hn, State.receive_hears h, State.headerStatus_undefined ho hb hl]
    rfl
  case unknown =>
    have hx : ¬(m.hdr.session = 0 ∧ m.tag = 0) := fun h => htag.elim (· h.1) (· h.2)
    refine onElement_next hp ha ?_
    rw [State.pingIn_session hx, State.receive_unknown (payload := []) hh hv hl he hs hold]

end Sys2Proof
end


section
/-! Requests: one whose checks pass with no twin to ask is applied and answered (R35, R36), one that fails answers its statuses, and
a register write command is the lent controller's request of its items (R31). -/
namespace Sys2Proof.Machine

/-! ### Requests that pass and requests that fail -/

/-- Where every word is OK no request fails (R36). -/
theorem reqFails_items {r : MirrorReq} {sts : List Status} (hr : ∀ l, r ≠ .cancel l) (h : ∀ st ∈ sts, st = Status.ok) :
    reqFails r sts = false := by
  have ha : sts.any (fun st => st != .ok) = false := by simpa using h
  cases r with
  | cancel l => exact absurd rfl (hr l)
  | write | stage | arm | block => exact ha

/-- A CANCEL one of whose words is OK does not fail (R111). -/
theorem reqFails_cancel {l : List Nat} {sts : List Status} (h : ∃ st ∈ sts, st = Status.ok) : reqFails (.cancel l) sts = false := by
  simpa [reqFails] using h

/-- With no twin to ask, a request that passed is applied and answered (R35). -/
theorem State.commitReq_alone {s : State} (hp : (s.edge && s.paired) = false) (r : MirrorReq) (sts : List Status) (back : Back) :
    s.commitReq r sts back = (s.reqApply false s.nowLT.toNat r).finish back sts := by
  simp [State.commitReq, hp]

/-- With no twin to ask, a request whose checks pass is applied and answered (R35, R36). -/
theorem State.request_passes {s : State} {r : MirrorReq} (hp : (s.edge && s.paired) = false)
    (h : reqFails r (s.reqWords false s.nowLT.toNat r) = false) (back : Back) :
    s.request r back = (s.reqApply false s.nowLT.toNat r).finish back (s.reqWords false s.nowLT.toNat r) := by
  rw [State.request, if_neg (by simp [h]), State.commitReq_alone hp]

/-- A WRITE all of whose items pass applies them (R36). -/
theorem State.request_write {s : State} {items : List Item} (hp : (s.edge && s.paired) = false)
    (h : ∀ st ∈ s.writePlan false items, st = Status.ok) (back : Back) :
    s.request (.write items) back = (s.writeApply false items).finish back (s.writePlan false items) :=
  State.request_passes hp (reqFails_items (r := .write items) (by simp) h) back

/-- A STAGE all of whose items pass stages them (R93). -/
theorem State.request_stage {s : State} {n : Nat} {items : List Item} (hp : (s.edge && s.paired) = false) (hi : items ≠ [])
    (h : ∀ st ∈ s.stagePlan false n items, st = Status.ok) (back : Back) :
    s.request (.stage n items) back = (s.stageApply n (s.stageable items)).finish back (s.stagePlan false n items) := by
  have hw : s.reqWords false s.nowLT.toNat (.stage n items) = s.stagePlan false n items := if_neg hi
  rw [← hw] at h ⊢
  exact State.request_passes hp (reqFails_items (by simp) h) back

/-- A CANCEL one of whose slips may be cancelled cancels those that may (R111). -/
theorem State.request_cancel {s : State} {slips : List Nat} (hp : (s.edge && s.paired) = false)
    (h : ∃ st ∈ s.cancelPlan false slips, st = Status.ok) (back : Back) :
    s.request (.cancel slips) back = (s.cancelApply false slips).finish back (s.cancelPlan false slips) :=
  State.request_passes hp (reqFails_cancel h) back

/-- A request that fails a check answers its statuses, and leaves what a refusal leaves (R36). -/
theorem State.request_fails {s : State} {r : MirrorReq} (h : reqFails r (s.reqWords false s.nowLT.toNat r) = true) (back : Back) :
    s.request r back =
      (s.reqRefused r (s.reqWords false s.nowLT.toNat r)).finish back (s.reqWords false s.nowLT.toNat r) :=
  if_pos h

/-- With no twin to ask, an ARM that passes its checks arms its slip with the record they made (R95, R112). -/
theorem State.armRequest_passes {s : State} {n : Nat} {items : List Item} (hp : (s.edge && s.paired) = false)
    (h : (s.armPlan none false n items s.nowLT.toNat).1 = .ok) (back : Back) :
    s.armRequest n items back =
      (s.reqApply false s.nowLT.toNat (.arm n (armItems items (s.armPlan none false n items s.nowLT.toNat).2)
        (s.armPlan none false n items s.nowLT.toNat).2.given)).finish back [.ok] := by
  rw [State.armRequest, if_neg (not_not_intro h), State.commitReq_alone hp]

/-! ### Register write commands -/

/-- While the Catalogue engine is not ready a write command answers NOT_READY (R34, R53). -/
theorem State.takeWrite_notReady {s : State} (ha : s.alive = true) (h1 : s.ready 1 = false) (items : List Item) :
    s.takeWrite items = (s.send (.result .notReady)).closing s := by
  simp [State.takeWrite, State.controllerWrite, ha, h1]

/-- An unlent device answers NOT_LENT (R41, R301). -/
theorem State.takeWrite_notLent {s : State} (ha : s.alive = true) (h1 : s.ready 1 = true) (he : s.endsDue = s) (hl : s.lent = false)
    (items : List Item) : s.takeWrite items = (s.send (.result .notLent)).closing s := by
  simp [State.takeWrite, State.controllerWrite, ha, h1, he, hl]

/-- A write command of a lent device is a request of its items (R31). -/
theorem State.takeWrite_lent {s : State} (ha : s.alive = true) (h1 : s.ready 1 = true) (he : s.endsDue = s) (hl : s.lent = true)
    (items : List Item) : s.takeWrite items = (s.request (.write items) .command).closing s := by
  simp [State.takeWrite, State.controllerWrite, ha, h1, he, hl]

/-- A write command that is taken applies its items and answers OK (R31, R36). -/
theorem State.takeWrite_takes {s : State} {items : List Item} (h : s.takesWrite items) :
    s.takeWrite items = ((s.writeApply false items).send (.result .ok)).closing s := by
  obtain ⟨ha, h1, hl, he, hp, hok⟩ := h
  rw [State.takeWrite_lent ha h1 he hl, State.request_write hp hok, State.finish, firstBad_ok hok]

/-- A refused WRITE of one item leaves every register, unless a step or an admission was refused (R36, R63, R277). -/
theorem State.writeRefused_plain {s : State} {st : Status} (h1 : st ≠ .stepRefused) (h2 : st ≠ .capacity) (i : Item) :
    s.writeRefused [i] [st] = s := by
  simp only [State.writeRefused, State.each, List.zip_cons_cons, List.zip_nil_left, List.foldl_cons, List.foldl_nil, h1, h2, if_false,
    false_and]
  split <;> rfl

/-- A write command of one item that fails its checks answers that item's status and leaves every register (R36, R53). -/
theorem State.takeWrite_fails {s : State} {i : Item} {st : Status} (ha : s.alive = true) (h1 : s.ready 1 = true) (he : s.endsDue = s)
    (hl : s.lent = true) (hw : s.writePlan false [i] = [st]) (h : st ≠ .ok) (hs : st ≠ .stepRefused) (hc : st ≠ .capacity) :
    s.takeWrite [i] = (s.send (.result st)).closing s := by
  have hf : reqFails (.write [i]) (s.reqWords false s.nowLT.toNat (.write [i])) = true := by
    simp [reqFails, State.reqWords, hw, h]
  rw [State.takeWrite_lent ha h1 he hl, State.request_fails hf]
  simp [State.reqWords, State.reqRefused, hw, State.writeRefused_plain hs hc, State.finish, firstBad, h]

/-! ### What a plain object's write comes to -/

/-- A WRITE of one value that is no part of a step or a flow takes effect as its item does (R36, R63, R212). -/
theorem State.applyValues_one {s : State} {k : Key} {v : Int} (hs : k.idx ≠ 0x2020) (hf : k.idx ≠ 0x4100) :
    s.applyValues [(k, v)] = s.applyItem false k v := by
  have hforce : (k == Reg.TIME_STEP_FORCE) = false := beq_eq_false_iff_ne.mpr fun e => hs (e ▸ rfl)
  simp [State.applyValues, State.each, forceOf, flowsTouched, hforce, hs, hf]

/-- Where the items of a WRITE spell one such value, it takes effect as that item does. -/
theorem State.writeApply_one {s : State} {items : List Item} {k : Key} {v : Int} (hd : s.decoded items = [(k, v)])
    (hs : k.idx ≠ 0x2020) (hf : k.idx ≠ 0x4100) : s.writeApply false items = s.applyItem false k v := by
  rw [State.writeApply, hd, ← State.applyValues_one hs hf]
  simp

/-- A write of one of these objects has no effect beside its value (R36). -/
theorem State.applyItem_plain {k : Key} (h : k.idx ∈ [0x2021, 0x2110, 0x5040, 0x6010, 0xA200]) (u : State) (v : Int) :
    u.applyItem false k v = u.put k v := by
  have hne : ∀ l : Key, l.idx ∉ [0x2021, 0x2110, 0x5040, 0x6010, 0xA200] → k ≠ l := fun l hl e => hl (e ▸ h)
  have h1 := hne Reg.STANDING_COMMIT_COMMIT (by decide)
  have h2 := hne Reg.DISCIPLINE_OWNER (by decide)
  have h3 := hne (Reg.MAC_VLAN k.el) (by simp)
  have h4 := hne Reg.UPDATE_BOOT_IDLE (by decide)
  have h5 := hne Reg.HEALTH_CONFIRM_CONFIRM (by decide)
  have h6 := hne Reg.HEALTH_CONFIRM_REJECT (by decide)
  have h7 := hne Reg.MARGIN_CONTROL_THRESHOLD (by decide)
  simp only [List.mem_cons, List.not_mem_nil, or_false] at h
  rcases h with h | h | h | h | h <;> simp [State.applyItem, h, h1, h2, h3, h4, h5, h6, h7]

/-! ### Subscriptions, blocks and ends -/

/-- SUBSCRIBE sets what its items give, answers their words, and notifies ON_CHANGE objects at once (R49). -/
theorem State.subscribe_open {s : State} {x : Session} (hx : s.session = some x) (m : Msg) (items : List SubItem) (key : SessKey) :
    s.subscribe m items key = ((({ s with session := some { x with subs := (s.subAll x.subs items).2.1 } }).put
      Reg.SESSION_SUBSCRIPTIONS (s.subAll x.subs items).2.1.length).respond (wordsResp m 6 (s.subAll x.subs items).1)
        (some key)).notify (s.subAll x.subs items).2.2 := by
  simp only [State.subscribe, hx]

/-- Where no transfer is idle, none is discarded (R47). -/
theorem State.xfersIdle_none {s : State} {x : Session} {past : Xfer → Bool} (hx : s.session = some x)
    (h : ∀ t ∈ x.xfers, past t = false) : s.xfersIdle past = s := by
  have hkeep : x.xfers.filter (fun t => !past t) = x.xfers := List.filter_eq_self.mpr fun t ht => by simp [h t ht]
  have hgone : x.xfers.filter past = [] := List.filter_eq_nil_iff.mpr fun t ht => by simp [h t ht]
  simp only [State.xfersIdle, hx, hkeep, hgone, List.map_nil, List.append_nil]
  rw [← hx]

/-- The first segment of a transfer, short of the whole object, is held and answered OK (R47). -/
theorem State.blockWrite_first {s : State} {m : Msg} {addr offset len n : Nat} {x : Session} {k : Key} (hx : s.session = some x)
    (hi : ∀ t ∈ x.xfers, s.xferOver t = false) (hs : s.segmentStatus x m addr offset len = (Status.ok, some (k, n)))
    (hf : x.xfers.find? (fun (t : Xfer) => t.id == m.hdr.transfer) = none) (hl : len < n) (data : Nat) (key : SessKey) :
    s.blockWrite m addr offset len data key = ({ s with session := some { x with
      xfers := x.xfers.filter (fun (t : Xfer) => t.id != m.hdr.transfer) ++ [(⟨m.hdr.transfer, k, n, [(offset, len, data)],
        if bitOf m.hdr.flags 5 then none else some (offset + len), s.tickLf⟩ : Xfer)] } }).respond
          (blockResp m 8 .ok false addr offset len 0) (some key) := by
  simp [State.blockWrite, State.xfersIdle_none hx hi, hx, hs, hf, hl]

end Sys2Proof.Machine

namespace Sys2Proof
open Machine

/-- Settles O21: each request is taken, its checks pass, and with no twin to ask it is applied and answered. -/
theorem requestsTakeEffect : Obligations.RequestsTakeEffect := by
  unfold Obligations.RequestsTakeEffect
  intro s u m key hp
  refine ⟨fun items h hok => ?write, fun n items hi h hok => ?stage, fun n items h hok => ?arm, fun slips h hok => ?cancel⟩
  case write => exact (onElement_takes h _).trans (by rw [State.request_write hp hok])
  case stage => exact (onElement_takes h _).trans (by rw [State.request_stage hp hi hok, State.stageApply])
  case arm => exact (onElement_takes h _).trans (by rw [State.armRequest_passes hp hok])
  case cancel => exact (onElement_takes h _).trans (by rw [State.request_cancel hp hok])

/-- Settles O23: a SUBSCRIBE and a segment are executed once taken, and each end of a time is its own operation. -/
theorem subscriptionsAndBlocks : Obligations.SubscriptionsAndBlocks := by
  unfold Obligations.SubscriptionsAndBlocks
  refine ⟨fun s u m key x hx => ⟨fun subs h => ?subscribe, fun addr offset len data k n h hi hs hf hl => ?segment⟩,
    fun s x id ha hx => ⟨?transfer, ?snapshot, fun hl ht => ?unlent⟩, fun s o ha ho ht => ?oldKey, fun s n e ha hg ht => ?grace⟩
  case subscribe => exact (onElement_takes h _).trans (by rw [State.subscribe_open hx])
  case segment => exact (onElement_takes h _).trans (by rw [State.blockWrite_first hx hi hs hf hl])
  case transfer =>
    refine live_next ha ?_
    simp only [State.xferIdle, State.xfersIdle, hx]
    rfl
  case snapshot =>
    refine live_next ha ?_
    simp only [State.snapExpiry, hx]
  case unlent =>
    refine live_next ha ?_
    simp only [State.unlentClose, State.closeSession, hx]
    rw [if_pos ⟨hl, ht⟩]
  case oldKey =>
    refine live_next ha ?_
    simp only [State.oldKeyEnd, ho]
    rw [if_pos ht]
  case grace =>
    refine live_next ha ?_
    simp only [State.graceEnd, hg]
    rw [if_pos ht]

/-- Settles O27: a write command that is taken applies its one item, which for a plain object puts the value. -/
theorem plainRegisterWrite : Obligations.PlainRegisterWrite := by
  unfold Obligations.PlainRegisterWrite
  refine ⟨fun s addr v h => congrArg Host.Outcome.next (State.takeWrite_takes h), fun s addr v k x h hd hs hf hi => ?_,
    fun u k x h => State.applyItem_plain h u x⟩
  have hw : s.writeApply false [⟨addr, v⟩] = s.put k x := (State.writeApply_one hd hs hf).trans (hi s)
  refine ⟨(s.put k x).send (.result .ok), ?_, rfl, s.get_put_same k x, fun l hl => s.get_put_ne x hl.symm, rfl, rfl, rfl, rfl⟩
  exact congrArg Host.Outcome.next ((State.takeWrite_takes h).trans (by rw [hw]))

/-- Settles O28: each check that fails ends the command with its status alone. -/
theorem refusedWriteChangesNothing : Obligations.RefusedWriteChangesNothing := by
  unfold Obligations.RefusedWriteChangesNothing
  intro s addr v ha
  exact ⟨fun h1 => congrArg Host.Outcome.next (State.takeWrite_notReady ha h1 _),
    fun h1 he hl => congrArg Host.Outcome.next (State.takeWrite_notLent ha h1 he hl _),
    fun st h1 he hl hw h hs hc => congrArg Host.Outcome.next (State.takeWrite_fails ha h1 he hl hw h hs hc)⟩

end Sys2Proof
end


section
/-! Messages to the twin (R189): what sending one can change. On its way a message meets the injection entries (R402), so a sending writes
their registers, the units they hold, the sequence and the count of messages, and what has left the device; nothing else. -/
namespace Sys2Proof.Machine

/-- The registers that sending to the twin can write: those of the injection entries, of the twin link's counts, and the model's own. -/
def sendWrites (k : Key) : Bool := k.idx == 0xE000 || k == Reg.TWIN_LINK_MESSAGES_TX || decide (0x10000 ≤ k.idx)

/-- `t` is `s` after messages to the twin: the registers of `sendWrites`, the units held and what has left apart, nothing has changed. -/
def State.Told (s t : State) : Prop :=
  (∃ r o i, t = { s with regs := r, out := o, injHeld := i }) ∧ ∀ k, sendWrites k = false → t.get k = s.get k

theorem refl_told (s : State) : s.Told s := ⟨⟨s.regs, s.out, s.injHeld, rfl⟩, fun _ _ => rfl⟩

section
variable {s t : State}

/-- Sending writes one of its registers. -/
theorem put_told (h : s.Told t) (k : Key) (v : Int) (hk : sendWrites k = true) : s.Told (t.put k v) := by
  obtain ⟨⟨r, o, i, rfl⟩, hg⟩ := h
  refine ⟨⟨_, o, i, rfl⟩, fun l hl => ?_⟩
  have hkl : k ≠ l := fun e => by rw [e, hl] at hk; cases hk
  rw [State.get_put_ne _ v hkl, hg l hl]

theorem bump_told (h : s.Told t) (k : Key) (hk : sendWrites k = true) : s.Told (t.bump k) := put_told h k _ hk

theorem send_told (h : s.Told t) (e : Emit) : s.Told (t.send e) := by
  obtain ⟨⟨r, o, i, rfl⟩, hg⟩ := h
  exact ⟨⟨r, _, i, rfl⟩, hg⟩

theorem injHeld_told (h : s.Told t) (l : List InjHeld) : s.Told { t with injHeld := l } := by
  obtain ⟨⟨r, o, i, rfl⟩, hg⟩ := h
  exact ⟨⟨r, o, l, rfl⟩, hg⟩

theorem injectHold_told (h : s.Told t) (j : Nat) (u : InjUnit) (left : Nat) (due : Int) : s.Told (t.injectHold j u left due) :=
  ite_keeps (bump_told h _ rfl) (injHeld_told h _)

theorem injectPassed_told (h : s.Told t) (j : Nat) : s.Told (t.injectPassed j).1 := injHeld_told h _

/-- An injection entry that a unit meets writes its own registers, and may hold the unit (R402, R403). -/
theorem injectOne_told (h : s.Told t) (j : Nat) (u : InjPass) (len : Nat) : s.Told (t.injectOne j u len).1 := by
  have h1 : s.Told (((t.bump (Reg.INJECT_SEEN j)).put (Hid.injIndex j) (t.get (Hid.injIndex j) + 1)).put (Hid.injReg j)
      (t.injectActs j).2) := put_told (put_told (bump_told h _ rfl) _ _ rfl) _ _ rfl
  have h2 := injectPassed_told h1 j
  have h3 := bump_told h2 (Reg.INJECT_UNITS j) rfl
  unfold State.injectOne
  dsimp only
  split
  · exact h2
  split
  · exact h3
  split
  · exact send_told (put_told h3 _ _ rfl) _
  split
  · exact injectHold_told h3 ..
  split
  · exact injectHold_told h3 ..
  split
  · exact h3
  · exact injectHold_told h3 ..

/-- A unit meets every entry on its way (R402 to R404). -/
theorem inject_told (h : s.Told t) (point target plane : Nat) (u : InjUnit) (len : Nat) :
    s.Told (t.inject point target plane u len).1 := by
  refine foldl_fst_keeps _ _ _ h fun a j ha => foldl_fst_keeps _ _ _ ha fun b x hb => ?_
  split
  · exact injectOne_told hb j x len
  · exact hb

/-- A message leaves for the twin on its lanes (R189). -/
theorem twinSend_told (h : s.Told t) (m : TwinMsg) : s.Told (t.twinSend m) := by
  refine each_keeps (bump_told (put_told h _ _ rfl) _ rfl) _ _ fun v l hv => ?_
  have hi := inject_told hv 2 (l - 64) 0 .other 2048
  exact ite_keeps (send_told hi _) hi

theorem sendTwin_told (h : s.Told t) (m : TwinMsg) : s.Told (t.sendTwin m) := ite_keeps (twinSend_told h m) h

theorem sendHealth_told (h : s.Told t) : s.Told t.sendHealth := ite_keeps h (twinSend_told h _)

/-- Nothing that only a session, a slip or a waiting request shows is changed by a message to the twin. -/
theorem State.Told.frame (h : s.Told t) :
    t.session = s.session ∧ t.oldSession = s.oldSession ∧ t.slips = s.slips ∧ t.mirrorWait = s.mirrorWait := by
  obtain ⟨⟨r, o, i, rfl⟩, -⟩ := h
  exact ⟨rfl, rfl, rfl, rfl⟩

end

/-! ### Pairing -/

/-- `t` is `s` but for registers of the model's own, which no Catalogue object shows. -/
def State.OwnRegs (s t : State) : Prop := (∃ r, t = { s with regs := r }) ∧ ∀ k : Key, k.idx < 0x10000 → t.get k = s.get k

theorem refl_ownRegs (s : State) : s.OwnRegs s := ⟨⟨s.regs, rfl⟩, fun _ _ => rfl⟩

theorem put_ownRegs {s t : State} (h : s.OwnRegs t) (k : Key) (v : Int) (hk : 0x10000 ≤ k.idx) : s.OwnRegs (t.put k v) := by
  obtain ⟨⟨r, rfl⟩, hg⟩ := h
  refine ⟨⟨_, rfl⟩, fun l hl => ?_⟩
  rw [State.get_put_ne _ v fun e => by rw [e] at hk; omega, hg l hl]

/-- A move of the pairing state is its register's write, and own registers beside it (`1320:01`, R205, R296). -/
theorem setPairing_ownRegs (s : State) (v : Int) : (s.put Reg.PAIRING_STATE v).OwnRegs (s.setPairing v) := by
  have h := refl_ownRegs (s.put Reg.PAIRING_STATE v)
  have hw : (s.put Reg.PAIRING_STATE v).OwnRegs ((s.put Reg.PAIRING_STATE v).when
      ((s.put Reg.PAIRING_STATE v).paired != s.paired) (fun u => u.egressDue)) :=
    ite_keeps (put_ownRegs h _ _ (by decide)) h
  exact ite_keeps (each_keeps hw _ _ fun t o ht => put_ownRegs ht _ _ (by simp)) hw

/-- A register of the Catalogue after a move of the pairing state. -/
theorem State.get_setPairing (s : State) (v : Int) {l : Key} (hl : l.idx < 0x10000) :
    (s.setPairing v).get l = if Reg.PAIRING_STATE = l then v else s.get l := by
  rw [(setPairing_ownRegs s v).2 l hl, State.get_put]

end Sys2Proof.Machine
end


section
/-! Notifications (R49) and the loan (R40 to R42, R298 to R301): what is notified when subscriptions are due, and what opening a session,
lending and the loan's end leave. -/
namespace Sys2Proof.Machine

/-! ### Notifications (R49) -/

/-- Reading registers that are neither RC nor drawn changes nothing (R31). -/
theorem State.each_afterRead {s : State} {keys : List Key} (hrc : ∀ k ∈ keys, accessOf k ≠ some .rc)
    (hdraw : ∀ k ∈ keys, k ≠ Reg.TAMPER_TAMPER_N ∧ k ≠ Reg.TAMPER_VBAT) : s.each keys (fun u k => u.afterRead k) = s := by
  induction keys generalizing s with
  | nil => rfl
  | cons k l ih =>
    obtain ⟨hn, hv⟩ := hdraw k List.mem_cons_self
    have hk : s.afterRead k = s := by simp [State.afterRead, hn, hv, hrc k List.mem_cons_self]
    change (s.afterRead k).each l _ = s
    rw [hk]
    exact ih (fun a ha => hrc a (List.mem_cons_of_mem _ ha)) fun a ha => hdraw a (List.mem_cons_of_mem _ ha)

/-- The state that has counted one notification more (`1400:07`). -/
def State.noticed (s : State) : State := s.put Reg.SESSION_NOTIFY_SEQ ((s.getN Reg.SESSION_NOTIFY_SEQ + 1) % 2 ^ 32 : Nat)

/-- The bytes of a notification of some objects (R32, R49). -/
def State.noticeFor (s : State) (x : Session) (keys : List Key) : List Nat :=
  noticeDatagram x.key x.id ((s.getN Reg.SESSION_NOTIFY_SEQ + 1) % 2 ^ 32) s.nowLT.toNat
    ((keys.map (fun (k : Key) => (k, s.view k))).filterMap (fun (p : Key × Int) =>
      (Cat.fieldOf p.1).map (fun f => (addrOf p.1, encodeValue f.ty p.2))))

/-- One notification of readable objects counts, and leaves with their values under the session's key (R45, R49). -/
theorem State.notifyOne_sent {s : State} {x : Session} {keys : List Key} (hx : s.session = some x) (hp : s.ctlPorts ≠ [])
    (hrc : ∀ k ∈ keys, accessOf k ≠ some .rc) (hdraw : ∀ k ∈ keys, k ≠ Reg.TAMPER_TAMPER_N ∧ k ≠ Reg.TAMPER_VBAT) :
    s.notifyOne keys = s.noticed.send (.notify (s.udpHeads s.ctlPorts) x.key ((s.getN Reg.SESSION_NOTIFY_SEQ + 1) % 2 ^ 32)
      s.nowLT.toNat (keys.map (fun (k : Key) => (k, s.view k))) (s.noticeFor x keys)) := by
  have hs : s.SessionOnly s.noticed := put_sessionOnly (refl_sessionOnly s) _ _ rfl
  have hr : s.noticed.each keys (fun u k => u.afterRead k) = s.noticed := State.each_afterRead hrc hdraw
  rw [State.notifyOne, hx]
  dsimp only
  rw [← State.noticed, hr, if_neg (by rw [hs.ctlPorts]; exact hp), hs.udpHeads, hs.ctlPorts]
  rfl

/-- Objects that fill one message are notified in it (R33). -/
theorem State.notify_one {s : State} {keys : List Key} (h : noticePacks s.payloadLimit keys = [keys]) :
    s.notify keys = s.notifyOne keys := by
  rw [State.notify, h]
  rfl

/-- A subscription after a sample: next due one interval on, with the value sampled where its island answers (R49). -/
def Sub.sampled (s : State) (u : Sub) : Sub :=
  if decide (u.due ≤ s.tickLf) then
    { u with due := s.tickLf + u.interval, last := if s.keyReady u.key then s.view u.key else u.last } else u

theorem Sub.sampled_due (s : State) (u : Sub) : (u.sampled s).due = if u.due ≤ s.tickLf then s.tickLf + u.interval else u.due := by
  simp only [Sub.sampled, decide_eq_true_eq]
  split <;> rfl

/-- The subscriptions due whose value is sent: PERIODIC ones, and ON_CHANGE ones whose value differs from the one last sent (R49). -/
def State.told (s : State) (x : Session) : List Sub :=
  x.subs.filter (fun u => decide (u.due ≤ s.tickLf) && s.keyReady u.key && (u.mode == 2 || u.last != s.view u.key))

/-- The session whose due subscriptions have been sampled. -/
def State.sampled (s : State) (x : Session) : State := { s with session := some { x with subs := x.subs.map (Sub.sampled s) } }

theorem State.notifyDue_open {s : State} {x : Session} (hx : s.session = some x) :
    s.notifyDue = (s.sampled x).notify ((s.told x).map (fun (u : Sub) => u.key)) := by
  simp only [State.notifyDue, hx]
  rfl

/-! ### The loan (R40 to R42, R298 to R301) -/

/-- A LOAN of no open session, whose tag verifies, is executed (R40). -/
theorem State.loanMsg_new {s : State} {m : Msg} {t : Token} {key : SessKey} (hh : s.hears m = true) (hv : m.hdr.version = 1)
    (hl : m.hdr.length = 160) (he : s.endsDue = s) (hk : s.loanVerifies m t = some key)
    (hn : s.session.map Session.id ≠ some m.hdr.session) : s.loanMsg m t = s.loanExec m t key := by
  unfold State.loanMsg
  rw [if_neg (by simp [hh]), if_neg (by simp [hv, hl])]
  simp only [he, hk]
  cases hx : s.session with
  | none => rfl
  | some x =>
    have hid : x.id ≠ m.hdr.session := fun e => hn (by rw [hx, Option.map_some, e])
    dsimp only
    rw [if_neg fun h => hid h.1]

/-- The response to a LOAN that is accepted (Table 2.5). -/
def loanResp (m : Msg) (t : Token) : Resp :=
  ⟨9, .ok, false, m.hdr.session, m.hdr.sequence, 0, 0, 1, .loan m.hdr.session t.epoch t.expiry⟩

/-- A LOAN for a new session that passes every check opens it and lends the device (R40, R298). -/
theorem State.loanExec_new {s : State} {m : Msg} {t : Token} {key : SessKey} (hn : s.session.map Session.id ≠ some m.hdr.session)
    (hb : s.get Reg.SAFE_REACTION < 4) (hr : s.tokenReason m.hdr.session t = 0) (hs : s.headerStatus m 9 none = .ok)
    (hu : s.up 3 = true) :
    s.loanExec m t key = ((s.openSession m t key).lend t).respond (loanResp m t) (some key) := by
  have hbar : s.loanBarred = false := decide_eq_false (by omega)
  cases hx : s.session with
  | none =>
    simp only [State.loanExec, hbar, hr, hs, hu, hx]
    rfl
  | some x =>
    have hid : (x.id == m.hdr.session) = false := beq_eq_false_iff_ne.mpr fun e => hn (by rw [hx, Option.map_some, e])
    simp only [State.loanExec, hbar, hr, hs, hu, hx, hid]
    rfl

/-- The state that a token's acceptance leaves before the pairing state and the twin hear of it (R298 to R300). -/
def State.lentBy (s : State) (t : Token) : State :=
  let u := ((((s.put Reg.LOAN_STATE 1).put Reg.LOAN_PRESENT 1).put Reg.LOAN_DESK_ID t.deskId).put Reg.LOAN_NOT_BEFORE t.notBefore).put
    Reg.LOAN_EXPIRY t.expiry
  (((u.put Reg.LOAN_SOLO (b2i t.solo)).put Reg.SESSION_EPOCH t.epoch).put Reg.SESSION_EXPIRY t.expiry).put Reg.SESSION_SESSION_STATE 1

/-- The registers of the loan and of the session. -/
def loanRegs (k : Key) : Bool := k.idx == 0x1300 || k.idx == 0x1310 || k.idx == 0x1400

theorem loanRegs_iff {k : Key} : loanRegs k = true ↔ k.idx = 0x1300 ∨ k.idx = 0x1310 ∨ k.idx = 0x1400 := by
  simp [loanRegs, or_assoc]

/-- What lending keeps of a state: what the session, its forerunner and the slips hold, and what the loan's registers show. -/
def State.LoanKept (s t : State) : Prop :=
  t.session = s.session ∧ t.oldSession = s.oldSession ∧ t.slips = s.slips ∧ ∀ k, loanRegs k = true → t.get k = s.get k

theorem State.LoanKept.trans {s t u : State} (h1 : s.LoanKept t) (h2 : t.LoanKept u) : s.LoanKept u := by
  obtain ⟨hs1, ho1, hp1, hg1⟩ := h1
  obtain ⟨hs2, ho2, hp2, hg2⟩ := h2
  exact ⟨hs2.trans hs1, ho2.trans ho1, hp2.trans hp1, fun k hk => (hg2 k hk).trans (hg1 k hk)⟩

theorem setPairing_loanKept (s : State) (v : Int) : s.LoanKept (s.setPairing v) := by
  obtain ⟨r, hr⟩ := (setPairing_ownRegs s v).1
  refine ⟨by rw [hr]; rfl, by rw [hr]; rfl, by rw [hr]; rfl, fun k hk => ?_⟩
  rw [loanRegs_iff] at hk
  have hne : Reg.PAIRING_STATE ≠ k := by rintro rfl; simp at hk
  rw [State.get_setPairing s v (by omega), if_neg hne]

theorem told_loanKept {s t : State} (h : s.Told t) : s.LoanKept t := by
  obtain ⟨hs, ho, hp, -⟩ := h.frame
  refine ⟨hs, ho, hp, fun k hk => h.2 k ?_⟩
  rw [loanRegs_iff] at hk
  have hne : k ≠ Reg.TWIN_LINK_MESSAGES_TX := by rintro rfl; simp at hk
  simp [sendWrites, hne]
  omega

/-- After a token's acceptance its registers stand: a SOLO token moves the pairing state beside them (R300), and the twin is told (R299). -/
theorem lend_loanKept (s : State) (t : Token) : (s.lentBy t).LoanKept (s.lend t) := by
  have hsend : ∀ u : State, u.LoanKept u.sendHealth := fun u => told_loanKept (sendHealth_told (refl_told u))
  by_cases hp : t.solo = true ∧ (s.lentBy t).get Reg.PAIRING_STATE = 1
  · have hl : s.lend t = ((s.lentBy t).setPairing 5).sendHealth := by
      rw [State.lend]
      exact congrArg State.sendHealth (if_pos hp)
    exact hl ▸ (setPairing_loanKept _ 5).trans (hsend _)
  · have hl : s.lend t = (s.lentBy t).sendHealth := by
      rw [State.lend]
      exact congrArg State.sendHealth (if_neg hp)
    exact hl ▸ hsend _

/-- The session that a LOAN opens, with the LOAN as its first request (R40, R43, R44). -/
def State.opened (s : State) (m : Msg) (t : Token) (key : SessKey) : Session :=
  ⟨m.hdr.session, { key with measurement := s.getN Reg.COLOPHON_MEASUREMENT }, t.salt,
    [⟨m.hdr.sequence, s.ticks, none⟩], [], [], [], [], s.tickLf, s.tickLf⟩

theorem State.openSession_session (s : State) (m : Msg) (t : Token) (key : SessKey) :
    (s.openSession m t key).session = some (s.opened m t key) := rfl

/-- The session before is kept to answer NOT_LENT for 10 s (R41). -/
theorem State.openSession_old {s : State} {y : Session} (hy : s.session = some y) (m : Msg) (t : Token) (key : SessKey) :
    (s.openSession m t key).oldSession = some ⟨y.id, y.key, s.tickLf + 529200000000⟩ := by
  simp only [State.openSession, hy]
  rfl

/-- A response noted in a session changes what it has seen alone (R44). -/
theorem Session.answered_eq (r : Resp) (key : Option SessKey) (x : Session) : ∃ l, x.answered r key = { x with seen := l } := by
  unfold Session.answered
  split
  · exact ⟨_, rfl⟩
  · exact ⟨x.seen, rfl⟩

@[simp] theorem State.respond_get (u : State) (r : Resp) (key : Option SessKey) (k : Key) : (u.respond r key).get k = u.get k := by
  simp [State.get]

@[simp] theorem State.respond_oldSession (u : State) (r : Resp) (key : Option SessKey) :
    (u.respond r key).oldSession = u.oldSession := by
  rw [State.respond, State.answerOn_eq]

/-- The loan of a lent device that has a session ends, and the session stays open (R42, R301). -/
theorem State.releaseLoan_open {s : State} {x : Session} (hl : s.lent = true) (hx : s.session = some x) :
    s.releaseLoan = { (((s.put Reg.LOAN_STATE 2).put Reg.LOAN_PRESENT 0).put Reg.SESSION_SESSION_STATE 2) with
      session := some { x with unlentAt := s.tickLf } } := by
  simp only [State.releaseLoan, if_pos hl, State.put_session, hx]

theorem State.get_releaseLoan {s : State} {x : Session} (hl : s.lent = true) (hx : s.session = some x) (k : Key) :
    s.releaseLoan.get k = if Reg.SESSION_SESSION_STATE = k then 2 else if Reg.LOAN_PRESENT = k then 0
      else if Reg.LOAN_STATE = k then 2 else s.get k := by
  rw [State.releaseLoan_open hl hx, ← State.get_put s Reg.LOAN_STATE, ← State.get_put, ← State.get_put]
  rfl

/-- The registers of the loan and of the session right after a new session's LOAN was accepted (R40, R298). -/
theorem State.get_lentBy_openSession (s : State) (m : Msg) (t : Token) (key : SessKey) :
    let u := (s.openSession m t key).lentBy t
    u.get Reg.LOAN_STATE = 1 ∧ u.get Reg.LOAN_PRESENT = 1 ∧ u.get Reg.LOAN_EXPIRY = t.expiry ∧ u.get Reg.SESSION_EPOCH = t.epoch ∧
      u.get Reg.SESSION_SESSION_STATE = 1 ∧ u.get Reg.SESSION_HIGHEST_SEQ = m.hdr.sequence := by
  simp [State.lentBy, State.openSession]

end Sys2Proof.Machine

namespace Sys2Proof
open Machine

/-- Settles O24: the due subscriptions are sampled, and what they tell fills one notification. -/
theorem notificationsDue : Obligations.NotificationsDue := by
  unfold Obligations.NotificationsDue
  intro s x ha hx hp told keys hpack hrc hdraw
  have hone : s.notifyDue = (s.sampled x).notifyOne keys := (State.notifyDue_open hx).trans (State.notify_one hpack)
  have hkeys : ∀ {p : Key → Prop}, (∀ u ∈ told, p u.key) → ∀ k ∈ keys, p k := fun h k hk => by
    obtain ⟨u, hu, rfl⟩ := List.mem_map.mp hk
    exact h u hu
  have hsent := State.notifyOne_sent (s := s.sampled x) rfl hp (hkeys hrc) (hkeys hdraw)
  refine ⟨s.notifyDue, _, live_next ha rfl, by rw [hone, hsent]; rfl, ?seq, ?out, ?due, ?rest⟩
  case seq =>
    rw [hone, hsent]
    exact State.get_put_same _ _ _
  case out => exact ⟨_, _, by rw [hone, hsent]; rfl, by simp [Function.comp_def]⟩
  case due => simp [Sub.sampled_due]
  case rest =>
    intro k hk
    rw [hone, hsent]
    exact State.get_put_ne _ _ hk.symm

/-- Settles O25: such a LOAN opens its session and lends the device, whose registers and session the rest of the command keeps; the
loan's end releases the device and leaves the session open. -/
theorem loanOpensSession : Obligations.LoanOpensSession := by
  unfold Obligations.LoanOpensSession
  refine ⟨fun s m tok key ha hp hh hv hl he hk hn hb hr hs hu => ?opens, fun s x ha hl hx ht => ?ends⟩
  case opens =>
    obtain ⟨hsess, hold, hslips, hget⟩ := lend_loanKept (s.openSession m tok key) tok
    obtain ⟨l, hseen⟩ := (s.opened m tok key).answered_eq (loanResp m tok) (some key)
    obtain ⟨hstate, hpresent, hexpiry, hepoch, hopen, hhigh⟩ := s.get_lentBy_openSession m tok key
    refine ⟨((s.openSession m tok key).lend tok).respond (loanResp m tok) (some key), _, ?next,
      by rw [State.respond_session, hsess, State.lentBy]; exact congrArg some hseen, rfl, rfl, rfl, rfl, rfl, ?lent,
      ?present, ?expiry, ?epoch, ?state, ?highest, fun y hy => ?old, ?slips⟩
    case next =>
      exact onElement_next hp ha ((State.loanMsg_new hh hv hl he hk hn).trans (State.loanExec_new hn hb hr hs hu))
    case lent => rw [State.lent, State.respond_get, hget _ rfl, hstate]; rfl
    case present => rw [State.respond_get, hget _ rfl, hpresent]
    case expiry => rw [State.respond_get, hget _ rfl, hexpiry]
    case epoch => rw [State.respond_get, hget _ rfl, hepoch]
    case state => rw [State.respond_get, hget _ rfl, hopen]
    case highest => rw [State.respond_get, hget _ rfl, hhigh]
    case old =>
      rw [State.respond_oldSession, hold]
      exact State.openSession_old hy m tok key
    case slips =>
      rw [State.respond_slips, hslips]
      rfl
  case ends =>
    have hget := State.get_releaseLoan hl hx
    refine ⟨s.releaseLoan, live_next ha (if_pos ⟨hl, ht⟩), ?_, ?_, ?_, by rw [State.releaseLoan_open hl hx], fun k hk => ?_⟩
    · rw [State.lent, hget]
      rfl
    · exact hget _
    · exact hget _
    · simp only [List.mem_cons, List.not_mem_nil, or_false, not_or] at hk
      obtain ⟨h1, h2, h3⟩ := hk
      rw [hget, if_neg (Ne.symm h3), if_neg (Ne.symm h2), if_neg (Ne.symm h1)]

end Sys2Proof
end


section
/-! Requests that wait for the twin (R35, R294) and the messages of the twin link (R189, R291, R295, R296). -/
namespace Sys2Proof.Machine

/-! ### Messages of the twin that are taken -/

/-- The first copy of a message over a lane that is UP is taken (R189). -/
theorem State.twinIn_taken {s : State} {n : Nat} (he : s.edge = true) (hl : s.get Reg.TWIN_LINK_LANES ≠ 0)
    (hs : s.twinSeen.contains n = false) (f : State → State) :
    s.twinIn n f = f { s with twinSeen := (n :: s.twinSeen).take 64 } := by
  rw [State.twinIn, if_neg (by simp [he, hl]), if_neg (by rw [hs]; exact Bool.false_ne_true)]

/-- A second copy is discarded and counted (R189). -/
theorem State.twinIn_copy {s : State} {n : Nat} (he : s.edge = true) (hl : s.get Reg.TWIN_LINK_LANES ≠ 0)
    (hs : s.twinSeen.contains n = true) (f : State → State) : s.twinIn n f = s.bump Reg.TWIN_LINK_DUPLICATES := by
  rw [State.twinIn, if_neg (by simp [he, hl]), if_pos hs]

/-- With no lane UP nothing comes (R189). -/
theorem State.twinIn_noLane {s : State} (hl : s.get Reg.TWIN_LINK_LANES = 0) (n : Nat) (f : State → State) : s.twinIn n f = s :=
  if_pos (Or.inr hl)

/-! ### Requests sent to the twin (R35) -/

/-- With the twin link down, a request that passed is refused with NOT_READY (R35). -/
theorem State.commitReq_down {s : State} (he : s.edge = true) (hp : s.paired = true) (hu : s.twinUp = false) (r : MirrorReq)
    (sts : List Status) (back : Back) : s.commitReq r sts back = s.finish back (spoil sts .notReady) := by
  simp [State.commitReq, he, hp, hu]

/-- With the link up, a request that passed waits for the twin under the next mirror sequence, for 5 ms (R35). -/
theorem State.commitReq_waits {s : State} (he : s.edge = true) (hp : s.paired = true) (hu : s.twinUp = true)
    (hk : s.get Hid.rekeying ≠ 1) (r : MirrorReq) (sts : List Status) (back : Back) :
    (s.commitReq r sts back).mirrorWait = s.mirrorWait ++
      [⟨(s.getN Hid.mirrorSeq + 1) % 2 ^ 32, r, back, s.tickLf + 264600000, s.nowLT.toNat⟩] := by
  have ht : s.Told ((s.put Hid.mirrorSeq ((s.getN Hid.mirrorSeq + 1) % 2 ^ 32 : Nat)).sendTwin
      (.mirror ((s.getN Hid.mirrorSeq + 1) % 2 ^ 32) r)) := sendTwin_told (put_told (refl_told s) _ _ rfl) _
  obtain ⟨-, -, -, hw⟩ := ht.frame
  rw [State.commitReq, if_pos (by simp [he, hp]), if_neg (by simp [hu, hk])]
  exact congrArg (· ++ _) hw

/-- A request whose checks pass is committed (R35, R36). -/
theorem State.request_commits {s : State} {r : MirrorReq} (h : reqFails r (s.reqWords false s.nowLT.toNat r) = false) (back : Back) :
    s.request r back = s.commitReq r (s.reqWords false s.nowLT.toNat r) back := by
  rw [State.request, if_neg (by simp [h])]

/-! ### The twin's acknowledgement, or none (R35, R294) -/

/-- Where no deadline has passed, no request fails (R35). -/
theorem State.mirrorsFail_none {s : State} {past : Int → Bool} (h : ∀ w ∈ s.mirrorWait, past w.deadline = false) :
    s.mirrorsFail past = s := by
  have hf : s.mirrorWait.filter (fun w => past w.deadline) = [] := List.filter_eq_nil_iff.mpr fun w hw => by simp [h w hw]
  rw [State.mirrorsFail, hf]
  rfl

/-- The one request that waits fails once its deadline has passed (R35). -/
theorem State.mirrorsFail_one {s : State} {w : MirrorWait} {past : Int → Bool} (hw : s.mirrorWait = [w])
    (h : past w.deadline = true) : s.mirrorsFail past = (s.unwait w).mirrorFails w := by
  have hf : s.mirrorWait.filter (fun w => past w.deadline) = [w] := by simp [hw, h]
  rw [State.mirrorsFail, hf]
  rfl

/-- An acknowledgement in time finds every request still waiting (R35). -/
theorem State.mirrorsFail_inTime {s : State} (hd : ∀ x ∈ s.mirrorWait, s.tickLf ≤ x.deadline) :
    (s.bump Reg.TWIN_LINK_MESSAGES_RX).mirrorsFail (fun d => decide (d < s.tickLf)) =
      s.bump Reg.TWIN_LINK_MESSAGES_RX :=
  State.mirrorsFail_none fun x hx => decide_eq_false (Int.not_lt.mpr (hd x hx))

section
variable {s : State} {seq : Nat} {w : MirrorWait}

/-- A verified acknowledgement of OK in time applies its request, where the checks pass again (R35, log entry 23). -/
theorem State.mirrorAck_ok (hd : ∀ x ∈ s.mirrorWait, s.tickLf ≤ x.deadline)
    (hw : s.mirrorWait.find? (fun x => x.seq == seq) = some w) :
    let t := (s.bump Reg.TWIN_LINK_MESSAGES_RX).unwait w
    reqFails w.req (t.reqWords false w.at_ w.req) = false →
      s.mirrorAck true seq .ok = (t.reqApply false w.at_ w.req).finish w.back (t.reqWords false w.at_ w.req) := by
  intro t hf
  have hfind : (s.bump Reg.TWIN_LINK_MESSAGES_RX).mirrorWait.find? (fun x => x.seq == seq) = some w := hw
  rw [State.mirrorAck, if_neg (by decide)]
  dsimp only
  rw [State.mirrorsFail_inTime hd, hfind]
  dsimp only
  rw [if_pos rfl, if_neg (by rw [hf]; decide)]

/-- A verified acknowledgement of NOT_LENT in time applies nothing (R35, R294). -/
theorem State.mirrorAck_notLent (hd : ∀ x ∈ s.mirrorWait, s.tickLf ≤ x.deadline)
    (hw : s.mirrorWait.find? (fun x => x.seq == seq) = some w) :
    let t := (s.bump Reg.TWIN_LINK_MESSAGES_RX).unwait w
    s.mirrorAck true seq .notLent =
      (t.bump Reg.PAIRING_MIRROR_REFUSALS).finish w.back (spoil (t.reqWords false w.at_ w.req) .notLent) := by
  have hfind : (s.bump Reg.TWIN_LINK_MESSAGES_RX).mirrorWait.find? (fun x => x.seq == seq) = some w := hw
  rw [State.mirrorAck, if_neg (by decide)]
  dsimp only
  rw [State.mirrorsFail_inTime hd, hfind]
  rfl

end

/-! ### The twin link (R189, R291, R296) -/

/-- A register of the Catalogue outside the collector's after a condition ends (R332). -/
theorem State.get_endCond (s : State) (n : Nat) {l : Key} (h1 : l.idx ≠ 0xA000) (h2 : l.idx < 0x10000) :
    (s.endCond n).get l = s.get l := by
  have hid : ∀ k : Key, 0x10000 ≤ k.idx → k ≠ l := fun k hk e => by rw [e] at hk; omega
  have hsrc : Reg.FAULT_SOURCE_STATE n ≠ l := fun e => h1 (by rw [← e])
  unfold State.endCond
  dsimp only
  split
  · split
    · simp only [State.startQuiet, State.get_put, hid (Hid.quietLen n) (by simp), hid (Hid.quietFrom n) (by simp),
        hid (Hid.condOn n) (by simp), hsrc, if_false]
      rfl
    · simp only [State.get_put, hid (Hid.condOn n) (by simp), if_false]
      rfl
  · rfl

theorem State.get_queueRaise (s : State) (n cause context : Nat) (cond : Bool) (l : Key) :
    (s.queueRaise n cause context cond).get l = s.get l := by
  unfold State.queueRaise
  split <;> rfl

/-- The link's registers, and the pairing state of a device that was paired, as the link falls (R189, R291). -/
theorem State.get_linkFalls {s : State} (hu : s.twinUp = true) {l : Key} (h1 : l.idx ≠ 0xA000) (h2 : l.idx < 0x10000) :
    s.linkFalls.get l = if Reg.PAIRING_STATE = l ∧ 2 ≤ s.get Reg.PAIRING_STATE ∧ s.get Reg.PAIRING_STATE ≤ 4 then 1
      else ((s.put Reg.TWIN_LINK_STATE 0).bump Reg.TWIN_LINK_DOWN_EVENTS).get l := by
  rw [State.linkFalls, if_neg (by simp [hu])]
  extract_lets t0 t1 t2 t3
  have ht3 : ∀ j : Key, j.idx ≠ 0xA000 → j.idx < 0x10000 →
      t3.get j = ((s.put Reg.TWIN_LINK_STATE 0).bump Reg.TWIN_LINK_DOWN_EVENTS).get j := by
    intro j hj1 hj2
    have hne : ∀ k : Key, 0x10000 ≤ k.idx → k ≠ j := fun k hk e => by rw [e] at hk; omega
    have h21 : t2.get j = t0.get j := t0.get_queueRaise 6 0 0 false j
    rw [State.get_put_ne _ _ (hne Hid.reconRestart (by decide)), State.get_put_ne _ _ (hne Hid.reconAt (by decide)), h21,
      State.get_endCond _ 7 hj1 hj2, State.get_put_ne _ _ (hne Hid.twinOver (by decide)),
      State.get_put_ne _ _ (hne Hid.twinStampNew (by decide)), State.get_put_ne _ _ (hne Hid.rekeying (by decide))]
  have hpair : t3.get Reg.PAIRING_STATE = s.get Reg.PAIRING_STATE := (ht3 _ (by decide) (by decide)).trans (by simp)
  rw [hpair]
  split
  · next hp => rw [State.get_setPairing t3 1 h2, ht3 l h1 h2]; simp [hp]
  · next hp => rw [ht3 l h1 h2, if_neg fun h => hp h.2]

/-- What the source's sending of its configuration leaves of the registers (R296). -/
theorem State.get_reconSend (s : State) {k : Key} (hk : sendWrites k = false) (hi : Reg.PAIRING_RECONCILE_ITEMS ≠ k) :
    s.reconSend.get k = s.get k := by
  unfold State.reconSend
  split
  · rw [State.get_put_ne _ _ hi, (sendTwin_told (refl_told s) _).2 k hk]
  · rfl

/-- A reconciliation that starts makes this device its source or its receiver (R296). -/
theorem State.get_reconStart_pairing (s : State) : s.reconStart.get Reg.PAIRING_STATE = if s.isSource then 2 else 3 :=
  (State.get_reconSend _ rfl (by decide)).trans (State.get_setPairing _ _ (by decide))

/-- A mirrored request that passes is applied and acknowledged (R294). -/
theorem State.mirrorIn_applied {s : State} {r : MirrorReq} (h : (s.bump Reg.TWIN_LINK_MESSAGES_RX).mirrorStatus r = .ok) (seq : Nat) :
    s.mirrorIn true seq r = (let t := s.bump Reg.TWIN_LINK_MESSAGES_RX
      (t.reqApply true t.nowLT.toNat r).sendTwin (.mirrorAck seq .ok)) := by
  rw [State.mirrorIn, if_neg (by decide)]
  exact if_pos h

/-- One that does not is counted and its status acknowledged (R295, log entry 73). -/
theorem State.mirrorIn_refused {s : State} {r : MirrorReq} (h : (s.bump Reg.TWIN_LINK_MESSAGES_RX).mirrorStatus r ≠ .ok) (seq : Nat) :
    s.mirrorIn true seq r = (let t := s.bump Reg.TWIN_LINK_MESSAGES_RX
      (t.bump Reg.PAIRING_MIRROR_REFUSALS).sendTwin (.mirrorAck seq (t.mirrorStatus r))) := by
  rw [State.mirrorIn, if_neg (by decide)]
  exact if_neg h

/-- A receiver holds the values of a block of the configuration, and applies them all with the last (R296). -/
theorem State.reconcileIn_receiver {s : State} (hp : s.get Reg.PAIRING_STATE = 3) (last : Bool)
    (values standing : List (Nat × Nat × Nat × Int)) (slips : List SlipCopy) :
    s.reconcileIn true none last values standing slips =
      (let t : State := { s.bump Reg.TWIN_LINK_MESSAGES_RX with reconBuf := s.reconBuf ++ values.map reconItem }
       if last then t.reconApply standing slips else t) := by
  have hb : (s.bump Reg.TWIN_LINK_MESSAGES_RX).get Reg.PAIRING_STATE = 3 := by simpa using hp
  have h4 : (s.bump Reg.TWIN_LINK_MESSAGES_RX).get Reg.PAIRING_STATE ≠ 4 := by rw [hb]; decide
  rw [State.reconcileIn]
  dsimp only
  rw [if_neg (by decide), if_neg h4, if_neg (not_not_intro hb)]
  rfl

/-- With a lane UP, HEALTH leaves (R189). -/
theorem State.sendHealth_lane {s : State} (he : s.edge = true) (hl : s.get Reg.TWIN_LINK_LANES ≠ 0) :
    s.sendHealth = s.twinSend (.health s.ownHealth) :=
  if_neg (by simp [he, hl])

end Sys2Proof.Machine

namespace Sys2Proof
open Machine

/-- Settles O33: a request that passed its checks waits for the twin or finds the link down; what comes from the twin, or does not come
in time, settles the request that waits. -/
theorem mirrorBeforeWrite : Obligations.MirrorBeforeWrite := by
  unfold Obligations.MirrorBeforeWrite
  refine ⟨fun s addr v ha h1 he hl hedge hp hok => ?sent, fun s n seq w ha hedge hl hs hd hw => ?acked, fun s w ha hw hd => ?late⟩
  case sent =>
    have hpass : reqFails (.write [⟨addr, v⟩]) (s.reqWords false s.nowLT.toNat (.write [⟨addr, v⟩])) = false :=
      reqFails_items (by simp) hok
    have hc : s.takeWrite [⟨addr, v⟩] =
        (s.commitReq (.write [⟨addr, v⟩]) (s.writePlan false [⟨addr, v⟩]) .command).closing s := by
      rw [State.takeWrite_lent ha h1 he hl, State.request_commits hpass]
      rfl
    refine ⟨fun hu => congrArg Host.Outcome.next ?_,
      fun hu hk => ⟨_, congrArg Host.Outcome.next hc, State.commitReq_waits hedge hp hu hk ..⟩⟩
    have hone : s.writePlan false [⟨addr, v⟩] = [.ok] := List.eq_replicate_iff.mpr ⟨rfl, hok⟩
    rw [hc, State.commitReq_down hedge hp hu, hone]
    rfl
  case acked =>
    intro u r
    have htake : ∀ f : State → State, s.twinIn n f = f u := State.twinIn_taken hedge hl hs
    exact ⟨fun hf => live_next ha ((htake _).trans (State.mirrorAck_ok (s := u) hd hw hf)),
      live_next ha ((htake _).trans (State.mirrorAck_notLent (s := u) hd hw)), live_next ha (htake _)⟩
  case late =>
    have hf : s.mirrorTimeout = (s.unwait w).mirrorFails w := State.mirrorsFail_one hw (decide_eq_true hd)
    refine ⟨live_next ha hf, fun items hr => ?_⟩
    simp only [State.mirrorFails, hr]

/-- Settles O48: a message over a lane that is UP is taken once, and each message and each event of the link has its own operation. -/
theorem twinMessages : Obligations.TwinMessages := by
  unfold Obligations.TwinMessages
  intro s ha he
  refine ⟨fun hl => ⟨fun n hs => ?taken, fun n h hs => ?copy, ?send⟩,
    fun hl => ⟨fun n h => ?noHealth, ?noSend, fun n tag seq r => ?noMirror⟩, fun hu hv => ?up, fun hv => ?alive,
    fun hu hv => ⟨?down, ?state, fun h2 h4 => ?pairing, ?count⟩,
    fun hr => ⟨fun h0 ht => ?timeout, fun h0 ht hu => ⟨?again, s.get_reconStart_pairing⟩⟩⟩
  case taken =>
    intro u t
    have htake : ∀ f : State → State, s.twinIn n f = f u := State.twinIn_taken he hl hs
    have hin : ∀ f : State → State, ∀ v : State, f u = v →
        Host.Outcome.next (s.live (fun s => s.twinIn n f)) = (.next (v.closing s) : Out) :=
      fun f v h => live_next ha ((htake f).trans h)
    exact ⟨fun seq r => ⟨hin _ _ rfl, fun hok => hin _ _ (State.mirrorIn_applied hok seq),
        fun hbad => hin _ _ (State.mirrorIn_refused hbad seq)⟩, fun h => hin _ _ rfl,
      fun m tag last values standing slips => ⟨hin _ _ rfl, hin _ _ rfl,
        fun hp hlast => hin _ _ ((State.reconcileIn_receiver (s := u) hp ..).trans (if_neg (by simp [hlast]))),
        fun hp hlast => hin _ _ ((State.reconcileIn_receiver (s := u) hp ..).trans (if_pos hlast))⟩⟩
  case copy => exact live_next ha (State.twinIn_copy he hl hs _)
  case send => exact live_next ha (State.sendHealth_lane he hl)
  case noHealth => exact live_next ha (State.twinIn_noLane hl _ _)
  case noSend => exact live_next ha (if_pos (Or.inr hl))
  case noMirror => exact live_next ha (State.twinIn_noLane hl _ _)
  case up => exact live_next ha (if_neg (by simp [hu, hv]))
  case alive => exact live_next ha (if_pos hv)
  case down => exact live_next ha (if_neg (by simp [hv]))
  case state => rw [State.get_linkFalls hu (by decide) (by decide)]; simp
  case pairing => rw [State.get_linkFalls hu (by decide) (by decide), if_pos ⟨rfl, h2, h4⟩]
  case count => rw [State.get_linkFalls hu (by decide) (by decide)]; simp
  case timeout => exact live_next ha (if_pos ⟨hr, h0, ht⟩)
  case again => exact live_next ha (if_pos ⟨hr, h0, ht, hu⟩)

end Sys2Proof
end


section
/-! The Ledger counter from tick to tick (R56), and the arithmetic of conversions (R66, R67) and of truncated stamps (R69). -/
namespace Sys2Proof.Machine

/-! ### The residue (R56) -/

/-- The residue units of n ticks from t on are what eight units in every 25 ticks come to between their ends. -/
theorem sum_residue (t n : Nat) : ((List.range n).map (fun i => residue (t + i))).sum + 8 * t / 25 = 8 * (t + n) / 25 := by
  induction n with
  | zero => simp
  | succ n ih =>
    rw [List.range_succ, List.map_append, List.sum_append, List.map_singleton, List.sum_singleton]
    have hlast : residue (t + n) + 8 * (t + n) / 25 = 8 * (t + (n + 1)) / 25 := by
      unfold residue
      split <;> omega
    omega

/-- Any 25 ticks in a row carry 8 units. -/
theorem sum_residue_25 (t : Nat) : ((List.range 25).map (fun i => residue (t + i))).sum = 8 := by
  have h := sum_residue t 25
  omega

/-- The ticks that carry the unit, by their place among 25. -/
theorem residue_eq (t : Nat) : residue t = if t % 25 ∈ [3, 6, 9, 12, 15, 18, 21, 24] then 1 else 0 := by
  have hq : 8 * t / 25 = 8 * (t / 25) + 8 * (t % 25) / 25 ∧ 8 * (t + 1) / 25 = 8 * (t / 25) + 8 * (t % 25 + 1) / 25 := by omega
  have hr : ∀ r < 25, (8 * r / 25 < 8 * (r + 1) / 25 ↔ r ∈ [3, 6, 9, 12, 15, 18, 21, 24]) := by decide
  simp only [residue, hq, Nat.add_lt_add_iff_left, hr _ (Nat.mod_lt t (by decide))]

/-! ### Rounding to the nearest, ties to even (R66, R67) -/

/-- The quotient lies nearest, and is even where two lie equally near. -/
theorem divNearestEven_nearest (n : Nat) {d : Nat} (hd : 0 < d) :
    2 * ((d : Int) * divNearestEven n d - n).natAbs ≤ d ∧
      (2 * ((d : Int) * divNearestEven n d - n).natAbs = d → divNearestEven n d % 2 = 0) := by
  have hn : (d : Int) * (n / d : Nat) + (n % d : Nat) = n := by exact_mod_cast Nat.div_add_mod n d
  have hr : n % d < d := Nat.mod_lt n hd
  have hup : (d : Int) * (n / d + 1 : Nat) = d * (n / d : Nat) + d := by push_cast; ring
  unfold divNearestEven
  dsimp only
  split_ifs
  · omega
  · rw [hup]; omega
  · omega
  · rw [hup]; omega

theorem nsToLf_nearest (q : Nat) : 2 * (400 * (nsToLf q : Int) - 1323 * q).natAbs ≤ 400 ∧
    (2 * (400 * (nsToLf q : Int) - 1323 * q).natAbs = 400 → nsToLf q % 2 = 0) := by
  have h := divNearestEven_nearest (q * 1323) (d := 400) (by decide)
  rwa [Nat.cast_mul, mul_comm (q : Int)] at h

theorem lfToNs_nearest (u : Nat) : 2 * (1323 * (lfToNs u : Int) - 400 * u).natAbs ≤ 1323 ∧
    (2 * (1323 * (lfToNs u : Int) - 400 * u).natAbs = 1323 → lfToNs u % 2 = 0) := by
  have h := divNearestEven_nearest (u * 400) (d := 1323) (by decide)
  rwa [Nat.cast_mul, mul_comm (u : Int)] at h

/-- Half a unit of 1/4,096 lf is less than half a unit of 2⁻¹⁶ ns, so what the way there loses the way back restores (R67). -/
theorem lfToNs_nsToLf (q : Nat) : lfToNs (nsToLf q) = q := by
  obtain ⟨h1, -⟩ := nsToLf_nearest q
  obtain ⟨h2, -⟩ := lfToNs_nearest (nsToLf q)
  omega

/-- A signed interval keeps its sign (R66). -/
theorem nsToLfSigned_sign (q : Int) :
    (nsToLfSigned q).natAbs = nsToLf q.natAbs ∧ (0 ≤ q → 0 ≤ nsToLfSigned q) ∧ (q ≤ 0 → nsToLfSigned q ≤ 0) := by
  unfold nsToLfSigned
  split_ifs with h
  · refine ⟨by simp, fun _ => by simp, fun h0 => ?_⟩
    obtain rfl : q = 0 := by omega
    decide
  · exact ⟨by simp, fun h0 => absurd h0 h, fun _ => by simp⟩

/-- A time of R67 below the carry of Table 3.5. -/
theorem ptpFields_below {u : Nat} (h : lfToNs (u % (52920000000 * 4096)) < 1000000000 * 65536) :
    ptpFields u = (u / (52920000000 * 4096), lfToNs (u % (52920000000 * 4096)) / 65536,
      lfToNs (u % (52920000000 * 4096)) % 65536) := by
  unfold ptpFields
  exact if_neg (by omega)

/-- A time whose nanoseconds round up to the next second (Table 3.5). -/
theorem ptpFields_carry {u : Nat} (h : 1000000000 * 65536 ≤ lfToNs (u % (52920000000 * 4096))) :
    ptpFields u = (u / (52920000000 * 4096) + 1, 0, 0) := by
  unfold ptpFields
  exact if_pos (by omega)

/-- The nanoseconds stay below a second and the remainder below a nanosecond (R67). -/
theorem ptpFields_lt (u : Nat) : (ptpFields u).2.1 < 1000000000 ∧ (ptpFields u).2.2 < 65536 := by
  by_cases h : lfToNs (u % (52920000000 * 4096)) < 1000000000 * 65536
  · rw [ptpFields_below h]
    exact ⟨Nat.div_lt_of_lt_mul (Nat.mul_comm .. ▸ h), Nat.mod_lt _ (by decide)⟩
  · rw [ptpFields_carry (Nat.le_of_not_lt h)]
    simp

/-! ### Truncated stamps (R69) -/

/-- The restored count is the latest congruent count not after the receiver's own, or the one after it. -/
theorem restoreStamp_cases (k : Nat) (st now : Int) : ∃ d q : Int, 0 ≤ d ∧ d < 2 ^ k ∧ now - d = st + 2 ^ k * q ∧
    restoreStamp k st now = if d * 2 ≤ 2 ^ k then now - d else now - d + 2 ^ k := by
  have hm : (0 : Int) < 2 ^ k := by positivity
  refine ⟨(now - st) % 2 ^ k, (now - st) / 2 ^ k, Int.emod_nonneg _ hm.ne', Int.emod_lt_of_pos _ hm, ?_, rfl⟩
  have h := Int.emod_add_mul_ediv (now - st) (2 ^ k)
  omega

theorem restoreStamp_congruent (k : Nat) (st now : Int) : restoreStamp k st now % 2 ^ k = st % 2 ^ k := by
  obtain ⟨d, q, -, -, hq, hr⟩ := restoreStamp_cases k st now
  rw [hr, hq]
  split_ifs <;> simp

/-- No congruent count lies nearer, and one equally near is not earlier (R69). -/
theorem restoreStamp_nearest (k : Nat) (st now : Int) {n : Int} (hn : n % 2 ^ k = st % 2 ^ k) :
    (restoreStamp k st now - now).natAbs ≤ (n - now).natAbs ∧
      ((n - now).natAbs = (restoreStamp k st now - now).natAbs → restoreStamp k st now ≤ n) := by
  have hm : (0 : Int) < 2 ^ k := by positivity
  obtain ⟨d, q, h0, hd, hq, hr⟩ := restoreStamp_cases k st now
  obtain ⟨p, hp⟩ : (2 ^ k : Int) ∣ n - st := Int.ModEq.dvd hn.symm
  have hj : n - (now - d) = 2 ^ k * (p - q) := by rw [mul_sub]; omega
  have hfar : 2 ^ k * (p - q) ≤ 0 ∨ 2 ^ k ≤ 2 ^ k * (p - q) := by
    rcases lt_or_ge 0 (p - q) with h | h
    · exact .inr (le_mul_of_one_le_right hm.le h)
    · exact .inl (mul_nonpos_of_nonneg_of_nonpos hm.le h)
  rw [hr]
  generalize (2 : Int) ^ k * (p - q) = e at hj hfar
  generalize (2 : Int) ^ k = m at *
  split_ifs <;> omega

/-- A 40-bit stamp of a time within half its range of the receiver's own restores to it: every other congruent count is at least as
far, and as far only where it is the later (R69). -/
theorem restoreStamp_40 {t now : Int} (h1 : -(2 ^ 39) ≤ t - now) (h2 : t - now < 2 ^ 39) :
    restoreStamp 40 (t % 2 ^ 40) now = t := by
  have hc := restoreStamp_congruent 40 (t % 2 ^ 40) now
  obtain ⟨hnear, htie⟩ := restoreStamp_nearest 40 (t % 2 ^ 40) now (n := t) (by simp)
  omega

end Sys2Proof.Machine

namespace Sys2Proof
open Machine

/-- Settles O2: the step's own case of an empty queue; the residue units of n ticks telescope. -/
theorem idleStepTicks : Obligations.IdleStepTicks := by
  unfold Obligations.IdleStepTicks
  refine ⟨fun s hq => ⟨fun ha => ⟨s.tickWith 0, ?next, rfl, ?ledger, rfl⟩, fun ha => ?held⟩, residue_eq, sum_residue_25,
    fun t => ?nominal⟩
  case next => rw [step_nil hq, if_pos ha]
  case ledger => simp [State.tickWith, max_comm]
  case held => rw [step_nil hq, if_neg (by rw [ha]; decide)]
  case nominal =>
    rw [List.sum_map_add, sum_residue_25]
    simp

/-- Settles O35: both conversions round to the nearest, ties to even, and the grid of nanoseconds is the coarser. -/
theorem ptpConversions : Obligations.PtpConversions := by
  unfold Obligations.PtpConversions
  exact ⟨nsToLf_nearest, lfToNs_nearest, nsToLfSigned_sign, fun m => rfl, fun n _ => lfToNs_nsToLf _, fun u =>
    ⟨(ptpFields_lt u).1, (ptpFields_lt u).2, ptpFields_below, ptpFields_carry⟩⟩

/-- Settles O36: the restored count is one of the two congruent counts around the receiver's own, the nearer or else the earlier. -/
theorem truncatedStamps : Obligations.TruncatedStamps := by
  unfold Obligations.TruncatedStamps
  exact ⟨fun k st now => ⟨restoreStamp_congruent k st now, fun n hn => restoreStamp_nearest k st now hn⟩,
    fun t now h1 h2 => restoreStamp_40 h1 h2⟩

end Sys2Proof
end


section
/-! Values of registers as write commands carry them (R29, R30), and the writes of Ledger time (R58, R59, R63, R111). -/
namespace Sys2Proof.Machine

/-! ### What a register write command carries (R29, R30) -/

/-- The bytes that a type gives a value spell that value (R30). -/
def spells (t : Ty) (v : Int) : Prop := rawValue t ((encodeValue t v).raw % 256 ^ tyLen t) = v

theorem spells_unsigned {t : Ty} {v : Int} (ht : ∀ n, rawValue t n = n) (h0 : 0 ≤ v) (h1 : v < 256 ^ tyLen t) : spells t v := by
  have hw : (2 : Int) ^ (8 * tyLen t) = 256 ^ tyLen t := by rw [pow_mul]; rfl
  have hn : v.toNat < 256 ^ tyLen t := by
    rw [Int.toNat_lt h0]
    exact_mod_cast h1
  rw [spells, ht, encodeValue, fromSigned, hw, Int.emod_eq_of_lt h0 h1, Nat.mod_eq_of_lt hn, Int.toNat_of_nonneg h0]

theorem spells_span {v : Int} (h1 : -(2 ^ 63) ≤ v) (h2 : v < 2 ^ 63) : spells .span v := by
  have hm : fromSigned 64 v % 256 ^ 8 = fromSigned 64 v := Nat.mod_eq_of_lt (fromSigned_lt 64 v)
  change toSigned 64 (fromSigned 64 v % 256 ^ 8) = v
  rw [hm, toSigned_fromSigned_64 v h1 h2]

/-- A value that its field spells decodes as that value (R30). -/
theorem decodeValue_encodeValue {f : FieldDef} {v : Int} (hv : spells f.ty v) : (decodeValue f (encodeValue f.ty v)).2 = v := by
  unfold decodeValue
  rw [if_neg (by simp [encodeValue])]
  dsimp only
  split <;> exact hv

/-- The call number an address names stands in its bytes (R29). -/
theorem key_of_lookup {s : State} {addr : Nat} {k : Key} {f : FieldDef} (h : s.lookup addr = some (k, f)) :
    k = ⟨addr / 2 ^ 32, addr / 2 ^ 16 % 2 ^ 16, addr / 2 ^ 8 % 2 ^ 8⟩ ∧ addr < 2 ^ 48 := by
  unfold State.lookup at h
  dsimp only at h
  split at h
  · cases h
  next ha =>
    split at h
    · cases h
    · split at h
      · cases h
      · obtain ⟨g, -, hg⟩ := Option.map_eq_some_iff.mp h
        cases hg
        exact ⟨rfl, by omega⟩

theorem addrOf_eq (k : Key) : ∃ low < 2 ^ 8, addrOf k = k.idx * 2 ^ 32 + k.el * 2 ^ 16 + k.sub * 2 ^ 8 + low := by
  unfold addrOf
  split
  · exact ⟨0, by decide, rfl⟩
  · refine ⟨_, ?_, rfl⟩
    unfold b2n
    split <;> decide

/-- The address of a call number names that one or none (R29). -/
theorem lookup_regAddr {s : State} {k l : Key} {f : FieldDef} (h : s.lookup (regAddr k) = some (l, f)) : l = k := by
  obtain ⟨rfl, ha⟩ := key_of_lookup h
  by_cases hk : k.el < 65536 ∧ k.sub < 256
  · obtain ⟨low, hlow, heq⟩ := addrOf_eq k
    rw [regAddr, if_pos hk, heq]
    obtain ⟨he, hs⟩ := hk
    obtain ⟨i, e, b⟩ := k
    simp only [Key.mk.injEq] at *
    omega
  · rw [regAddr, if_neg hk] at ha
    exact absurd ha (Nat.lt_irrefl _)

/-- Where the first status that is not OK is none, all are OK. -/
theorem firstBad_eq_ok {l : List Status} (h : firstBad l = .ok) : ∀ st ∈ l, st = Status.ok := by
  induction l with
  | nil => simp
  | cons a l ih =>
    rw [firstBad] at h
    split at h
    · next ha => exact List.forall_mem_cons.mpr ⟨ha, ih h⟩
    · next ha => exact absurd h ha

/-- An item of a register that passes its checks is of that register and spells its value, and no step it asks for is refused. -/
theorem writeItem_regItem_ok {s c : State} {force : Bool} {k : Key} {v : Int} (hv : ∀ f, Cat.fieldOf k = some f → spells f.ty v)
    (h : s.writeItem c false force (regItem k v) = .ok) :
    (∃ f, s.lookup (regItem k v).addr = some (k, f) ∧ decodeValue f (regItem k v).val = (.ok, v)) ∧
      s.stepItem c k v force = .ok := by
  unfold State.writeItem at h
  split at h
  · cases h
  next l f hl =>
    obtain rfl : l = k := lookup_regAddr hl
    have hf := fieldOf_of_lookup hl
    have hval : (regItem l v).val = encodeValue f.ty v := by simp [regItem, hf]
    have hdec : (decodeValue f (regItem l v).val).2 = v := by rw [hval, decodeValue_encodeValue (hv f hf)]
    simp only [Bool.false_and, Bool.false_eq_true, if_false] at h
    have hall := firstBad_eq_ok h
    simp only [List.forall_mem_cons] at hall
    obtain ⟨-, -, -, -, hd, -, -, -, hstep, -⟩ := hall
    rw [hdec] at hstep
    exact ⟨⟨f, hl, Prod.ext hd hdec⟩, hstep⟩

/-- Items of registers that each spell a value decode to those values. -/
theorem decoded_regItems {s : State} {l : List (Key × Int)}
    (h : ∀ p ∈ l, ∃ f, s.lookup (regItem p.1 p.2).addr = some (p.1, f) ∧ decodeValue f (regItem p.1 p.2).val = (.ok, p.2)) :
    s.decoded (l.map (fun p => regItem p.1 p.2)) = l := by
  induction l with
  | nil => rfl
  | cons p l ih =>
    obtain ⟨f, hl, hd⟩ := h p List.mem_cons_self
    rw [List.map_cons, State.decoded, List.filterMap_cons, hl]
    simp only [hd, if_true]
    exact congrArg _ (ih fun q hq => h q (List.mem_cons_of_mem _ hq))

/-- What a write command of registers that is taken carries: the values themselves; and no step it asks for is refused. -/
theorem takesWrite_regItems {s : State} {l : List (Key × Int)} (hv : ∀ p ∈ l, ∀ f, Cat.fieldOf p.1 = some f → spells f.ty p.2)
    (h : s.takesWrite (l.map (fun p => regItem p.1 p.2))) :
    s.decoded (l.map (fun p => regItem p.1 p.2)) = l ∧
      ∀ p ∈ l, s.stepItem (s.withItems l) p.1 p.2 (forceOf l) = .ok := by
  obtain ⟨-, -, -, -, -, hok⟩ := h
  have hitem : ∀ p ∈ l, _ := fun p hp => writeItem_regItem_ok (hv p hp)
    (hok _ (List.mem_map_of_mem (List.mem_map_of_mem (f := fun p => regItem p.1 p.2) hp)))
  have hd := decoded_regItems fun p hp => (hitem p hp).1
  refine ⟨hd, fun p hp => ?_⟩
  have hs := (hitem p hp).2
  rwa [hd] at hs

/-- A write command of one register that is taken applies its value. -/
theorem takeWrite_regItem {s : State} {k : Key} {v : Int} (hv : ∀ f, Cat.fieldOf k = some f → spells f.ty v) (hs : k.idx ≠ 0x2020)
    (hf : k.idx ≠ 0x4100) (h : s.takesWrite [regItem k v]) :
    s.takeWrite [regItem k v] = ((s.applyItem false k v).send (.result .ok)).closing s := by
  have hd : s.decoded [regItem k v] = [(k, v)] := (takesWrite_regItems (l := [(k, v)]) (by simpa using hv) h).1
  rw [State.takeWrite_takes h, State.writeApply_one hd hs hf]

/-- The same for a register of an unsigned type. -/
theorem takeWrite_unsigned {s : State} {k : Key} {v : Nat} {f : FieldDef} (hk : Cat.fieldOf k = some f) (ht : ∀ n, rawValue f.ty n = n)
    (hv : v < 256 ^ tyLen f.ty) (hs : k.idx ≠ 0x2020) (hf : k.idx ≠ 0x4100) (h : s.takesWrite [regItem k v]) :
    s.takeWrite [regItem k v] = ((s.applyItem false k v).send (.result .ok)).closing s := by
  refine takeWrite_regItem (fun g hg => ?_) hs hf h
  obtain rfl : f = g := Option.some.inj (hk.symm.trans hg)
  exact spells_unsigned ht (Int.natCast_nonneg v) (by exact_mod_cast hv)

/-! ### Steps by a write (R63) -/

/-- Whether a booking covers a resource is read from registers alone (R394). -/
theorem State.covers_congr {s t : State} (h : t.get = s.get) (r : Res) : t.covers r = s.covers r := by
  simp only [State.covers, State.bookingActs, State.solo, State.paired, State.bookingReaches, State.bookingNames, State.getN, h]

/-- What a step's status rests on: registers and the counter. -/
theorem State.stepStatus_congr {s t : State} (h : t.get = s.get) (hl : t.ledger = s.ledger) (a : Int) (force : Bool) :
    t.stepStatus a force = s.stepStatus a force := by
  rw [State.stepStatus, State.stepFits, State.covers_congr h, h, hl]
  rfl

/-- AMOUNT and FORCE are no configuration, so a message of them is judged by the STEP_LIMIT in force (R63, log entry 66). -/
theorem stepItem_amount {s : State} (a : Int) (force : Bool) : s.stepItem s Reg.TIME_STEP_AMOUNT a force = s.stepStatus a force := by
  have hg : (s.put Reg.STEP_LIMIT (s.get Reg.STEP_LIMIT)).get = s.get := by
    funext k
    rw [State.get_put]
    split
    · next h => rw [h]
    · rfl
  rw [State.stepItem, if_pos ⟨rfl, rfl⟩, State.stepStatus_congr hg rfl]

/-- A step whose checks pass is applied (R63). -/
theorem State.stepWrite_ok {s : State} {a : Int} {force : Bool} (h : s.stepStatus a force = .ok) :
    s.stepWrite a force = s.applyStep a (if s.get Reg.STEP_LIMIT < a.natAbs then 3 else 1) 1 := by
  simp only [State.stepWrite, h]

/-- Without FORCE a step that passes lies within the limit (R63). -/
theorem State.stepStatus_unforced {s : State} {a : Int} (h : s.stepStatus a false = .ok) : ¬ s.get Reg.STEP_LIMIT < a.natAbs := by
  intro hb
  simp only [State.stepStatus, hb, decide_true, Bool.and_false, Bool.false_and, Bool.false_eq_true, if_false, Bool.not_false,
    Bool.and_true, if_true] at h
  split at h <;> cases h

/-- The values that a write of AMOUNT carries, with FORCE where it is given (R63). -/
def stepValues (a : Int) (force : Bool) : List (Key × Int) :=
  (Reg.TIME_STEP_AMOUNT, a) :: if force then [(Reg.TIME_STEP_FORCE, 1)] else []

theorem State.applyValues_step (s : State) (a : Int) (force : Bool) :
    s.applyValues (stepValues a force) = (s.stepWrite a force).afterStep s := by
  cases force <;> rfl

theorem forceOf_stepValues (a : Int) (force : Bool) : forceOf (stepValues a force) = force := by
  cases force <;> rfl

theorem State.withItems_stepValues (s : State) (a : Int) (force : Bool) : s.withItems (stepValues a force) = s := by
  cases force <;> rfl

/-- A write command of AMOUNT that is taken carries a step whose checks pass, and applies it (R63). -/
theorem takeWrite_step {s : State} {a : Int} {force : Bool} (h1 : -(2 ^ 63) ≤ a) (h2 : a < 2 ^ 63)
    (h : s.takesWrite ((stepValues a force).map (fun p => regItem p.1 p.2))) :
    s.stepStatus a force = .ok ∧ s.takeWrite ((stepValues a force).map (fun p => regItem p.1 p.2)) =
      (((s.applyStep a (if s.get Reg.STEP_LIMIT < a.natAbs then 3 else 1) 1).afterStep s).send (.result .ok)).closing s := by
  have hv : ∀ p ∈ stepValues a force, ∀ f, Cat.fieldOf p.1 = some f → spells f.ty p.2 := by
    intro p hp
    rcases List.mem_cons.mp hp with rfl | hp
    · rintro f ⟨⟩
      exact spells_span h1 h2
    · cases force
      · cases hp
      · obtain rfl := List.mem_singleton.mp hp
        rintro f ⟨⟩
        exact spells_unsigned (fun _ => rfl) (by decide) (by decide)
  obtain ⟨hd, hst⟩ := takesWrite_regItems hv h
  have hok := hst _ List.mem_cons_self
  rw [forceOf_stepValues, State.withItems_stepValues, stepItem_amount] at hok
  refine ⟨hok, ?_⟩
  rw [State.takeWrite_takes h, State.writeApply, hd, ← State.stepWrite_ok hok, ← State.applyValues_step]
  simp

/-! ### OWNER (R59) -/

theorem State.get_acquire (s : State) (k : Key) : s.acquire.get k =
    if Hid.holdInc = k then s.get Reg.TIME_INCREMENT else if Hid.syncCount = k then 0
      else if Reg.DISCIPLINE_SERVO_STATE = k then 1 else s.get k := by
  simp [State.acquire]

theorem State.get_ownerWrite_owner (s : State) (v : Int) : (s.ownerWrite v).get Reg.DISCIPLINE_OWNER = v := by
  unfold State.ownerWrite
  dsimp only
  split_ifs <;> simp [State.get_acquire]

/-- CONTROLLER idles the servo (R59). -/
theorem State.get_ownerWrite_controller (s : State) : (s.ownerWrite 1).get Reg.DISCIPLINE_SERVO_STATE = 0 :=
  State.get_put_same _ _ _

end Sys2Proof.Machine

namespace Sys2Proof
open Machine

/-- Settles O29: each write that is taken carries its value, and applies it as its register's rule says. -/
theorem timeWrites : Obligations.TimeWrites := by
  unfold Obligations.TimeWrites
  intro s
  refine ⟨fun v hv h => ?increment, fun a h1 h2 h => ?step, fun a h1 h2 h => ?forced,
    fun v hv h => ⟨?owner, s.get_ownerWrite_owner v, s.get_ownerWrite_controller⟩, fun g hg h => ?group, fun h => ?all⟩
  case increment => exact congrArg Host.Outcome.next (takeWrite_unsigned rfl (fun _ => rfl) hv (by decide) (by decide) h)
  case step =>
    obtain ⟨hok, ht⟩ := takeWrite_step (force := false) h1 h2 h
    rw [if_neg (State.stepStatus_unforced hok)] at ht
    exact congrArg Host.Outcome.next ht
  case forced => exact congrArg Host.Outcome.next (takeWrite_step (force := true) h1 h2 h).2
  case owner => exact congrArg Host.Outcome.next (takeWrite_unsigned rfl (fun _ => rfl) hv (by decide) (by decide) h)
  case group => exact congrArg Host.Outcome.next (takeWrite_unsigned rfl (fun _ => rfl) hg (by decide) (by decide) h)
  case all => exact congrArg Host.Outcome.next (takeWrite_unsigned (v := 1) rfl (fun _ => rfl) (by decide) (by decide) (by decide) h)

end Sys2Proof
end


section
/-! Steps of Ledger time (R63): a raising of the collector leaves the counter and the ticks, whatever reaction it brings about. -/
namespace Sys2Proof.Machine

/-- The counter and the tick count stand as they stood. -/
def State.SameClock (s t : State) : Prop := t.ledger = s.ledger ∧ t.ticks = s.ticks

theorem refl_sameClock (s : State) : s.SameClock s := ⟨rfl, rfl⟩

section
variable {s t : State}

/-! ### Updates of other fields -/

/-- An update of any fields but these two. -/
theorem mk_sameClock (h : s.SameClock t) (x0 x1 x2 x3 x4 x7 x8 x9 x10 x11 x12 x13 x14 x15 x16 x17 x18 x19 x20 x21 x22 x23 x24 x25
    x26 x27 x28 x29 x30 x31 x32 x33 x34 x35 x36 x37 x38 x39 x40 x41 x42 x43 x44 x45 x46 x47 x48 x49 x50 x51 x52 x53 x54 x55 x56 x57
    x58 x59 x60 x61 x62 x63 x64 x65 : _) :
    s.SameClock (State.mk x0 x1 x2 x3 x4 t.ledger t.ticks x7 x8 x9 x10 x11 x12 x13 x14 x15 x16 x17 x18 x19 x20 x21 x22 x23 x24 x25
      x26 x27 x28 x29 x30 x31 x32 x33 x34 x35 x36 x37 x38 x39 x40 x41 x42 x43 x44 x45 x46 x47 x48 x49 x50 x51 x52 x53 x54 x55 x56
      x57 x58 x59 x60 x61 x62 x63 x64 x65) := ⟨h.1, h.2⟩

theorem put_sameClock (h : s.SameClock t) (k : Key) (v : Int) : s.SameClock (t.put k v) := mk_sameClock h ..

theorem bumpBy_sameClock (h : s.SameClock t) (k : Key) (n : Int) : s.SameClock (t.bumpBy k n) := put_sameClock h ..

theorem bump_sameClock (h : s.SameClock t) (k : Key) : s.SameClock (t.bump k) := bumpBy_sameClock h ..

theorem send_sameClock (h : s.SameClock t) (e : Emit) : s.SameClock (t.send e) := mk_sameClock h ..

theorem drawn_sameClock (h : s.SameClock t) : s.SameClock t.drawn := mk_sameClock h ..

theorem setSlip_sameClock (h : s.SameClock t) (x : Slip) : s.SameClock (t.setSlip x) := mk_sameClock h ..

/-! ### What a restart does -/

theorem probTouch_sameClock (h : s.SameClock t) : s.SameClock t.probTouch :=
  ite_keeps h (ite_keeps (put_sameClock h ..) (ite_keeps (put_sameClock h ..) h))

theorem setReady_sameClock (h : s.SameClock t) (b : Nat) (v : Bool) : s.SameClock (t.setReady b v) :=
  ite_keeps h (probTouch_sameClock (bump_sameClock (put_sameClock (put_sameClock (put_sameClock h ..) ..) ..) _))

theorem dropReady_sameClock (h : s.SameClock t) (b : Nat) : s.SameClock (t.dropReady b) :=
  each_keeps (setReady_sameClock h ..) _ _ fun _ _ h => setReady_sameClock h ..

theorem releaseLoan_sameClock (h : s.SameClock t) : s.SameClock t.releaseLoan := by
  have h1 : s.SameClock ((t.put Reg.LOAN_STATE 2).put Reg.LOAN_PRESENT 0) := put_sameClock (put_sameClock h ..) ..
  refine ite_keeps ?_ h
  dsimp only
  split
  · exact h1
  · exact mk_sameClock (put_sameClock h1 ..) ..

theorem closeSession_sameClock (h : s.SameClock t) : s.SameClock t.closeSession := by
  unfold State.closeSession
  split
  · exact h
  · exact mk_sameClock (put_sameClock (put_sameClock h ..) ..) ..

theorem sdiDecide_sameClock (h : s.SameClock t) (n st : Nat) : s.SameClock (t.sdiDecide n st) := by
  unfold State.sdiDecide
  exact when_keeps (put_sameClock (put_sameClock h ..) ..) _ _ fun _ h => put_sameClock h ..

theorem sdiDrop_sameClock (h : s.SameClock t) (n : Nat) : s.SameClock (t.sdiDrop n) :=
  when_keeps (put_sameClock h ..) _ _ fun _ h => sdiDecide_sameClock h ..

theorem startQuiet_sameClock (h : s.SameClock t) (n : Nat) : s.SameClock (t.startQuiet n) := put_sameClock (put_sameClock h ..) ..

theorem endCond_sameClock (h : s.SameClock t) (n : Nat) : s.SameClock (t.endCond n) := by
  unfold State.endCond
  extract_lets t0 t1
  have h0 : s.SameClock t0 := mk_sameClock h ..
  have h1 : s.SameClock t1 := put_sameClock h0 ..
  exact ite_keeps (ite_keeps (startQuiet_sameClock (put_sameClock h1 ..) _) h1) h0

theorem queueRaise_sameClock (h : s.SameClock t) (n cause context : Nat) (cond : Bool) :
    s.SameClock (t.queueRaise n cause context cond) := ite_keeps h (mk_sameClock h ..)

theorem rearm_sameClock (h : s.SameClock t) (n : Nat) (items : List (Key × Int)) : s.SameClock (t.rearm n items) :=
  ite_keeps (put_sameClock (put_sameClock (put_sameClock (put_sameClock (setSlip_sameClock h _) ..) ..) ..) ..) h

theorem failRecord_sameClock (h : s.SameClock t) (n : Nat) (st : Status) (cause : Nat) : s.SameClock (t.failRecord n st cause) :=
  when_keeps (bump_sameClock (setSlip_sameClock h _) _) _ _ fun _ h => put_sameClock h ..

theorem failLaunched_sameClock (h : s.SameClock t) (i : Nat) : s.SameClock (t.failLaunched i) :=
  each_keeps h _ _ fun _ _ h => rearm_sameClock (put_sameClock (queueRaise_sameClock (failRecord_sameClock h ..) ..) ..) ..

theorem setPairing_sameClock (h : s.SameClock t) (v : Int) : s.SameClock (t.setPairing v) := by
  have h1 : s.SameClock (t.put Reg.PAIRING_STATE v) := put_sameClock h ..
  obtain ⟨r, hr⟩ := (setPairing_ownRegs t v).1
  rw [hr]
  exact mk_sameClock h1 ..

theorem linkFalls_sameClock (h : s.SameClock t) : s.SameClock t.linkFalls := by
  have h0 : s.SameClock (((((t.put Reg.TWIN_LINK_STATE 0).bump Reg.TWIN_LINK_DOWN_EVENTS).put Hid.rekeying 0).put
      Hid.twinStampNew 0).put Hid.twinOver 0) :=
    put_sameClock (put_sameClock (put_sameClock (bump_sameClock (put_sameClock h ..) _) ..) ..) ..
  have h1 := queueRaise_sameClock (endCond_sameClock h0 7) 6 0 0 false
  unfold State.linkFalls
  extract_lets t0 t1 t2 t3
  have h3 : s.SameClock t3 := put_sameClock (put_sameClock (mk_sameClock h1 ..) ..) ..
  exact ite_keeps h (ite_keeps (setPairing_sameClock h3 1) h3)

theorem macFalls_sameClock (h : s.SameClock t) (m : Nat) : s.SameClock (t.macFalls m) := by
  unfold State.macFalls
  extract_lets gone t0
  have h0 : s.SameClock t0 := queueRaise_sameClock (bumpBy_sameClock (bump_sameClock (put_sameClock h ..) _) ..) ..
  exact ite_keeps h (mk_sameClock h0 ..)

theorem txIdle_sameClock (h : s.SameClock t) (n : Nat) : s.SameClock (t.txIdle n) :=
  ite_keeps h (send_sameClock (put_sameClock h ..) _)

theorem flowsLost_sameClock (h : s.SameClock t) : s.SameClock t.flowsLost :=
  each_keeps (mk_sameClock h ..) _ _ fun _ _ h => when_keeps (put_sameClock h ..) _ _ fun _ h => put_sameClock h ..

theorem logLost_sameClock (h : s.SameClock t) (other : Nat) : s.SameClock (t.logLost other) := ite_keeps h (mk_sameClock h ..)

theorem keepLoses_sameClock (h : s.SameClock t) : s.SameClock t.keepLoses :=
  when_keeps (mk_sameClock (closeSession_sameClock (releaseLoan_sameClock h)) ..) _ _ fun _ h => put_sameClock h ..

/-- What an island loses as it enters reset is no time: one loss for each kind of island (Table 1.1). -/
theorem islandLoses_sameClock (h : s.SameClock t) (i : Nat) : s.SameClock (t.islandLoses i) := by
  unfold State.islandLoses
  refine ite_keeps ?serial (ite_keeps ?crosspoint (ite_keeps ?ports (ite_keeps (flowsLost_sameClock h) (ite_keeps ?lanes
    (ite_keeps ?twin (ite_keeps ?memory (ite_keeps ?recorders (ite_keeps ?canvases (ite_keeps ?audio (ite_keeps ?reference
      (ite_keeps (logLost_sameClock h 0) (ite_keeps (logLost_sameClock (keepLoses_sameClock h) 4) h))))))))))))
  case serial => exact each_keeps h _ _ fun _ _ h => sdiDrop_sameClock (put_sameClock (mk_sameClock (txIdle_sameClock h _) ..) ..) _
  case crosspoint => exact each_keeps (put_sameClock (mk_sameClock h ..) ..) _ _ fun _ _ h => txIdle_sameClock h _
  case ports => exact mk_sameClock (each_keeps h _ _ fun _ _ h => put_sameClock (macFalls_sameClock h _) ..) ..
  case lanes => exact each_keeps h _ _ fun _ _ h => put_sameClock h ..
  case twin => exact linkFalls_sameClock (put_sameClock (put_sameClock (put_sameClock h ..) ..) ..)
  case memory =>
    exact each_keeps (each_keeps (mk_sameClock h ..) _ _ fun _ _ h => put_sameClock (put_sameClock h ..) ..) _ _ fun _ _ h =>
      when_keeps h _ _ fun _ h => put_sameClock h ..
  case recorders => exact each_keeps h _ _ fun _ _ h => when_keeps h _ _ fun _ h => put_sameClock h ..
  case canvases => exact each_keeps h _ _ fun _ _ h => when_keeps h _ _ fun _ h => put_sameClock h ..
  case audio => exact each_keeps h _ _ fun _ _ h => put_sameClock (put_sameClock h ..) ..
  case reference => exact put_sameClock h ..

theorem flushPartners_sameClock (h : s.SameClock t) (i : Nat) : s.SameClock (t.flushPartners i) :=
  each_keeps h _ _ fun _ _ h => ite_keeps (put_sameClock (drawn_sameClock (bumpBy_sameClock h ..)) ..) (put_sameClock h ..)

theorem restartIsland_sameClock (h : s.SameClock t) (i cause : Nat) : s.SameClock (t.restartIsland i cause) := by
  have h1 := dropReady_sameClock (islandLoses_sameClock (failLaunched_sameClock (flushPartners_sameClock h i) i) i) (islandBit i)
  exact ite_keeps (when_keeps h _ _ fun _ h => put_sameClock h ..)
    (put_sameClock (bump_sameClock (put_sameClock (put_sameClock (put_sameClock (put_sameClock h1 ..) ..) ..) ..) _) ..)

/-! ### What a raising does -/

theorem addLog_sameClock (h : s.SameClock t) (src sev flags detail lt : Nat) : s.SameClock (t.addLog src sev flags detail lt) := by
  unfold State.addLog
  dsimp only
  split
  · exact mk_sameClock h ..
  · exact ite_keeps (bump_sameClock h _) (mk_sameClock (put_sameClock h ..) ..)

theorem driveAlert_sameClock (h : s.SameClock t) : s.SameClock t.driveAlert := ite_keeps h (send_sameClock (put_sameClock h ..) _)

theorem settleReaction_sameClock (h : s.SameClock t) (n : Nat) : s.SameClock (t.settleReaction n) := by
  unfold State.settleReaction
  extract_lets rs level holders low old cause latched t0 t1
  have h0 : s.SameClock t0 := ite_keeps h (probTouch_sameClock (put_sameClock (put_sameClock h ..) ..))
  have h1 : s.SameClock t1 := ite_keeps (put_sameClock h0 ..) h0
  exact driveAlert_sameClock (put_sameClock (put_sameClock h1 ..) ..)

theorem runOn_sameClock (h : s.SameClock t) : s.SameClock t.runOn := closeSession_sameClock (releaseLoan_sameClock h)

theorem safeEntry_sameClock (h : s.SameClock t) : s.SameClock t.safeEntry :=
  put_sameClock (when_keeps (put_sameClock h ..) _ _ fun _ h => each_keeps (put_sameClock h ..) _ _ fun _ _ h => put_sameClock h ..) ..

theorem react_sameClock (h : s.SameClock t) (n detail : Nat) : s.SameClock (t.react n detail) := by
  unfold State.react
  refine ite_keeps h (ite_keeps (restartIsland_sameClock (runOn_sameClock h) 0 4) (ite_keeps ?isolate (ite_keeps (runOn_sameClock h)
    (ite_keeps (safeEntry_sameClock (runOn_sameClock h)) h))))
  case isolate =>
    split
    · exact h
    · exact restartIsland_sameClock h _ 2

theorem settleRaise_sameClock (h : s.SameClock t) (n detail : Nat) (cond forced : Bool) (lt : Nat) :
    s.SameClock (t.settleRaise n detail cond forced lt) := by
  unfold State.settleRaise
  extract_lets st sev logIt t0 t1 t2 t3
  have h0 : s.SameClock t0 := put_sameClock (put_sameClock (put_sameClock (bump_sameClock h _) ..) ..) ..
  have h1 : s.SameClock t1 := ite_keeps h0 (ite_keeps (put_sameClock (put_sameClock h0 ..) ..)
    (when_keeps (put_sameClock h0 ..) _ _ fun _ h => startQuiet_sameClock h _))
  have h2 : s.SameClock t2 := ite_keeps (addLog_sameClock h1 ..) h1
  have h3 : s.SameClock t3 := ite_keeps (put_sameClock h2 ..) h2
  exact ite_keeps h (settleReaction_sameClock (react_sameClock h3 ..) _)

theorem settleHeld_sameClock (h : s.SameClock t) : s.SameClock t.settleHeld :=
  each_keeps (mk_sameClock h ..) _ _ fun _ _ h => settleRaise_sameClock h ..

theorem settleRounds_sameClock (n : Nat) (h : s.SameClock t) : s.SameClock (t.settleRounds n) := by
  induction n generalizing t with
  | zero => exact h
  | succ n ih => exact ite_keeps (ih (settleHeld_sameClock h)) h

/-- A raising takes no time (R332 to R334). -/
theorem raise_sameClock (h : s.SameClock t) (n cause context : Nat) : s.SameClock (t.raise n cause context) :=
  ite_keeps h (ite_keeps (settleRounds_sameClock 47 (settleRaise_sameClock h ..)) (mk_sameClock h ..))

end

/-! ### Steps -/

theorem recordStep_sameClock {s t : State} (h : s.SameClock t) (a result source : Int) : s.SameClock (t.recordStep a result source) :=
  put_sameClock (put_sameClock (put_sameClock (put_sameClock h ..) ..) ..) ..

theorem applyStep_sameClock (s : State) (a result source : Int) : (s.tickWith a).SameClock (s.applyStep a result source) :=
  raise_sameClock (setReady_sameClock (put_sameClock (recordStep_sameClock (refl_sameClock _) ..) ..) ..) ..

theorem refuseStep_sameClock (s : State) (a source : Int) : s.SameClock (s.refuseStep a source) :=
  raise_sameClock (bump_sameClock (recordStep_sameClock (refl_sameClock _) ..) _) ..

/-- The record of a request (R63). -/
theorem State.get_recordStep (s : State) (a result source : Int) (k : Key) : (s.recordStep a result source).get k =
    if Reg.STEP_STATUS_SOURCE = k then source else if Reg.STEP_STATUS_AT = k then s.nowLT else if Reg.STEP_STATUS_RESULT = k then result
      else if Reg.STEP_STATUS_LAST_AMOUNT = k then clampInt (-2 ^ 63) (2 ^ 63 - 1) a else s.get k := by
  simp [State.recordStep]

/-- A step that is applied leaves its record and TIME_STATE; the READY bit and the raising write none of them (R62, R63). -/
theorem State.get_applyStep (s : State) (a result source : Int) {k : Key} (h : raiseWrites k = false) :
    (s.applyStep a result source).get k = if Reg.TIME_STATE = k then (if result = 4 then 1 else s.get Reg.TIME_STATE)
      else ((s.tickWith a).recordStep a result source).get k := by
  rw [State.applyStep, raise_get _ _ _ _ _ h, State.refreshSlipBit, setReady_spared (refl_spared _) _ _ k h, State.get_put,
    State.get_recordStep]

/-- A step that is refused leaves its record and its count (R63). -/
theorem State.get_refuseStep (s : State) (a source : Int) {k : Key} (h : raiseWrites k = false) :
    (s.refuseStep a source).get k = ((s.recordStep a 2 source).bump Reg.STEP_STATUS_REFUSED_COUNT).get k :=
  raise_get _ _ _ _ _ h

/-- An amount within the range of a SPAN is recorded as it is. -/
theorem clampInt_of_span {a : Int} (h1 : -(2 ^ 63) ≤ a) (h2 : a < 2 ^ 63) : clampInt (-2 ^ 63) (2 ^ 63 - 1) a = a := by
  unfold clampInt
  rw [if_neg (by omega), if_neg (by omega)]

/-- A step over the limit without FORCE is refused (R63). -/
theorem State.stepStatus_beyond {s : State} {a : Int} (hf : s.stepFits a = true) (h : s.get Reg.STEP_LIMIT < a.natAbs) :
    s.stepStatus a false = .stepRefused := by
  rw [State.stepStatus, decide_eq_true h, hf]
  rfl

/-- After the tick that a step comes with, Ledger time is what it was, the amount and the tick on (R56, R63). -/
theorem State.now_tickWith {s : State} {a : Int} (hf : s.stepFits a = true) (hi : 0 ≤ s.get Reg.TIME_INCREMENT) :
    (s.tickWith a).now = s.now + a + ((s.ledger % 2 ^ 32 : Nat) + s.get Reg.TIME_INCREMENT + residue s.ticks) / 2 ^ 32 := by
  simp only [State.stepFits, Bool.and_eq_true, decide_eq_true_eq] at hf
  simp only [State.now, State.tickWith]
  omega

end Sys2Proof.Machine

namespace Sys2Proof
open Machine

/-- Settles O30: a raising takes no time and leaves the record, so an applied step is its tick and its record, and a refused one its
record alone. -/
theorem stepsOfLedgerTime : Obligations.StepsOfLedgerTime := by
  unfold Obligations.StepsOfLedgerTime
  intro s a result source hf h1 h2
  refine ⟨(applyStep_sameClock ..).1, (applyStep_sameClock ..).2, ?amount, ?result, ?source, ?at_, ?state, (refuseStep_sameClock ..).1,
    ?refused, ?count, s.stepStatus_beyond hf, State.now_tickWith hf⟩
  case amount =>
    rw [State.get_applyStep _ _ _ _ rfl, State.get_recordStep]
    exact clampInt_of_span h1 h2
  case result => rw [State.get_applyStep _ _ _ _ rfl, State.get_recordStep]; rfl
  case source => rw [State.get_applyStep _ _ _ _ rfl, State.get_recordStep]; rfl
  case at_ => rw [State.get_applyStep _ _ _ _ rfl, State.get_recordStep]; rfl
  case state => rw [State.get_applyStep _ _ _ _ rfl]; rfl
  case refused => rw [State.get_refuseStep _ _ _ rfl, State.get_bump, if_neg (by decide), State.get_recordStep]; rfl
  case count =>
    have hmax : counterMax Reg.STEP_STATUS_REFUSED_COUNT = 2 ^ 32 - 1 := by decide
    simp [State.get_refuseStep _ _ _ (k := Reg.STEP_STATUS_REFUSED_COUNT) rfl, State.get_recordStep, hmax]

end Sys2Proof
end


section
/-! The twin's Ledger time (R60, R189) and the capture inputs (R72). -/
namespace Sys2Proof.Machine

/-! ### The twin's time (R60) -/

/-- The time a message brings is compared with the time at which it is heard, the lane's delay apart (R189). -/
theorem State.timeMessage_heardTwin (s : State) (n lt : Nat) : (s.heardTwin n).timeMessage lt =
    ((s.heardTwin n).put Hid.twinStamp (lfOfLt lt - s.get Reg.TWIN_LINK_DELAY - s.now)).put Hid.twinStampNew 1 := by
  have hd : (s.heardTwin n).get Reg.TWIN_LINK_DELAY = s.get Reg.TWIN_LINK_DELAY := by
    rw [State.heardTwin, State.get_bump, if_neg (by decide)]
    rfl
  rw [State.timeMessage, hd]
  rfl

/-- A second copy over a link that is up is only counted (R189). -/
theorem State.twinMessage_copy {s : State} {n : Nat} (ha : s.alive = true) (hu : s.twinUp = true) (he : s.edge = true)
    (hl : s.get Reg.TWIN_LINK_LANES ≠ 0) (hs : s.twinSeen.contains n = true) (f : State → State) :
    s.twinMessage n f = (s.bump Reg.TWIN_LINK_DUPLICATES).closing s := by
  rw [State.twinMessage, State.live_alive ha, if_pos hu, State.twinIn_copy he hl hs]

theorem State.get_timeCond (s : State) {k l : Key} (c : Bool) (h : k ≠ l) : (s.timeCond k c).get l = s.get l := by
  unfold State.timeCond
  split_ifs <;> simp [h]

/-- A comparison shows the difference that was measured (`2030:06`). -/
theorem State.get_twinCompare {s : State} (hu : s.twinUp = true) (hn : s.get Hid.twinStampNew ≠ 0) :
    s.twinCompare.get Reg.DISCIPLINE_TWIN_OFFSET = s.get Hid.twinStamp := by
  rw [State.twinCompare, if_neg (by simp [hu, hn])]
  extract_lets d t
  have ht : t.get Reg.DISCIPLINE_TWIN_OFFSET = s.get Hid.twinStamp := by
    rw [State.get_timeCond _ _ (by decide), State.get_put_same]
  split_ifs
  · exact (raiseCond_spared (refl_spared t) 7 0 _ rfl).trans ht
  · exact (State.get_endCond t 7 (by decide) (by decide)).trans ht
  · exact ht

/-! ### Captures (R72) -/

/-- An edge that EDGE names is stamped and counted. -/
theorem State.capture_named {s : State} {n : Nat} {rising : Bool} (hu : s.up 1 = true)
    (he : s.get (Reg.TIMESTAMP_CAPTURE_EDGE n) = 3 ∨ s.get (Reg.TIMESTAMP_CAPTURE_EDGE n) = if rising then 1 else 2) (stamp : Int) :
    s.capture n rising stamp = (s.put (Reg.TIMESTAMP_CAPTURE_LAST n) stamp).bump (Reg.TIMESTAMP_CAPTURE_COUNT n) := by
  refine if_pos ?_
  rcases he with he | he <;> cases rising <;> simp [hu, he]

/-- Any other edge is not. -/
theorem State.capture_unnamed {s : State} {n : Nat} {rising : Bool}
    (he : s.get (Reg.TIMESTAMP_CAPTURE_EDGE n) = 0 ∨ s.get (Reg.TIMESTAMP_CAPTURE_EDGE n) = if rising then 2 else 1) (stamp : Int) :
    s.capture n rising stamp = s := by
  refine if_neg ?_
  rcases he with he | he <;> cases rising <;> simp [he]

/-- PPS_IN and falling edges carry no frame pulse (log entry 54). -/
theorem State.pulseSeen_none {s : State} {n : Nat} {rising : Bool} (h : n = 0 ∨ rising = false) : s.pulseSeen n rising = s := by
  refine if_neg ?_
  rcases h with h | h <;> simp [h]

/-- A rising edge of HSA_F or HSB_F is a frame pulse, and its stamp is kept (log entry 54). -/
theorem State.pulseSeen_rising {s : State} {n : Nat} (hu : s.up 1 = true) (h1 : 1 ≤ n) (h3 : n < 3) :
    s.pulseSeen n true = s.put (Hid.pulseStamp (n - 1)) (s.now + 1) := by
  have hn : n = 1 ∨ n = 2 := by omega
  exact if_pos (by simp [hu, hn])

end Sys2Proof.Machine

namespace Sys2Proof
open Machine

/-- Settles O39: a message that is heard is compared as it comes, and an edge does what EDGE and its direction say. -/
theorem twinTimeAndCaptures : Obligations.TwinTimeAndCaptures := by
  unfold Obligations.TwinTimeAndCaptures
  intro s ha
  refine ⟨fun n lt h => ?heard, fun n lt hu he hl hs => congrArg Host.Outcome.next (State.twinMessage_copy ha hu he hl hs _),
    fun hu hn => ⟨live_next ha rfl, State.get_twinCompare hu hn⟩, fun hu => live_next ha (if_pos (Or.inl hu)),
    fun n rising hn hu => ⟨fun he => ?named, fun he => ?unnamed, State.pulseSeen_none, fun h1 => ?pulse⟩,
    fun n rising h3 hn => onElement_next (decide_eq_true hn) ha (if_neg (by omega))⟩
  case heard =>
    refine congrArg Host.Outcome.next ((State.twinMessage_heard h _).trans ?_)
    rw [State.timeMessage_heardTwin]
  case named =>
    refine onElement_next (decide_eq_true (by omega)) ha ?_
    rw [if_pos hn, State.capture_named hu he]
  case unnamed =>
    refine onElement_next (decide_eq_true (by omega)) ha ?_
    rw [if_pos hn, State.capture_unnamed he]
  case pulse => rw [State.pulseSeen_rising hu h1 hn, State.get_put_same]

end Sys2Proof
end


section
/-! PTP and the servo of Ledger time (R65, R68, R70, R71): what a message measures, what a Delay_Req sends, and what the servo does with a
new master, after its 8 Sync intervals and without a master. -/
namespace Sys2Proof.Machine

/-! ### Steps that a command made or did not make (R64) -/

/-- Where no step was recorded, no slip follows one (R64). -/
theorem State.afterStep_same {s old : State} (h : s.get Reg.STEP_STATUS_AT = old.get Reg.STEP_STATUS_AT) : s.afterStep old = s :=
  if_neg fun hc => hc.1 h

/-! ### Messages and Delay_Req (R65, R70, R71) -/

/-- What an offset makes of the servo is no measurement of the port (Table 3.4). -/
theorem State.get_servoFeed_portOffset (s : State) (n : Nat) :
    s.servoFeed.get (Reg.PTP_PORT_PORT_OFFSET n) = s.get (Reg.PTP_PORT_PORT_OFFSET n) := by
  have hinc : ∀ (t : State) (v : Int), (t.setIncrement v).get (Reg.PTP_PORT_PORT_OFFSET n) = t.get (Reg.PTP_PORT_PORT_OFFSET n) :=
    fun t v => State.get_put_ne t v (by simp)
  have hacq : s.acquire.get (Reg.PTP_PORT_PORT_OFFSET n) = s.get (Reg.PTP_PORT_PORT_OFFSET n) := by simp [State.acquire]
  unfold State.servoFeed
  dsimp only
  split_ifs
  · simp
  · exact hacq
  · rw [State.get_drawn, hinc, State.rateMeasured, State.get_drawn, State.get_put_ne _ _ (by simp)]
  · exact hacq
  · simp
  · rfl

/-- A one-step Sync of the port's domain measures the port's offset (R70, R71). -/
theorem State.get_ptpRx_portOffset {s : State} {n : Nat} {m : PtpMsg} (hp : s.ptpOn n = true) (hu : s.up 1 = true)
    (hd : s.get (Reg.PTP_PORT_DOMAIN n) = m.domain) (hk : m.kind = 0) :
    (s.ptpRx n m).get (Reg.PTP_PORT_PORT_OFFSET n) = (s.ptpMeasure n m).portOffset n := by
  have hvia : ((s.ptpMeasure n m).put (Hid.ptpVia n) m.via).portOffset n = (s.ptpMeasure n m).portOffset n := by
    simp [State.portOffset]
  rw [State.ptpRx, if_neg (by simp [hp, hu, hd])]
  dsimp only
  rw [if_neg (by simp [hk]), hvia]
  split_ifs
  · rw [State.get_servoFeed_portOffset, State.get_put_ne _ _ (by simp), State.get_put_same]
  · exact State.get_put_same _ _ _

theorem State.ptpRx_off {s : State} {n : Nat} (h : s.ptpOn n = false) (m : PtpMsg) : s.ptpRx n m = s := if_pos (Or.inl h)

/-- A Delay_Req of a port that takes part goes out under the next sequence: at once on a control port, in its turn at a MAC (R71). -/
theorem State.delayReq_on {s : State} {n : Nat} (hp : s.ptpOn n = true) (hu : s.servoUp = true) (hl : s.ptpLink n = true) :
    let seq := (s.getN (Hid.ptpReqSeq n) + 1) % 65536
    let t := s.put (Hid.ptpReqSeq n) seq
    s.delayReq n = if n < 3 then (t.put (Hid.ptpT3 n) (s.portStamp n)).sendFrame (16 + n) 7 (t.delayReqFrame n seq)
      else { t with txQueue := t.txQueue ++ [⟨n - 3, 7, s.now, 0, s.frameBytes (n - 3) (delayReqBytes (s.getN (Hid.ptpVia n))),
        t.delayReqFrame n seq, false⟩] } :=
  if_neg (by simp [hp, hu, hl])

/-! ### A new master (R65) -/

/-- The state in which a master is selected on port n before the servo begins on it: the port selected before has lost to it. -/
def State.selects (s : State) (n clockId : Nat) : State :=
  let old := s.get Reg.DISCIPLINE_SELECTED_PORT
  let t := s.when (old != 255 && old != (n : Int)) (fun t => t.put (Reg.PTP_PORT_PORT_STATE old.toNat) 4)
  (((t.put Reg.DISCIPLINE_SELECTED_PORT n).put (Reg.PTP_PORT_MASTER n) clockId).put Hid.lastClockId clockId).put
    (Reg.PTP_PORT_PORT_STATE n) 2

/-- The servo begins on a master that is new (R65). -/
theorem State.masterSelected_fresh {s : State} {n clockId : Nat} (hp : s.ptpOn n = true) (ho : s.get Reg.DISCIPLINE_OWNER = 0)
    (hc : s.get Hid.lastClockId ≠ clockId) : s.masterSelected n clockId = (s.selects n clockId).acquire := by
  have hfresh : (s.get Reg.DISCIPLINE_SELECTED_PORT != (n : Int) || s.get Hid.lastClockId != (clockId : Int)) = true := by simp [hc]
  rw [State.masterSelected, if_neg (by simp [hp])]
  dsimp only
  rw [hfresh, ho]
  rfl

/-- The port selected and its master show (`2030:04`, `2040`). -/
theorem State.selects_shows (s : State) (n clockId : Nat) :
    (s.selects n clockId).get Reg.DISCIPLINE_SELECTED_PORT = n ∧ (s.selects n clockId).get (Reg.PTP_PORT_MASTER n) = clockId ∧
      (s.selects n clockId).get (Reg.PTP_PORT_PORT_STATE n) = 2 := by
  simp [State.selects]

/-- Selecting a master leaves the increment and the counter. -/
theorem State.selects_leaves (s : State) (n clockId : Nat) :
    (s.selects n clockId).get Reg.TIME_INCREMENT = s.get Reg.TIME_INCREMENT ∧ (s.selects n clockId).ledger = s.ledger := by
  unfold State.selects State.when
  dsimp only
  split_ifs <;> simp

/-! ### The servo's decision (R62, R63, R65) -/

/-- The exempt first step (R62). -/
theorem State.servoStep_first {s : State} {o : Int} (hf : s.stepFits o = true) (ht : s.timeSet = false) :
    s.servoStep o = (s.applyStep o 4 0).put Reg.DISCIPLINE_SERVO_STATE 2 := by
  rw [State.servoStep, if_neg (by simp [hf]), if_pos (by simp [ht])]

/-- A step within the limit (R63). -/
theorem State.servoStep_within {s : State} {o : Int} (hf : s.stepFits o = true) (ht : s.timeSet = true)
    (hl : (o.natAbs : Int) ≤ s.get Reg.STEP_LIMIT) : s.servoStep o = (s.applyStep o 1 0).put Reg.DISCIPLINE_SERVO_STATE 2 := by
  rw [State.servoStep, if_neg (by simp [hf]), if_neg (by simp [ht]), if_neg (Int.not_lt.mpr hl)]

/-- A step over the limit (R63). -/
theorem State.servoStep_beyond {s : State} {o : Int} (hf : s.stepFits o = true) (ht : s.timeSet = true)
    (hl : s.get Reg.STEP_LIMIT < o.natAbs) : s.servoStep o =
      ((s.refuseStep o 0).put Reg.STEP_STATUS_PENDING_OFFSET o).put Reg.DISCIPLINE_SERVO_STATE 4 := by
  rw [State.servoStep, if_neg (by simp [hf]), if_neg (by simp [ht]), if_pos hl]

/-- After 8 Sync intervals the servo tracks, or makes its step, which where it is refused ends at the increment held (Table 3.4). -/
theorem State.servoDecide_acquired {s : State} {port : Nat} (ho : s.get Reg.DISCIPLINE_OWNER = 0)
    (hs : s.get Reg.DISCIPLINE_SERVO_STATE = 1) (hn : 8 ≤ s.get Hid.syncCount) (hp : s.get Reg.DISCIPLINE_SELECTED_PORT = port) :
    let o := s.get Reg.DISCIPLINE_OFFSET
    let t := s.put (Reg.PTP_PORT_PORT_STATE port) 3
    s.servoDecide = if s.timeSet ∧ o.natAbs ≤ s.get Reg.DISCIPLINE_SLEW_THRESHOLD then t.put Reg.DISCIPLINE_SERVO_STATE 2
      else if (t.servoStep o).get Reg.DISCIPLINE_SERVO_STATE = 4 then (t.servoStep o).setIncrement (s.get Hid.holdInc)
      else t.servoStep o := by
  have hport : s.getN Reg.DISCIPLINE_SELECTED_PORT = port := by rw [State.getN, hp]; rfl
  rw [State.servoDecide, hport]
  exact if_neg (by omega)

/-- Without a master a servo that followed one goes to HOLDING at the mean increment (Table 3.4). -/
theorem State.announceTimeout_followed {s : State} {port : Nat} (ho : s.get Reg.DISCIPLINE_OWNER = 0)
    (hp : s.get Reg.DISCIPLINE_SELECTED_PORT = port) (hport : port ≠ 255) : s.announceTimeout =
      ((((s.put (Reg.PTP_PORT_PORT_STATE port) 1).put Reg.DISCIPLINE_SELECTED_PORT 255).put Hid.lastClockId 0).setIncrement
        s.meanIncrement).put Reg.DISCIPLINE_SERVO_STATE 3 := by
  rw [State.announceTimeout, hp]
  dsimp only
  rw [if_neg (by omega), if_pos ho]
  rfl

end Sys2Proof.Machine

namespace Sys2Proof
open Machine

/-- Settles O38: each command comes to its own operation, and the servo's decision to one of its steps. -/
theorem servoAndPtp : Obligations.ServoAndPtp := by
  unfold Obligations.ServoAndPtp
  intro s port ha h1 hport
  have hel : decide (port < 19) = true := decide_eq_true hport
  refine ⟨fun m => ⟨onElement_next hel ha rfl, fun hp hd hk => State.get_ptpRx_portOffset hp h1 hd hk,
      fun hp => State.ptpRx_off hp m⟩,
    fun hp h0 hl => ?request, fun clockId h0 => ⟨?master, fun hp ho hc => ?fresh⟩, fun h0 ho hs hn hp hf => ?decision,
    fun h0 ho hp => ?timeout⟩
  case request =>
    have hd := State.delayReq_on hp (by simp [State.servoUp, h0, h1]) hl
    exact ⟨fun h3 => onElement_next hel ha (hd.trans (if_pos h3)),
      fun h3 => onElement_next hel ha (hd.trans (if_neg (Nat.not_lt.mpr h3)))⟩
  case master => exact onElement_next hel ha (if_pos (by simp [State.servoUp, h0, h1]))
  case fresh =>
    obtain ⟨hinc, hledger⟩ := s.selects_leaves port clockId
    obtain ⟨hselected, hmaster, hstate⟩ := s.selects_shows port clockId
    rw [State.masterSelected_fresh hp ho hc]
    refine ⟨?_, ?_, ?_, ?_, ?_, ?_, ?_, hledger⟩ <;> simp [State.get_acquire, hselected, hmaster, hstate, hinc]
  case timeout =>
    refine live_next ha ?_
    rw [if_pos (by simp [State.servoUp, h0, h1])]
    exact State.announceTimeout_followed ho hp (by omega)
  case decision =>
    intro o t
    have hset : t.timeSet = s.timeSet := by simp [State.timeSet, t]
    have hlimit : t.get Reg.STEP_LIMIT = s.get Reg.STEP_LIMIT := by simp [t]
    have hdecide := State.servoDecide_acquired ho hs hn hp
    have hdone : ∀ u : State, s.servoDecide.afterStep s = u → exec .servoMeasureDone s = .next (u.closing s) := fun u hu =>
      live_next ha ((if_pos (by simp [State.servoUp, h0, h1])).trans hu)
    refine ⟨fun hu hle => hdone _ ?tracks, fun hu hlt hle => hdone _ ?steps, fun hu => hdone _ ?first,
      fun hu hlt hlim => hdone _ ?refuses⟩
    case tracks =>
      rw [hdecide, if_pos ⟨hu, hle⟩]
      exact State.afterStep_same (by simp)
    case steps =>
      have hw : t.servoStep o = (t.applyStep o 1 0).put Reg.DISCIPLINE_SERVO_STATE 2 :=
        State.servoStep_within hf (hset.trans hu) (hlimit ▸ hle)
      rw [hdecide, if_neg fun h => Int.not_lt.mpr h.2 hlt, hw, if_neg (by simp)]
    case first =>
      have hw : t.servoStep o = (t.applyStep o 4 0).put Reg.DISCIPLINE_SERVO_STATE 2 := State.servoStep_first hf (hset.trans hu)
      rw [hdecide, if_neg (by simp [hu]), hw, if_neg (by simp)]
    case refuses =>
      have hw : t.servoStep o = ((t.refuseStep o 0).put Reg.STEP_STATUS_PENDING_OFFSET o).put Reg.DISCIPLINE_SERVO_STATE 4 :=
        State.servoStep_beyond hf (hset.trans hu) (hlimit ▸ hlim)
      rw [hdecide, if_neg fun h => Int.not_lt.mpr h.2 hlt, hw, if_pos (State.get_put_same _ _ _)]

end Sys2Proof
end


section
/-! Rasters and their nominal points (R86 to R89): the nearest nominal point, the next one, and what a boundary leaves in the registers of
its raster. -/
namespace Sys2Proof.Machine

/-! ### Nominal points (R86) -/

/-- The remainder against the nearest nominal point: at most half a period, and a half itself only after the point. -/
theorem nominalIndex_half (n o : Int) {p : Int} (hp : 0 < p) :
    2 * (n - (o + nominalIndex n o p * p)) ≤ p ∧ -p < 2 * (n - (o + nominalIndex n o p * p)) := by
  have hdiv := Int.emod_add_mul_ediv (p / 2 - (n - o)) p
  have hlow := Int.emod_nonneg (p / 2 - (n - o)) hp.ne'
  have hhigh := Int.emod_lt_of_pos (p / 2 - (n - o)) hp
  have hindex : nominalIndex n o p * p = -(p * ((p / 2 - (n - o)) / p)) := by
    rw [nominalIndex, if_neg hp.ne', neg_mul, mul_comm]
  omega

/-- A remainder of at most half a period is the least of its class. -/
theorem natAbs_le_add_mul {d p : Int} (h1 : 2 * d ≤ p) (h2 : -p < 2 * d) (j : Int) : d.natAbs ≤ (d + j * p).natAbs := by
  rcases lt_trichotomy j 0 with hj | rfl | hj
  · have : j * p ≤ -1 * p := mul_le_mul_of_nonneg_right (by omega) (by omega)
    omega
  · simp
  · have : 1 * p ≤ j * p := mul_le_mul_of_nonneg_right (by omega) (by omega)
    omega

/-- No nominal point is nearer than the one FRAME_INDEX names (R86). -/
theorem nominalIndex_nearest (n o : Int) {p : Int} (hp : 0 < p) (k : Int) :
    (n - (o + nominalIndex n o p * p)).natAbs ≤ (n - (o + k * p)).natAbs := by
  obtain ⟨h1, h2⟩ := nominalIndex_half n o hp
  have hk : n - (o + k * p) = n - (o + nominalIndex n o p * p) + (nominalIndex n o p - k) * p := by ring
  exact hk ▸ natAbs_le_add_mul h1 h2 _

/-- The first nominal point at or after a time is less than a period on. -/
theorem nominalFrom_bounds (n o : Int) {p : Int} (hp : 0 < p) : n ≤ nominalFrom n o p ∧ nominalFrom n o p < n + p := by
  have hdiv := Int.emod_add_mul_ediv (o - n) p
  have hlow := Int.emod_nonneg (o - n) hp.ne'
  have hhigh := Int.emod_lt_of_pos (o - n) hp
  have hfrom : nominalFrom n o p = o - p * ((o - n) / p) := by
    rw [nominalFrom, if_neg hp.ne']
    ring
  omega

/-- It lies a whole number of periods from the raster's offset. -/
theorem nominalFrom_emod (n o : Int) {p : Int} (hp : 0 < p) : (nominalFrom n o p - o) % p = 0 := by
  rw [nominalFrom, if_neg hp.ne', add_sub_cancel_left, Int.mul_emod_left]

/-! ### A boundary (R86, R89) -/

/-- A raster's drift is noted with it, and RASTER_DRIFT writes the collector's registers alone (R86, R331). -/
theorem State.get_rasterDrift (s : State) (r : Nat) (beyond : Bool) {k : Key} (hk : raiseWrites k = false) :
    (s.rasterDrift r beyond).get k = if Hid.driftOn r = k then b2i beyond else s.get k := by
  rw [← State.get_put]
  unfold State.rasterDrift
  dsimp only
  split_ifs
  · exact raiseCond_spared (refl_spared _) 14 r k hk
  · exact raiseAs_spared (refl_spared _) 14 r true false k hk
  · rfl
  · exact endCond_spared (refl_spared _) 14 k hk

/-- The frame pulses are sent and no register changes (R89). -/
theorem State.get_fpulse (s : State) (r : Nat) (k : Key) : (s.fpulse r).get k = s.get k :=
  each_keeps (P := fun t => t.get k = s.get k) rfl _ _ fun _ _ ht => ite_keeps (P := fun t => t.get k = s.get k) ht ht

/-- The registers after a boundary of raster r (R86). -/
theorem State.get_rasterTick (s : State) (r : Nat) {k : Key} (hk : raiseWrites k = false) :
    let p := s.rasterPeriod r
    let o := s.get (Reg.RASTER_OFFSET r)
    let i := nominalIndex s.now o p
    let e := s.now - (o + i * p)
    (s.rasterTick r).get k = if Hid.driftOn r = k then b2i (decide (529200 < e.natAbs))
      else (((((s.put (Reg.RASTER_LAST_BOUNDARY r) s.nowLT).put (Reg.RASTER_PHASE_ERROR r) e).put
        (Reg.RASTER_FRAME_INDEX r) i).put (Hid.rasterNext r) 0).put (Hid.rasterRun r) 1).get k := by
  rw [State.rasterTick, State.get_fpulse, State.get_rasterDrift _ _ _ hk]

end Sys2Proof.Machine

namespace Sys2Proof
open Machine

/-- Settles O37: the nearest point leaves at most half a period, the next one less than a whole, and a boundary writes its registers
before its drift and its pulses, which leave them. -/
theorem nominalPoints : Obligations.NominalPoints := by
  unfold Obligations.NominalPoints
  refine ⟨fun n o p hp => ⟨nominalIndex_nearest n o hp, nominalIndex_half n o hp⟩, fun n o p hp => ?next, fun s r _ => ?boundary⟩
  case next =>
    obtain ⟨hlow, hhigh⟩ := nominalFrom_bounds n o hp
    exact ⟨hlow, hhigh, nominalFrom_emod n o hp⟩
  case boundary =>
    refine ⟨?_, ?_, ?_, ?_, ?_⟩ <;> rw [State.get_rasterTick _ _ rfl] <;> simp

end Sys2Proof
end


section
/-! The reference unit (R73 to R84): what its steps leave in its registers, and what each of its commands comes to. -/
namespace Sys2Proof.Machine

/-! ### The unit's steps -/

/-- A candidate that was there becomes ABSENT, and its loss is counted (R73, R77). -/
theorem State.get_refAbsent {s : State} {c : Nat}
    (h : ¬(s.get (Reg.REF_CANDIDATE_STATUS c) = 0 ∨ s.get (Reg.REF_CANDIDATE_STATUS c) = 1)) (k : Key) :
    (s.refAbsent c).get k = ((((s.put (Reg.REF_CANDIDATE_STATUS c) 1).bump (Reg.REF_CANDIDATE_LOSSES c)).put (Hid.refClear c) 0).put
      (Hid.refQual c) 0).get k := by
  rw [State.refAbsent, if_neg h]
  rfl

/-- A register of the Catalogue that is no candidate's stays when a candidate goes. -/
theorem State.get_refAbsent_other (s : State) (c : Nat) {k : Key} (hc : k.idx ≠ 0x2110) (hk : k.idx < 0x10000) :
    (s.refAbsent c).get k = s.get k := by
  have hcand : ∀ sub, (⟨0x2110, c, sub⟩ : Key) ≠ k := fun sub e => hc (e ▸ rfl)
  have hhid : ∀ l : Key, 0x10000 ≤ l.idx → l ≠ k := fun l hl e => by rw [e] at hl; omega
  by_cases h : s.get (Reg.REF_CANDIDATE_STATUS c) = 0 ∨ s.get (Reg.REF_CANDIDATE_STATUS c) = 1
  · rw [State.refAbsent, if_pos h]
    exact State.get_put_ne _ _ (hhid _ (by simp))
  · rw [State.get_refAbsent h]
    simp [hcand, hhid]

/-- The disagreement shows in DISAGREE, and its fault writes the collector's registers (R79). -/
theorem State.get_refDisagree (s : State) (measured : Bool) {k : Key} (hr : raiseWrites k = false) (hk : k.idx < 0x10000)
    (hd : Reg.REF_STATE_DISAGREE ≠ k) : (s.refDisagree measured).get k = s.get k := by
  have hpair : ∀ (t : State) (n : Nat) (v : Int), (t.put (Hid.pairDis n) v).get k = t.get k := fun t n v =>
    State.get_put_ne t v fun e => by rw [← e] at hk; exact absurd hk (by simp)
  unfold State.refDisagree
  extract_lets t any u
  have ht : t.get k = s.get k := by
    refine each_keeps (P := fun t => t.get k = s.get k) rfl _ _ fun t p ht => ?_
    dsimp only
    split_ifs <;> simp only [hpair, ht]
  have hu : u.get k = s.get k := (State.get_put_ne t _ hd).trans ht
  split_ifs
  · exact (raiseCond_spared (refl_spared u) 11 0 k hr).trans hu
  · exact (endCond_spared (refl_spared u) 11 k hr).trans hu

/-- Setting aside writes the candidates' SET_ASIDE and SELECTABLE alone (R78, R79). -/
theorem State.get_refSelectables (s : State) {k : Key} (hc : k.idx ≠ 0x2110) (hs : Reg.REF_SELECTED_SELECTABLE ≠ k) :
    s.refSelectables.get k = s.get k := by
  have hcand : ∀ c, Reg.REF_CANDIDATE_SET_ASIDE c ≠ k := fun c e => hc (e ▸ rfl)
  exact (State.get_put_ne _ _ hs).trans
    (each_keeps (P := fun t => t.get k = s.get k) rfl _ _ fun _ c ht => (State.get_put_ne _ _ (hcand c)).trans ht)

/-- The registers after a change of the unit's state, before its faults, which leave them (R80, R83). -/
theorem State.get_refEnter {s : State} {st : Int} (h : st ≠ s.get Reg.REF_STATE_STATE) {k : Key} (hr : raiseWrites k = false)
    (hl : Hid.leftLocked ≠ k) :
    (s.refEnter st).get k = ((((s.put Reg.REF_STATE_PREVIOUS (s.get Reg.REF_STATE_STATE)).put Reg.REF_STATE_STATE st).put
      Reg.REF_STATE_SINCE s.nowLT).bump Reg.REF_STATE_TRANSITIONS).get k := by
  unfold State.refEnter
  dsimp only
  rw [if_neg h]
  split_ifs <;> simp only [raise_get _ _ _ _ _ hr, State.get_put_ne _ _ hl]

/-- The unit is in the state it enters. -/
theorem State.get_refEnter_state (s : State) (st : Int) : (s.refEnter st).get Reg.REF_STATE_STATE = st := by
  by_cases h : st = s.get Reg.REF_STATE_STATE
  · rw [State.refEnter, if_pos h, h]
  · rw [State.get_refEnter h rfl (by decide)]
    simp

/-- A change of state leaves the selection and the holdover's values. -/
theorem State.get_refEnter_other (s : State) (st : Int) {k : Key} (hr : raiseWrites k = false) (hi : k.idx ≠ 0x2100)
    (hl : Hid.leftLocked ≠ k) : (s.refEnter st).get k = s.get k := by
  have hstate : ∀ sub, (⟨0x2100, 0, sub⟩ : Key) ≠ k := fun sub e => hi (e ▸ rfl)
  by_cases h : st = s.get Reg.REF_STATE_STATE
  · rw [State.refEnter, if_pos h]
  · rw [State.get_refEnter h hr hl]
    simp [hstate]

/-! ### REF's return (R84) -/

/-- The state in which REF's return has made every candidate ABSENT and selected none. -/
def State.refCleared (s : State) : State :=
  ((({ s.each (List.range 5) (fun t c => t.refAbsent c) with refMeas := [] } : State).put Reg.REF_SELECTED_CANDIDATE 255).refDisagree
    false).refSelectables

theorem State.get_refCleared_candidate (s : State) : s.refCleared.get Reg.REF_SELECTED_CANDIDATE = 255 := by
  rw [State.refCleared, State.get_refSelectables _ (by decide) (by decide), State.get_refDisagree _ _ rfl (by decide) (by decide),
    State.get_put_same]

/-- From ACQUIRING, LOCKED or HOLDOVER the unit returns to HOLDOVER at the frequency in force, its timer from the restart's start. -/
theorem State.refReturn_held {s : State} (hu : s.up 2 = true) (hr : s.get Hid.refRestartAt ≠ 0) (h1 : 1 ≤ s.get Reg.REF_STATE_STATE)
    (h3 : s.get Reg.REF_STATE_STATE ≤ 3) :
    s.refReturn = (((s.refCleared.put Reg.HOLDOVER_HELD_OFFSET (s.get Reg.REF_STATE_OUTPUT_OFFSET)).refEnter 3).put Hid.leftLocked
      (s.get Hid.refRestartAt)).put Hid.refRestartAt 0 := by
  rw [State.refReturn, if_neg (by simp [hu, hr])]
  exact if_pos (by omega)

/-- From any other state it returns as it was. -/
theorem State.refReturn_free {s : State} (hu : s.up 2 = true) (hr : s.get Hid.refRestartAt ≠ 0)
    (h : ¬(1 ≤ s.get Reg.REF_STATE_STATE ∧ s.get Reg.REF_STATE_STATE ≤ 3)) : s.refReturn = s.refCleared.put Hid.refRestartAt 0 := by
  rw [State.refReturn, if_neg (by simp [hu, hr])]
  exact if_neg (by omega)

/-- The return selects no candidate. -/
theorem State.get_refReturn_candidate {s : State} (hu : s.up 2 = true) (hr : s.get Hid.refRestartAt ≠ 0) :
    s.refReturn.get Reg.REF_SELECTED_CANDIDATE = 255 := by
  by_cases h : 1 ≤ s.get Reg.REF_STATE_STATE ∧ s.get Reg.REF_STATE_STATE ≤ 3
  · rw [State.refReturn_held hu hr h.1 h.2, State.get_put_ne _ _ (by decide), State.get_put_ne _ _ (by decide),
      State.get_refEnter_other _ _ rfl (by decide) (by decide), State.get_put_ne _ _ (by decide), State.get_refCleared_candidate]
  · rw [State.refReturn_free hu hr h, State.get_put_ne _ _ (by decide), State.get_refCleared_candidate]

/-- The return to HOLDOVER shows it, and holds the frequency in force. -/
theorem State.get_refReturn_held {s : State} (hu : s.up 2 = true) (hr : s.get Hid.refRestartAt ≠ 0)
    (h1 : 1 ≤ s.get Reg.REF_STATE_STATE) (h3 : s.get Reg.REF_STATE_STATE ≤ 3) :
    s.refReturn.get Reg.REF_STATE_STATE = 3 ∧ s.refReturn.get Reg.HOLDOVER_HELD_OFFSET = s.get Reg.REF_STATE_OUTPUT_OFFSET := by
  rw [State.refReturn_held hu hr h1 h3]
  constructor <;> rw [State.get_put_ne _ _ (by decide), State.get_put_ne _ _ (by decide)]
  · exact State.get_refEnter_state _ 3
  · rw [State.get_refEnter_other _ _ rfl (by decide) (by decide), State.get_put_same]

/-! ### Losses, holdover and the XO correction (R73, R76, R82, R83) -/

/-- A loss of a candidate that was there (R73, R78). -/
theorem State.candidateLoss_present {s : State} {c : Nat} (hu : s.up 2 = true) (h : 2 ≤ s.get (Reg.REF_CANDIDATE_STATUS c)) :
    s.candidateLoss c = (((s.refAbsent c).refDisagree false).refSelectables).refMove none := by
  have hne : s.get (Reg.REF_CANDIDATE_STATUS c) ≠ 0 := by omega
  exact if_neg (by simp [hu, hne])

/-- The evaluation in HOLDOVER estimates the phase over the time since the unit left LOCKED, and holds it against both limits. -/
theorem State.holdoverEval_holding {s : State} (h : s.get Reg.REF_STATE_STATE = 3) (hl : s.get Hid.leftLocked ≠ 0) :
    let el := s.tickLf - (s.get Hid.leftLocked - 1)
    let e := phaseEstimate (s.get Reg.HOLDOVER_RESIDUAL) (s.get Reg.HOLDOVER_DRIFT) (el / lfSec)
    let t := s.put Reg.HOLDOVER_ESTIMATED_ERROR e
    s.holdoverEval = if s.get Reg.HOLDOVER_TIME_LIMIT ≤ el ∨ s.get Reg.HOLDOVER_PHASE_LIMIT ≤ e then t.refEnter 4 else t := by
  have ht : s.holdTimer = s.tickLf - (s.get Hid.leftLocked - 1) := if_neg hl
  rw [State.holdoverEval, if_neg (not_not.mpr h), ht]

end Sys2Proof.Machine

namespace Sys2Proof
open Machine

/-- Settles O40: each command of the running unit comes to its own operation, whose faults write the collector's registers alone. -/
theorem referenceUnit : Obligations.ReferenceUnit := by
  unfold Obligations.ReferenceUnit
  intro s ha hu
  refine ⟨fun l out fine hl => onElement_next (decide_eq_true hl) ha rfl, fun c hc hs => ⟨?loss, ?absent⟩,
    fun hs hl => ?holdover, fun hs hn => live_next ha ((if_pos hu).trans (if_pos ⟨hs, hn⟩)),
    fun hr => ⟨live_next ha rfl, State.get_refReturn_candidate hu hr, State.get_refReturn_held hu hr⟩, fun r hr hp hw => ?boundary⟩
  case loss => exact onElement_next (decide_eq_true hc) ha (State.candidateLoss_present hu hs)
  case absent =>
    have habsent := State.get_refAbsent (s := s) (c := c) (by omega)
    simp [habsent]
  case holdover =>
    intro el e t
    have heval := State.holdoverEval_holding hs hl
    refine ⟨fun htime hphase => live_next ha ?_, fun hlimit => ⟨live_next ha ?_, State.get_refEnter_state t 4⟩⟩
    · rw [if_pos hu, heval, if_neg (not_or.mpr ⟨not_le.mpr htime, not_le.mpr hphase⟩)]
    · rw [if_pos hu, heval, if_pos hlimit]
  case boundary => exact onElement_next (decide_eq_true hr) ha (if_neg (by simp [hp, hw]))

end Sys2Proof
end


section
/-! What every step keeps, and the tables of slips, Logbook entries and Almanac intervals as every command leaves them (R91, R347, R388). -/
namespace Sys2Proof.Machine

/-- A steady property that does not look at the queue is kept by every step: a command keeps it, and so does a tick. -/
theorem step_keeps {P : State → Prop} {s t : State} (K : Steady P)
    (hqueue : ∀ {u : State} (q : List Instr), P u → P { u with pending := q }) (hs : P s) (h : step s = .next t) : P t := by
  cases hq : s.pending with
  | nil =>
    rw [step_nil hq] at h
    cases h
    exact ite_keeps (tickWith_keeps K hs 0) hs
  | cons c rest =>
    rw [step_cons hq] at h
    exact exec_keeps K (hqueue rest hs) c t h

/-- The order and the bounds of the tables look at the tables alone: a slip is put at its place, and the others are replaced within their
bounds. -/
theorem tablesWf_steady : Steady State.tablesWf where
  put hs _ _ := hs
  setSlip := fun ⟨hslips, hlog, hiv⟩ x => ⟨putSlip_sorted x _ hslips, hlog, hiv⟩
  log := fun ⟨hslips, hlog, hiv⟩ _ hl => ⟨hslips, hl.trans (max_le le_rfl hlog), hiv⟩
  intervals := fun ⟨hslips, hlog, _⟩ _ hiv => ⟨hslips, hlog, hiv⟩
  reset := fun ⟨_, _, hiv⟩ _ _ _ hslips hlog hkept => by
    unfold State.tablesWf
    rw [hslips, hlog, hkept]
    exact ⟨List.Pairwise.nil, Nat.zero_le 64, hiv⟩
  other hs _ _ hslips hlog hiv := by
    unfold State.tablesWf
    rw [hslips, hlog, hiv]
    exact hs

end Sys2Proof.Machine

namespace Sys2Proof
open Machine

/-- Settles O4: the order and the bounds of the tables are a steady property, which every step keeps whatever waits in the queue. -/
theorem stepKeepsTables : Obligations.StepKeepsTables := by
  unfold Obligations.StepKeepsTables
  intro s t hs h
  exact step_keeps tablesWf_steady (fun _ h => h) hs h

end Sys2Proof
end


section
/-! A slip of the table after a slip was put at its place, and after slips were cancelled (R91, R93, R111). -/
namespace Sys2Proof.Machine

/-! ### Reading the table -/

/-- The record of a slip bears the slip's number (R91). -/
@[simp] theorem State.slip_num (s : State) (n : Nat) : (s.slip n).num = n := by
  unfold State.slip
  cases h : s.slips.find? (fun x => x.num == n) with
  | none => rfl
  | some x => simpa using List.find?_some h

/-- In a table in order a listed slip is the record of its number. -/
theorem State.slip_listed {s : State} {x : Slip} (hs : (s.slips.map Slip.num).Pairwise (· < ·)) (hx : x ∈ s.slips) :
    s.slip x.num = x := by
  unfold State.slip
  generalize s.slips = l at hs hx
  induction l with
  | nil => cases hx
  | cons y l ih =>
    rw [List.map_cons, List.pairwise_cons] at hs
    obtain ⟨hy, hl⟩ := hs
    rcases List.mem_cons.mp hx with rfl | hx
    · simp
    · have hne : y.num ≠ x.num := (hy x.num (List.mem_map_of_mem hx)).ne
      simpa [List.find?_cons, hne] using ih hl hx

/-! ### A slip put at its place -/

theorem find?_putSlip_same {x : Slip} (hx : x.st ≠ .empty) (l : List Slip) :
    (putSlip x l).find? (fun y => y.num == x.num) = some x := by
  induction l with
  | nil => simp [putSlip, hx]
  | cons y l ih =>
    unfold putSlip
    split_ifs with hlt heq
    · simp
    · simp
    · have hne : y.num ≠ x.num := fun h => heq h.symm
      simpa [List.find?_cons, hne] using ih

theorem find?_putSlip_ne {x : Slip} {k : Nat} (hk : k ≠ x.num) (l : List Slip) :
    (putSlip x l).find? (fun y => y.num == k) = l.find? (fun y => y.num == k) := by
  have hne : x.num ≠ k := hk.symm
  induction l with
  | nil => unfold putSlip; split_ifs <;> simp [hne]
  | cons y l ih =>
    unfold putSlip
    split_ifs with _ _ heq
    · rfl
    · simp [List.find?_cons, hne]
    · simp [← heq, hne]
    · simp [← heq, hne]
    · simp only [List.find?_cons, ih]

/-- A slip that is not EMPTY stands as it was put, and every other as before. -/
theorem State.slip_setSlip (s : State) {x : Slip} (hx : x.st ≠ .empty) (k : Nat) :
    (s.setSlip x).slip k = if k = x.num then x else s.slip k := by
  split_ifs with h
  · subst h
    simp [State.slip, State.setSlip, find?_putSlip_same hx]
  · simp [State.slip, State.setSlip, find?_putSlip_ne h]

/-! ### Cancelling (R111) -/

/-- The record of a slip after a CANCEL names it: a staged or armed one is CANCELLED and holds no items, any other stays. -/
def Slip.afterCancel (x : Slip) : Slip := if x.st = .staged ∨ x.st = .armed then { x with st := .cancelled, items := [] } else x

theorem Slip.afterCancel_waiting {x : Slip} (h : x.st = .staged ∨ x.st = .armed) :
    x.afterCancel = { x with st := .cancelled, items := [] } := if_pos h

theorem Slip.afterCancel_other {x : Slip} (h : ¬(x.st = .staged ∨ x.st = .armed)) : x.afterCancel = x := if_neg h

theorem Slip.afterCancel_idem (x : Slip) : x.afterCancel.afterCancel = x.afterCancel := by
  by_cases h : x.st = .staged ∨ x.st = .armed
  · rw [Slip.afterCancel_waiting h]
    exact Slip.afterCancel_other (by simp)
  · rw [Slip.afterCancel_other h, Slip.afterCancel_other h]

theorem State.cancelSlip_waiting {s : State} {n : Nat} (h : (s.slip n).st = .staged ∨ (s.slip n).st = .armed) :
    s.cancelSlip n = (s.setSlip { s.slip n with st := .cancelled, items := [] }).bump Reg.SLIP_COUNT_CANCELLED := if_pos h

theorem State.cancelSlip_other {s : State} {n : Nat} (h : ¬((s.slip n).st = .staged ∨ (s.slip n).st = .armed)) :
    s.cancelSlip n = s := if_neg h

/-- A cancel touches the record of its own slip alone. -/
theorem State.slip_cancelSlip (s : State) (n k : Nat) :
    (s.cancelSlip n).slip k = if k = n then (s.slip k).afterCancel else s.slip k := by
  by_cases h : (s.slip n).st = .staged ∨ (s.slip n).st = .armed
  · have hput := s.slip_setSlip (x := { s.slip n with st := .cancelled, items := [] }) (by simp) k
    rw [State.cancelSlip_waiting h]
    refine hput.trans ?_
    rw [State.slip_num]
    split_ifs with hk
    · rw [hk, Slip.afterCancel_waiting h]
    · rfl
  · rw [State.cancelSlip_other h]
    split_ifs with hk
    · rw [hk, Slip.afterCancel_other h]
    · rfl

/-- Cancelling a list of slips cancels those listed, however often, and leaves the others. -/
theorem State.slip_each_cancelSlip (s : State) (l : List Nat) (k : Nat) :
    (s.each l (fun t n => t.cancelSlip n)).slip k = if k ∈ l then (s.slip k).afterCancel else s.slip k := by
  induction l generalizing s with
  | nil => rfl
  | cons n l ih =>
    have hrest := ih (s.cancelSlip n)
    rw [State.slip_cancelSlip] at hrest
    refine hrest.trans ?_
    by_cases hn : k = n <;> by_cases hl : k ∈ l <;> simp [hn, hl, Slip.afterCancel_idem]

/-- The numbers of the listed slips that a condition picks: in a table in order a listed slip's is one of them where it meets it. -/
theorem mem_nums_filter {s : State} {x : Slip} (hs : (s.slips.map Slip.num).Pairwise (· < ·)) (hx : x ∈ s.slips) (p : Slip → Bool) :
    x.num ∈ (s.slips.filter p).map (fun (y : Slip) => y.num) ↔ p x = true := by
  rw [List.mem_map]
  constructor
  · rintro ⟨y, hy, hnum⟩
    obtain ⟨hmem, hp⟩ := List.mem_filter.mp hy
    rwa [← State.slip_listed hs hx, ← hnum, State.slip_listed hs hmem]
  · exact fun hp => ⟨x, List.mem_filter.mpr ⟨hx, hp⟩, rfl⟩

/-- A cancel of the slips that a condition picks, on a listed slip. -/
theorem State.slip_cancelPicked {s : State} {x : Slip} (hs : (s.slips.map Slip.num).Pairwise (· < ·)) (hx : x ∈ s.slips)
    (p : Slip → Bool) :
    (s.each ((s.slips.filter p).map (fun (y : Slip) => y.num)) (fun t n => t.cancelSlip n)).slip x.num =
      if p x then x.afterCancel else x := by
  simp only [State.slip_each_cancelSlip, mem_nums_filter hs hx, State.slip_listed hs hx]

/-- A cancel of all, on a listed slip. -/
theorem State.slip_cancelAll {s : State} {x : Slip} (hs : (s.slips.map Slip.num).Pairwise (· < ·)) (hx : x ∈ s.slips) :
    s.cancelAll.slip x.num = x.afterCancel := by
  refine (State.slip_cancelPicked hs hx _).trans ?_
  by_cases h : x.st = .staged ∨ x.st = .armed
  · exact if_pos (by simpa using h)
  · rw [if_neg (by simpa using h), Slip.afterCancel_other h]

/-- A cancel of a group, on a listed slip. -/
theorem State.slip_cancelGroup {s : State} {x : Slip} (hs : (s.slips.map Slip.num).Pairwise (· < ·)) (hx : x ∈ s.slips) (g : Nat) :
    (s.cancelGroup g).slip x.num = if x.st = .armed ∧ x.group = g then x.afterCancel else x := by
  refine (State.slip_cancelPicked hs hx _).trans ?_
  simp

/-- The count of cancelled slips is a 64-bit counter (`5050`). -/
theorem counterMax_cancelled : counterMax Reg.SLIP_COUNT_CANCELLED = 2 ^ 64 - 1 := by decide

/-- A slip that is cancelled counts once. -/
theorem State.get_cancelSlip_count {s : State} {n : Nat} (h : (s.slip n).st = .staged ∨ (s.slip n).st = .armed) :
    (s.cancelSlip n).get Reg.SLIP_COUNT_CANCELLED = min (s.get Reg.SLIP_COUNT_CANCELLED + 1) (2 ^ 64 - 1) := by
  rw [State.cancelSlip_waiting h, State.get_bump, if_pos rfl, counterMax_cancelled]
  rfl

end Sys2Proof.Machine

namespace Sys2Proof
open Machine

/-- Settles O22: a cancel replaces one record, and the cancels of a group and of all are cancels of the slips that their condition picks. -/
theorem slipCommandsOnTheTable : Obligations.SlipCommandsOnTheTable := by
  unfold Obligations.SlipCommandsOnTheTable
  intro s hs
  refine ⟨fun n x hx hn hst => ?one, fun n h1 h2 => State.cancelSlip_other (not_or.mpr ⟨h1, h2⟩), fun x hx hst => ?launched,
    fun x hx hst => ?all, fun g x hx => ?group⟩
  case one =>
    subst hn
    have hslip := State.slip_listed hs hx
    refine ⟨?_, State.get_cancelSlip_count (hslip.symm ▸ hst), fun k hk => ?_⟩
    · rw [State.slip_cancelSlip, if_pos rfl, hslip, Slip.afterCancel_waiting hst]
    · rw [State.slip_cancelSlip, if_neg hk]
  case launched =>
    refine ⟨?_, fun g => ?_⟩
    · rw [State.slip_cancelAll hs hx, Slip.afterCancel_other (by simp [hst])]
    · rw [State.slip_cancelGroup hs hx, if_neg (by simp [hst])]
  case all => rw [State.slip_cancelAll hs hx, Slip.afterCancel_waiting hst]
  case group =>
    rw [State.slip_cancelGroup hs hx]
    split_ifs with h
    · rw [Slip.afterCancel_waiting (Or.inr h.1)]
    · rfl

end Sys2Proof
end


section
/-! The times of slips: check points, boundaries and the end of a late time-line (R102, R104 to R106, R143, R247). -/
namespace Sys2Proof.Machine

/-- The record of the one slip that a table lists. -/
theorem State.slip_alone {s : State} {x : Slip} (h : s.slips = [x]) : s.slip x.num = x :=
  State.slip_listed (by simp [h]) (by simp [h])

/-! ### Check points (R102) -/

/-- The slip is ARMED and its check point has come, at the instant `a` and by Ledger time `now` in 1/4,096 lf. -/
def Slip.checkDue (x : Slip) (a now : Int) : Bool :=
  decide (x.st = .armed) && (match x.check with
    | none => false
    | some c => decide (c / 4096 ≤ a) && decide (c ≤ now))

theorem Slip.checkDue_iff {x : Slip} {a now : Int} :
    x.checkDue a now = true ↔ x.st = .armed ∧ ∃ c, x.check = some c ∧ c / 4096 ≤ a ∧ c ≤ now := by
  cases hc : x.check <;> simp [Slip.checkDue, hc]

/-- While TIME runs, a check point settles the units of the slips that are due, those still ARMED (R102). -/
theorem State.checkPoint_up {s : State} (hup : s.up 1 = true) (a : Int) :
    s.checkPoint a = s.each (orderSlips (s.slips.filter (fun x => x.checkDue a s.nowFine)))
      (fun t x => if (t.slip x.num).st = .armed then t.settleUnit s (t.unitOf (t.slip x.num)) else t) := by
  rw [State.checkPoint, if_neg (by simp [hup])]
  rfl

/-- With no ARMED slip whose check point has come, a check point does nothing. -/
theorem State.checkPoint_notDue {s : State} {a : Int}
    (h : ∀ x ∈ s.slips, x.st = .armed → ∀ c, x.check = some c → a < c / 4096 ∨ s.nowFine < c) : s.checkPoint a = s := by
  by_cases hup : s.up 1 = true
  · have hnone : s.slips.filter (fun x => x.checkDue a s.nowFine) = [] := by
      rw [List.filter_eq_nil_iff]
      intro x hx hdue
      obtain ⟨hst, c, hc, hreached, hnow⟩ := Slip.checkDue_iff.mp hdue
      rcases h x hx hst c hc with h | h <;> omega
    rw [State.checkPoint_up hup, hnone]
    rfl
  · exact if_pos (by simpa using hup)

/-- An ARMED slip alone in the table is settled with its unit when its check point has come (R104). -/
theorem State.checkPoint_alone {s : State} {a c : Int} {x : Slip} (hx : s.slips = [x]) (hup : s.up 1 = true) (hst : x.st = .armed)
    (hc : x.check = some c) (hreached : c / 4096 ≤ a) (hnow : c ≤ s.nowFine) : s.checkPoint a = s.settleUnit s (s.unitOf x) := by
  have hdue : s.slips.filter (fun x => x.checkDue a s.nowFine) = [x] := by
    have hpick := Slip.checkDue_iff.mpr ⟨hst, c, hc, hreached, hnow⟩
    simp [hx, hpick]
  rw [State.checkPoint_up hup, hdue]
  refine (if_pos ?_).trans ?_ <;> rw [State.slip_alone hx]
  exact hst

/-! ### Boundaries (R99, R105) -/

/-- With no LAUNCHED slip whose boundary has come, a boundary does nothing. -/
theorem State.slipBoundary_notDue {s : State} {a : Int} (h : ∀ x ∈ s.slips, s.firings x a = []) : s.slipBoundary a = s := by
  unfold State.slipBoundary
  rw [List.flatMap_eq_nil_iff.mpr h]
  rfl

/-- A LAUNCHED slip other than an ALIGN fires once, where its boundary has come. -/
theorem State.firings_due {s : State} {a b : Int} {x : Slip} (hst : x.st = .launched) (hk : x.kind ≠ 11)
    (happ : s.get (Hid.slipApplied x.num) = 0) (hb : s.firesAt x a = some b) :
    s.firings x a = [⟨{ x with boundary := some b }, 32⟩] := by
  simp [State.firings, hst, hk, happ, hb]

/-- Alone in the table, it takes effect with the stamp of its boundary, and retires there where its kind does (R105, R106). -/
theorem State.slipBoundary_alone {s : State} {a b : Int} {x : Slip} (hx : s.slips = [x]) (hst : x.st = .launched) (hk : x.kind ≠ 11)
    (happ : s.get (Hid.slipApplied x.num) = 0) (hb : s.firesAt x a = some b) (hret : retiresAtB x.kind = true) :
    s.slipBoundary a = (s.applySlip { x with boundary := some b } b).retire x.num := by
  simp [State.slipBoundary, hx, State.firings_due hst hk happ hb, insertFiring, State.each, hk, hret]

/-! ### Late time-lines (R106, R143, R247) -/

/-- A TAKE's or CANVAS's time-line ends a period after its boundary: the slip is RETIRED, and what no longer stands is released. -/
theorem State.retireLate_due {s : State} {n : Nat} (hst : (s.slip n).st = .launched) (happ : s.get (Hid.slipApplied n) = 1)
    (hend : (s.slip n).boundary.getD 0 + s.slipPeriod (s.slip n) * 4096 ≤ s.nowFine)
    (hk : (s.slip n).kind = 1 ∨ (s.slip n).kind = 4) :
    s.retireLate n = if (s.slip n).kind = 1 then (s.retire n).takeRetire (s.slip n).target
      else (s.retire n).canvasRetire (s.slip n).target := by
  have hlate : retiresAtB (s.slip n).kind = false ∧ (s.slip n).kind ≠ 11 := by
    rcases hk with hk | hk <;> rw [hk] <;> decide
  obtain ⟨hret, halign⟩ := hlate
  exact if_neg (by simp [hst, happ, hret, halign, hend])

/-! ### The twin's word (R110, R112) -/

/-- A twin message about an element the part has acts once it is noted. -/
theorem onElement_twinHeard {s : State} {k : Nat} {b : Bool} (hb : b = true) (h : s.hearsTwin k) (f : State → State) :
    onElement b s (s.twinMessage k f) = .next ((f (s.heardTwin k)).closing s) := by
  rw [onElement, if_pos hb, State.twinMessage_heard h]

/-- Over a link that is down it does not come. -/
theorem onElement_twinDown {s : State} {b : Bool} (hb : b = true) (ha : s.alive = true) (h : s.twinUp = false) (k : Nat)
    (f : State → State) : onElement b s (s.twinMessage k f) = .next (s.closing s) := by
  rw [onElement, if_pos hb, State.twinMessage_down ha h]

end Sys2Proof.Machine

namespace Sys2Proof
open Machine

/-- Settles O41: each time of a slip finds what is due, and a message from the twin acts as one that is heard. -/
theorem slipTimes : Obligations.SlipTimes := by
  unfold Obligations.SlipTimes
  intro s ha
  refine ⟨fun a => ⟨live_next ha rfl, State.checkPoint_notDue, fun x c hx hup hst hc => State.checkPoint_alone hx hup hst hc⟩,
    fun a => ⟨live_next ha rfl, State.slipBoundary_notDue, fun x b hx hst hk happ hb => State.slipBoundary_alone hx hst hk happ hb⟩,
    fun n hn hst happ hend => ⟨fun hk => ?take, fun hk => ?canvas⟩,
    fun k n launch seq hn => ⟨fun h => onElement_twinHeard (decide_eq_true hn) h _,
      fun h => onElement_twinDown (decide_eq_true hn) ha h _ _⟩,
    fun k n st i hn => ⟨fun h => onElement_twinHeard (decide_eq_true hn) h _,
      fun h => onElement_twinDown (decide_eq_true hn) ha h _ _⟩⟩
  case take =>
    refine onElement_next (decide_eq_true hn) ha ?_
    rw [State.retireLate_due hst happ hend (Or.inl hk), if_pos hk]
  case canvas =>
    refine onElement_next (decide_eq_true hn) ha ?_
    rw [State.retireLate_due hst happ hend (Or.inr hk), if_neg (by omega)]

end Sys2Proof
end


section
/-! The presence of a serial receive lane (R125, R126, R131, Table 6.6): what a transition of the recovered signal starts, what the lapse of
a time decides, and what the publication of a decision shows. -/
namespace Sys2Proof.Machine

/-! ### What a report leaves of the registers -/

@[simp] theorem State.get_setPinSignal (s : State) (n : Nat) (d : Option SdiLink) (k : Key) : (s.setPinSignal n d).get k = s.get k := rfl
@[simp] theorem State.get_sdiNote (s : State) (n : Nat) (k : Key) : (s.sdiNote n).get k = s.get k := rfl

@[simp] theorem State.put_sdiEdges (s : State) (k : Key) (v : Int) : (s.put k v).sdiEdges = s.sdiEdges := rfl

/-- A cut of a source's frame is noted among the cuts alone (R149, R151). -/
theorem State.sdiCut_cuts (s : State) (n : Nat) (present : Bool) : ∃ l, s.sdiCut n present = { s with cuts := l } := by
  unfold State.sdiCut
  dsimp only
  split
  · exact ⟨s.cuts, rfl⟩
  · cases present <;> exact ⟨_, rfl⟩

@[simp] theorem State.get_sdiCut (s : State) (n : Nat) (present : Bool) (k : Key) : (s.sdiCut n present).get k = s.get k := by
  obtain ⟨l, hl⟩ := s.sdiCut_cuts n present
  rw [hl]
  rfl

theorem State.sdiCut_sdiEdges (s : State) (n : Nat) (present : Bool) : (s.sdiCut n present).sdiEdges = s.sdiEdges := by
  obtain ⟨l, hl⟩ := s.sdiCut_cuts n present
  rw [hl]

theorem State.sdiCut_ticks (s : State) (n : Nat) (present : Bool) : (s.sdiCut n present).ticks = s.ticks := by
  obtain ⟨l, hl⟩ := s.sdiCut_cuts n present
  rw [hl]

/-- The number of noted transitions, one more included, rests on those noted, the window and the time. -/
theorem State.sdiEdgeCount_congr {s t : State} {n : Nat} (he : t.sdiEdges = s.sdiEdges) (ht : t.ticks = s.ticks)
    (hw : t.get (Reg.SDI_RX_CHATTER_WINDOW n) = s.get (Reg.SDI_RX_CHATTER_WINDOW n)) :
    (t.sdiNote n).sdiEdgeCount n = (s.sdiNote n).sdiEdgeCount n := by
  simp only [State.sdiNote, State.sdiEdgeCount, State.tickLf, he, ht, hw]
  rfl

/-! ### Transitions (R125, R131) -/

/-- A lane as its recovery reports a transition, before the times that this starts (R131). -/
def State.sdiMoved (s : State) (n : Nat) (present : Bool) : State :=
  ((s.put (Hid.sdiRaw n) (b2i present)).put (Hid.sdiRawAt n) s.tickLf).sdiNote n

theorem State.sdiEdgeCount_sdiMoved (s : State) (n : Nat) (present : Bool) :
    (s.sdiMoved n present).sdiEdgeCount n = (s.sdiNote n).sdiEdgeCount n :=
  State.sdiEdgeCount_congr (t := (s.put (Hid.sdiRaw n) (b2i present)).put (Hid.sdiRawAt n) s.tickLf) rfl rfl (by simp)

/-- Short of CHATTER_EDGES a transition starts ACQUIRE or LOSS as the lane's state asks, or ends either (Table 6.6). -/
theorem State.sdiRawEdge_settling {s : State} {n : Nat} (h3 : s.get (Hid.sdiLane n) ≠ 3)
    (hc : ((s.sdiNote n).sdiEdgeCount n : Int) < s.get (Reg.SDI_RX_CHATTER_EDGES n)) (present : Bool) :
    s.sdiRawEdge n present = (s.sdiMoved n present).put (Hid.sdiDue n)
      (if present ∧ s.get (Hid.sdiLane n) = 0 then s.tickLf + s.get (Reg.SDI_RX_ACQUIRE n)
       else if present = false ∧ (s.get (Hid.sdiLane n) = 1 ∨ s.get (Hid.sdiLane n) = 2) then s.tickLf + s.get (Reg.SDI_RX_LOSS n)
       else 0) := by
  have hcount : ¬ s.get (Reg.SDI_RX_CHATTER_EDGES n) ≤ ((s.sdiMoved n present).sdiEdgeCount n : Nat) := by
    rw [State.sdiEdgeCount_sdiMoved]
    omega
  unfold State.sdiRawEdge
  dsimp only
  rw [if_neg h3]
  refine (if_neg hcount).trans ?_
  split_ifs <;> rfl

/-- As many transitions as CHATTER_EDGES are CHATTER, and its quiet window starts (Table 6.6). -/
theorem State.sdiRawEdge_chatter {s : State} {n : Nat} (h3 : s.get (Hid.sdiLane n) ≠ 3)
    (hc : s.get (Reg.SDI_RX_CHATTER_EDGES n) ≤ (s.sdiNote n).sdiEdgeCount n) (present : Bool) :
    s.sdiRawEdge n present = (((s.sdiMoved n present).sdiDecide n 3).put (Hid.sdiQuiet n)
      (s.tickLf + s.get (Reg.SDI_RX_CHATTER_WINDOW n))).put (Hid.sdiDue n) 0 := by
  have hcount : s.get (Reg.SDI_RX_CHATTER_EDGES n) ≤ ((s.sdiMoved n present).sdiEdgeCount n : Nat) := by
    rwa [State.sdiEdgeCount_sdiMoved]
  unfold State.sdiRawEdge
  dsimp only
  rw [if_neg h3]
  exact if_pos hcount

/-- A lane whose recovery has found a signal, with its structure noted, before the transition (R125, `3300:0C`). -/
def State.sdiFound (s : State) (n : Nat) (x : SdiLink) : State :=
  (((s.setPinSignal n (some x)).sdiDetect n x).when (s.get (Reg.SDI_RX_RATE n) != 0 && !s.sdiSame n x)
    (fun u => u.bump (Reg.SDI_STATS_FORMAT_CHANGES n))).sdiCut n true

/-- Recovery finds a signal on a lane that is ABSENT (R125, R126). -/
theorem State.sdiRawTransition_found {s : State} {n : Nat} {x : SdiLink} (hl : s.sdiListens n = true) (hk : s.sdiLocks n x = true)
    (hr : s.get (Hid.sdiRaw n) = 0) (h0 : s.get (Hid.sdiLane n) = 0) :
    s.sdiRawTransition n (some x) = (s.sdiFound n x).sdiRawEdge n true := by
  have harrive : s.sdiRawTransition n (some x) = (s.setPinSignal n (some x)).sdiArrive n x := by
    simp [State.sdiRawTransition, hl, hk, hr]
  have hlane : ((s.setPinSignal n (some x)).sdiDetect n x).get (Hid.sdiLane n) = 0 := by simp [State.sdiDetect, h0]
  have hsame : (s.setPinSignal n (some x)).sdiSame n x = s.sdiSame n x := rfl
  rw [harrive]
  simp [State.sdiArrive, State.sdiFound, State.when, hlane, hsame]

/-- A found signal shows in the structure registers of its lane, and a change of structure is counted. -/
theorem State.get_sdiFound (s : State) (n : Nat) (x : SdiLink) {k : Key} (h : Reg.SDI_STATS_FORMAT_CHANGES n ≠ k) :
    (s.sdiFound n x).get k = (s.sdiDetect n x).get k := by
  rw [State.sdiFound, State.get_sdiCut, State.when]
  split
  · rw [State.get_bump, if_neg h]
    rfl
  · rfl

theorem State.sdiFound_sdiEdges (s : State) (n : Nat) (x : SdiLink) : (s.sdiFound n x).sdiEdges = s.sdiEdges := by
  rw [State.sdiFound, State.sdiCut_sdiEdges, State.when]
  split
  · simp [State.bump, State.bumpBy, State.sdiDetect, State.setPinSignal]
  · simp [State.sdiDetect, State.setPinSignal]

theorem State.sdiFound_ticks (s : State) (n : Nat) (x : SdiLink) : (s.sdiFound n x).ticks = s.ticks := by
  rw [State.sdiFound, State.sdiCut_ticks, State.when]
  split <;> simp [State.sdiDetect, State.setPinSignal]

/-- A signal found on an ABSENT lane starts ACQUIRE, and leaves SIGNAL to the publication (Table 6.6). -/
theorem State.get_sdiRawTransition_found {s : State} {n : Nat} {x : SdiLink} (hl : s.sdiListens n = true) (hk : s.sdiLocks n x = true)
    (hr : s.get (Hid.sdiRaw n) = 0) (h0 : s.get (Hid.sdiLane n) = 0)
    (hc : ((s.sdiNote n).sdiEdgeCount n : Int) < s.get (Reg.SDI_RX_CHATTER_EDGES n)) :
    let t := s.sdiRawTransition n (some x)
    t.get (Hid.sdiDue n) = s.tickLf + s.get (Reg.SDI_RX_ACQUIRE n) ∧ t.get (Hid.sdiRaw n) = 1 ∧
      t.get (Reg.SDI_RX_RATE n) = x.rate ∧ t.get (Reg.SDI_RX_SIGNAL n) = s.get (Reg.SDI_RX_SIGNAL n) := by
  have hget : ∀ k : Key, Reg.SDI_STATS_FORMAT_CHANGES n ≠ k → (s.sdiFound n x).get k = (s.sdiDetect n x).get k := fun k =>
    s.get_sdiFound n x
  have hcount : (((s.sdiFound n x).sdiNote n).sdiEdgeCount n : Int) < (s.sdiFound n x).get (Reg.SDI_RX_CHATTER_EDGES n) := by
    rw [State.sdiEdgeCount_congr (s.sdiFound_sdiEdges n x) (s.sdiFound_ticks n x) (by simp [hget, State.sdiDetect])]
    simpa [hget, State.sdiDetect] using hc
  have hlane : (s.sdiFound n x).get (Hid.sdiLane n) = 0 := by simp [hget, State.sdiDetect, h0]
  have htick : (s.sdiFound n x).tickLf = s.tickLf := by rw [State.tickLf, s.sdiFound_ticks]; rfl
  intro t
  have ht : t = (s.sdiFound n x).sdiRawEdge n true := State.sdiRawTransition_found hl hk hr h0
  rw [ht, State.sdiRawEdge_settling (by omega) hcount]
  simp [State.sdiMoved, hlane, htick, hget, State.sdiDetect, b2i]

/-- The lane as its recovery's loss leaves it, before the transition. -/
def State.sdiGone (s : State) (n : Nat) : State := (s.setPinSignal n none).sdiCut n false

@[simp] theorem State.get_sdiGone (s : State) (n : Nat) (k : Key) : (s.sdiGone n).get k = s.get k := by simp [State.sdiGone]

theorem State.sdiGone_tickLf (s : State) (n : Nat) : (s.sdiGone n).tickLf = s.tickLf := by
  rw [State.tickLf, State.sdiGone, State.sdiCut_ticks]
  rfl

theorem State.sdiEdgeCount_sdiGone (s : State) (n : Nat) :
    ((s.sdiGone n).sdiNote n).sdiEdgeCount n = (s.sdiNote n).sdiEdgeCount n :=
  State.sdiEdgeCount_congr (State.sdiCut_sdiEdges _ n false) (State.sdiCut_ticks _ n false) (s.get_sdiGone n _)

/-- Recovery is lost on a lane that had a signal (R125). -/
theorem State.sdiRawTransition_lost {s : State} {n : Nat} (hl : s.sdiListens n = true) (hr : s.get (Hid.sdiRaw n) = 1) :
    s.sdiRawTransition n none = (s.sdiGone n).sdiRawEdge n false := by
  simp [State.sdiRawTransition, hl, hr, State.when, State.sdiVanish, State.sdiGone]

/-- The state that is decided is the lane's from then on. -/
theorem State.get_sdiDecide_lane (s : State) (n st : Nat) : (s.sdiDecide n st).get (Hid.sdiLane n) = st := by
  unfold State.sdiDecide State.when
  dsimp only
  split <;> simp

/-- A loss on a PRESENT lane starts LOSS, unless it is the transition that makes CHATTER (Table 6.6). -/
theorem State.get_sdiRawTransition_lost {s : State} {n : Nat} (hl : s.sdiListens n = true) (hr : s.get (Hid.sdiRaw n) = 1)
    (h1 : s.get (Hid.sdiLane n) = 1) :
    let t := s.sdiRawTransition n none
    (((s.sdiNote n).sdiEdgeCount n : Int) < s.get (Reg.SDI_RX_CHATTER_EDGES n) →
      t.get (Hid.sdiDue n) = s.tickLf + s.get (Reg.SDI_RX_LOSS n) ∧ t.get (Hid.sdiRaw n) = 0) ∧
    (s.get (Reg.SDI_RX_CHATTER_EDGES n) ≤ (s.sdiNote n).sdiEdgeCount n →
      t.get (Hid.sdiLane n) = 3 ∧ t.get (Hid.sdiQuiet n) = s.tickLf + s.get (Reg.SDI_RX_CHATTER_WINDOW n)) := by
  have hne : (s.sdiGone n).get (Hid.sdiLane n) ≠ 3 := by simp [h1]
  intro t
  have ht : t = (s.sdiGone n).sdiRawEdge n false := State.sdiRawTransition_lost hl hr
  rw [ht]
  constructor
  · intro hc
    rw [State.sdiRawEdge_settling hne (by rwa [State.sdiEdgeCount_sdiGone, State.get_sdiGone])]
    simp [State.sdiMoved, State.sdiGone_tickLf, h1, b2i]
  · intro hc
    rw [State.sdiRawEdge_chatter hne (by rwa [State.sdiEdgeCount_sdiGone, State.get_sdiGone])]
    simp [State.get_sdiDecide_lane, State.sdiGone_tickLf]

/-! ### Decisions and their publication (R131) -/

/-- The one decided state of a queue that holds one. -/
theorem sdiQueue_one {st : Nat} (h : st < 7) (fuel : Nat) : sdiQueue (fuel + 2) (st + 1) = [st] := by
  have hdiv : (st + 1) / 8 = 0 := by omega
  have hmod : (st + 1) % 8 - 1 = st := by omega
  simp [sdiQueue, hdiv, hmod]

/-- A lane of its own has no group to settle (R122). -/
theorem State.groupSettle_single {s : State} {b : Nat} (h : s.get (Reg.LINK_GROUP_RX_SIZE b) = 1) : s.groupSettle b = s :=
  if_pos (by rw [State.getN, h]; rfl)

/-- The publication of a new state shows it, since now. -/
theorem State.sdiShow_new {s : State} {n : Nat} {st : Int} (h : s.get (Reg.SDI_RX_SIGNAL n) ≠ st) :
    s.sdiShow n st = ((s.put (Reg.SDI_RX_SIGNAL n) st).put (Reg.SDI_RX_SINCE n) s.nowLT).when (st != 1)
      (fun t => t.put (Reg.SDI_RX_AUDIO_PRESENT n) 0) := if_neg h

section
variable {s : State} {n : Nat}

/-- What a lane of its own publishes when one state was decided, once its millisecond has come. -/
theorem State.sdiPublish_single {st : Nat} (hat : s.get (Hid.sdiPubAt n) ≠ 0) (hnow : s.get (Hid.sdiPubAt n) - 1 ≤ s.now) (h7 : st < 7)
    (hd : s.get (Hid.sdiDecided n) = st + 1) :
    s.sdiPublish n = ((((s.put (Hid.sdiDecided n) 0).put (Hid.sdiPubAt n) 0).sdiPublishLane n st).groupSettle
      (s.getN (Reg.LINK_GROUP_RX_BASE n))) := by
  have hq : sdiQueue 64 (s.getN (Hid.sdiDecided n)) = [st] := by
    rw [State.getN, hd]
    exact sdiQueue_one h7 62
  rw [State.sdiPublish, if_neg (by omega)]
  simp [hq]

/-- A lane of its own that becomes PRESENT shows it (R131). -/
theorem State.sdiPublishLane_present (hs : s.get (Reg.LINK_GROUP_RX_SIZE n) = 1) (h0 : s.get (Hid.sdiSig n) = 0)
    (hsig : s.get (Reg.SDI_RX_SIGNAL n) ≠ 1) : s.sdiPublishLane n 1 =
      ((s.put (Hid.sdiSig n) 1).put (Reg.SDI_RX_SIGNAL n) 1).put (Reg.SDI_RX_SINCE n) s.nowLT := by
  have hshow : (s.put (Hid.sdiSig n) 1).sdiShow n 1 = _ := State.sdiShow_new (by simpa using hsig)
  simp [State.sdiPublishLane, hs, h0, hshow, State.when]

/-- A lane of its own that was PRESENT and becomes ABSENT shows it, and the loss is counted and raised (R131, R139). -/
theorem State.sdiPublishLane_absent (hs : s.get (Reg.LINK_GROUP_RX_SIZE n) = 1) (h1 : s.get (Hid.sdiSig n) = 1)
    (hsig : s.get (Reg.SDI_RX_SIGNAL n) ≠ 0) : s.sdiPublishLane n 0 =
      (((((s.put (Hid.sdiSig n) 0).put (Reg.SDI_RX_SIGNAL n) 0).put (Reg.SDI_RX_SINCE n) s.nowLT).put
        (Reg.SDI_RX_AUDIO_PRESENT n) 0).bump (Reg.SDI_STATS_LOSSES n)).raise (256 + n) 1 n := by
  have hshow : (s.put (Hid.sdiSig n) 0).sdiShow n 0 = _ := State.sdiShow_new (by simpa using hsig)
  simp [State.sdiPublishLane, hs, h1, hshow, State.when]

section
variable (hat : s.get (Hid.sdiPubAt n) ≠ 0) (hnow : s.get (Hid.sdiPubAt n) - 1 ≤ s.now)
  (hs : s.get (Reg.LINK_GROUP_RX_SIZE n) = 1) (hb : s.get (Reg.LINK_GROUP_RX_BASE n) = n)
include hat hnow hs hb

/-- The publication of PRESENT on a lane of its own. -/
theorem State.get_sdiPublish_present (hd : s.get (Hid.sdiDecided n) = 2) (h0 : s.get (Hid.sdiSig n) = 0)
    (hsig : s.get (Reg.SDI_RX_SIGNAL n) = 0) :
    (s.sdiPublish n).get (Reg.SDI_RX_SIGNAL n) = 1 ∧ (s.sdiPublish n).get (Reg.SDI_RX_SINCE n) = s.nowLT := by
  have hbase : s.getN (Reg.LINK_GROUP_RX_BASE n) = n := by simp [State.getN, hb]
  rw [State.sdiPublish_single (st := 1) hat hnow (by decide) hd, hbase, Nat.cast_one,
    State.sdiPublishLane_present (by simpa using hs) (by simpa using h0) (by simp [hsig]), State.groupSettle_single (by simpa using hs)]
  simp

/-- The publication of a loss on a lane of its own; its fault leaves the lane's registers (Spared). -/
theorem State.get_sdiPublish_absent (hd : s.get (Hid.sdiDecided n) = 1) (h1 : s.get (Hid.sdiSig n) = 1)
    (hsig : s.get (Reg.SDI_RX_SIGNAL n) = 1) :
    (s.sdiPublish n).get (Reg.SDI_RX_SIGNAL n) = 0 ∧ (s.sdiPublish n).get (Reg.SDI_RX_SINCE n) = s.nowLT ∧
      (s.sdiPublish n).get (Reg.SDI_RX_AUDIO_PRESENT n) = 0 ∧
      (s.sdiPublish n).get (Reg.SDI_STATS_LOSSES n) =
        min (s.get (Reg.SDI_STATS_LOSSES n) + 1) (counterMax (Reg.SDI_STATS_LOSSES n)) := by
  have hbase : s.getN (Reg.LINK_GROUP_RX_BASE n) = n := by simp [State.getN, hb]
  rw [State.sdiPublish_single (st := 0) hat hnow (by decide) hd, hbase, Nat.cast_zero,
    State.sdiPublishLane_absent (by simpa using hs) (by simpa using h1) (by simp [hsig]),
    State.groupSettle_single (by rw [raise_get _ _ _ _ _ rfl]; simpa using hs)]
  refine ⟨?_, ?_, ?_, ?_⟩ <;> rw [raise_get _ _ _ _ _ rfl] <;> simp

end
end
end Sys2Proof.Machine

namespace Sys2Proof
open Machine

/-- Settles O42: a transition starts its time or makes CHATTER, a time that has lapsed decides, and a decision whose millisecond has come
is published. -/
theorem serialPresence : Obligations.SerialPresence := by
  unfold Obligations.SerialPresence
  intro s n ha hn
  have event : ∀ {f : State → State} {t : State}, f s = t → onElement (decide (n < 96)) s (s.live f) = .next (t.closing s) :=
    onElement_next (decide_eq_true hn) ha
  refine ⟨fun d => event rfl, fun x hl hk hr h0 hc => State.get_sdiRawTransition_found hl hk hr h0 hc,
    fun hl hr h1 => State.get_sdiRawTransition_lost hl hr h1,
    fun hdue hpast => ⟨fun hr h0 => event (if_pos ⟨hr, h0, hdue, hpast⟩), fun hr hlane => event (if_pos ⟨hr, hlane, hdue, hpast⟩)⟩,
    fun h3 hquiet => event (if_pos ⟨h3, hquiet⟩),
    fun hat hnow => ⟨event rfl, fun hs hb => ⟨fun hd h0 hsig => State.get_sdiPublish_present hat hnow hs hb hd h0 hsig,
      fun hd h1 hsig => State.get_sdiPublish_absent hat hnow hs hb hd h1 hsig⟩⟩⟩

end Sys2Proof
end


section
/-! Frames at the serial receive lanes and at the outputs (R127, R130, R146, R148, R150 to R152, R293): the stamp and the count of an input
frame, what an output sends at a boundary of its raster, and the left twin's decisions. -/
namespace Sys2Proof.Machine

/-! ### Input frames (R127, R130) -/

/-- The capture of a frame's packets counts the bad and the dropped, and leaves every other register (R129). -/
theorem State.get_ancFrame (s : State) (n : Nat) (l : List AncPkt) {k : Key} (h1 : Reg.SDI_STATS_ANC_CHECKSUM n ≠ k)
    (h2 : Reg.SDI_STATS_ANC_DROPPED n ≠ k) : (s.ancFrame n l).get k = s.get k := by
  have hanc : ∀ (u : State) (a : List (Nat × Int × List AncPkt)), ({ u with anc := a } : State).get k = u.get k := fun _ _ => rfl
  rw [State.ancFrame, hanc, State.get_bumpBy, if_neg h2, State.get_bumpBy, if_neg h1]

/-- TIMING is all that a comparison with the raster writes (R127). -/
theorem State.get_sdiTiming (s : State) (n : Nat) {k : Key} (h : Reg.SDI_RX_TIMING n ≠ k) : (s.sdiTiming n).get k = s.get k := by
  unfold State.sdiTiming
  dsimp only
  split
  · rfl
  · rw [State.get_put_ne _ _ h]

/-- A synchroniser's store writes its decision stamp alone (R149). -/
theorem State.get_syncWrite (s : State) (n : Nat) (f : Int) {k : Key} (h : Reg.SYNC_DECISION_STAMP n ≠ k) :
    (s.syncWrite n f).get k = s.get k := by
  unfold State.syncWrite
  split
  · rfl
  · exact State.get_put_ne s _ h

section
variable {s : State} {n : Nat} (hs : s.get (Reg.LINK_GROUP_RX_SIZE n) = 1) (hb : s.get (Reg.LINK_GROUP_RX_BASE n) = n)
include hs hb

/-- The frame of a lane of its own stands whole as it comes (R127). -/
theorem State.groupDone_single : s.groupDone n = some (s.get (Hid.sdiStamp n)) := by
  have hbase : s.getN (Reg.LINK_GROUP_RX_BASE n) = n := by simp [State.getN, hb]
  have hsize : s.getN (Reg.LINK_GROUP_RX_SIZE n) = 1 := by simp [State.getN, hs]
  simp [State.groupDone, hbase, hsize, groupLanes]

/-- The stamp of such a frame is FRAME_STAMP (R127). -/
theorem State.frameStamps_single : s.frameStamps n =
    ((s.put (Reg.SDI_RX_FRAME_STAMP n) (ltOfLf (s.get (Hid.sdiStamp n)))).sdiTiming n).syncWrite n (s.get (Hid.sdiStamp n)) := by
  have hbase : s.getN (Reg.LINK_GROUP_RX_BASE n) = n := by simp [State.getN, hb]
  have hsize : s.getN (Reg.LINK_GROUP_RX_SIZE n) = 1 := by simp [State.getN, hs]
  simp [State.frameStamps, State.groupDone_single hs hb, hbase, hsize, State.when, State.groupSkew]

/-- So the registers after it are those before, but for the stamp, TIMING and the store's decision stamp. -/
theorem State.get_frameStamps_single {k : Key} (ht : Reg.SDI_RX_TIMING n ≠ k) (hd : Reg.SYNC_DECISION_STAMP n ≠ k) :
    (s.frameStamps n).get k = if Reg.SDI_RX_FRAME_STAMP n = k then ltOfLf (s.get (Hid.sdiStamp n)) else s.get k := by
  rw [State.frameStamps_single hs hb, State.get_syncWrite _ _ _ hd, State.get_sdiTiming _ _ ht, State.get_put]

end

/-- A change that leaves a register leaves it where a condition decides on it. -/
theorem State.get_when {s : State} {f : State → State} {k : Key} (h : (f s).get k = s.get k) (b : Bool) :
    (s.when b f).get k = s.get k := by
  cases b
  · rfl
  · exact h

/-- What the checks, packets and samples of a frame write: its lane's counters and AUDIO_PRESENT (R128 to R130, R139). -/
theorem State.get_sdiInputFrame {s : State} {n : Nat} (hl : s.sdiListens n = true) (hr : s.get (Hid.sdiRaw n) = 1) (f : SdiFrame) {k : Key}
    (hstats : k.idx = 0x3300 → k.sub = 1) (ha : Reg.SDI_RX_AUDIO_PRESENT n ≠ k) :
    let t := (s.put (Hid.sdiStamp n) s.now).frameStamps n
    (s.sdiInputFrame n f).get k = (t.when (s.get (Hid.sdiSig n) == 1) (fun u => u.bump (Reg.SDI_STATS_FRAMES_RX n))).get k := by
  have hne : ∀ sub, sub ≠ 1 → (⟨0x3300, n, sub⟩ : Key) ≠ k := fun sub hsub e => hsub (by rw [← hstats (by rw [← e]), ← e])
  intro t
  rw [State.sdiInputFrame, if_neg (by simp [hl, hr]), State.get_ancFrame _ _ _ (hne 6 (by decide)) (hne 7 (by decide)),
    State.get_put_ne _ _ ha, State.get_when, State.get_when, State.get_bumpBy, if_neg (hne 4 (by decide))]
  · simp [hne]
  · simp [hne]

section
variable {s : State} {n : Nat} (hl : s.sdiListens n = true) (hr : s.get (Hid.sdiRaw n) = 1)
  (hs : s.get (Reg.LINK_GROUP_RX_SIZE n) = 1) (hb : s.get (Reg.LINK_GROUP_RX_BASE n) = n)
include hl hr hs hb

/-- A frame of a lane of its own is stamped with the Ledger time (R127). -/
theorem State.get_sdiInputFrame_stamp (f : SdiFrame) : (s.sdiInputFrame n f).get (Reg.SDI_RX_FRAME_STAMP n) = ltOfLf s.now := by
  rw [State.get_sdiInputFrame hl hr f (by simp) (by simp), State.get_when (by simp),
    State.get_frameStamps_single (by simpa using hs) (by simpa using hb) (by simp) (by simp)]
  simp

/-- While the lane is PRESENT the frame is counted (R130). -/
theorem State.get_sdiInputFrame_count (f : SdiFrame) (hsig : s.get (Hid.sdiSig n) = 1) :
    (s.sdiInputFrame n f).get (Reg.SDI_STATS_FRAMES_RX n) =
      min (s.get (Reg.SDI_STATS_FRAMES_RX n) + 1) (counterMax (Reg.SDI_STATS_FRAMES_RX n)) := by
  have hcount : ((s.put (Hid.sdiStamp n) s.now).frameStamps n).get (Reg.SDI_STATS_FRAMES_RX n) = s.get (Reg.SDI_STATS_FRAMES_RX n) := by
    rw [State.get_frameStamps_single (by simpa using hs) (by simpa using hb) (by simp) (by simp)]
    simp
  rw [State.get_sdiInputFrame hl hr f (by simp) (by simp)]
  simp [State.when, hsig, hcount]

end

/-! ### Outputs (R135, R146, R152) -/

/-- The state in which an output's boundary finds it: its transmitters have left idle, and the good bit that a reconciliation held is
released (R138, R296). -/
def State.outputWoken (s : State) (o : Nat) : State :=
  (s.txWake o).when (decide (o < 96) && (s.txWake o).get Reg.PAIRING_STATE != 3 && (s.txWake o).reconSlips == [])
    (fun u => u.put (Hid.reconHold o) 0)

/-- An output on a raster that is OFF does no more than wake (R146). -/
theorem State.outputFrame_off {s : State} {o : Nat} (h : s.rasterPeriod (s.outRaster o) = 0) : s.outputFrame o = s.outputWoken o :=
  if_pos (.inl h)

/-- One that sends ends the work of its boundary with what it sends from line 1, and looks ahead to a TAKE of the frame (R135, R143). -/
theorem State.outputFrame_sends {s : State} {o : Nat} (hp : s.rasterPeriod (s.outRaster o) ≠ 0)
    (hw : (s.outputWoken o).outputSends o = true) (hb : 96 ≤ o ∨ s.txBase o = o) :
    ∃ u : State, s.outputFrame o = (u.emitOutput o 1).takeLook o (lfOfLt (s.get (Reg.RASTER_LAST_BOUNDARY (s.outRaster o)))) := by
  have hgo : ¬ (s.rasterPeriod (s.outRaster o) = 0 ∨ (s.outputWoken o).outputSends o = false ∨ (o < 96 ∧ s.txBase o ≠ o)) := by
    rintro (h | h | ⟨h, hbase⟩)
    · exact hp h
    · simp [hw] at h
    · exact hb.elim (by omega) hbase
  exact ⟨_, if_neg hgo⟩

/-- An output sends one picture from a line on. -/
theorem State.emitOutput_out (u : State) (o line : Nat) : (u.emitOutput o line).out = u.out ++ [.output (u.outputPicture o line).1] := by
  unfold State.emitOutput State.when
  dsimp only
  split <;> rfl

/-! ### The left twin's decisions (R148, R293) -/

/-- A follower keeps a decision until its comparison uses it. -/
theorem State.mem_decision {s : State} (h : s.follower = true) (kind el idx : Nat) (v : Int) :
    (kind, el, idx, v) ∈ (s.decision kind el idx v).decisions := by
  rw [State.decision, if_pos h]
  exact List.mem_append_right _ List.mem_cons_self

end Sys2Proof.Machine

namespace Sys2Proof
open Machine

/-- Settles O43: a frame that comes is stamped and counted, an output that sends ends its boundary with a picture, and the left twin's
decision is heard over a link that is up alone. -/
theorem framesInAndOut : Obligations.FramesInAndOut := by
  unfold Obligations.FramesInAndOut
  intro s ha
  refine ⟨fun n f hn => ⟨onElement_next (decide_eq_true hn) ha rfl, fun hl hr hs hb =>
      ⟨State.get_sdiInputFrame_stamp hl hr hs hb f, State.get_sdiInputFrame_count hl hr hs hb f⟩⟩,
    fun o ho => ⟨onElement_next (decide_eq_true ho) ha rfl, State.outputFrame_sends, State.outputFrame_off⟩,
    State.emitOutput_out, fun o ho h2 hsince hlim hpast => onElement_next (decide_eq_true ho) ha (if_pos ⟨h2, hsince, hlim, hpast⟩),
    fun k kind el idx v hk => ⟨fun h => ⟨onElement_twinHeard (decide_eq_true hk) h _, fun hf => State.mem_decision hf kind el idx v⟩,
      fun h => onElement_twinDown (decide_eq_true hk) ha h k _⟩⟩

end Sys2Proof
end


section
/-! Writes of ports, lanes, pins, groups, bundles and flows (R121, R126, R149, R191, R212, R259, R407, R432, R434): each command is a WRITE
of its register, whose one item has that object's effect. -/
namespace Sys2Proof.Machine

/-! ### What an item of each object comes to -/

section
variable (s : State) (e sub : Nat) (v : Int)

theorem State.applyItem_gpiPolarity : s.applyItem false (Reg.GPI_POLARITY e) v = s.gpiPolarity e v := by simp [State.applyItem]

theorem State.applyItem_gpoLevel : s.applyItem false (Reg.GPO_LEVEL e) v = s.gpoWrite e v := by simp [State.applyItem]

theorem State.applyItem_rateMode (h : sub = 1 ∨ sub = 2) : s.applyItem false ⟨0x3000, e, sub⟩ v = s.rateModeApply e sub v := by
  simp [State.applyItem, h]

theorem State.applyItem_refRaster :
    s.applyItem false (Reg.SDI_RX_REF_RASTER e) v = ((s.put (Reg.SDI_RX_REF_RASTER e) v).syncSettle e).refreshAdmission := by
  simp [State.applyItem]

theorem State.applyItem_linkGroup : s.applyItem false ⟨0x3200, e, sub⟩ v =
    ((s.groupApply (sub == 2) e v.toNat).each (List.range 96) (fun u n => u.syncSettle n)).refreshAdmission := by
  simp [State.applyItem]

theorem State.applyItem_port : s.applyItem false ⟨0x4000, e, sub⟩ v = s.portApply e sub v := by simp [State.applyItem]

theorem State.applyItem_bundle : s.applyItem false ⟨0x8810, e, sub⟩ v = s.bundleWrite e sub v := by simp [State.applyItem]

/-- A generator's field only takes its value (R407). -/
theorem State.applyItem_generator : s.applyItem false ⟨0xE200, e, sub⟩ v = s.put ⟨0xE200, e, sub⟩ v := by simp [State.applyItem]

/-- A GPO's LEVEL reads what was written, whether or not the pin moves (R434). -/
theorem State.get_gpoWrite_level : (s.gpoWrite e v).get (Reg.GPO_LEVEL e) = v := by
  unfold State.gpoWrite
  dsimp only
  split
  · exact s.get_put_same _ v
  · simp [State.gpoDrive]

end

/-! ### Write commands of one item -/

/-- A call number that an address spells has that address (R29). -/
theorem regAddr_spelt {k : Key} (he : k.el < 65536) (hs : k.sub < 256) : regAddr k = addrOf k := if_pos ⟨he, hs⟩

section
variable {s t : State} {x : Int}

/-- A write command of one item that is taken, and that decodes to a value of no step or flow, has the effect of that item (R31, R36). -/
theorem takeWrite_item {i : Item} {k : Key} (ha : s.applyItem false k x = t) (hs : k.idx ≠ 0x2020) (hf : k.idx ≠ 0x4100)
    (h : s.takesWrite [i]) (hd : s.decoded [i] = [(k, x)]) : (.next (s.takeWrite [i]) : Out) = .next ((t.send (.result .ok)).closing s) := by
  rw [State.takeWrite_takes h, State.writeApply_one hd hs hf, ha]

/-- The same for an item that names its register by the address. -/
theorem takeWrite_addressed {idx e sub : Nat} {v : Value} (ha : s.applyItem false ⟨idx, e, sub⟩ x = t) (he : e < 65536) (hb : sub < 256)
    (hs : idx ≠ 0x2020) (hf : idx ≠ 0x4100) (h : s.takesWrite [⟨addrOf ⟨idx, e, sub⟩, v⟩])
    (hd : s.decoded [⟨addrOf ⟨idx, e, sub⟩, v⟩] = [(⟨idx, e, sub⟩, x)]) :
    (.next (s.takeWrite [⟨regAddr ⟨idx, e, sub⟩, v⟩]) : Out) = .next ((t.send (.result .ok)).closing s) := by
  rw [regAddr_spelt he hb]
  exact takeWrite_item ha hs hf h hd

end
end Sys2Proof.Machine

namespace Sys2Proof
open Machine

/-- Settles O32: a write command that is taken has the effect of its one item, and a write of flow records that of all its items. -/
theorem configurationWrites : Obligations.ConfigurationWrites := by
  unfold Obligations.ConfigurationWrites
  intro s
  refine ⟨fun items h => congrArg Host.Outcome.next (State.takeWrite_takes h), fun i v x hi => ?bundle, fun n v x hn => ?rxGroup,
    fun n v x hn => ?txGroup, fun n sub v x hn h1 h3 => ?port, fun g v x hg h hd => ⟨?gpo, s.get_gpoWrite_level g x⟩,
    fun g v x hg => ?gpi, fun g sub v hg h1 h9 => ?generator, fun n v x hn => ?refRaster, fun n v x hn => ?rateMode,
    fun n v x hn => ?polarity⟩
  case bundle => exact takeWrite_addressed (s.applyItem_bundle i 1 x) (by omega) (by decide) (by decide) (by decide)
  case rxGroup => exact takeWrite_addressed (s.applyItem_linkGroup n 1 x) (by omega) (by decide) (by decide) (by decide)
  case txGroup => exact takeWrite_addressed (s.applyItem_linkGroup n 2 x) (by omega) (by decide) (by decide) (by decide)
  case port => exact takeWrite_addressed (s.applyItem_port n sub x) (by omega) (by omega) (by decide) (by decide)
  case gpo => exact takeWrite_addressed (s.applyItem_gpoLevel g x) (by omega) (by decide) (by decide) (by decide) h hd
  case gpi => exact takeWrite_addressed (s.applyItem_gpiPolarity g x) (by omega) (by decide) (by decide) (by decide)
  case generator => exact takeWrite_item (s.applyItem_generator g sub v) (by simp) (by simp)
  case refRaster => exact takeWrite_addressed (s.applyItem_refRaster n x) (by omega) (by decide) (by decide) (by decide)
  case rateMode => exact takeWrite_addressed (s.applyItem_rateMode n 1 x (.inl rfl)) (by omega) (by decide) (by decide) (by decide)
  case polarity => exact takeWrite_addressed (s.applyItem_rateMode n 2 x (.inr rfl)) (by omega) (by decide) (by decide) (by decide)

end Sys2Proof
end


section
/-! Fabric lanes (R159 to R162, R173, R188, R189): what a lane's entry to a state leaves in its registers, what the identity and the delay of
the far end decide, and what a LANE_STATUS cell writes. -/
namespace Sys2Proof.Machine

/-! ### Entering a state -/

theorem laneKey_fabric {l : Nat} (h : l < 64) : laneKey l = Reg.FAB_LANE_STATE l := if_pos h

section
variable {s : State} {l : Nat} {st : Int} (hl : l < 64) (href : s.up 2 = false)
include hl href

/-- With REF not ready no candidate follows a fabric lane: its entry to a state is what the lane's own registers show of it (R74, R159). -/
theorem State.laneEnter_refDown : s.laneEnter l st =
    (let t := (s.put (Reg.FAB_LANE_STATE l) st).put (Hid.laneAt l) s.tickLf
     if st = 3 then t.put (Reg.FAB_LANE_UP_SINCE l) s.nowLT else if st = 4 then t.bump (Reg.FAB_LANE_FAILURES l) else t) := by
  rw [State.laneEnter, if_neg (by omega), laneKey_fabric hl, State.refPresence_down]
  split_ifs <;> simpa [State.up, State.ready, State.bump, State.bumpBy] using href

theorem State.laneState_laneEnter : (s.laneEnter l st).laneState l = st := by
  rw [State.laneState, laneKey_fabric hl, State.laneEnter_refDown hl href]
  split_ifs <;> simp

theorem State.get_laneEnter_laneAt : (s.laneEnter l st).get (Hid.laneAt l) = s.tickLf := by
  rw [State.laneEnter_refDown hl href]
  split_ifs <;> simp

theorem State.get_laneEnter_upSince : (s.laneEnter l 3).get (Reg.FAB_LANE_UP_SINCE l) = s.nowLT := by
  rw [State.laneEnter_refDown hl href, if_pos rfl, State.get_put_same]

end

/-! ### The end of training (R159, R160, R189) -/

/-- A fabric lane that shows the far end and the delay that training found (`6000:03` to `:06`). -/
def State.farEnd (s : State) (l role slot lane delay : Nat) : State :=
  (((s.put (Reg.FAB_LANE_PEER_ROLE l) role).put (Reg.FAB_LANE_PEER_SLOT l) slot).put (Reg.FAB_LANE_PEER_LANE l) lane).put
    (Reg.FAB_LANE_DELAY l) delay

section
variable {s : State} {l role slot lane side delay : Nat} (h1 : s.laneState l = 1)
include h1

theorem State.trainDone_known (hl : l < 64) (hid : s.identityOk l role slot lane side = true) :
    s.trainDone l role slot lane side delay =
      (s.farEnd l role slot lane delay).laneEnter l (if 3600 < delay then 4 else 2) := by
  by_cases hd : 3600 < delay <;> simp [State.trainDone, State.farEnd, h1, hl, hid, hd]

theorem State.trainDone_unknown (hl : l < 64) (hid : s.identityOk l role slot lane side = false) :
    s.trainDone l role slot lane side delay =
      ((s.farEnd l role slot lane delay).laneEnter l 4).raise (496 + l) 2 l := by
  simp [State.trainDone, State.farEnd, h1, hl, hid]

theorem State.trainDone_twin (hl : 64 ≤ l) (hid : s.identityOk l role slot lane side = true) :
    s.trainDone l role slot lane side delay =
      ((s.put Reg.TWIN_LINK_DELAY delay).put Reg.PAIRING_PARTNER_SLOT slot).laneEnter l (if 3600 < delay then 4 else 3) := by
  have hl' : ¬ l < 64 := by omega
  by_cases hd : 3600 < delay <;> simp [State.trainDone, h1, hl', hid, hd]

end

/-! ### A lane that is UP or FAILED (R159, R162) -/

theorem State.laneFail_up {s : State} {l : Nat} (h3 : s.laneState l = 3) :
    s.laneFail l = if l < 64 then (s.laneEnter l 4).raise (496 + l) 1 l else s.laneEnter l 4 := if_neg (not_not_intro h3)

theorem State.laneRetry_due {s : State} {l : Nat} (h4 : s.laneState l = 4) (hpast : s.get (Hid.laneAt l) + 5292000000 ≤ s.tickLf) :
    s.laneRetry l = if s.laneAllowed l then (s.laneEnter l 1).put (Hid.alignRun l) 0 else s.laneEnter l 0 := if_pos ⟨h4, hpast⟩

/-! ### LANE_STATUS (R160, R161, R173, R188) -/

theorem natAbs_clampInt_le (v : Int) (m : Nat) : (clampInt (-m) m v).natAbs ≤ m := by
  unfold clampInt
  split_ifs <;> omega

/-- What a LANE_STATUS cell says of the far end, noted: identity, ADMIT and its part of the mask. -/
def State.peerNoted (s : State) (l : Nat) (x : LaneStatus) : State :=
  let t := (((s.put (Reg.FAB_LANE_PEER_ROLE l) x.role).put (Reg.FAB_LANE_PEER_SLOT l) x.slot).put
    (Reg.FAB_LANE_PEER_LANE l) x.lane).put (Hid.peerAdmit l) x.admitting
  if 2 < x.part then t
  else
    let base := if s.get (Hid.peerNewAt l) = 0 then s.getN (Reg.FAB_CALENDAR_PEER_MASK l) else s.getN (Hid.peerNew l)
    (t.put (Hid.peerNew l) (maskWithPart base x.part x.mask : Nat)).put (Hid.peerNewAt l) (s.fullPeriod x.period + 1 : Nat)

/-- A lane that trains, aligns or is UP notes the far end; an edge that has not corrected the lane's advance in this period does so. -/
theorem State.laneStatus_awake {s : State} {l : Nat} (hl : l < 64) (h1 : 1 ≤ s.laneState l) (h3 : s.laneState l ≤ 3) (x : LaneStatus) :
    s.laneStatus l x =
      if s.edge = false ∨ s.getN (Hid.advanceAt l) = s.period + 1 then s.peerNoted l x
      else (((s.peerNoted l x).put (Hid.advanceAt l) (s.period + 1 : Nat)).put (Reg.FAB_LANE_ADVANCE l)
        (s.get (Reg.FAB_LANE_ADVANCE l) + (if x.arrival.natAbs ≤ 300 then 0 else clampInt (-20) 20 x.arrival))).arrivalKnown l x.arrival := by
  rw [State.laneStatus, if_neg (by omega)]
  rfl

/-- The registers that the note writes last, those of the mask's part, are the far end's own. -/
theorem State.get_peerNoted (s : State) (l : Nat) (x : LaneStatus) {k : Key} (hnew : Hid.peerNew l ≠ k) (hat : Hid.peerNewAt l ≠ k) :
    (s.peerNoted l x).get k = ((((s.put (Reg.FAB_LANE_PEER_ROLE l) x.role).put (Reg.FAB_LANE_PEER_SLOT l) x.slot).put
      (Reg.FAB_LANE_PEER_LANE l) x.lane).put (Hid.peerAdmit l) x.admitting).get k := by
  unfold State.peerNoted
  dsimp only
  split
  · rfl
  · rw [State.get_put_ne _ _ hat, State.get_put_ne _ _ hnew]

section
variable {s : State} {l : Nat} (hl : l < 64) (h1 : 1 ≤ s.laneState l) (h3 : s.laneState l ≤ 3) (x : LaneStatus)
include hl h1 h3

/-- Of the lane's registers in object 6000, LANE_STATUS writes the far end's identity, and at an edge the advance and the arrival offset. -/
theorem State.get_laneStatus_lane {sub : Nat} (ha : sub ≠ 7) (ho : sub ≠ 8) :
    (s.laneStatus l x).get ⟨0x6000, l, sub⟩ = (s.peerNoted l x).get ⟨0x6000, l, sub⟩ := by
  rw [State.laneStatus_awake hl h1 h3]
  split
  · rfl
  · simp [State.arrivalKnown, ha.symm, ho.symm]

/-- So the lane shows the far end that the cell declares, and stays in its state. -/
theorem State.laneStatus_shows : (s.laneStatus l x).get (Reg.FAB_LANE_PEER_ROLE l) = x.role ∧
    (s.laneStatus l x).get (Reg.FAB_LANE_PEER_SLOT l) = x.slot ∧ (s.laneStatus l x).get (Reg.FAB_LANE_PEER_LANE l) = x.lane ∧
    (s.laneStatus l x).laneState l = s.laneState l := by
  refine ⟨?_, ?_, ?_, ?_⟩
  case' refine_4 => rw [State.laneState, State.laneState, laneKey_fabric hl]
  all_goals
    rw [State.get_laneStatus_lane hl h1 h3 x (by decide) (by decide), State.get_peerNoted _ _ _ (by simp) (by simp)]
    simp

/-- It moves the advance by at most 20 lf. -/
theorem State.laneStatus_advance_le :
    ((s.laneStatus l x).get (Reg.FAB_LANE_ADVANCE l) - s.get (Reg.FAB_LANE_ADVANCE l)).natAbs ≤ 20 := by
  rw [State.laneStatus_awake hl h1 h3]
  split
  · simp [State.get_peerNoted]
  · have hstep : (if x.arrival.natAbs ≤ 300 then 0 else clampInt (-20) 20 x.arrival).natAbs ≤ 20 := by
      split
      · decide
      · exact natAbs_clampInt_le x.arrival 20
    simpa [State.arrivalKnown] using hstep

end
end Sys2Proof.Machine

namespace Sys2Proof
open Machine

/-- Settles O44: each event of a lane finds it in the state that the event asks for, and what it then enters or notes is what its registers
show. -/
theorem fabricLanes : Obligations.FabricLanes := by
  unfold Obligations.FabricLanes
  refine ⟨fun s l ha hl => ?_, fun s l st hl href => ⟨State.laneState_laneEnter hl href, State.get_laneEnter_laneAt hl href, ?since⟩⟩
  case since =>
    rintro rfl
    exact State.get_laneEnter_upSince hl href
  have event : ∀ {f : State → State} {t : State}, f s = t → onElement (decide (l < 66)) s (s.live f) = .next (t.closing s) :=
    onElement_next (decide_eq_true hl) ha
  refine ⟨fun h0 hallow => event (if_pos ⟨h0, hallow⟩), fun h1 => ⟨fun hpast => event (if_pos ⟨h1, hpast⟩),
      fun hearly => event (if_neg (by omega)), fun role slot lane side delay => ⟨fun hf hid => event (State.trainDone_known h1 hf hid),
      fun hf hid => event (State.trainDone_unknown h1 hf hid), fun ht hid => event (State.trainDone_twin h1 ht hid)⟩⟩,
    fun h2 hf hrun => event (if_pos ⟨hf, h2, hrun⟩),
    fun h3 => ⟨fun hf => event ((State.laneFail_up h3).trans (if_pos hf)),
      fun ht => event ((State.laneFail_up h3).trans (if_neg (by omega)))⟩,
    fun h3 => event (if_pos h3),
    fun h4 hpast => ⟨fun hallow => event ((State.laneRetry_due h4 hpast).trans (if_pos hallow)),
      fun hallow => event ((State.laneRetry_due h4 hpast).trans (if_neg (by simp [hallow])))⟩,
    fun x hf h1 h3 => ?status⟩
  case status =>
    have hawake : ¬ (s.laneState l = 0 ∨ s.laneState l = 4) := by omega
    have hstate : (s.bump (Reg.FAB_STATS_CELLS_RX l)).laneState l = s.laneState l := by simp [State.laneState, laneKey_fabric hf]
    have hadvance : (s.bump (Reg.FAB_STATS_CELLS_RX l)).get (Reg.FAB_LANE_ADVANCE l) = s.get (Reg.FAB_LANE_ADVANCE l) := by simp
    rw [← hstate] at h1 h3
    obtain ⟨hrole, hslot, hlane, hstays⟩ := State.laneStatus_shows hf h1 h3 x
    exact ⟨onElement_next (decide_eq_true hf) ha ((if_neg hawake).trans (if_pos rfl)),
      onElement_next (decide_eq_true hf) ha ((if_neg hawake).trans (if_neg (by decide))), hrole, hslot, hlane, hstays.trans hstate,
      hadvance ▸ State.laneStatus_advance_le hf h1 h3 x⟩

end Sys2Proof
end


section
/-! The slots of patterns and the masks of lanes (R172, R173, R188): a pattern's shares of the period fall on different slots, and a mask that
is put together part by part from the top has the new mask's bits over the old one's. -/
namespace Sys2Proof.Machine

/-! ### A pattern's slots (R172) -/

/-- The shares of a count that the period holds start at different slots. -/
theorem slotShare_strictMono {count : Nat} (h0 : 0 < count) (hc : count ≤ 4410) : StrictMono (fun j => j * 4410 / count) := by
  refine strictMono_nat_of_lt_succ fun j => ?_
  calc j * 4410 / count < (j * 4410 + count) / count := by rw [Nat.add_div_right _ h0]; exact Nat.lt_succ_self _
    _ ≤ (j + 1) * 4410 / count := Nat.div_le_div_right (by omega)

theorem slotShare_lt {count j : Nat} (h : j < count) : j * 4410 / count < 4410 :=
  Nat.div_lt_of_lt_mul (Nat.mul_lt_mul_of_pos_right h (by decide))

theorem patSlots_nodup (phase : Nat) {count : Nat} (hc : count ≤ 4410) : (patSlots phase count).Nodup := by
  refine List.Nodup.map_on (fun i hi j hj h => ?_) List.nodup_range
  have hi' := List.mem_range.mp hi
  have hshare : i * 4410 / count = j * 4410 / count :=
    (Nat.ModEq.add_left_cancel' phase h).eq_of_lt_of_lt (slotShare_lt hi') (slotShare_lt (List.mem_range.mp hj))
  exact (slotShare_strictMono (by omega) hc).injective hshare

theorem lt_of_mem_patSlots {phase count t : Nat} (h : t ∈ patSlots phase count) : t < 4410 := by
  obtain ⟨j, -, rfl⟩ := List.mem_map.mp h
  exact Nat.mod_lt _ (by decide)

/-! ### A mask in three parts (R173, R188, Table 8.9) -/

/-- The bits of `m` from bit e on, over those of `b` below it. -/
def bitsOver (m b e : Nat) : Nat := m / 2 ^ e * 2 ^ e + b % 2 ^ e

theorem bitsOver_div (m b e : Nat) : bitsOver m b e / 2 ^ e = m / 2 ^ e := by
  rw [bitsOver, Nat.add_comm, Nat.add_mul_div_right _ _ (Nat.two_pow_pos e), Nat.div_eq_of_lt (Nat.mod_lt _ (Nat.two_pow_pos e)),
    Nat.zero_add]

theorem bitsOver_mod (m b : Nat) {d e : Nat} (h : d ≤ e) : bitsOver m b e % 2 ^ d = b % 2 ^ d := by
  have hd : 2 ^ d ∣ m / 2 ^ e * 2 ^ e := Dvd.dvd.mul_left (Nat.pow_dvd_pow 2 h) _
  rw [bitsOver, Nat.add_mod, Nat.mod_eq_zero_of_dvd hd, Nat.zero_add, Nat.mod_mod, Nat.mod_mod_of_dvd _ (Nat.pow_dvd_pow 2 h)]

/-- Above all of its bits a mask is not over another. -/
theorem bitsOver_beyond {m b e : Nat} (hm : m < 2 ^ e) (hb : b < 2 ^ e) : bitsOver m b e = b := by
  rw [bitsOver, Nat.div_eq_of_lt hm, Nat.zero_mul, Nat.zero_add, Nat.mod_eq_of_lt hb]

/-- The bits from e + w on and the w bits below them are the bits from e on. -/
theorem bits_join (m e w : Nat) : m / 2 ^ (e + w) * 2 ^ (e + w) + m / 2 ^ e % 2 ^ w * 2 ^ e = m / 2 ^ e * 2 ^ e := by
  rw [Nat.pow_add, ← Nat.div_div_eq_div_mul, Nat.mul_comm (2 ^ e), ← Nat.mul_assoc, ← Nat.add_mul, Nat.div_add_mod']

/-- The upper parts lower the bit from which on the mask is the new one. -/
theorem maskWithPart_bitsOver (m b : Nat) {k e : Nat} (hk : k < 2) (he : e = 4416 - 1792 * (k + 1)) :
    maskWithPart (bitsOver m b (e + 1792)) k (maskPart m k) = bitsOver m b e := by
  rw [maskWithPart, maskPart, if_pos hk, if_pos hk, ← he]
  dsimp only
  rw [bitsOver_div, bitsOver_mod m b (Nat.le_add_right e 1792), Nat.mod_mod, bits_join, bitsOver]

/-- The last part is the rest of it. -/
theorem maskWithPart_last (m b : Nat) : maskWithPart (bitsOver m b 832) 2 (maskPart m 2) = m := by
  rw [maskWithPart, maskPart, if_neg (by decide), if_neg (by decide), bitsOver_div, Nat.mul_div_cancel _ (Nat.two_pow_pos 960), Nat.mod_mod,
    Nat.div_add_mod']

theorem maskWithPart_all {m b : Nat} (hm : m < 2 ^ 4416) (hb : b < 2 ^ 4416) :
    maskWithPart (maskWithPart (maskWithPart b 0 (maskPart m 0)) 1 (maskPart m 1)) 2 (maskPart m 2) = m :=
  calc maskWithPart (maskWithPart (maskWithPart b 0 (maskPart m 0)) 1 (maskPart m 1)) 2 (maskPart m 2)
      = maskWithPart (maskWithPart (bitsOver m b 2624) 1 (maskPart m 1)) 2 (maskPart m 2) := by
        rw [← maskWithPart_bitsOver m b (k := 0) (by decide) rfl, bitsOver_beyond hm hb]
    _ = maskWithPart (bitsOver m b 832) 2 (maskPart m 2) := by
        rw [← maskWithPart_bitsOver m b (k := 1) (by decide) rfl]
    _ = m := maskWithPart_last m b

theorem mod_mul_two_pow_lt (m a b : Nat) : m % 2 ^ a * 2 ^ b < 2 ^ (a + b) := by
  rw [Nat.pow_add]
  exact Nat.mul_lt_mul_of_pos_right (Nat.mod_lt _ (Nat.two_pow_pos a)) (Nat.two_pow_pos b)

theorem maskPart_lt (m k : Nat) : maskPart m k < 2 ^ 1792 := by
  unfold maskPart
  split
  · exact Nat.mod_lt _ (by positivity)
  · exact mod_mul_two_pow_lt m 832 960

end Sys2Proof.Machine

namespace Sys2Proof
open Machine

/-- Settles O45: the slots are distinct shares of the period, and each part of a mask lowers the bit from which on it is the new one. -/
theorem patternSlots : Obligations.PatternSlots := by
  unfold Obligations.PatternSlots
  exact ⟨fun phase count hc => ⟨by simp [patSlots], patSlots_nodup phase hc, fun _ => lt_of_mem_patSlots⟩,
    fun _ _ => maskWithPart_all, fun m k _ => maskPart_lt m k⟩

end Sys2Proof
end


section
/-! Cells that arrive on a fabric lane (R163, R165, R187): which are dropped, which are counted, and which reach the island X. -/
namespace Sys2Proof.Machine

/-! ### The receipt of a cell (R165, Table 8.4) -/

/-- A lane that is not UP delivers nothing. -/
theorem State.cellIn_down {s : State} {l : Nat} (h : s.laneUp l = false) (crcOk : Bool) (kind : Nat) : s.cellIn l crcOk kind = (s, false) := by
  simp [State.cellIn, h]

section
variable {s : State} {l : Nat} (hup : s.laneUp l = true)
include hup

/-- A cell of a wrong CRC is counted and dropped. -/
theorem State.cellIn_badCrc (kind : Nat) : s.cellIn l false kind = (s.bump (Reg.FAB_STATS_CRC_ERRORS l), false) := by
  simp [State.cellIn, hup]

/-- One of a kind in use is counted and taken. -/
theorem State.cellIn_good {kind : Nat} (h0 : kind ≠ 0) (hk : ¬(3 ≤ kind ∧ kind ≤ 7)) :
    s.cellIn l true kind = (s.bump (Reg.FAB_STATS_CELLS_RX l), true) := by
  rw [State.cellIn, if_neg (by simp [hup]), if_neg (by decide), if_neg hk, if_neg h0]

end

/-! ### Control cells (R165, R187) -/

section
variable {s : State} {l kind : Nat} {f : State → State} (hl : l < 64) (ha : s.alive = true)
include hl ha

/-- On a lane that is not UP nothing happens. -/
theorem controlIn_down (h : s.laneUp l = false) (crcOk : Bool) :
    onElement (decide (l < 64)) s (s.controlIn l crcOk kind f) = .next (s.closing s) :=
  onElement_next (decide_eq_true hl) ha (by simp [State.cellIn_down h])

theorem controlIn_badCrc (hup : s.laneUp l = true) : onElement (decide (l < 64)) s (s.controlIn l false kind f) =
    .next ((s.bump (Reg.FAB_STATS_CRC_ERRORS l)).closing s) :=
  onElement_next (decide_eq_true hl) ha (by simp [State.cellIn_badCrc hup])

/-- A control cell that reaches X has its effect once it is counted. -/
theorem controlIn_acts {t : State} (hup : s.laneUp l = true) (hk : 8 ≤ kind) (hx : (s.runs 5 || kind == 8 || kind == 12) = true)
    (h : f (s.bump (Reg.FAB_STATS_CELLS_RX l)) = t) : onElement (decide (l < 64)) s (s.controlIn l true kind f) = .next (t.closing s) :=
  onElement_next (decide_eq_true hl) ha (by rw [State.cellIn_good hup (by omega) (by omega), hx]; exact h)

/-- One that finds X not running is only counted. -/
theorem controlIn_lost (hup : s.laneUp l = true) (hk : 8 ≤ kind) (hx : (s.runs 5 || kind == 8 || kind == 12) = false) :
    onElement (decide (l < 64)) s (s.controlIn l true kind f) = .next ((s.bump (Reg.FAB_STATS_CELLS_RX l)).closing s) :=
  onElement_next (decide_eq_true hl) ha (by rw [State.cellIn_good hup (by omega) (by omega), hx]; rfl)

end

/-! ### Requests at a centre (R176) -/

theorem State.centreRequest_centre {s : State} (h : s.edge = false) (isReserve : Bool) (r : Resv) :
    s.centreRequest isReserve r = { s with requests := s.requests ++ [(isReserve, r)] } := if_neg (by simp [h])

theorem State.centreRequest_edge {s : State} (h : s.edge = true) (isReserve : Bool) (r : Resv) : s.centreRequest isReserve r = s := if_pos h

end Sys2Proof.Machine

namespace Sys2Proof
open Machine

/-- Settles O46: a cell's lane, CRC and kind, and whether X runs, decide between dropping, counting and the cell's own effect. -/
theorem controlCells : Obligations.ControlCells := by
  unfold Obligations.ControlCells
  intro s l stamp r recs ha hl
  refine ⟨fun hup => ⟨fun hc => ⟨?reserveCentre, ?releaseCentre⟩, fun he => ⟨?releaseEdge, ?reserveEdge⟩,
      fun hx => ⟨fun he => ⟨?grant, ?assign, ?deny⟩, ?offer⟩, fun hx => ⟨?grantLost, ?offerLost⟩, ?badCrc⟩, fun crc hdown => ?down⟩
  case reserveCentre => exact controlIn_acts hl ha hup (by decide) (by simp) (State.centreRequest_centre hc true r)
  case releaseCentre =>
    exact controlIn_acts hl ha hup (by decide) (by simp) ((if_neg (by simp [hc])).trans (State.centreRequest_centre hc false r))
  case releaseEdge => exact controlIn_acts hl ha hup (by decide) (by simp) (if_pos he)
  case reserveEdge => exact controlIn_acts hl ha hup (by decide) (by simp) (State.centreRequest_edge he true r)
  case grant => exact controlIn_acts hl ha hup (by decide) (by simp [hx]) (if_pos he)
  case assign => exact controlIn_acts hl ha hup (by decide) (by simp [hx]) (if_pos he)
  case deny => exact controlIn_acts hl ha hup (by decide) (by simp [hx]) (if_pos he)
  case offer => exact controlIn_acts hl ha hup (by decide) (by simp [hx]) rfl
  case grantLost => exact controlIn_lost hl ha hup (by decide) (by simp [hx])
  case offerLost => exact controlIn_lost hl ha hup (by decide) (by simp [hx])
  case badCrc =>
    exact ⟨controlIn_badCrc hl ha hup, controlIn_badCrc hl ha hup, controlIn_badCrc hl ha hup, controlIn_badCrc hl ha hup,
      controlIn_badCrc hl ha hup, controlIn_badCrc hl ha hup⟩
  case down =>
    exact ⟨controlIn_down hl ha hdown crc, controlIn_down hl ha hdown crc, controlIn_down hl ha hdown crc, controlIn_down hl ha hdown crc,
      controlIn_down hl ha hdown crc, controlIn_down hl ha hdown crc⟩

end Sys2Proof
end


section
/-! Calendar periods, essence, offers and planes (R163, R169 to R171, R176, R178, R179, R183, R185): what each event of the fabric's calendar
comes to. -/
namespace Sys2Proof.Machine

/-! ### Cut-offs (R176) -/

theorem State.cutoff_edge {s : State} (h : s.edge = true) : s.cutoff = s := if_pos (by simp [h])

theorem State.cutoff_early {s : State} (h : s.now % calLf < 4233600) : s.cutoff = s := if_pos (by simp [h])

/-! ### Essence and presence (R170, R178, R183) -/

section
variable {s : State} {l : Nat} (hup : s.laneUp l = true) (slot : Nat) (c : Cell)
include hup

theorem State.essence_badCrc : s.essence l slot false c = s.bump (Reg.FAB_STATS_CRC_ERRORS l) := by
  simp [State.essence, State.cellIn_badCrc hup]

theorem State.presence_badCrc : s.presence l slot false c = s.bump (Reg.FAB_STATS_CRC_ERRORS l) := by
  simp [State.presence, State.cellIn_badCrc hup]

section
variable {c} (h0 : c.kind ≠ 0) (hk : ¬(3 ≤ c.kind ∧ c.kind ≤ 7)) (hx : s.runs 5 = true)
include h0 hk hx

theorem State.essence_centre (he : s.edge = false) :
    s.essence l slot true c = (s.bump (Reg.FAB_STATS_CELLS_RX l)).forward l slot c := by
  simp [State.essence, State.cellIn_good hup h0 hk, hx, he]

theorem State.presence_centre (he : s.edge = false) :
    s.presence l slot true c = (s.bump (Reg.FAB_STATS_CELLS_RX l)).forward l slot c := by
  simp [State.presence, State.cellIn_good hup h0 hk, hx, he]

/-- At its subscriber a PRESENCE cell shows that its plane lives and what its source is. -/
theorem State.presence_subscribed {x : FabSub} (he : s.edge = true)
    (hs : (s.bump (Reg.FAB_STATS_CELLS_RX l)).subOf c.shelf = some x) :
    s.presence l slot true c = (s.bump (Reg.FAB_STATS_CELLS_RX l)).setSub
      ((x.withPlane c.plane { x.plane c.plane with lastCell := s.tickLf }).learn (restoreStamp 40 c.stamp s.now) (cellSrc c)) := by
  simp [State.presence, State.cellIn_good hup h0 hk, hx, he, hs]

end
end

/-! ### Offers (R171) -/

/-- An expiry takes from the table the offers of its shelfmark that stand unrefreshed for 3 s, and no others. -/
theorem State.mem_offerExpiry {s : State} {o : OfferRec × Int} (h : o ∈ s.offers) (m : Nat) :
    o ∈ (s.offerExpiry m).offers ↔ o.1.shelf ≠ m ∨ s.tickLf < o.2 + 3 * lfSec := by
  have htable : (s.offerExpiry m).offers = s.offers.filter (fun o => !(o.1.shelf == m && decide (o.2 + 3 * lfSec ≤ s.tickLf))) := rfl
  rw [htable, List.mem_filter, and_iff_right h]
  simp

/-! ### Planes (R179, R185) -/

section
variable {s : State} {el : Nat} {x : FabSub} (hx : s.fabSubs.find? (fun y => y.el == el) = some x)
include hx

theorem State.planeFailure_stands {p : Nat} (h : s.planeFailed x p = false) : s.planeFailure el p = s := by
  simp [State.planeFailure, hx, h]

/-- With the other plane in use, a failed plane is released and reserved anew from the next centre of its order. -/
theorem State.planeFailure_replans {p : Nat} (h : s.planeFailed x p = true) (h2 : (x.plane (1 - p)).st = 2)
    (ho : s.planeFailed x (1 - p) = false) :
    let y := x.withPlane p { x.plane p with
      st := 0, start := (((x.plane p).centre + 32 - firstCentre x.shelf p) % 32 + 1) % 32, tried := 0, move := none, old := none }
    s.planeFailure el p = (((s.releasePlane x p).bump (Reg.FAB_SUB_REPLANS el)).setSub y).reservePlane y p := by
  simp [State.planeFailure, hx, h, h2, ho]

/-- A plane that every centre denied tries the whole order again after 100 periods. -/
theorem State.pathRetry_due (hp : x.protect = false) (h3 : (x.plane 0).st = 3) (hpast : (x.plane 0).since + 100 * calLf ≤ s.tickLf)
    (hu : x.users ≠ []) :
    s.pathRetry el = s.reservePlane (x.withPlane 0 { x.plane 0 with start := 0, tried := 0 }) 0 := by
  simp [State.pathRetry, hx, hp, h3, hpast, hu]

theorem State.unprotected_single (hp : x.protect = false) : s.unprotected el = s.setSub { x with singleAt := 0, unprotected := false } := by
  simp [State.unprotected, hx, hp]

/-- A protected subscription that has stood on one plane for 10 ms raises FAB_UNPROTECTED, once. -/
theorem State.unprotected_raises (hp : x.protect = true) (h0 : x.plane0.st = 2) (h1 : x.plane1.st ≠ 2) (hat : x.singleAt ≠ 0)
    (hu : x.unprotected = false) (hpast : x.singleAt + 529200000 ≤ s.tickLf) :
    s.unprotected el = (s.setSub { x with unprotected := true }).raise 18 := by
  simp [State.unprotected, hx, hp, h0, h1, hat, hu, hpast]

end
end Sys2Proof.Machine

namespace Sys2Proof
open Machine

/-- Settles O47: each event of the calendar comes to its own operation, which does nothing where it is not due, and each cell to what its
lane, CRC and role ask for. -/
theorem essenceAndPeriods : Obligations.EssenceAndPeriods := by
  unfold Obligations.EssenceAndPeriods
  intro s ha
  refine ⟨fun lanes hlanes => ⟨fun hnew => ?period, fun hold => ?periodBegun⟩,
    ⟨live_next ha rfl, State.cutoff_edge, State.cutoff_early⟩, fun l slot c hl hslot hk h0 hup => ?cells, fun he hx => ?resend,
    fun m => ⟨live_next ha rfl, fun _ ho => State.mem_offerExpiry ho m⟩,
    fun el link hel hlink => onElement_next (by simp [hel, hlink]) ha rfl,
    fun el p x hel hp hx => ⟨fun hf h2 ho => ?fails, fun hf => ?stands⟩,
    fun el x hel hx hp => ⟨fun h3 hpast hu => ?retry, ?single⟩, fun el x hel hx hp h0 h1 hat hu hpast => ?raises⟩
  case period => exact onElement_next (by simpa using hlanes) ha (if_neg hnew)
  case periodBegun => exact onElement_next (by simpa using hlanes) ha (if_pos hold)
  case resend => exact live_next ha (if_neg (by simp [he, hx]))
  case fails => exact onElement_next (by simp [hel, hp]) ha (State.planeFailure_replans hx hf h2 ho)
  case stands => exact onElement_next (by simp [hel, hp]) ha (State.planeFailure_stands hx hf)
  case retry => exact onElement_next (decide_eq_true hel) ha (State.pathRetry_due hx hp h3 hpast hu)
  case single => exact onElement_next (decide_eq_true hel) ha (State.unprotected_single hx hp)
  case raises => exact onElement_next (decide_eq_true hel) ha (State.unprotected_raises hx hp h0 h1 hat hu hpast)
  case cells =>
    have event : ∀ {f : State → State} {t : State}, f s = t →
        onElement (decide (l < 64) && decide (slot < 4410)) s (s.live f) = .next (t.closing s) := onElement_next (by simp [hl, hslot]) ha
    exact ⟨fun _ => event rfl, State.essence_badCrc hup slot c, event (State.presence_badCrc hup slot c),
      fun hx => ⟨fun he => ⟨State.essence_centre hup slot h0 hk hx he, event (State.presence_centre hup slot h0 hk hx he)⟩,
        fun x he hs => event (State.presence_subscribed hup slot h0 hk hx he hs)⟩⟩

end Sys2Proof
end


section
/-! Packets of ingress flows (R210, R213, R217, R218, R220, R224): the serial numbers they are ordered by, what forwarding a packet into the
fabric can write, and what becomes of a packet that its flow's receiving path A brings. -/
namespace Sys2Proof.Machine

/-! ### Serial numbers (R217) -/

section
variable {w a b : Nat} (hw : 0 < w) (ha : a < 2 ^ w) (hb : b < 2 ^ w)
include ha hb

/-- How far a lies after b, around the wrap. -/
theorem serialDistance : (a + 2 ^ w - b) % 2 ^ w = if b ≤ a then a - b else a + 2 ^ w - b := by
  split
  next h => rw [Nat.sub_add_comm h, Nat.add_mod_right, Nat.mod_eq_of_lt (by omega)]
  next h => exact Nat.mod_eq_of_lt (by omega)

/-- The numbers that lie between a and b lead from a to b. -/
theorem add_seqGap : (a + seqGap w a b) % 2 ^ w = b := by
  rw [seqGap, Nat.add_mod_mod, show a + (b + 2 ^ w - a) = b + 2 ^ w by omega, Nat.add_mod_right, Nat.mod_eq_of_lt hb]

include hw

/-- A number lies after another where it is above it by less than half the range, or below it by more than half. -/
theorem serialAfter_iff : serialAfter w a b = true ↔ (b < a ∧ a - b < 2 ^ (w - 1)) ∨ (a < b ∧ 2 ^ (w - 1) < b - a) := by
  have hhalf : 2 ^ w = 2 * 2 ^ (w - 1) := (mul_pow_sub_one hw.ne' 2).symm
  rw [serialAfter, serialDistance ha hb]
  simp only [Bool.and_eq_true, decide_eq_true_eq]
  split <;> omega

theorem serialAfter_asymm : ¬(serialAfter w a b = true ∧ serialAfter w b a = true) := by
  rw [serialAfter_iff hw ha hb, serialAfter_iff hw hb ha]
  omega

/-- Of two numbers that are not half the range apart one lies after the other. -/
theorem serialAfter_total (hne : a ≠ b) (hapart : (a + 2 ^ w - b) % 2 ^ w ≠ 2 ^ (w - 1)) :
    serialAfter w a b = true ∨ serialAfter w b a = true := by
  have hhalf : 2 ^ w = 2 * 2 ^ (w - 1) := (mul_pow_sub_one hw.ne' 2).symm
  rw [serialDistance ha hb] at hapart
  rw [serialAfter_iff hw ha hb, serialAfter_iff hw hb ha]
  split at hapart <;> omega

end

theorem serialAfter_self (w a : Nat) : serialAfter w a a = false := by simp [serialAfter]

/-! ### Forwarding (R224) -/

/-- The registers that a packet on its way into the fabric can write: those of sending, the lanes' counts and OFFER_DROPS. -/
def forwardWrites (k : Key) : Bool := sendWrites k || k.idx == 0x6300 || (k.idx == 0x4200 && k.sub == 13)

/-- `t` is `s` after cells have left: the Concordances stand, and so do the registers but for those of `forwardWrites`. -/
def State.Forwarded (s t : State) : Prop := t.flowBufs = s.flowBufs ∧ ∀ k, forwardWrites k = false → t.get k = s.get k

theorem refl_forwarded (s : State) : s.Forwarded s := ⟨rfl, fun _ _ => rfl⟩

section
variable {s t : State}

theorem put_forwarded (h : s.Forwarded t) (k : Key) (v : Int) (hk : forwardWrites k = true) : s.Forwarded (t.put k v) := by
  refine ⟨h.1, fun l hl => ?_⟩
  have hkl : k ≠ l := fun e => by rw [e, hl] at hk; cases hk
  rw [State.get_put_ne _ v hkl, h.2 l hl]

/-- A message that meets the injection entries writes nothing more than one to the twin does. -/
theorem told_forwarded {u : State} (h : s.Forwarded t) (hu : t.Told u) : s.Forwarded u := by
  obtain ⟨⟨r, o, i, rfl⟩, hg⟩ := hu
  refine ⟨h.1, fun k hk => (hg k ?_).trans (h.2 k hk)⟩
  rw [forwardWrites, Bool.or_assoc, Bool.or_eq_false_iff] at hk
  exact hk.1

theorem sendCell_forwarded (h : s.Forwarded t) (l : Nat) (c : Cell) (k : Nat) : s.Forwarded (t.sendCell l c k) := by
  have hin := told_forwarded h (inject_told (refl_told t) 1 l 0 (.cell c) 2048)
  refine each_keeps (put_forwarded hin _ _ (by simp [forwardWrites])) _ _ fun v x hv => ?_
  split
  · exact hv
  · exact hv

theorem originCell_forwarded (h : s.Forwarded t) (i : Nat) (c : Cell) (at_ : Int) : s.Forwarded (t.originCell i c at_) := by
  refine each_keeps h _ _ fun v ps hv => ?_
  split
  · exact hv
  · exact put_forwarded (sendCell_forwarded hv ..) _ _ rfl

theorem forwardPacket_forwarded (h : s.Forwarded t) (f : Nat) (p : Rtp) (stamp : Int) : s.Forwarded (t.forwardPacket f p stamp) :=
  ite_keeps h (each_keeps (put_forwarded (put_forwarded (put_forwarded h _ _ rfl) _ _ rfl) _ _ (by simp [forwardWrites])) _ _
    fun _ _ hv => originCell_forwarded hv ..)

end

/-! ### A packet at its flow's Concordance (R210, R213, R217, R218) -/

theorem State.bufOf_congr {s t : State} (h : t.flowBufs = s.flowBufs) (f : Nat) : t.bufOf f = s.bufOf f := by
  rw [State.bufOf, State.bufOf, h]

theorem State.bufOf_setBuf (s : State) {b : FlowBuf} {f : Nat} (h : b.flow = f) : (s.setBuf b).bufOf f = b := by
  simp [State.bufOf, State.setBuf, h]

theorem State.get_setBuf (s : State) (b : FlowBuf) (k : Key) : (s.setBuf b).get k = s.get k := rfl

theorem State.bufOf_put (s : State) (k : Key) (v : Int) (f : Nat) : (s.put k v).bufOf f = s.bufOf f := rfl

theorem State.bufOf_flow (s : State) (f : Nat) : (s.bufOf f).flow = f := by
  unfold State.bufOf
  cases h : s.flowBufs.find? (fun b => b.flow == f) with
  | none => rfl
  | some b => simpa using List.find?_some h

/-- The need times of a flow follow from its record alone. -/
theorem State.lastNeed_congr {s t : State} (h : ∀ k : Key, k.idx = 0x4100 → t.get k = s.get k) (f : Nat) (x : Int) :
    t.lastNeed f x = s.lastNeed f x := by
  simp only [State.lastNeed, State.playout, h]

/-- A packet of path A counts as received on it, and its arrival is noted, before it meets the Concordance (R220, R229). -/
def State.receivedA (s : State) (f : Nat) (p : Rtp) : State :=
  ((s.bump (Reg.CONCORDANCE_RECEIVED_A f)).put (Hid.flowLastA f) (s.tickLf + 1)).noteArrival f false (s.keyTime f p.ts) (s.keySeq f p)

theorem State.noteArrival_eq (s : State) (f : Nat) (pathB : Bool) (t : Int) (q : Nat) :
    ∃ l, s.noteArrival f pathB t q = { s with skews := l } := by
  unfold State.noteArrival
  dsimp only
  split
  · exact ⟨_, rfl⟩
  split
  · exact ⟨_, rfl⟩
  · exact ⟨_, rfl⟩

section
variable (s : State) (f : Nat) (p : Rtp)

theorem State.receivedA_eq : ∃ l, s.receivedA f p =
    { (s.bump (Reg.CONCORDANCE_RECEIVED_A f)).put (Hid.flowLastA f) (s.tickLf + 1) with skews := l } :=
  State.noteArrival_eq ..

theorem State.bufOf_receivedA : (s.receivedA f p).bufOf f = s.bufOf f := by
  obtain ⟨l, h⟩ := s.receivedA_eq f p
  rw [h]
  rfl

theorem State.now_receivedA : (s.receivedA f p).now = s.now := by
  obtain ⟨l, h⟩ := s.receivedA_eq f p
  rw [h]
  rfl

theorem State.get_receivedA {k : Key} (hr : Reg.CONCORDANCE_RECEIVED_A f ≠ k) (hl : Hid.flowLastA f ≠ k) :
    (s.receivedA f p).get k = s.get k := by
  obtain ⟨l, h⟩ := s.receivedA_eq f p
  calc (s.receivedA f p).get k = ((s.bump (Reg.CONCORDANCE_RECEIVED_A f)).put (Hid.flowLastA f) (s.tickLf + 1)).get k := by rw [h]; rfl
    _ = s.get k := by rw [State.get_put_ne _ _ hl, State.get_bump, if_neg hr]

theorem State.get_receivedA_flow {k : Key} (h : k.idx = 0x4100) : (s.receivedA f p).get k = s.get k :=
  s.get_receivedA f p (fun e => by simp [← e] at h) (fun e => by simp [← e] at h)

theorem State.lateCopy_receivedA (old : Bool) (t : Int) : (s.receivedA f p).lateCopy f old t = s.lateCopy f old t := by
  have hrecord : ∀ k : Key, k.idx = 0x4100 → (s.receivedA f p).get k = s.get k := fun _ => s.get_receivedA_flow f p
  rw [State.lateCopy, State.lateCopy, hrecord _ rfl, State.now_receivedA, State.lastNeed_congr hrecord]

/-- A packet that only counts leaves the Concordance, and its counter is raised by 1. -/
theorem State.receivedA_counts {k : Key} (hr : Reg.CONCORDANCE_RECEIVED_A f ≠ k) (hl : Hid.flowLastA f ≠ k) :
    ((s.receivedA f p).bump k).bufOf f = s.bufOf f ∧ ((s.receivedA f p).bump k).get k = min (s.get k + 1) (counterMax k) :=
  ⟨s.bufOf_receivedA f p, by rw [State.get_bump, if_pos rfl, s.get_receivedA f p hr hl]⟩

end

/-- A packet of path A that is kept: counted FIRST, and held under its key. -/
def State.heldA (s : State) (f : Nat) (p : Rtp) : State :=
  let x : HeldPkt := ⟨s.keyTime f p.ts, s.keySeq f p, p.bytes, false, s.tickLf, p.marker⟩
  ((((s.receivedA f p).bump (Reg.CONCORDANCE_FIRST_A f)).setBuf { s.bufOf f with held := (s.bufOf f).held ++ [x] }).put
    (Hid.flowStamp f) (s.flowStampAt f (s.keyTime f p.ts)))

section
variable (s : State) (f : Nat) (p : Rtp)

theorem State.heldA_held : ((s.heldA f p).bufOf f).held =
    (s.bufOf f).held ++ [⟨s.keyTime f p.ts, s.keySeq f p, p.bytes, false, s.tickLf, p.marker⟩] := by
  rw [State.heldA, State.bufOf_put, State.bufOf_setBuf]
  exact s.bufOf_flow f

theorem State.get_heldA_first : (s.heldA f p).get (Reg.CONCORDANCE_FIRST_A f) =
    min (s.get (Reg.CONCORDANCE_FIRST_A f) + 1) (counterMax (Reg.CONCORDANCE_FIRST_A f)) := by
  rw [State.heldA, State.get_put_ne _ _ (by simp), State.get_setBuf]
  exact (s.receivedA_counts f p (by simp) (by simp)).2

end

/-- A flow that is decoded meets a packet on its RECEIVING path A: whether the packet is malformed, a copy, late, too much, or kept. -/
theorem State.flowPacket_receiving {s : State} {f : Nat} (hst : s.get (Reg.FLOW_PATH_STATE f) = 2) (htype : s.get (Reg.FLOW_TYPE f) ≠ 5)
    (p : Rtp) :
    let t := s.receivedA f p
    let key := (s.keyTime f p.ts, s.keySeq f p)
    let b := s.bufOf f
    let old := b.any && flowKeyLe (s.seqBits f) key (b.t, b.q)
    s.flowPacket f false p =
      if p.version ≠ 2 ∨ p.fits = false then t.bump (Reg.CONCORDANCE_MALFORMED f)
      else if b.held.any (fun h => decide (h.t = key.1) && h.q == key.2) then t.bump (Reg.CONCORDANCE_DUPLICATES f)
      else if s.lateCopy f old key.1 then t.bump (Reg.CONCORDANCE_LATE f)
      else if old then t.bump (Reg.CONCORDANCE_DUPLICATES f)
      else if s.bufferBytes f < b.held.foldl (fun a h => a + h.bytes) 0 + p.bytes then t.bump (Reg.CONCORDANCE_OVERFLOW f)
      else (s.heldA f p).forwardPacket f p (s.flowStampAt f (s.keyTime f p.ts)) := by
  intro t key b old
  have hwas : ((s.bump (Reg.CONCORDANCE_RECEIVED_A f)).put (Hid.flowLastA f) (s.tickLf + 1)).get (Reg.FLOW_PATH_STATE f) = 2 := by
    simpa using hst
  have hmet : ((s.bump (Reg.CONCORDANCE_RECEIVED_A f)).put (Hid.flowLastA f) (s.tickLf + 1)).noteArrival f false (s.keyTime f p.ts)
      (s.keySeq f p) = s.receivedA f p := rfl
  have hpath : (s.receivedA f p).get (Reg.FLOW_PATH_STATE f) = 2 := (s.get_receivedA_flow f p rfl).trans hst
  unfold State.flowPacket
  simp only [Bool.false_eq_true, if_false, hwas, OfNat.ofNat_ne_one, hmet, hpath, s.bufOf_receivedA f p, s.lateCopy_receivedA f p, htype]
  rw [if_neg (by decide)]
  rfl

end Sys2Proof.Machine

namespace Sys2Proof
open Machine

/-- Settles O51: a malformed packet and a copy of a held or consumed key are only counted, the first of a key is held, and serial numbers are
ordered by their distance around the wrap. -/
theorem packetConcordance : Obligations.PacketConcordance := by
  unfold Obligations.PacketConcordance
  refine ⟨fun s f p _ htype hst => ⟨fun hbad => ?malformed, fun hv hfit hheld hany hneed hroom => ?first, fun hv hfit hcopy => ?duplicate,
      fun hv hfit hheld hany hpast => ?late⟩,
    fun w a b hw ha hb => ⟨serialAfter_self w a, serialAfter_asymm hw ha hb, serialAfter_total hw ha hb⟩, fun _ _ _ _ => add_seqGap⟩
  case malformed =>
    rw [State.flowPacket_receiving hst htype, if_pos hbad]
    exact s.receivedA_counts f p (by simp) (by simp)
  case first =>
    have hkept : s.flowPacket f false p = (s.heldA f p).forwardPacket f p (s.flowStampAt f (s.keyTime f p.ts)) := by
      have hfresh : s.lateCopy f false (s.keyTime f p.ts) = false := by simp [State.lateCopy, hneed]
      rw [State.flowPacket_receiving hst htype]
      simp [hv, hfit, hheld, hany, hfresh, hroom]
    obtain ⟨hbufs, hget⟩ := forwardPacket_forwarded (refl_forwarded (s.heldA f p)) f p (s.flowStampAt f (s.keyTime f p.ts))
    rw [hkept, State.bufOf_congr hbufs, s.heldA_held, hheld, hget _ (by simp [forwardWrites, sendWrites]), s.get_heldA_first]
    exact ⟨rfl, rfl⟩
  case duplicate =>
    obtain ⟨h, hmem, ht, hq⟩ := hcopy
    have hany : ((s.bufOf f).held.any fun h => decide (h.t = s.keyTime f p.ts) && h.q == s.keySeq f p) = true :=
      List.any_eq_true.mpr ⟨h, hmem, by simp [ht, hq]⟩
    rw [State.flowPacket_receiving hst htype, if_neg (by simp [hv, hfit]), if_pos hany]
    exact s.receivedA_counts f p (by simp) (by simp)
  case late =>
    have hlate : s.lateCopy f true (s.keyTime f p.ts) = true := by simp [State.lateCopy, htype]
    rw [State.flowPacket_receiving hst htype, if_neg (by simp [hv, hfit]), if_neg (by simp [hheld]), if_pos (by simpa [hany, hpast] using hlate)]
    exact s.receivedA_counts f p (by simp) (by simp)

end Sys2Proof
end


section
/-! The times of ingress and egress flows (R215, R218, R220, R221, R223, R225): what need times, silent paths, skew, presence, weeding, gaps and
pacers come to. -/
namespace Sys2Proof.Machine

section
variable {s : State} {f : Nat}

/-! ### Need times (R218) -/

theorem State.needTimeAt_due (hon : s.get (Reg.FLOW_ENABLE f) ≠ 0) (htype : s.get (Reg.FLOW_TYPE f) ≠ 5) (hp : s.runs 6 = true) {t : Int}
    {line : Nat} (h : s.needTime f t line ≤ s.now) (q : Nat) : s.needTimeAt f t q line = s.consume f t q := by
  rw [State.needTimeAt, if_neg]
  simp [hon, htype, hp, h]

theorem State.needTimeAt_early {t : Int} {line : Nat} (h : s.now < s.needTime f t line) (q : Nat) : s.needTimeAt f t q line = s :=
  if_pos (.inr (.inr (.inr h)))

/-! ### Paths (R220) -/

/-- Path A silent for 10 ms reads NO_PACKETS; it is a path's loss while path B receives. -/
theorem State.noPackets_a (h2 : s.get (Reg.FLOW_PATH_STATE f) = 2) (hlast : s.get (Hid.flowLastA f) - 1 + 529200000 ≤ s.tickLf) :
    let t := (s.put (Reg.FLOW_PATH_STATE f) 1).flowPubDue f
    s.noPackets f false = if s.get (Reg.FLOW_PATH_STATE (f + 16384)) = 2 then t.raise (578 + s.getN (Reg.FLOW_MAC f)) 1 f else t :=
  if_neg (not_or.mpr ⟨fun h => h.1 h2, not_lt.mpr hlast⟩)

/-- Path B silent for 10 ms reads NO_PACKETS; it is a path's loss while path A receives. -/
theorem State.noPackets_b (h2 : s.get (Reg.FLOW_PATH_STATE (f + 16384)) = 2)
    (hlast : s.get (Hid.flowLastB f) - 1 + 529200000 ≤ s.tickLf) :
    let t := (s.put (Reg.FLOW_PATH_STATE (f + 16384)) 1).flowPubDue f
    s.noPackets f true = if s.get (Reg.FLOW_PATH_STATE f) = 2 then t.raise (578 + s.getN (Reg.FLOW_MAC (f + 16384))) 1 f else t :=
  if_neg (not_or.mpr ⟨fun h => h.1 h2, not_lt.mpr hlast⟩)

/-! ### Skew (R220) -/

/-- At a second a flow's noted arrivals are forgotten where the key came on both paths, or on one 10 s ago. -/
def State.skewsForgotten (s : State) (f : Nat) : State :=
  { s with skews := s.skews.filter (fun x => x.flow != f || (!(x.a.isSome && x.b.isSome) &&
    decide (s.tickLf < max (x.a.getD 0) (x.b.getD 0) + 10 * lfSec))) }

theorem State.flowSkew_off (h : s.get (Reg.FLOW_ENABLE f) = 0) : s.flowSkew f = s.skewsForgotten f := if_pos (.inl h)

/-- A path of flow f with its lags behind the other: SKEWED after a second over 150 ms, RECEIVING again after one within. -/
def State.skewPath (s : State) (f e : Nat) (lags : List Int) : State :=
  if s.get (Reg.FLOW_PATH_STATE e) = 2 ∧ lags.all (fun d => decide (7938000000 < d)) = true then
    ((s.put (Reg.FLOW_PATH_STATE e) 3).flowPubDue f).raise (562 + s.getN (Reg.FLOW_MAC e)) 2 f
  else if s.get (Reg.FLOW_PATH_STATE e) = 3 ∧ lags.all (fun d => decide (d ≤ 7938000000)) = true then
    (s.put (Reg.FLOW_PATH_STATE e) 2).flowPubDue f
  else s

/-- A RECEIVING path with one key within the limit stays so. -/
theorem State.skewPath_within {e : Nat} {lags : List Int} (h2 : s.get (Reg.FLOW_PATH_STATE e) = 2) (h : ∃ d ∈ lags, d ≤ 7938000000) :
    s.skewPath f e lags = s := by
  rw [State.skewPath, if_neg (by simpa [h2] using h), if_neg (by simp [h2])]

/-- With keys that came on both paths the mean shows, and each path is judged. -/
theorem State.flowSkew_on (hon : s.get (Reg.FLOW_ENABLE f) ≠ 0) (hkeys : s.skewLags f ≠ []) :
    s.flowSkew f = (((s.skewsForgotten f).put (Reg.CONCORDANCE_SKEW f)
      ((s.skewLags f).foldl (· + ·) 0 / ((s.skewLags f).length : Int))).skewPath f f ((s.skewLags f).map (fun d => -d))).skewPath f
        (f + 16384) (s.skewLags f) :=
  if_neg (not_or.mpr ⟨hon, hkeys⟩)

/-- With a key within the limit each way neither path is SKEWED: only the mean shows. -/
theorem State.flowSkew_within (hon : s.get (Reg.FLOW_ENABLE f) ≠ 0) (ha : s.get (Reg.FLOW_PATH_STATE f) = 2)
    (hb : s.get (Reg.FLOW_PATH_STATE (f + 16384)) = 2) (hahead : ∃ d ∈ s.skewLags f, -d ≤ 7938000000)
    (hbehind : ∃ d ∈ s.skewLags f, d ≤ 7938000000) :
    s.flowSkew f =
      (s.skewsForgotten f).put (Reg.CONCORDANCE_SKEW f) ((s.skewLags f).foldl (· + ·) 0 / ((s.skewLags f).length : Int)) := by
  obtain ⟨d, hd, hle⟩ := hahead
  have hpath : ∀ e v, ((s.skewsForgotten f).put (Reg.CONCORDANCE_SKEW f) v).get (Reg.FLOW_PATH_STATE e) = s.get (Reg.FLOW_PATH_STATE e) :=
    fun e v => State.get_put_ne _ _ (by simp)
  rw [State.flowSkew_on hon (List.ne_nil_of_mem hd), State.skewPath_within ((hpath ..).trans ha) ⟨-d, List.mem_map_of_mem hd, hle⟩,
    State.skewPath_within ((hpath ..).trans hb) hbehind]

/-! ### Presence (R221) -/

/-- The presence a flow's paths show: PRESENT while one receives, else ABSENT. -/
def State.presenceNow (s : State) (f : Nat) : Int :=
  if (s.pathsOf f).any (fun e => s.get (Reg.FLOW_PATH_STATE e) == 2) then 1 else 2

/-- A change is published with its time; without one the waiting alone ends. -/
theorem State.flowPublish_due (hat : s.get (Hid.flowPubAt f) ≠ 0) (hnow : s.get (Hid.flowPubAt f) - 1 ≤ s.now)
    (hon : s.get (Reg.FLOW_ENABLE f) ≠ 0) :
    let t := s.put (Hid.flowPubAt f) 0
    s.flowPublish f = if s.get (Reg.FLOW_STATE f) = s.presenceNow f then t
      else (t.put (Reg.FLOW_STATE f) (s.presenceNow f)).put (Reg.CONCORDANCE_SINCE f) s.nowLT := by
  rw [State.flowPublish, if_neg (by simp [hat, hnow])]
  simp [hon, State.presenceNow]

/-! ### Weeding (R215) -/

section
variable (hsecond : s.now % lfSec < 53) (hw : s.get (Reg.FLOW_WEED f) ≠ 0) (habsent : s.get (Reg.FLOW_STATE f) = 2)
  (hquiet : lfOfLt (s.get (Reg.CONCORDANCE_SINCE f)) + s.get (Reg.FLOW_WEED f) ≤ s.now) (hfree : s.flowUsers f = 0)
include hsecond hw habsent hquiet hfree

/-- A quiet flow without a user is due at a second exactly where the device is lent. -/
theorem State.weedDue_quiet : s.weedDue f = s.lent := by
  simp [State.weedDue, hsecond, hw, habsent, hquiet, hfree]

/-- With no twin to ask, the device's own write of ENABLE = 0 is applied. -/
theorem State.weed_lent (hl : s.lent = true) (hp : s.paired = false) :
    s.weed f = s.writeApply false [⟨addrOf (Reg.FLOW_ENABLE f), encodeValue .bool 0⟩] := by
  rw [State.weed, if_pos ((State.weedDue_quiet hsecond hw habsent hquiet hfree).trans hl), State.commitReq_alone (by simp [hp])]
  rfl

end

theorem State.weed_unlent (h : s.lent = false) : s.weed f = s := by simp [State.weed, State.weedDue, h]

/-! ### Pacers (R225) -/

theorem State.pacerRelease_unplanned {frame : Int} {i : Nat} (h : s.paced (32768 + f) frame i = none) : s.pacerRelease f frame i = s := by
  simp [State.pacerRelease, h]

theorem State.pacerRelease_early {frame : Int} {i : Nat} {r : State} {plan : PacketPlan} (h : s.paced (32768 + f) frame i = some (r, plan))
    (hnow : s.now < plan.release) : s.pacerRelease f frame i = s := by
  simp [State.pacerRelease, h, hnow]

/-! ### Gaps (R223) -/

section
variable (htype : s.get (Reg.FLOW_TYPE f) = 5) {h : HeldPkt} (hfirst : firstKey 16 (s.bufOf f).held = some h)
include htype hfirst

theorem State.compressedGap_waits (hnow : s.tickLf < h.at_ + lfMs) : s.compressedGap f = s := by
  simp [State.compressedGap, htype, hfirst, hnow]

/-- Before anything was released no gap is known: nothing is lost, and the packets leave from the first on. -/
theorem State.compressedGap_first (hnow : h.at_ + lfMs ≤ s.tickLf) (hany : (s.bufOf f).any = false) :
    s.compressedGap f = ((s.bumpBy (Reg.CONCORDANCE_LOST f) 0).setBuf
      { s.bufOf f with any := true, t := h.t, q := (h.q + 65535) % 65536 }).compressedDrain f ((s.bufOf f).held.length + 1) := by
  simp [State.compressedGap, htype, hfirst, not_lt.mpr hnow, hany]

end
end
end Sys2Proof.Machine

namespace Sys2Proof
open Machine

/-- Settles O52: each time of a flow comes to its own operation, and one that is not due, planned or asked for changes nothing. -/
theorem flowCommands : Obligations.FlowCommands := by
  unfold Obligations.FlowCommands
  intro s f ha hf
  have event : ∀ {g : State → State} {t : State}, g s = t → onElement (decide (f < 16384)) s (s.live g) = .next (t.closing s) :=
    onElement_next (decide_eq_true hf) ha
  have pathEvent : ∀ {path : Nat} {g : State → State} {t : State}, path < 2 → g s = t →
      onElement (decide (f < 16384) && decide (path < 2)) s (s.live g) = .next (t.closing s) :=
    fun hpath => onElement_next (by simp [hf, hpath]) ha
  refine ⟨fun t q line hon htype hp => ⟨fun hdue => ?due, fun hearly => ?early⟩, fun h2 hlast => ⟨fun hb => ?lossA, fun hb => ?silentA⟩,
    fun h2 hlast hother => ?lossB, ⟨fun hoff => ?skewOff, fun hon h2 hb hahead hbehind => ?skew⟩,
    fun hat hnow hon => ⟨fun hnew => ?change, fun hold => ?same⟩,
    fun hsecond hw habsent hquiet hfree hsolo => ⟨fun hl => ?lent, fun hl => ?unlent⟩,
    fun frame i => ⟨event rfl, State.pacerRelease_unplanned, fun r plan => State.pacerRelease_early⟩,
    fun htype => ⟨fun h hfirst hnow => ?waits, fun h hfirst hnow hany => ?gap⟩⟩
  case due => exact event (State.needTimeAt_due hon htype hp hdue q)
  case early => exact event (State.needTimeAt_early hearly q)
  case lossA => exact pathEvent (by decide) ((State.noPackets_a h2 hlast).trans (if_pos hb))
  case silentA => exact pathEvent (by decide) ((State.noPackets_a h2 hlast).trans (if_neg hb))
  case lossB => exact pathEvent (by decide) ((State.noPackets_b h2 hlast).trans (if_pos hother))
  case skewOff => exact event (State.flowSkew_off hoff)
  case skew => exact event (State.flowSkew_within hon h2 hb hahead hbehind)
  case change => exact event ((State.flowPublish_due hat hnow hon).trans (if_neg hnew))
  case same => exact event ((State.flowPublish_due hat hnow hon).trans (if_pos hold))
  case lent => exact event (State.weed_lent hsecond hw habsent hquiet hfree hl hsolo)
  case unlent => exact event (State.weed_unlent hl)
  case waits => exact event (State.compressedGap_waits htype hfirst hnow)
  case gap => exact event (State.compressedGap_first htype hfirst hnow hany)

end Sys2Proof
end


section
/-! The arithmetic of audio (R236, R254, R266, R267): rounding to the nearest, a gain's ramp between its ends, and the saturation of a node's
sum and of a bus. -/
namespace Sys2Proof.Machine

/-! ### Rounding to the nearest, ties to even (R236) -/

/-- The quotient lies nearest, and is even where two lie equally near; the dividend may be negative. -/
theorem roundEven_nearest (n : Int) {d : Nat} (hd : 0 < d) :
    2 * (n - d * roundEven n d).natAbs ≤ d ∧ (2 * (n - d * roundEven n d).natAbs = d → roundEven n d % 2 = 0) := by
  have hn := Int.mul_ediv_add_emod n d
  have hlow := Int.emod_nonneg n (b := d) (by omega)
  have hhigh := Int.emod_lt_of_pos n (b := d) (by omega)
  have hup : (d : Int) * (n / d + 1) = d * (n / d) + d := mul_add_one _ _
  unfold roundEven
  dsimp only
  split_ifs
  · omega
  · rw [hup]; omega
  · omega
  · rw [hup]; omega

/-- A bound of the exact quotient by a whole number bounds the rounded one: a further step off would leave a whole divisor. -/
theorem le_roundEven {n c : Int} {d : Nat} (hd : 0 < d) (h : d * c ≤ n) : c ≤ roundEven n d := by
  by_contra hlt
  have hstep : (d : Int) * (roundEven n d + 1) ≤ d * c := mul_le_mul_of_nonneg_left (by omega) (by omega)
  have hnear := (roundEven_nearest n hd).1
  rw [mul_add_one] at hstep
  omega

theorem roundEven_le {n c : Int} {d : Nat} (hd : 0 < d) (h : n ≤ d * c) : roundEven n d ≤ c := by
  by_contra hlt
  have hstep : (d : Int) * (c + 1) ≤ d * roundEven n d := mul_le_mul_of_nonneg_left (by omega) (by omega)
  have hnear := (roundEven_nearest n hd).1
  rw [mul_add_one] at hstep
  omega

/-! ### Ramps (R266) -/

theorem rampAt_start (a b : Int) {n : Int} (hn : 0 < n) : rampAt a b 0 n = a := by
  rw [rampAt, if_neg (by omega), if_pos le_rfl]

theorem rampAt_end (a b n : Int) : rampAt a b n n = b := if_pos le_rfl

/-- Within the ramp the part of the way gone is between nothing and the whole, and rounding keeps it there. -/
theorem rampAt_between (a b i : Int) {n : Int} (hn : 0 < n) : min a b ≤ rampAt a b i n ∧ rampAt a b i n ≤ max a b := by
  unfold rampAt
  split_ifs with hpast hbefore
  · omega
  · omega
  · lift n to ℕ using hn.le
    have hd : 0 < n := by omega
    rw [Int.toNat_natCast]
    rcases le_total a b with hab | hab
    · have hlow : 0 ≤ (b - a) * i := mul_nonneg (by omega) (by omega)
      have hhigh : (b - a) * i ≤ n * (b - a) := mul_comm (b - a) n ▸ mul_le_mul_of_nonneg_left (by omega) (by omega)
      have h1 : 0 ≤ roundEven ((b - a) * i) n := le_roundEven hd (by rwa [mul_zero])
      have h2 := roundEven_le hd hhigh
      omega
    · have hhigh : (b - a) * i ≤ 0 := mul_nonpos_of_nonpos_of_nonneg (by omega) (by omega)
      have hlow : n * (b - a) ≤ (b - a) * i := mul_comm (b - a) n ▸ mul_le_mul_of_nonpos_left (by omega) (by omega)
      have h1 := le_roundEven hd hlow
      have h2 : roundEven ((b - a) * i) n ≤ 0 := roundEven_le hd (by rwa [mul_zero])
      omega

/-! ### Saturation (R254, R267) -/

theorem clampInt_bounds {lo hi : Int} (h : lo ≤ hi) (v : Int) : lo ≤ clampInt lo hi v ∧ clampInt lo hi v ≤ hi := by
  unfold clampInt
  split_ifs <;> omega

theorem clampInt_within {lo hi v : Int} (h1 : lo ≤ v) (h2 : v ≤ hi) : clampInt lo hi v = v := by
  rw [clampInt, if_neg h1.not_gt, if_neg h2.not_gt]

theorem sat32_bounds (v : Int) : -(2 ^ 31) ≤ sat32 v ∧ sat32 v < 2 ^ 31 := by
  obtain ⟨hlow, hhigh⟩ := clampInt_bounds (lo := -(2 ^ 31)) (hi := 2 ^ 31 - 1) (by decide) v
  exact ⟨hlow, Int.lt_of_le_sub_one hhigh⟩

/-- Each edge's addition leaves the sum in range, saturated or not, and the sum starts at 0. -/
theorem State.nodeSum_bounds (s : State) (p : Prog) (ins buses : List (Nat × Int)) (node : Nat) (at_ : Int) :
    -(2 ^ 47 - 1) ≤ (s.nodeSum p ins buses node at_).1 ∧ (s.nodeSum p ins buses node at_).1 ≤ 2 ^ 47 - 1 := by
  unfold State.nodeSum
  refine List.foldlRecOn (motive := fun a : Int × Nat => -(2 ^ 47 - 1) ≤ a.1 ∧ a.1 ≤ 2 ^ 47 - 1) _ _ (by decide) fun a _ e _ => ?_
  dsimp only
  split
  · exact clampInt_bounds (by decide) _
  · next hin => omega

/-- Whatever the rounds before gave, each bus of a round is saturated. -/
theorem State.busValues_bounds (s : State) (p : Prog) (ins : List (Nat × Int)) (at_ : Int) (fuel : Nat) {x : Nat × Int}
    (hx : x ∈ s.busValues p ins at_ fuel) : -(2 ^ 31) ≤ x.2 ∧ x.2 < 2 ^ 31 := by
  cases fuel with
  | zero => cases hx
  | succ fuel =>
    obtain ⟨b, -, rfl⟩ := List.mem_map.mp hx
    exact sat32_bounds _

end Sys2Proof.Machine

namespace Sys2Proof
open Machine

/-- Settles O54: the nearest quotient keeps whole bounds, so a ramp stays between its ends, and every sum and bus ends in a saturation. -/
theorem audioArithmetic : Obligations.AudioArithmetic := by
  unfold Obligations.AudioArithmetic
  exact ⟨fun n d hd => roundEven_nearest n hd,
    fun a b i n hn => ⟨rampAt_start a b hn, rampAt_end a b n, rampAt_between a b i hn⟩,
    State.nodeSum_bounds, fun s p ins at_ fuel x hx => s.busValues_bounds p ins at_ fuel hx,
    fun v hlow hhigh => clampInt_within hlow (Int.le_sub_one_of_lt hhigh)⟩

end Sys2Proof
end

section
/-! A canvas at its boundary while a raising waits (R235, R249, R334): a layer's raising lets the collector settle what waits, and the restart
that this may order suspends the canvas before its boundary ends. -/
namespace Sys2Proof.Machine

/-- Canvas 255 runs on raster 31 in COMPOSE, composed by slice 7 alone, and its layer 7 shows a source that delivers no frame. The
collector runs, yet a raising of slice 7's source INTERNAL (244), of default severity ISOLATE, still waits (R329). -/
def raisingWaits : State :=
  { ([(Reg.READY, 2 ^ 57 - 1), (Reg.MODE_ACTIVE, 3), (Reg.RASTER_FORMAT 31, 9), (Reg.CANVAS_ENABLE 255, 1), (Reg.CANVAS_RASTER 255, 31),
      (Reg.CANVAS_SLICES 255, 128), (Reg.LAYER_CANVAS 7, 255), (Reg.LAYER_ENABLE 7, 1), (Reg.LAYER_STATUS 7, 1)].foldl
        (fun (s : State) p => s.put p.1 p.2) State.reset) with
    held := .running
    heldRaises := [⟨244, 0, false, false, 0⟩] }

theorem canvasStateOf_raisingWaits : raisingWaits.canvasStateOf 255 = 1 := by decide +kernel

/-- The layer enters its NOT_READY policy and raises, the collector settles that and the raising that waits, and slice 7 restarts: the
canvas reads SUSPENDED after its boundary (R249). -/
theorem canvasBoundary_raisingWaits : (raisingWaits.canvasBoundary 255 [] []).get (Reg.CANVAS_STATE 255) = 2 := by decide +kernel

end Sys2Proof.Machine

namespace Sys2Proof
open Machine

/-- Refutes O53 in its canvas clause: `raisingWaits` is a running device whose canvas 255 runs, and the boundary leaves it SUSPENDED, not
RUNNING, since no premise keeps raisings from waiting while the collector runs. -/
theorem not_canvasesAndMemories : ¬ Obligations.CanvasesAndMemories := by
  unfold Obligations.CanvasesAndMemories
  intro h
  obtain ⟨hcanvas, -⟩ := h raisingWaits rfl
  obtain ⟨-, -, hruns⟩ := hcanvas 255 [] [] (by decide)
  obtain ⟨hstate, -, -⟩ := hruns canvasStateOf_raisingWaits
  rw [canvasBoundary_raisingWaits] at hstate
  exact absurd hstate (by decide)

end Sys2Proof
end

section
/-! The audio engine's instants and the AES3 ports (R252, R256 to R258, R260, R266): what leaves the device after an instant was taken, the
ramp of a path that waited in vain, and what each event of a receiver and the block start of a transmitter come to. -/
namespace Sys2Proof.Machine

/-! ### What leaves after an instant (R252, R254, R259) -/

/-- `t` is `s` after more has left the device: what had left stands in its order, and the engine's last instant is the same. -/
def State.Delivered (s t : State) : Prop := s.out <+: t.out ∧ t.get Hid.audInstant = s.get Hid.audInstant

theorem refl_delivered (s : State) : s.Delivered s := ⟨⟨[], List.append_nil _⟩, rfl⟩

section
variable {s t : State}

theorem put_delivered (h : s.Delivered t) (k : Key) (v : Int) (hk : k ≠ Hid.audInstant) : s.Delivered (t.put k v) :=
  ⟨h.1, (State.get_put_ne t v hk).trans h.2⟩

theorem bump_delivered (h : s.Delivered t) (k : Key) (hk : k ≠ Hid.audInstant) : s.Delivered (t.bump k) := put_delivered h k _ hk

theorem send_delivered (h : s.Delivered t) (e : Emit) : s.Delivered (t.send e) := ⟨h.1.trans ⟨[e], rfl⟩, h.2⟩

theorem injHeld_delivered (h : s.Delivered t) (l : List InjHeld) : s.Delivered { t with injHeld := l } := ⟨h.1, h.2⟩

theorem injectHold_delivered (h : s.Delivered t) (j : Nat) (u : InjUnit) (left : Nat) (due : Int) :
    s.Delivered (t.injectHold j u left due) :=
  ite_keeps (bump_delivered h _ (by simp)) (injHeld_delivered h _)

theorem injectPassed_delivered (h : s.Delivered t) (j : Nat) : s.Delivered (t.injectPassed j).1 := injHeld_delivered h _

/-- An injection entry that a unit meets shows what it did after all that had left before (R402, R403). -/
theorem injectOne_delivered (h : s.Delivered t) (j : Nat) (u : InjPass) (len : Nat) : s.Delivered (t.injectOne j u len).1 := by
  have hseen : s.Delivered (((t.bump (Reg.INJECT_SEEN j)).put (Hid.injIndex j) (t.get (Hid.injIndex j) + 1)).put (Hid.injReg j)
      (t.injectActs j).2) := put_delivered (put_delivered (bump_delivered h _ (by simp)) _ _ (by simp)) _ _ (by simp)
  have hpassed := injectPassed_delivered hseen j
  have hacts := bump_delivered hpassed (Reg.INJECT_UNITS j) (by simp)
  unfold State.injectOne
  dsimp only
  split
  · exact hpassed
  split
  · exact hacts
  split
  · exact send_delivered (put_delivered hacts _ _ (by simp)) _
  split
  · exact injectHold_delivered hacts ..
  split
  · exact injectHold_delivered hacts ..
  split
  · exact hacts
  · exact injectHold_delivered hacts ..

theorem inject_delivered (h : s.Delivered t) (point target plane : Nat) (u : InjUnit) (len : Nat) :
    s.Delivered (t.inject point target plane u len).1 := by
  refine foldl_fst_keeps _ _ _ h fun a j ha => foldl_fst_keeps _ _ _ ha fun b x hb => ?_
  split
  · exact injectOne_delivered hb j x len
  · exact hb

/-- A frame leaves a transmitter past the injection entries (R254, R260). -/
theorem aesSend_delivered (h : s.Delivered t) (tx rate n : Nat) (at_ : Int) (a b : Int × Bool) :
    s.Delivered (t.aesSend tx rate n at_ a b) :=
  send_delivered (inject_delivered h 5 tx 0 .other 56) _

/-- Each MEDIA transmitter sends one frame of an instant, two, or none, as its rate asks (R251, R260). -/
theorem aesMedia_delivered (h : s.Delivered t) (k : Int) (given : List (Nat × Int × Bool)) : s.Delivered (t.aesMedia k given) :=
  each_keeps h _ _ fun _ _ hv =>
    ite_keeps (aesSend_delivered hv ..)
      (ite_keeps (aesSend_delivered (aesSend_delivered hv ..) ..) (ite_keeps (aesSend_delivered hv ..) hv))

theorem sendCell_delivered (h : s.Delivered t) (l : Nat) (c : Cell) (k : Nat) : s.Delivered (t.sendCell l c k) := by
  refine each_keeps (bump_delivered (inject_delivered h 1 l 0 (.cell c) 2048) _ (by simp)) _ _ fun v x hv => ?_
  split
  · exact send_delivered hv _
  · exact hv

theorem originCell_delivered (h : s.Delivered t) (i : Nat) (c : Cell) (at_ : Int) : s.Delivered (t.originCell i c at_) := by
  refine each_keeps h _ _ fun v ps hv => ?_
  split
  · exact hv
  · exact put_delivered (sendCell_delivered hv ..) _ _ (by simp)

theorem bundleCells_delivered (h : s.Delivered t) (instant : Int) (outs : List (Nat × Int)) : s.Delivered (t.bundleCells instant outs) :=
  each_keeps h _ _ fun _ _ hv => originCell_delivered hv ..

end

/-! ### A sample instant (R252, R253, R271) -/

section
variable {s : State} (he : s.edge = true) (ins : List SampleIn) (frames : List AesIn)
include he

/-- With AUD running an instant ends in its mark, its output slots two sample periods on, and the frames and cells that carry them. -/
theorem State.engineSample_ends (hr : s.runs 46 = true) :
    let ps := sampleLf s.progRun.rate
    let at_ := s.now / ps * ps
    ∃ (u : State) (given : List (Nat × Int × Bool)) (vals : List (Nat × Int)), s.engineSample ins frames =
      (((u.put Hid.audInstant (at_ + 1)).send (.audio (at_ + 2 * ps) vals)).aesMedia (at_ + 2 * ps) given).bundleCells (at_ + 2 * ps) vals :=
  ⟨_, _, _, (if_neg (by simp [he])).trans (if_neg (by simp [hr]))⟩

/-- So it reads as taken, and has been delivered. -/
theorem State.engineSample_takes (hr : s.runs 46 = true) :
    let ps := sampleLf s.progRun.rate
    (s.engineSample ins frames).get Hid.audInstant = s.now / ps * ps + 1 ∧
      ∃ given, Emit.audio (s.now / ps * ps + 2 * ps) given ∈ (s.engineSample ins frames).out := by
  obtain ⟨u, given, vals, ht⟩ := State.engineSample_ends he ins frames hr
  obtain ⟨hout, hinstant⟩ := bundleCells_delivered (aesMedia_delivered (refl_delivered _) _ given) _ vals
  rw [ht]
  exact ⟨hinstant.trans (State.get_put_same ..), vals, hout.subset List.mem_concat_self⟩

/-- While AUD does not run an instant delivers silence alone. -/
theorem State.engineSample_silent (hr : s.runs 46 = false) :
    let ps := sampleLf s.progRun.rate
    s.engineSample ins frames = (s.send (.audio (s.now / ps * ps + 2 * ps) [])).bundleCells (s.now / ps * ps + 2 * ps) [] :=
  (if_neg (by simp [he])).trans (if_pos (by simp [hr]))

end

theorem State.engineSample_centre {s : State} (he : s.edge = false) (ins : List SampleIn) (frames : List AesIn) :
    s.engineSample ins frames = s :=
  if_pos (by simp [he])

/-! ### A crossing that did not come (R266) -/

section
variable {s : State} {bus : Bool} {n : Nat} {p : PathSt} (hp : s.pathOf bus n = some p)
include hp

theorem State.zcTimeout_due (hw : p.ramp = none) (hd : p.deadline ≤ s.now) :
    let ps := sampleLf s.progRun.rate
    s.zcTimeout bus n = (s.setPath bus n (some { p with ramp := some ((p.deadline + ps - 1) / ps * ps) })).bump
      Reg.ENGINE_STATS_ZC_TIMEOUTS := by
  simp [State.zcTimeout, hp, hw, hd]

theorem State.zcTimeout_stands (h : p.ramp ≠ none ∨ s.now < p.deadline) : s.zcTimeout bus n = s := by
  simp only [State.zcTimeout, hp]
  exact if_pos (by simpa [Option.isSome_iff_ne_none] using h)

end

/-! ### AES3 receivers (R256 to R258) -/

section
variable {s : State} {r : Nat}

theorem State.aesLoss_idle (h : s.get (Reg.AES_RX_STATE r) = 0) : s.aesLoss r = s := if_pos h

/-- The signal of receiver r is gone: it is idle, shows no rate and no fill, and counts the loss. -/
def State.aesLost (s : State) (r : Nat) : State :=
  (((s.put (Reg.AES_RX_STATE r) 0).put (Reg.AES_RX_RATE r) 0).put (Reg.AES_RX_FILL r) 0).bump (Reg.AUDIO_STATS_LOSSES r)

/-- A receiver that did not track raises nothing at its loss. -/
theorem State.aesLoss_untracked (h : s.get (Reg.AES_RX_STATE r) = 1 ∨ s.get (Reg.AES_RX_STATE r) = 3) : s.aesLoss r = s.aesLost r := by
  rcases h with h | h <;> simp [State.aesLoss, State.aesLost, State.when, h]

theorem State.aesLoss_tracking (h : s.get (Reg.AES_RX_STATE r) = 2) : s.aesLoss r = (s.aesLost r).raise (594 + r) 1 r := by
  simp [State.aesLoss, State.aesLost, State.when, h]

theorem State.aesRecovered_fades (h : s.get (Reg.AES_RX_STATE r) = 3) :
    s.aesRecovered r =
      (((s.put (Reg.AES_RX_STATE r) 2).put (Reg.AES_RX_FILL r) 32).put (Hid.aesTrackAt r) s.tickLf).slotFade (3072 + 2 * r) 2 true :=
  if_neg (not_not.mpr h)

/-- What receiver r measured (R256). -/
def State.aesMeasured (s : State) (r rate : Nat) (ratio : Int) (fill status : Nat) : State :=
  (((s.put (Reg.AES_RX_RATE r) rate).put (Reg.AES_RX_RATIO_OFFSET r) ratio).put (Reg.AES_RX_FILL r) fill).put
    (Reg.AES_RX_CHANNEL_STATUS r) (status % 2 ^ 192 : Nat)

section
variable (hon : s.aesRuns r = true)
include hon

theorem State.aesPreamble_idle (h : s.get (Reg.AES_RX_STATE r) = 0) : s.aesPreamble r = s.put (Reg.AES_RX_STATE r) 1 :=
  if_pos (by simp [hon, h])

/-- A PCM receiver that acquires tracks from the first measurement on whose fill and offset hold. -/
theorem State.aesTracking_acquiring (h1 : s.get (Reg.AES_RX_STATE r) = 1) (hpcm : s.get (Reg.AES_RX_MODE r) = 0) {rate : Nat}
    (hlow : 1 ≤ rate) (hhigh : rate ≤ 4) (ratio : Int) (fill status : Nat) :
    let t := s.aesMeasured r rate ratio fill status
    s.aesTracking r rate ratio fill status = if 28 ≤ fill ∧ fill ≤ 36 ∧ ratio.natAbs ≤ 50000 then
      (t.put (Reg.AES_RX_STATE r) 2).put (Hid.aesTrackAt r) s.tickLf else t := by
  have hrate : (!s.aesRuns r || s.get (Reg.AES_RX_STATE r) == 0 || rate == 0 || decide (4 < rate)) = false := by
    simpa [hon, h1] using ⟨by omega, hhigh⟩
  intro t
  rw [State.aesTracking, if_neg (by simp [hrate])]
  by_cases hfill : 28 ≤ fill ∧ fill ≤ 36
  · by_cases hoff : ratio.natAbs ≤ 50000
    · rw [if_neg (by omega), if_neg (by simp [hpcm, hoff]), if_pos (by omega)]
      rfl
    · rw [if_neg (by omega), if_pos (.inl (by omega)), if_neg (by omega)]
      rfl
  · rw [if_pos (by omega), if_neg (by omega)]
    rfl

/-- A PCM receiver's underrun or overrun is counted, and its slots fade out. -/
theorem State.aesSlip_pcm (hpcm : s.get (Reg.AES_RX_MODE r) = 0)
    (h : s.get (Reg.AES_RX_STATE r) = 2 ∨ s.get (Reg.AES_RX_STATE r) = 3) (beyond : Bool) :
    s.aesSlip r beyond =
      (((((s.bump (if beyond then Reg.AUDIO_STATS_OVERRUNS r else Reg.AUDIO_STATS_UNDERRUNS r)).put (Reg.AES_RX_FILL r)
        (if beyond then 64 else 0)).put (Reg.AES_RX_STATE r) 3).slotFade (3072 + 2 * r) 2 false).raise (594 + r) 2 r) :=
  if_neg (by rcases h with h | h <;> simp [hon, hpcm, h])

theorem State.transparentSlip_tracking (hmode : s.get (Reg.AES_RX_MODE r) = 1) (h2 : s.get (Reg.AES_RX_STATE r) = 2) :
    s.transparentSlip r = (s.bump (Reg.AUDIO_STATS_TRANSPARENT_SLIPS r)).raise (594 + r) 2 r :=
  if_pos (by simp [hon, hmode, h2])

end

/-- What the measurement shows, and the state it leads to. -/
theorem State.get_aesTracking (hon : s.aesRuns r = true) (h1 : s.get (Reg.AES_RX_STATE r) = 1) (hpcm : s.get (Reg.AES_RX_MODE r) = 0)
    {rate : Nat} (hlow : 1 ≤ rate) (hhigh : rate ≤ 4) (ratio : Int) (fill status : Nat) :
    let t := s.aesTracking r rate ratio fill status
    t.get (Reg.AES_RX_RATE r) = rate ∧ t.get (Reg.AES_RX_RATIO_OFFSET r) = ratio ∧ t.get (Reg.AES_RX_FILL r) = fill ∧
      t.get (Reg.AES_RX_STATE r) = (if 28 ≤ fill ∧ fill ≤ 36 ∧ ratio.natAbs ≤ 50000 then 2 else 1) := by
  intro t
  simp only [t, State.aesTracking_acquiring hon h1 hpcm hlow hhigh]
  split
  · simp [State.aesMeasured]
  · simp [State.aesMeasured, h1]

end

/-! ### The block start of a transmitter (R260) -/

/-- A bit of READY is recorded in `1201`, and touches the time for which SELF_CHECK holds (R313, R384). -/
theorem State.get_setReady (s : State) (b : Nat) (v : Bool) {k : Key} (hr : k ≠ Reg.READY) (ht : k.idx ≠ 0x1201)
    (hp : k ≠ Hid.probFrom) : (s.setReady b v).get k = s.get k := by
  have hkey : ∀ sub, (⟨0x1201, b, sub⟩ : Key) ≠ k := fun sub e => ht (by rw [← e])
  unfold State.setReady State.probTouch
  split_ifs <;> simp [hr.symm, hp.symm, hkey]

theorem State.get_refreshAesBit (s : State) {k : Key} (hr : k ≠ Reg.READY) (ht : k.idx ≠ 0x1201) (hp : k ≠ Hid.probFrom) :
    s.refreshAesBit.get k = s.get k :=
  State.get_setReady _ _ _ hr ht hp

/-- With no DARS to lose nothing is raised: beyond its own counts and READY a transmitter takes its state and its rate (R260). -/
theorem State.get_aesBlock {s : State} {r : Nat} (hc : s.get (Reg.AES_TX_CLOCK r) = 0) {k : Key} (hr : k ≠ Reg.READY)
    (ht : k.idx ≠ 0x1201) (hp : k ≠ Hid.probFrom) (hn : k ≠ Hid.aesTxN r) (hh : k ≠ Hid.aesHush r) :
    (s.aesBlock r).get k = ((s.put (Reg.AES_TX_STATE r) (s.aesTxTarget r)).put (Hid.aesTxRate r) (s.get (Reg.AES_TX_RATE r))).get k := by
  unfold State.aesBlock
  dsimp only
  rw [State.get_refreshAesBit _ hr ht hp, State.get_when rfl]
  split_ifs <;> simp [State.when, hc, hn.symm, hh.symm]

end Sys2Proof.Machine

namespace Sys2Proof
open Machine

/-- Settles O55: an instant ends in what it delivers and nothing sent after it takes that back, and each event of a waiting path, a receiver
and a transmitter comes to its own change. -/
theorem audioPorts : Obligations.AudioPorts := by
  unfold Obligations.AudioPorts
  intro s ha
  refine ⟨fun ins frames hins hframes => ⟨?sample, fun he hr => State.engineSample_takes he ins frames hr,
      fun he hr => State.engineSample_silent he ins frames hr, fun he => State.engineSample_centre he ins frames⟩,
    fun bus n p hbus hn hp => ⟨fun hw hd => ?ramps, fun hstands => ?stands⟩, fun r hr => ?ports⟩
  case sample => exact onElement_next (by simpa using ⟨hins, hframes⟩) ha rfl
  case ramps => exact onElement_next (by cases bus <;> simp [hbus, hn]) ha (State.zcTimeout_due hp hw hd)
  case stands => exact onElement_next (by cases bus <;> simp [hbus, hn]) ha (State.zcTimeout_stands hp hstands)
  case ports =>
    have event : ∀ {g : State → State} {t : State}, g s = t → onElement (decide (r < 32)) s (s.live g) = .next (t.closing s) :=
      onElement_next (decide_eq_true hr) ha
    refine ⟨fun hon h0 => event (State.aesPreamble_idle hon h0),
      fun rate ratio fill status hon h1 hpcm hlow hhigh =>
        ⟨_, event rfl, State.get_aesTracking hon h1 hpcm hlow hhigh ratio fill status⟩,
      ⟨fun h => event (State.aesLoss_untracked h), fun h2 => event (State.aesLoss_tracking h2)⟩,
      fun h0 => event (State.aesLoss_idle h0),
      fun hon hpcm h => ⟨event (State.aesSlip_pcm hon hpcm h false), event (State.aesSlip_pcm hon hpcm h true)⟩,
      fun h3 => event (State.aesRecovered_fades h3),
      fun hon hmode h2 => event (State.transparentSlip_tracking hon hmode h2),
      fun hup => ⟨_, event (if_pos hup), fun hc => ⟨?state, ?rate⟩⟩, fun hdown => event (if_neg (by simp [hdown]))⟩
    case state => exact (State.get_aesBlock hc (by simp) (by simp) (by simp) (by simp) (by simp)).trans (by simp)
    case rate => exact (State.get_aesBlock hc (by simp) (by simp) (by simp) (by simp) (by simp)).trans (by simp)

end Sys2Proof
end


section
/-! Writes of control registers (R263, R285, R301, R319, R350, R371, R382 to R385, R392, R393, R401): each command is a WRITE of
its register, whose one item does what that register is there for. -/
namespace Sys2Proof.Machine

/-! ### What an item of each register comes to -/

section
variable (s : State) (e : Nat) (v : Int)

theorem State.applyItem_commit : s.applyItem false Reg.STANDING_COMMIT_COMMIT 1 = s.commitStart := by simp [State.applyItem]

theorem State.applyItem_release : s.applyItem false Reg.LOAN_RELEASE 1 = s.releaseLoan := by simp [State.applyItem]

/-- COMPILE shows COMPILING (R263). -/
theorem State.applyItem_compile : s.applyItem false Reg.AUDIO_COMPILE_COMPILE 1 = s.put Reg.AUDIO_COMPILE_STATE 1 := by
  simp [State.applyItem, State.compileStart]

theorem State.applyItem_capture : s.applyItem false (Reg.CLIP_CAPTURE e) 1 = s.clipCapture e := by simp [State.applyItem]

theorem State.applyItem_delete : s.applyItem false (Reg.CLIP_DELETE e) 1 = s.clipDelete e := by simp [State.applyItem]

theorem State.applyItem_bootIdle : s.applyItem false Reg.UPDATE_BOOT_IDLE v = s.bootIdle v := by simp [State.applyItem]

theorem State.applyItem_confirm : s.applyItem false Reg.HEALTH_CONFIRM_CONFIRM v = s.confirmWrite v := by simp [State.applyItem]

theorem State.applyItem_reject : s.applyItem false Reg.HEALTH_CONFIRM_REJECT v = s.rejectWrite v := by simp [State.applyItem]

theorem State.applyItem_key : s.applyItem false (Reg.KEY_SLOT_KEY e) v = s.keyWrite e v.toNat := by simp [State.applyItem]

theorem State.applyItem_submit : s.applyItem false (Reg.BOOKING_SUBMIT e) 1 = s.bookingCommand (fun t => t.submit e) := by
  simp [State.applyItem]

theorem State.applyItem_bookingCancel :
    s.applyItem false (Reg.BOOKING_CANCEL e) 1 = s.bookingCommand (fun t => t.cancelBooking e) := by
  simp [State.applyItem]

/-- A forced source is raised once with every detail bit, flagged FORCED (R350). -/
theorem State.applyItem_force : s.applyItem false (Reg.FAULT_FORCE_FORCE e) 1 = s.raiseAs e 0xFFFFFF false true := by
  simp [State.applyItem, State.force]

/-- ENABLE of an entry settles at once which entries act (R401). -/
theorem State.applyItem_injectEnable :
    s.applyItem false (Reg.INJECT_ENABLE e) v = ((s.put (Reg.INJECT_ENABLE e) v).refreshInject).injectFlush := by
  simp [State.applyItem]

end

/-! ### Write commands of one flag -/

/-- The elements of an object have the fields of its first one (R29). -/
theorem fieldOf_first {idx e sub : Nat} {f : FieldDef} (h : Cat.fieldOf ⟨idx, e, sub⟩ = some f) :
    Cat.fieldOf ⟨idx, 0, sub⟩ = some f := by
  unfold Cat.fieldOf at h ⊢
  dsimp only at h ⊢
  split at h
  · cases h
  next o ho =>
    split at h
    · rwa [if_pos (by omega)]
    · cases h

/-- A BOOL spells both of its values (R30). -/
theorem spells_b2i (b : Bool) : spells .bool (b2i b) :=
  spells_unsigned (fun _ => rfl) (by cases b <;> decide) (by cases b <;> decide)

/-- A write command of an object's BOOL that is taken has the effect of its item, where that is no part of a step or a flow (R31, R36). -/
theorem takeWrite_flag {s t : State} {idx e sub : Nat} (b : Bool) (ht : (Cat.fieldOf ⟨idx, 0, sub⟩).map FieldDef.ty = some .bool)
    (hs : idx ≠ 0x2020) (hf : idx ≠ 0x4100) (ha : s.applyItem false ⟨idx, e, sub⟩ (b2i b) = t)
    (h : s.takesWrite [regItem ⟨idx, e, sub⟩ (b2i b)]) :
    (.next (s.takeWrite [regItem ⟨idx, e, sub⟩ (b2i b)]) : Out) = .next ((t.send (.result .ok)).closing s) := by
  have hv : ∀ f, Cat.fieldOf ⟨idx, e, sub⟩ = some f → spells f.ty (b2i b) := by
    intro f hk
    rw [fieldOf_first hk] at ht
    exact Option.some.inj ht ▸ spells_b2i b
  rw [takeWrite_regItem hv hs hf h, ha]

end Sys2Proof.Machine

namespace Sys2Proof
open Machine

/-- Settles O31: a write command that is taken has the effect of its one item, and each control register's item starts, ends or acts on
what the register controls. -/
theorem controlWrites : Obligations.ControlWrites := by
  unfold Obligations.ControlWrites
  intro s
  refine ⟨?commit, ?release, ?compile, fun k _ => ?capture, fun k _ => ?delete, fun v x => ?bootIdle, fun v x => ?confirm,
    fun v x => ?reject, fun n v x hn => ?keyWrite, fun b _ => ?submit, fun b _ => ?cancel, fun n _ => ?force, fun j v _ => ?inject⟩
  case commit => exact takeWrite_flag true rfl (by decide) (by decide) s.applyItem_commit
  case release => exact takeWrite_flag true rfl (by decide) (by decide) s.applyItem_release
  case compile => exact takeWrite_flag true rfl (by decide) (by decide) s.applyItem_compile
  case capture => exact takeWrite_flag true rfl (by decide) (by decide) (s.applyItem_capture k)
  case delete => exact takeWrite_flag true rfl (by decide) (by decide) (s.applyItem_delete k)
  case bootIdle => exact takeWrite_addressed (s.applyItem_bootIdle x) (by decide) (by decide) (by decide) (by decide)
  case confirm => exact takeWrite_addressed (s.applyItem_confirm x) (by decide) (by decide) (by decide) (by decide)
  case reject => exact takeWrite_addressed (s.applyItem_reject x) (by decide) (by decide) (by decide) (by decide)
  case keyWrite => exact takeWrite_addressed (s.applyItem_key n x) (by omega) (by decide) (by decide) (by decide)
  case submit => exact takeWrite_flag true rfl (by decide) (by decide) (s.applyItem_submit b)
  case cancel => exact takeWrite_flag true rfl (by decide) (by decide) (s.applyItem_bookingCancel b)
  case force => exact takeWrite_flag true rfl (by decide) (by decide) (s.applyItem_force n)
  case inject => exact takeWrite_flag v rfl (by decide) (by decide) (s.applyItem_injectEnable j (b2i v))

end Sys2Proof
end


section
/-! Bits of READY (R313, R314), and the state of reset (R310). -/
namespace Sys2Proof.Machine

/-! ### One bit of a word -/

theorem bitOf_eq_testBit (n i : Nat) : bitOf n i = n.testBit i := by
  rw [bitOf, Nat.testBit_eq_decide_div_mod_eq, Bool.beq_eq_decide_eq]

theorem setBit_eq (n i : Nat) (b : Bool) : setBit n i b = 2 ^ i * (2 * (n / 2 ^ (i + 1)) + b2n b) + n % 2 ^ i := by
  rw [setBit, pow_succ]
  ring

/-- A bit of a word after one bit was written: below, at and above the place written. -/
theorem bitOf_setBit (n i j : Nat) (b : Bool) : bitOf (setBit n i b) j = if j = i then b else bitOf n j := by
  simp only [bitOf_eq_testBit]
  rw [setBit_eq, Nat.testBit_two_pow_mul_add _ (Nat.mod_lt _ (Nat.two_pow_pos i))]
  rcases lt_trichotomy j i with h | rfl | h
  · simp [h, h.ne, Nat.testBit_mod_two_pow]
  · cases b <;> simp [b2n, Nat.testBit_zero]
  · obtain ⟨k, rfl⟩ := Nat.exists_eq_add_of_lt h
    have hhalf : (2 * (n / 2 ^ (i + 1)) + b2n b) / 2 = n / 2 ^ (i + 1) := by
      rw [b2n]
      split <;> omega
    rw [if_neg (by omega), if_neg (by omega), show i + k + 1 - i = k + 1 by omega, Nat.testBit_succ, hhalf, Nat.testBit_div_two_pow]
    congr 1
    omega

/-! ### The READY bits -/

/-- The time for which SELF_CHECK has held is no other register's (R384). -/
theorem State.get_probTouch (s : State) {k : Key} (hk : Hid.probFrom ≠ k) : s.probTouch.get k = s.get k := by
  unfold State.probTouch
  split_ifs <;> simp [hk]

/-- A READY bit that keeps its level is not recorded (R314). -/
theorem State.setReady_kept {s : State} {b : Nat} {v : Bool} (h : s.ready b = v) : s.setReady b v = s := if_pos h

/-- What a change of a READY bit leaves in the registers (R314). -/
theorem State.get_setReady_moved {s : State} {b : Nat} {v : Bool} (h : s.ready b ≠ v) {k : Key} (hk : Hid.probFrom ≠ k) :
    (s.setReady b v).get k = ((((s.put Reg.READY (setBit (s.getN Reg.READY) b v : Nat)).put (Reg.READY_TIME_ELAPSED b) s.tickLf).put
      (Reg.READY_TIME_AT b) s.nowLT).bump (Reg.READY_TIME_CHANGES b)).get k := by
  rw [State.setReady, if_neg h, State.get_probTouch _ hk]

/-- A READY bit takes the level, and no other moves. -/
theorem State.ready_setReady (s : State) (b c : Nat) (v : Bool) : (s.setReady b v).ready c = if c = b then v else s.ready c := by
  by_cases h : s.ready b = v
  · rw [State.setReady_kept h]
    split_ifs with hc
    · rw [hc, h]
    · rfl
  · have hw : (s.setReady b v).getN Reg.READY = setBit (s.getN Reg.READY) b v := by
      rw [State.getN, State.get_setReady_moved h (by decide)]
      simp
    rw [State.ready, hw, bitOf_setBit]
    rfl

theorem counterMax_readyChanges : ∀ {b : Nat}, b < 64 → counterMax (Reg.READY_TIME_CHANGES b) = 2 ^ 32 - 1 := by decide

end Sys2Proof.Machine

namespace Sys2Proof
open Machine

/-- Settles O5: the store of the reset state is empty, so every register reads its default. -/
theorem resetState : Obligations.ResetState := by
  unfold Obligations.ResetState
  refine ⟨rfl, ⟨List.Pairwise.nil, Nat.zero_le _, Nat.zero_le _⟩, fun _ => rfl, rfl, rfl, ?_, rfl, rfl, rfl, rfl⟩
  decide

/-- Settles O12: a change of a READY bit writes its bit of READY and its row of `1201`, and else the timer of SELF_CHECK alone. -/
theorem readyBitChange : Obligations.ReadyBitChange := by
  unfold Obligations.ReadyBitChange
  intro s b v hb _ _
  refine ⟨State.setReady_kept, fun h => ⟨fun c _ => s.ready_setReady b c v, ?_, ?_, ?_⟩⟩
  · rw [State.get_setReady_moved h (by simp)]
    simp [State.tickLf]
  · rw [State.get_setReady_moved h (by simp)]
    simp
  · rw [State.get_setReady_moved h (by simp)]
    simp [counterMax_readyChanges hb]

end Sys2Proof
end


section
/-! What the device does while it is held in reset (R310, R413). -/
namespace Sys2Proof.Machine

section
variable {s : State} (hd : s.alive = false)
include hd

/-- An event of the device's own does nothing while it is held in reset. -/
theorem State.live_held (f : State → State) : s.live f = s := by simp [State.live, hd]

/-- The next state of a command that leaves the state as it is in reset. -/
theorem next_live_held (f : State → State) : (.next (s.live f) : Out) = .next s := by rw [State.live_held hd]

omit hd in
theorem onElement_self (b : Bool) {t : State} (h : t = s) : onElement b s t = .next s := by simp [onElement, h]

theorem onElement_live_held (b : Bool) (f : State → State) : onElement b s (s.live f) = .next s :=
  onElement_self b (State.live_held hd f)

theorem State.takeWrite_held (items : List Item) : s.takeWrite items = s.send (.result .notReady) := by
  simp [State.takeWrite, State.controllerWrite, hd]

theorem State.mayRise_held (i : Nat) : s.mayRise i = false := by simp [State.mayRise, hd]

/-- No READY bit rises, for no island is out of its reset (R311). -/
theorem State.bitRises_held (b : Nat) (dimms : List (Nat × Nat × Nat)) : s.bitRises b dimms = s := by
  unfold State.bitRises
  split
  · rw [if_pos (State.mayRise_held hd _)]
  · rw [if_pos (.inl hd)]

theorem State.bitLate_held (b : Nat) : s.bitLate b = s := by
  unfold State.bitLate
  split
  · rfl
  · rw [if_pos (.inl hd)]

theorem State.standingRestore_held (bad : Nat) : s.standingRestore bad = s := if_pos (.inl hd)
theorem State.keepBoot_held (images : List (Nat × Nat × Nat)) : s.keepBoot images = s := if_pos (.inl hd)
theorem State.restartOrder_held (i cause : Nat) : s.restartOrder i cause = s := by simp [State.restartOrder, hd]
theorem State.resetReleased_held (i : Nat) : s.resetReleased i = s := by simp [State.resetReleased, hd]
theorem State.readyToken_held (a b : Nat) : s.readyToken a b = s := by simp [State.readyToken, hd]
theorem State.pointerWrong_held (a b n : Nat) : s.pointerWrong a b n = s := by simp [State.pointerWrong, hd]
theorem State.crossingFull_held (a b : Nat) : s.crossingFull a b = s := by simp [State.crossingFull, hd]

end

end Sys2Proof.Machine

namespace Sys2Proof
open Machine

/-- Settles O9: an event of the device's own is `State.live` or asks for a running device, and a register write command is refused. -/
theorem heldInReset : Obligations.HeldInReset := by
  unfold Obligations.HeldInReset
  intro c s hd hc
  cases c with
  | porstNAssert | porstNRelease | railBrownout | brownoutRelease | tamper | tamperRecord | smbusRead | smbusWrite | extest | idcode
  | samplePreload | extestPulse | extestTrain | highz | clamp | bypass | tapReset => cases hc
  | registerWrite | timeIncrementWrite | timeStepWrite | ownerWrite | slipCancelGroup | slipCancelAll | commit | release |
    compile | bundleInEnable | capture | delete | bootIdle | confirm | reject | keyWrite | submit | bookingCancel | force |
    injectEnable | accession | linkGroupWrite | netPortModeWrite | gpoLevelWrite | testGenWrite | refRasterWrite |
    rateModeWrite | gpiPolarityWrite => exact .inr (congrArg Host.Outcome.next (State.takeWrite_held hd _))
  | islandReady => exact .inl (onElement_self _ (State.bitRises_held hd ..))
  | bringupLate => exact .inl (onElement_self _ (State.bitLate_held hd _))
  | standingRestore => exact .inl (congrArg Host.Outcome.next (State.standingRestore_held hd _))
  | keepBoot => exact .inl (congrArg Host.Outcome.next (State.keepBoot_held hd _))
  | islandRestartOrder => exact .inl (onElement_self _ (State.restartOrder_held hd ..))
  | islandResetRelease => exact .inl (onElement_self _ (State.resetReleased_held hd _))
  | readyToken => exact .inl (onElement_self _ (State.readyToken_held hd ..))
  | pointerWrong => exact .inl (onElement_self _ (State.pointerWrong_held hd ..))
  | crossingSaturation => exact .inl (onElement_self _ (State.crossingFull_held hd ..))
  | commitComplete | mirrorAck | mirrorAckTimeout | mirror | blockTransferIdle | snapshotExpiry
  | notificationInterval | unlentSessionClose | oldSessionKeyExpiry | handoverKeyGraceEnd | compileComplete | idleBootComplete
  | servoMeasureDone | announceTimeout | twinTimeCompare | time | holdoverEvaluation | xoCorrection | refRestartReturn
  | slipCheckPoint | slipBoundary | reservationCutoff | offerResend | offerExpiry | healthSend | health | twinLinkUp | twinLinkDown
  | reconcile | reconcileTimeout | reconcileRestart | loanExpiry | gobWord | egressSwitch | collectorSelf | keeperWatchdog
  | keeperLockstep | probationConfirm | probationDeadline | hello | colophon | imageOpen | imageData | imageClose | svcKeyWrite
  | svcRead | close | timeSet | svcSessionTimeout | almanacInterval | avsStep | avsLimit | powerOverCap | fallback =>
    exact .inl (next_live_held hd _)
  | _ => exact .inl (onElement_live_held hd ..)
end Sys2Proof
end


section
/-! What an assertion of PORST_N or a brown-out leaves (R310, R373, R413). -/
namespace Sys2Proof.Machine

/-! ### A store of some keys alone -/

theorem storeFind_keep (p : Key → Bool) (t : Store) (k : Key) :
    storeFind (storeKeep p t) k = if p k then storeFind t k else none := by
  induction t with
  | nil => simp [storeKeep, storeFind]
  | cons a t ih =>
    obtain ⟨a, v⟩ := a
    by_cases ha : a = k
    · subst ha
      cases hp : p a <;> simp [storeKeep, storeFind, hp, ih]
    · cases hp : p a <;> simp [storeKeep, storeFind, hp, ha, ih]

/-- A register outside the keys kept reads its default. -/
theorem storeGet_keep (p : Key → Bool) (t : Store) (k : Key) :
    storeGet (storeKeep p t) k = if p k then storeGet t k else dfltOf k := by
  rw [storeGet, storeFind_keep]
  split <;> rfl

/-! ### Reset -/

theorem keptKey_txState (n : Nat) : keptKey (Reg.SDI_TX_STATE n) = false := by simp [keptKey]

/-- What is left of a running device before its registers are cleared: an image in probation has fallen, the serial transmitters idle. -/
def State.goesDown (s : State) : State :=
  (s.when (s.get Reg.HEALTH_CONFIRM_STATE == 1) (fun t => t.put Hid.fallCause 5)).each (List.range 96) (fun t n => t.txIdle n)

/-- Of the registers that reset keeps, going down writes the cause of a fallback alone. -/
theorem State.get_goesDown (s : State) {k : Key} (hk : keptKey k = true) (hf : Hid.fallCause ≠ k) : s.goesDown.get k = s.get k := by
  refine each_keeps (P := fun t => t.get k = s.get k) (State.get_when (State.get_put_ne _ _ hf) _) _ _ fun t n ht => ?_
  · have hn : Reg.SDI_TX_STATE n ≠ k := fun e => by rw [← e, keptKey_txState] at hk; cases hk
    refine ite_keeps (P := fun t => t.get k = s.get k) ht ?_
    rw [State.get_send, State.get_put_ne _ _ hn, ht]

theorem State.get_enterReset_lost (s : State) (h : Held) {k : Key} (hk : keptKey k = false) : (s.enterReset h).get k = dfltOf k := by
  unfold State.enterReset
  rw [State.get_send, State.get]
  dsimp only
  rw [storeKeep_storeKeep, storeGet_keep, if_neg (by simp [hk])]

theorem State.get_enterReset_kept (s : State) (h : Held) {k : Key} (hk : keptKey k = true)
    (hn : k ∉ [Hid.fallCause, Reg.SUPPLY_RESET_CAUSE, Reg.ALMANAC_POWERED]) (hi : k.idx ≠ 0xC100) :
    (s.enterReset h).get k = s.get k := by
  simp only [List.mem_cons, List.not_mem_nil, or_false, not_or] at hn
  obtain ⟨hf, -, hp⟩ := hn
  unfold State.enterReset
  rw [State.get_send, State.get]
  dsimp only
  rw [storeKeep_storeKeep, storeGet_keep, if_pos (by simp [hk, hi])]
  exact (State.get_put_ne _ _ (Ne.symm hp)).trans (State.get_goesDown s hk (Ne.symm hf))

end Sys2Proof.Machine

namespace Sys2Proof
open Machine

/-- Settles O10: reset keeps of the store the kept keys alone, and of the state what the board and the flash hold. -/
theorem porstClearsDevice : Obligations.PorstClearsDevice := by
  unfold Obligations.PorstClearsDevice
  intro s rail hr h1 h6
  have hkept : keptKey Reg.SUPPLY_RESET_CAUSE = true := by decide
  have hlost : keptKey Reg.SUPPLY_BROWNOUTS = false := by decide
  have hp : s.porstAssert = (s.enterReset .porst).put Reg.SUPPLY_RESET_CAUSE 0 := by simp [State.porstAssert, hr]
  have hb : s.railBrownout rail = ((s.enterReset .brownout).put Reg.SUPPLY_RESET_CAUSE rail).put Reg.SUPPLY_BROWNOUTS 1 := by
    simp [State.railBrownout, hr]
  refine ⟨_, _, congrArg Host.Outcome.next hp, by simp [exec, execRailBrownout, onElement, h1, h6]; exact hb, rfl, rfl, fun k hk => ?lost, ?_, ?_, ?_, fun k hk hn hi => ?kept, ?fields⟩
  case lost =>
    have hc : Reg.SUPPLY_RESET_CAUSE ≠ k := fun e => by rw [← e, hkept] at hk; cases hk
    refine ⟨?_, fun hne => ?_⟩
    · rw [State.get_put_ne _ _ hc, State.get_enterReset_lost _ _ hk]
    · rw [State.get_put_ne _ _ (Ne.symm hne), State.get_put_ne _ _ hc, State.get_enterReset_lost _ _ hk]
  case kept =>
    have hc : Reg.SUPPLY_RESET_CAUSE ≠ k := fun e => hn (by simp [← e])
    have hd : Reg.SUPPLY_BROWNOUTS ≠ k := fun e => by rw [← e, hlost] at hk; cases hk
    rw [State.get_put_ne _ _ hd, State.get_put_ne _ _ hc, State.get_put_ne _ _ hc]
    exact ⟨State.get_enterReset_kept s _ hk hn hi, State.get_enterReset_kept s _ hk hn hi⟩
  case fields =>
    rintro x (rfl | rfl) <;> exact ⟨rfl, rfl, rfl, rfl, rfl, rfl, rfl, rfl, rfl, rfl, rfl, rfl, rfl, rfl, rfl, rfl, rfl⟩
  all_goals simp
end Sys2Proof
end


section
/-! The release of PORST_N or of a brown-out (R311, R325, R413): the straps, the pins and the islands it sets, and what follows in the
reference unit, the MACs and the memories, which writes no object below `2000`. -/
namespace Sys2Proof.Machine

/-- The device is held in reset or runs as before, and every object below `2000`, where the part tells of itself, of its islands, of its
pairing and of its pins, holds what it held. -/
def State.SameDevice (s t : State) : Prop := t.held = s.held ∧ ∀ k : Key, k.idx < 0x2000 → t.get k = s.get k

theorem refl_sameDevice (s : State) : s.SameDevice s := ⟨rfl, fun _ _ => rfl⟩

section
variable {s t : State}

/-! ### Updates -/

theorem same_sameDevice (h : s.SameDevice t) {u : State} (hh : u.held = t.held) (hr : u.regs = t.regs) : s.SameDevice u :=
  ⟨hh.trans h.1, fun k hk => (by rw [State.get, hr]; rfl : u.get k = t.get k).trans (h.2 k hk)⟩

theorem put_sameDevice (h : s.SameDevice t) (k : Key) (v : Int) (hk : 0x2000 ≤ k.idx := by simp) : s.SameDevice (t.put k v) :=
  ⟨h.1, fun l hl => (State.get_put_ne t v fun e => by rw [e] at hk; omega).trans (h.2 l hl)⟩

theorem bump_sameDevice (h : s.SameDevice t) (k : Key) (hk : 0x2000 ≤ k.idx := by simp) : s.SameDevice (t.bump k) :=
  put_sameDevice h k _ hk

theorem ready_sameDevice (h : s.SameDevice t) (b : Nat) : t.ready b = s.ready b := by
  rw [State.ready, State.getN, h.2 _ (by decide)]
  rfl

/-! ### Conditions and raisings while the collector is not ready -/

theorem endCond_sameDevice (h : s.SameDevice t) (n : Nat) : s.SameDevice (t.endCond n) := by
  unfold State.endCond State.startQuiet
  extract_lets t0 t1 len
  have h0 : s.SameDevice t0 := same_sameDevice h rfl rfl
  have h1 : s.SameDevice t1 := put_sameDevice h0 _ _
  exact ite_keeps (ite_keeps (put_sameDevice (put_sameDevice (put_sameDevice h1 _ _) _ _) _ _) h1) h0

section
variable (hd : s.ready 5 = false)
include hd

/-- A raising waits in its island (R332, R334). -/
theorem raiseAs_sameDevice (h : s.SameDevice t) (n detail : Nat) (cond forced : Bool) : s.SameDevice (t.raiseAs n detail cond forced) := by
  unfold State.raiseAs
  rw [ready_sameDevice h, hd]
  exact ite_keeps h (same_sameDevice h rfl rfl)

theorem raise_sameDevice (h : s.SameDevice t) (n cause context : Nat) : s.SameDevice (t.raise n cause context) :=
  raiseAs_sameDevice hd h ..

theorem raiseCond_sameDevice (h : s.SameDevice t) (n context : Nat) : s.SameDevice (t.raiseCond n context) :=
  ite_keeps h (raiseAs_sameDevice hd h ..)

/-! ### The reference unit (R77 to R83) -/

omit hd in
theorem refAbsent_sameDevice (h : s.SameDevice t) (c : Nat) : s.SameDevice (t.refAbsent c) := by
  unfold State.refAbsent
  have h1 := put_sameDevice (put_sameDevice (bump_sameDevice (put_sameDevice h (Reg.REF_CANDIDATE_STATUS c) 1)
    (Reg.REF_CANDIDATE_LOSSES c)) (Hid.refClear c) 0) (Hid.refQual c) 0
  exact ite_keeps (put_sameDevice h _ _) (same_sameDevice h1 rfl rfl)

theorem refDisagree_sameDevice (h : s.SameDevice t) (measured : Bool) : s.SameDevice (t.refDisagree measured) := by
  unfold State.refDisagree
  extract_lets t0 any t1
  have h0 : s.SameDevice t0 := each_keeps h _ _ fun u p hu => by
    have hp := fun v => put_sameDevice hu (Hid.pairDis (5 * p.1 + p.2)) v
    exact ite_keeps (hp _) (ite_keeps (hp _) (ite_keeps hu (ite_keeps hu (ite_keeps (hp _) (hp _)))))
  have h1 : s.SameDevice t1 := put_sameDevice h0 _ _
  exact ite_keeps (raiseCond_sameDevice hd h1 ..) (endCond_sameDevice h1 _)

omit hd in
theorem refSelectables_sameDevice (h : s.SameDevice t) : s.SameDevice t.refSelectables :=
  put_sameDevice (each_keeps h _ _ fun _ _ hu => put_sameDevice hu _ _) _ _

theorem refEnter_sameDevice (h : s.SameDevice t) (st : Int) : s.SameDevice (t.refEnter st) := by
  unfold State.refEnter
  extract_lets old t0 t1
  have h0 : s.SameDevice t0 := bump_sameDevice (put_sameDevice (put_sameDevice (put_sameDevice h _ _) _ _) _ _) _
  have h1 : s.SameDevice t1 := ite_keeps (put_sameDevice h0 _ _) h0
  exact ite_keeps h (ite_keeps (raise_sameDevice hd h1 ..) (ite_keeps (raise_sameDevice hd h1 ..) h1))

theorem enterHoldover_sameDevice (h : s.SameDevice t) : s.SameDevice t.enterHoldover :=
  refEnter_sameDevice hd (put_sameDevice (put_sameDevice h _ _) _ _) 3

theorem refMove_sameDevice (h : s.SameDevice t) (lock : Option Bool) : s.SameDevice (t.refMove lock) := by
  unfold State.refMove
  extract_lets st pick old t1
  have h1 : s.SameDevice t1 := put_sameDevice h _ _
  have acquire : ∀ v : Int, s.SameDevice ((((t1.put Hid.refFrom v).put Hid.lockOk 0).put Hid.finePending 1).refEnter 1) := fun v =>
    refEnter_sameDevice hd (put_sameDevice (put_sameDevice (put_sameDevice h1 _ _) _ _) _ _) 1
  clear_value t1 pick
  split
  · exact ite_keeps (enterHoldover_sameDevice hd h1)
      (ite_keeps (ite_keeps (enterHoldover_sameDevice hd h1) (refEnter_sameDevice hd h1 _)) h1)
  · refine ite_keeps (acquire _) (ite_keeps (ite_keeps h1 (ite_keeps (put_sameDevice h1 _ _) (ite_keeps ?_ (put_sameDevice h1 _ _))))
      (ite_keeps (acquire _) (put_sameDevice (put_sameDevice h1 _ _) _ _)))
    exact refEnter_sameDevice hd (put_sameDevice (put_sameDevice (put_sameDevice (put_sameDevice (put_sameDevice h1 _ _) _ _) _ _) _ _) _ _) 2

theorem refRanks_sameDevice (h : s.SameDevice t) : s.SameDevice t.refRanks := by
  unfold State.refRanks
  extract_lets t0
  have h0 : s.SameDevice t0 := each_keeps h _ _ fun u c hu =>
    ite_keeps (put_sameDevice (refAbsent_sameDevice hu c) _ _) (ite_keeps (put_sameDevice hu _ _) hu)
  exact ite_keeps (refMove_sameDevice hd (refSelectables_sameDevice (refDisagree_sameDevice hd h0 _)) _) h0

end

/-! ### The MACs and the memories (R193, R205, R277) -/

theorem refreshMac_sameDevice (h : s.SameDevice t) (m : Nat) : s.SameDevice (t.refreshMac m) := by
  unfold State.refreshMac
  extract_lets t0
  have h0 : s.SameDevice t0 := put_sameDevice (put_sameDevice (put_sameDevice h _ _) _ _) _ _
  exact ite_keeps h0 (put_sameDevice (put_sameDevice h0 _ _) _ _)

theorem refreshAdmission_sameDevice (h : s.SameDevice t) : s.SameDevice t.refreshAdmission := by
  unfold State.refreshAdmission
  extract_lets l cls t0 t1 t2 t3 runs pages taken
  have h0 : s.SameDevice t0 :=
    put_sameDevice (put_sameDevice (put_sameDevice (put_sameDevice (put_sameDevice (put_sameDevice h _ _) _ _) _ _) _ _) _ _) _ _
  have h1 : s.SameDevice t1 := put_sameDevice h0 _ _
  have h2 : s.SameDevice t2 := each_keeps h1 _ _ fun _ _ hu => put_sameDevice hu _ _
  have h3 : s.SameDevice t3 := each_keeps h2 _ _ fun _ _ hu =>
    put_sameDevice (put_sameDevice (put_sameDevice (put_sameDevice hu _ _) _ _) _ _) _ _
  exact put_sameDevice (put_sameDevice (put_sameDevice (put_sameDevice (put_sameDevice (put_sameDevice h3 _ _) _ _) _ _) _ _) _ _) _ _

theorem refreshEgress_sameDevice (h : s.SameDevice t) : s.SameDevice t.refreshEgress := by
  unfold State.refreshEgress
  extract_lets t0 t1 gone
  have h0 : s.SameDevice t0 := each_keeps h _ _ fun _ _ hu => put_sameDevice hu _ _
  have h1 : s.SameDevice t1 := each_keeps h0 _ _ fun _ _ hu => put_sameDevice hu _ _
  refine each_keeps ?_ _ _ fun _ x hu => bump_sameDevice hu (Reg.NET_STATS_TX_SIDE_DISCARD x.mac)
  exact same_sameDevice h1 rfl rfl

end

/-! ### An element's own registers, each element's in its turn -/

/-- What an element's turn leaves in one of its own registers stands at the end, where no other element's turn writes it. -/
theorem State.get_each_own {α : Type} [DecidableEq α] {f : State → α → State} {a : α} {k : Key} {v : Int}
    (own : ∀ t : State, (f t a).get k = v) (other : ∀ (t : State) (b : α), b ≠ a → (f t b).get k = t.get k) {l : List α} (hl : a ∈ l)
    (s : State) : (s.each l f).get k = v := by
  have stays : ∀ (t : State) (b : α), t.get k = v → (f t b).get k = v := fun t b ht => by
    by_cases hb : b = a
    · rw [hb, own]
    · rw [other t b hb, ht]
  induction l generalizing s with
  | nil => cases hl
  | cons b l ih =>
    rcases List.mem_cons.mp hl with rfl | h
    · exact each_keeps (P := fun t => t.get k = v) (own s) l f stays
    · exact ih h (f s b)

/-! ### The release -/

/-- The device leaves its reset with its own straps sampled (R2, R17, R24). -/
def State.ownStraps (s : State) (x : Straps) : State :=
  ((({ s with held := .running }.put Reg.ROLE (b2i x.centre)).put Reg.IDENTITY_SLOT_ID (x.slot % 32 : Nat)).put Reg.IDENTITY_SVC_EN
    (b2i x.svcEn)).put Reg.PAIRING_SIDE (b2i x.right)

/-- The control ports take their addresses, and the GPO pins drive their straps (R325, R437). -/
def State.pinStraps (s : State) (x : Straps) : State :=
  (s.each (List.range 2) (fun t c => t.put (Reg.CTL_PORT_PORT_ADDRESS c) (t.portAddress c))).each (List.range 16) (fun t g =>
    ((t.put (Reg.GPO_STRAP g) (b2i (bitOf x.gpo g))).put (Reg.GPO_LEVEL g) (b2i (bitOf x.gpo g))).gpoDrive g (b2i (bitOf x.gpo g)))

/-- The islands of the role start (R311). -/
def State.islandsStart (s : State) : State :=
  s.each ((List.range 47).filter (fun i => s.hasIsland i)) (fun t i => t.put (Reg.ISLAND_STATE i) 3)

/-- The MACs, the memories' admission and the reference unit follow the straps. -/
def State.strapsFollowed (s : State) : State := (s.each (List.range 16) (fun t m => t.refreshMac m)).refreshAdmission.refRanks

/-- The pairing starts: a centre and a device whose straps disagree are solo, the latter with TWIN_STRAP raised (R24, R291). -/
def State.pairingStart (s : State) (x : Straps) : State :=
  if x.centre then s.put Reg.PAIRING_STATE 0
  else
    let t := s.put Reg.PAIRING_PARTNER_SLOT (0xFF)
    if (x.slot % 2 == 1) = x.right then (t.put Reg.PAIRING_STATE 1).refreshEgress
    else ((t.put Reg.PAIRING_STATE 0).refreshEgress).raise 5 0 0

/-- A release in its parts. -/
theorem State.release_eq (s : State) (x : Straps) :
    s.release x = (((s.ownStraps x).pinStraps x).islandsStart.strapsFollowed).pairingStart x := rfl

/-- The pins' straps are no other object's. -/
theorem State.get_pinStraps_other (s : State) (x : Straps) {k : Key} (hk : k.idx < 0x10000) (hc : k.idx ≠ 0x1410) (hg : k.idx ≠ 0x1610) :
    (s.pinStraps x).get k = s.get k := by
  have ne : ∀ l : Key, l.idx ≠ k.idx → l ≠ k := fun l h e => h (e ▸ rfl)
  refine each_keeps (P := fun t => t.get k = s.get k) (each_keeps (P := fun t => t.get k = s.get k) rfl _ _ ?_) _ _ ?_
  · exact fun t c ht => (State.get_put_ne _ _ (ne _ (Ne.symm hc))).trans ht
  · intro t g ht
    rw [State.gpoDrive, State.get_send, State.get_put_ne _ _ (ne _ (by simp; omega)), State.get_put_ne _ _ (ne _ (Ne.symm hg)),
      State.get_put_ne _ _ (ne _ (Ne.symm hg)), ht]

theorem State.gpoDrive_held (s : State) (g : Nat) (v : Int) : (s.gpoDrive g v).held = s.held := rfl

theorem State.pinStraps_held (s : State) (x : Straps) : (s.pinStraps x).held = s.held := by
  unfold State.pinStraps
  refine each_keeps (P := fun t => t.held = s.held) ?_ _ _ fun t g h => ?_
  · exact each_keeps (P := fun t => t.held = s.held) rfl _ _ fun _ _ h => h
  · rw [State.gpoDrive_held]
    exact h

/-- Every GPO has its strap's level (R325). -/
theorem State.get_pinStraps_gpo (s : State) (x : Straps) {g : Nat} (hg : g < 16) :
    (s.pinStraps x).get (Reg.GPO_STRAP g) = b2i (bitOf x.gpo g) ∧ (s.pinStraps x).get (Reg.GPO_LEVEL g) = b2i (bitOf x.gpo g) := by
  have hmem : g ∈ List.range 16 := List.mem_range.mpr hg
  exact ⟨State.get_each_own (fun t => by simp [State.gpoDrive]) (fun t b hb => by simp [State.gpoDrive, hb]) hmem _,
    State.get_each_own (fun t => by simp [State.gpoDrive]) (fun t b hb => by simp [State.gpoDrive, hb]) hmem _⟩

theorem State.get_islandsStart_other (s : State) {k : Key} (hk : k.idx ≠ 0x1210) : s.islandsStart.get k = s.get k :=
  each_keeps (P := fun t => t.get k = s.get k) rfl _ _ fun _ _ h => (State.get_put_ne _ _ fun e => hk (by rw [← e])).trans h

theorem State.islandsStart_held (s : State) : s.islandsStart.held = s.held :=
  each_keeps (P := fun t => t.held = s.held) rfl _ _ fun _ _ h => h

/-- Every island of the role stands in its start-up (R311). -/
theorem State.get_islandsStart (s : State) {i : Nat} (hi : i < 47) (hr : s.hasIsland i = true) :
    s.islandsStart.get (Reg.ISLAND_STATE i) = 3 :=
  State.get_each_own (fun t => by simp) (fun t b hb => by simp [hb])
    (List.mem_filter.mpr ⟨List.mem_range.mpr hi, hr⟩) s

/-- What follows the straps leaves the device's own objects while the collector is not ready. -/
theorem strapsFollowed_sameDevice {s : State} (hd : s.ready 5 = false) : s.SameDevice s.strapsFollowed :=
  refRanks_sameDevice hd (refreshAdmission_sameDevice (each_keeps (refl_sameDevice s) _ _ fun _ m h => refreshMac_sameDevice h m))

/-- The pairing state a release starts with (R24, R291; log entry 52). -/
theorem State.get_pairingStart {s : State} (hd : s.ready 5 = false) (x : Straps) :
    (s.pairingStart x).get Reg.PAIRING_STATE = b2i (!x.centre && ((x.slot % 2 == 1) == x.right)) := by
  unfold State.pairingStart
  split_ifs with hc hp
  · simp [hc, b2i]
  · rw [(refreshEgress_sameDevice (refl_sameDevice _)).2 _ (by decide)]
    simp [hc, hp, b2i]
  · have h0 := refreshEgress_sameDevice (refl_sameDevice ((s.put Reg.PAIRING_PARTNER_SLOT 0xFF).put Reg.PAIRING_STATE 0))
    rw [(raise_sameDevice (by simpa [State.ready, State.getN] using hd) h0 5 0 0).2 _ (by decide)]
    simp [hc, hp, b2i]

/-- The pairing's start leaves the other objects below `2000`. -/
theorem State.pairingStart_leaves {s : State} (hd : s.ready 5 = false) (x : Straps) {k : Key} (hk : k.idx < 0x2000)
    (h1 : Reg.PAIRING_STATE ≠ k) (h3 : Reg.PAIRING_PARTNER_SLOT ≠ k) :
    (s.pairingStart x).held = s.held ∧ (s.pairingStart x).get k = s.get k := by
  unfold State.pairingStart
  split_ifs with hc hp
  · exact ⟨rfl, State.get_put_ne _ _ h1⟩
  · obtain ⟨hh, hr⟩ := refreshEgress_sameDevice (refl_sameDevice ((s.put Reg.PAIRING_PARTNER_SLOT 0xFF).put Reg.PAIRING_STATE 1))
    exact ⟨hh, (hr k hk).trans (by simp [h1, h3])⟩
  · have h0 := refreshEgress_sameDevice (refl_sameDevice ((s.put Reg.PAIRING_PARTNER_SLOT 0xFF).put Reg.PAIRING_STATE 0))
    obtain ⟨hh, hr⟩ := raise_sameDevice (by simpa [State.ready, State.getN] using hd) h0 5 0 0
    exact ⟨hh, (hr k hk).trans (by simp [h1, h3])⟩

/-- The state in which the straps are sampled and the islands start. -/
def State.starting (s : State) (x : Straps) : State := ((s.ownStraps x).pinStraps x).islandsStart

theorem State.get_ownStraps (s : State) (x : Straps) (k : Key) : (s.ownStraps x).get k =
    if Reg.PAIRING_SIDE = k then b2i x.right else if Reg.IDENTITY_SVC_EN = k then b2i x.svcEn
    else if Reg.IDENTITY_SLOT_ID = k then (x.slot % 32 : Nat) else if Reg.ROLE = k then b2i x.centre else s.get k := by
  have hheld : ∀ l, ({ s with held := .running } : State).get l = s.get l := fun _ => rfl
  simp only [State.ownStraps, State.get_put, hheld]

/-- The pins and the islands apart, the registers are those with the own straps sampled. -/
theorem State.get_starting (s : State) (x : Straps) {k : Key} (hk : k.idx < 0x10000) (hi : k.idx ∉ [0x1210, 0x1410, 0x1610]) :
    (s.starting x).get k = (s.ownStraps x).get k := by
  simp only [List.mem_cons, List.not_mem_nil, or_false, not_or] at hi
  obtain ⟨hisle, hctl, hgpo⟩ := hi
  rw [State.starting, State.get_islandsStart_other _ hisle, State.get_pinStraps_other _ _ hk hctl hgpo]

theorem State.starting_held (s : State) (x : Straps) : (s.starting x).held = .running := by
  rw [State.starting, State.islandsStart_held, State.pinStraps_held]
  rfl

/-- What a release leaves: a device that runs, and in its own objects what the straps and the islands' start gave. -/
theorem State.release_leaves {s : State} (hd : s.ready 5 = false) (x : Straps) :
    (s.release x).held = .running ∧
      (s.release x).get Reg.PAIRING_STATE = b2i (!x.centre && ((x.slot % 2 == 1) == x.right)) ∧
      ∀ k : Key, k.idx < 0x2000 → Reg.PAIRING_STATE ≠ k → Reg.PAIRING_PARTNER_SLOT ≠ k → (s.release x).get k = (s.starting x).get k := by
  have hready : (s.starting x).ready 5 = false := by
    rw [State.ready, State.getN, State.get_starting _ _ (by decide) (by decide), State.get_ownStraps]
    exact hd
  have hf := strapsFollowed_sameDevice hready
  have hready' := (ready_sameDevice hf 5).trans hready
  have hp := fun {k} => State.pairingStart_leaves hready' x (k := k)
  rw [State.release_eq]
  refine ⟨?_, State.get_pairingStart hready' x, fun k hk h1 h3 => ?_⟩
  · exact (hp (k := Reg.ROLE) (by decide) (by decide) (by decide)).1.trans (hf.1.trans (s.starting_held x))
  · exact (hp hk h1 h3).2.trans (hf.2 k hk)

end Sys2Proof.Machine

namespace Sys2Proof
open Machine

/-- Settles O11: the straps and the islands' start stand below `2000`, where what follows them writes the pairing alone. -/
theorem releaseSamplesStraps : Obligations.ReleaseSamplesStraps := by
  unfold Obligations.ReleaseSamplesStraps
  intro s x
  refine ⟨fun hh hd => ⟨s.release x, ?runs, ?_⟩, fun h => ?porst, fun h => ?brownout⟩
  case porst => exact congrArg Host.Outcome.next (if_neg h)
  case brownout => exact congrArg Host.Outcome.next (if_neg h)
  case runs =>
    split_ifs with hp
    · exact congrArg Host.Outcome.next (if_pos hp)
    · exact congrArg Host.Outcome.next (if_pos (hh.resolve_left hp))
  obtain ⟨hheld, hpair, hregs⟩ := State.release_leaves hd x
  refine ⟨hheld, ?_, ?_, ?_, ?_, fun g hg => ?gpo, fun i hi hr => ?islands, hpair⟩
  case gpo =>
    obtain ⟨hs, hl⟩ := (s.ownStraps x).get_pinStraps_gpo x hg
    rw [hregs _ (by simp) (by simp) (by simp), hregs _ (by simp) (by simp) (by simp), State.starting,
      State.get_islandsStart_other _ (by simp), State.get_islandsStart_other _ (by simp)]
    exact ⟨hs, hl⟩
  case islands =>
    rw [hregs _ (by simp) (by simp) (by simp)]
    refine State.get_islandsStart _ hi ?_
    have hrole : ((s.ownStraps x).pinStraps x).get Reg.ROLE = b2i x.centre := by
      rw [State.get_pinStraps_other _ _ (by decide) (by decide) (by decide), State.get_ownStraps]
      simp
    rw [State.hasIsland, State.edge, hrole]
    rcases hr with h | h <;> simp [h, b2i]
  all_goals
    rw [hregs _ (by decide) (by decide) (by decide), State.get_starting _ _ (by decide) (by decide), State.get_ownStraps]
    simp
end Sys2Proof
end


section
/-! Bring-up, the standing order and restarts (R311, R312, R316 to R320, R355 to R363): what each event comes to where its condition
holds. -/
namespace Sys2Proof.Machine

/-! ### Islands and their bits (R13) -/

theorem islandBit_lt : ∀ {i : Nat}, i < 47 → islandBit i < 57 := by decide

theorem bitIsland_islandBit : ∀ {i : Nat}, i < 47 → bitIsland (islandBit i) = some i := by decide

/-- An event at an element the part has does what it does. -/
theorem onElement_has {b : Bool} (h : b = true) (s t : State) : onElement b s t = .next t := by simp [onElement, h]

section
variable {s : State} {i : Nat} (hi : i < 47)
include hi

theorem State.bitRises_island (h : s.mayRise i = true) (hd : ¬(34 ≤ i ∧ i ≤ 37)) (dimms : List (Nat × Nat × Nat)) :
    s.bitRises (islandBit i) dimms = s.islandRises i := by
  simp [State.bitRises, bitIsland_islandBit hi, h, hd]

theorem State.bitRises_memory (h : s.mayRise i = true) (h34 : 34 ≤ i) (h37 : i ≤ 37) (dimms : List (Nat × Nat × Nat)) :
    s.bitRises (islandBit i) dimms = s.ddrRises (i - 34) dimms := by
  simp [State.bitRises, bitIsland_islandBit hi, h, h34, h37]

theorem State.bitLate_island (ha : s.alive = true) (hh : s.hasIsland i = true) (hu : s.up i = false) (hr : s.get (Hid.heldReset i) = 0) :
    s.bitLate (islandBit i) =
      let t := (s.put (Hid.lateCount i) (s.get (Hid.lateCount i) + 1)).raise 3 0 (islandBit i)
      if 3 ≤ s.get (Hid.lateCount i) + 1 then ((t.put (Hid.heldReset i) 2).put (Hid.restarting i) 0).put (Reg.ISLAND_STATE i) 5
      else ((t.put (Hid.restarting i) 0).restartIsland i 1).settleQueue := by
  simp [State.bitLate, bitIsland_islandBit hi, ha, hh, hu, hr]

end

/-- KEEP's function bits, where KEEP is ready (Table 15.2). -/
theorem State.bitRises_function {s : State} (ha : s.alive = true) (h0 : s.ready 0 = true) {b : Nat} (hb : bitIsland b = none)
    (hr : s.ready b = false) (dimms : List (Nat × Nat × Nat)) : s.bitRises b dimms =
      if b = 1 then (if s.ready 56 = true ∧ s.get Hid.imageRecovery = 0 then s.setReady 1 true else s)
      else if b = 54 then (s.setReady 54 true).gpioReady
      else if b = 55 then (s.setReady 55 true).refreshTarget else s := by
  simp [State.bitRises, hb, ha, hr, h0]

/-- The record a commit's end writes: the whole copy, or what it changes, which of the two free (R319, R320; log entry 3). -/
def State.commitRec (s : State) (copy : Store) : CommitRec :=
  if s.freeVal % 2 == 1 then ⟨copy, true⟩ else ⟨storeDelta (journalStore s.journal) copy, false⟩

theorem State.commitRec_cases (s : State) (copy : Store) :
    s.commitRec copy = ⟨copy, true⟩ ∨ s.commitRec copy = ⟨storeDelta (journalStore s.journal) copy, false⟩ := by
  unfold State.commitRec
  split
  · exact .inl rfl
  · exact .inr rfl

/-- A commit that is written becomes durable with its record first in the journal (R319, R320). -/
theorem State.commitComplete_durable {s : State} {copy : Store} (hc : s.commitCopy = some copy)
    (h1 : s.get Reg.STANDING_COMMIT_STATE = 1) : s.commitComplete true =
      (({ s.drawn with commitCopy := none, journal := s.commitRec copy :: s.journal } : State).put Reg.STANDING_COMMIT_STATE 2).put
        Reg.STANDING_COMMIT_LAST_COMMIT s.nowLT := by
  cases hf : s.freeVal % 2 == 1 <;> simp [State.commitComplete, State.commitRec, hc, h1, hf]

theorem State.commitComplete_failed {s : State} {copy : Store} (hc : s.commitCopy = some copy)
    (h1 : s.get Reg.STANDING_COMMIT_STATE = 1) :
    s.commitComplete false = ({ s with commitCopy := none } : State).put Reg.STANDING_COMMIT_STATE 3 := by
  simp [State.commitComplete, hc, h1]

end Sys2Proof.Machine

namespace Sys2Proof
open Machine

/-- Settles O13: the island of a bit is the one whose bit it is, and each event's condition holds. -/
theorem islandsRise : Obligations.IslandsRise := by
  unfold Obligations.IslandsRise
  intro s i dimms hi
  have hb : decide (islandBit i < 57) = true := decide_eq_true (islandBit_lt hi)
  refine ⟨fun h hd => ?_, fun h h34 h37 => ?_, fun ha h0 => ⟨fun h1 h56 hr => ?_, fun h54 => ?_, fun h55 => ?_⟩, fun ha hh hu hr => ?_⟩
  · exact (onElement_has hb ..).trans (congrArg Host.Outcome.next (State.bitRises_island hi h hd dimms))
  · exact (onElement_has hb ..).trans (congrArg Host.Outcome.next (State.bitRises_memory hi h h34 h37 dimms))
  · exact (onElement_has rfl ..).trans
      (congrArg Host.Outcome.next ((State.bitRises_function ha h0 rfl h1 dimms).trans (by rw [if_pos rfl, if_pos ⟨h56, hr⟩])))
  · exact (onElement_has rfl ..).trans (congrArg Host.Outcome.next (State.bitRises_function ha h0 rfl h54 dimms))
  · exact (onElement_has rfl ..).trans (congrArg Host.Outcome.next (State.bitRises_function ha h0 rfl h55 dimms))
  · exact (onElement_has hb ..).trans (congrArg Host.Outcome.next (State.bitLate_island hi ha hh hu hr))

/-- Settles O14: the restore ends with the rise of bit 56, and an empty journal offers no record. -/
theorem standingOrderRestored : Obligations.StandingOrderRestored := by
  unfold Obligations.StandingOrderRestored
  refine ⟨fun s bad ha h0 h56 hr => ?restored, fun bad => ?empty, fun s r hr ha hw ht => ?raster⟩
  case restored =>
    intro all l u
    refine ⟨_, congrArg Host.Outcome.next (if_neg ?_), ?_, rfl⟩
    · simp [ha, h0, h56, hr]
    · exact (State.ready_setReady _ 56 56 true).trans (if_pos rfl)
  case empty => simp [journalPick, recordsNeeded, indexed]
  case raster =>
    exact onElement_next (decide_eq_true hr) ha (if_pos ⟨hw, ht⟩)

/-- Settles O15: the record of a commit is drawn as its write ends. -/
theorem commitBecomesDurable : Obligations.CommitBecomesDurable := by
  unfold Obligations.CommitBecomesDurable
  intro s copy ha hc h1
  exact ⟨live_next ha (State.commitComplete_failed hc h1), _, s.commitRec_cases copy, live_next ha (State.commitComplete_durable hc h1)⟩

/-- Settles O16: each event's condition holds, and its effect is the one its rule names. -/
theorem islandRestartsAndCrossings : Obligations.IslandRestartsAndCrossings := by
  unfold Obligations.IslandRestartsAndCrossings
  intro s ha
  refine ⟨fun i c hi h1 h4 hh hu hr => ?_, fun i hi hr h2 h0 ht => ?_, fun a b hla hlb hx hu hw => ?_,
    fun a b n hla hlb hx hu hd => ?_, fun a b hla hlb hx hu => ?_⟩
  · refine (onElement_has (by simp [hi, h1, h4]) ..).trans (congrArg Host.Outcome.next ?_)
    rw [State.restartOrder, if_pos ⟨ha, hh, .inl hu⟩, State.restartIsland, if_neg hr]
  · exact (onElement_has (decide_eq_true hi) ..).trans (congrArg Host.Outcome.next (if_pos ⟨ha, hr, h2, ht, .inl h0⟩))
  · refine (onElement_has (by simp [hla, hlb]) ..).trans (congrArg Host.Outcome.next ?_)
    simp [State.readyToken, ha, hx, hu, hw, State.when]
  · exact (onElement_has (by simp [hla, hlb]) ..).trans (congrArg Host.Outcome.next (if_pos ⟨ha, hx, hu, hd⟩))
  · exact (onElement_has (by simp [hla, hlb]) ..).trans (congrArg Host.Outcome.next (if_pos ⟨ha, hx, hu⟩))

end Sys2Proof
end


section
/-! Tampering, the boots, and the probation (R369 to R385): what the zeroisation leaves in a bank, and what the reference block of an
image and a re-keying leave alone. -/
namespace Sys2Proof.Machine

/-! ### The zeroisation (R373) -/

/-- SEC's report of a slot writes `B100` and what a raising writes. -/
theorem State.get_keyRefresh (s : State) (n : Nat) {k : Key} (hi : k.idx ≠ 0xB100) (hr : raiseWrites k = false) :
    (s.keyRefresh n).get k = s.get k := by
  have hne : ∀ e i, (⟨0xB100, e, i⟩ : Key) ≠ k := fun e i h => hi (by rw [← h])
  unfold State.keyRefresh
  extract_lets st b check t
  have ht : t.get k = s.get k := by simp only [t, State.get_put, if_neg (hne _ _)]
  exact (State.get_when (raise_get _ _ _ _ _ hr) _).trans ht

/-- A register that each bank's zeroing leaves at 0 for one bank of one slot, and alone for the others, reads 0 at the end. -/
theorem State.get_zeroise {n b : Nat} (hn : n < 16) (hb : b < 2) {k : Key} (hi : k.idx ≠ 0xB100) (hr : raiseWrites k = false)
    (own : ∀ u : State, (((u.put (Hid.bankKey n b) 0).put (Hid.bankGen n b) 0).put (Hid.bankCrc n b) 0).get k = 0)
    (other : ∀ (u : State) (m d : Nat), (m, d) ≠ (n, b) →
      (((u.put (Hid.bankKey m d) 0).put (Hid.bankGen m d) 0).put (Hid.bankCrc m d) 0).get k = u.get k) (s : State) :
    s.zeroise.get k = 0 := by
  unfold State.zeroise
  refine each_keeps (P := fun t => t.get k = 0) ?zeroed _ _ fun t m ht => ?reported
  case zeroed =>
    refine State.get_each_own (a := n) (fun t => ?_) (fun t m hm => ?_) (List.mem_range.mpr hn) s
    · exact State.get_each_own (a := b) own (fun u d hd => other u n d (by simp [hd])) (by interval_cases b <;> simp) t
    · exact each_keeps (P := fun u => u.get k = t.get k) rfl _ _ fun u d hu => (other u m d (by simp [hm])).trans hu
  case reported =>
    split
    · exact (t.get_keyRefresh m hi hr).trans ht
    · exact ht

theorem State.zeroise_bankKey (s : State) {n b : Nat} (hn : n < 16) (hb : b < 2) : s.zeroise.get (Hid.bankKey n b) = 0 :=
  State.get_zeroise hn hb (by simp) (by interval_cases b <;> rfl) (by simp) (fun u m d h => by simp_all) s

theorem State.zeroise_bankGen (s : State) {n b : Nat} (hn : n < 16) (hb : b < 2) : s.zeroise.get (Hid.bankGen n b) = 0 :=
  State.get_zeroise hn hb (by simp) (by interval_cases b <;> rfl) (by simp) (fun u m d h => by simp_all) s

theorem State.zeroise_bankCrc (s : State) {n b : Nat} (hn : n < 16) (hb : b < 2) : s.zeroise.get (Hid.bankCrc n b) = 0 :=
  State.get_zeroise hn hb (by simp) (by interval_cases b <;> rfl) (by simp) (fun u m d h => by simp_all) s

/-! ### The boots (R378, R381, R382) -/

/-- A boot check leaves the flash as it is. -/
theorem State.bootCheck_flashOf (s : State) (n m : Nat) : (s.bootCheck n).1.flashOf m = s.flashOf m := by
  unfold State.bootCheck
  split <;> rfl

/-- A slot that passes its boot check holds an image. -/
theorem State.flashOf_of_bootCheck {s : State} {n : Nat} (h : (s.bootCheck n).2 = .ok) : ∃ x, s.flashOf n = some x := by
  unfold State.bootCheck at h
  split at h
  · cases h
  · exact ⟨_, ‹_›⟩

/-- The idle pair's boot of a slot that fails its checks ends REFUSED, with the check as its result. -/
theorem State.idleBootEnd_refused {s : State} (hi : s.get Reg.UPDATE_IDLE_STATE = 1)
    (h : (s.bootCheck (s.getN Reg.UPDATE_IDLE_SLOT)).2 ≠ .ok) : s.idleBootEnd.get Reg.UPDATE_IDLE_STATE = 3 ∧
    s.idleBootEnd.get Reg.UPDATE_IDLE_RESULT = ((s.bootCheck (s.getN Reg.UPDATE_IDLE_SLOT)).2.code : Nat) := by
  unfold State.idleBootEnd
  rw [if_neg (not_not.mpr hi)]
  dsimp only
  split
  · exact absurd ‹_› h
  · simp

/-- The idle pair's boot of a slot that passes ends READY, the slot VERIFIED. -/
theorem State.idleBootEnd_booted {s : State} (hi : s.get Reg.UPDATE_IDLE_STATE = 1)
    (h : (s.bootCheck (s.getN Reg.UPDATE_IDLE_SLOT)).2 = .ok) : s.idleBootEnd.get Reg.UPDATE_IDLE_STATE = 2 ∧
    s.idleBootEnd.get (Reg.IMAGE_WINDOW_STATE (s.getN Reg.UPDATE_IDLE_SLOT)) = 3 := by
  obtain ⟨x, hx⟩ := State.flashOf_of_bootCheck h
  have hf : ((s.bootCheck (s.getN Reg.UPDATE_IDLE_SLOT)).1.put Reg.UPDATE_IDLE_RESULT (Status.ok.code : Nat)).flashOf
      (s.getN Reg.UPDATE_IDLE_SLOT) = some x := (s.bootCheck_flashOf _ _).trans hx
  unfold State.idleBootEnd
  rw [if_neg (not_not.mpr hi)]
  dsimp only
  rw [h, hf]
  simp [State.idleImage, State.showImage]

/-- With no image that passes, a boot of KEEP enters recovery. -/
theorem State.keepBoot_recovery {s : State} (ha : s.alive = true) (h0 : s.ready 0 = false)
    (h : (s.fallRecord.bootFirst ((if s.getN Hid.dirActive = 0 then [] else [s.getN Hid.dirActive - 1]) ++
      (if s.getN Hid.dirPrevious = 0 then [] else [s.getN Hid.dirPrevious - 1]) ++ [2])).2 = none) :
    s.keepBoot [] = (((s.fallRecord.bootFirst ((if s.getN Hid.dirActive = 0 then [] else [s.getN Hid.dirActive - 1]) ++
      (if s.getN Hid.dirPrevious = 0 then [] else [s.getN Hid.dirPrevious - 1]) ++ [2])).1.put Hid.imageRecovery 1).put
      Reg.COLOPHON_MEASUREMENT 0).put Reg.UPDATE_IDLE_STATE 0 := by
  unfold State.keepBoot
  rw [if_neg (by simp [ha, h0])]
  dsimp only
  split
  · rfl
  · exact nomatch h.symm.trans ‹_ = some _›

/-! ### The handover (R75, R375, R383) -/

/-- The reference block of an image writes parameters of the reference unit, and what the end of a command writes. -/
theorem State.get_loadRefBlock (s : State) (image : Nat) {k : Key} (hc : closeWrites k = false) (hl : 0x3000 ≤ k.idx)
    (hu : k.idx < 0x10000) : (s.loadRefBlock image).get k = s.get k := by
  have hp : ∀ {t : State} (l : Key) (v : Int), t.get k = s.get k → (l.idx < 0x3000 ∨ 0x10000 ≤ l.idx) →
      (t.put l v).get k = s.get k := fun l v ht hi =>
    (State.get_put_ne _ _ fun e => by rw [e] at hi; omega).trans ht
  have hr : ∀ t : State, t.refRanks.get k = t.get k := fun t => by
    unfold State.refRanks
    extract_lets t1
    have h1 : t.Closed t1 := each_closed (refl_closed t) _ _ fun u c hu =>
      ite_closed (put_closed (refAbsent_closed hu c) _ _ rfl) (ite_closed (put_closed hu _ _ rfl) hu)
    exact (ite_closed (refMove_closed (refSelectables_closed (refDisagree_closed h1 _)) _) h1 : t.Closed _) k hc
  unfold State.loadRefBlock
  extract_lets t1 t2 t3 t4 t5
  have h1 : t1.get k = s.get k := each_keeps (P := fun t => t.get k = s.get k) rfl _ _ fun t c ht =>
    hp _ _ (hp _ _ ht (by simp)) (by simp)
  have h4 : t4.get k = s.get k := by
    refine hp _ _ (hp _ _ (hp _ _ (hp _ _ (hp _ _ (hp _ _ (hp _ _ (hp _ _ h1 ?_) ?_) ?_) ?_) ?_) ?_) ?_) ?_ <;> simp
  have h5 : t5.get k = s.get k := each_keeps (P := fun t => t.get k = s.get k) h4 _ _ fun t c ht =>
    hp _ _ (hp _ _ ht (by simp)) (by simp)
  exact (hr t5).trans h5

/-- A re-keying writes what the end of a command writes. -/
theorem State.get_rekey (s : State) {k : Key} (hc : closeWrites k = false) : s.rekey.get k = s.get k :=
  when_closed (refl_closed s) _ _ (fun _ ht => sendTwin_closed (put_closed ht _ _ rfl) _) k hc

/-- A fallback returns the authority to the old pair: its slot is the active one, and the one in probation reads REJECTED. -/
theorem State.get_fallBack {s : State} (hp : s.get Reg.HEALTH_CONFIRM_STATE = 1) (cause : Nat) :
    (s.fallBack cause).get Reg.UPDATE_ACTIVE_SLOT = s.get Reg.UPDATE_IDLE_SLOT ∧
    (s.fallBack cause).get Reg.HEALTH_CONFIRM_STATE = 3 ∧
    (s.fallBack cause).get (Reg.IMAGE_WINDOW_STATE (s.getN Reg.UPDATE_ACTIVE_SLOT)) = 5 := by
  have hx : (s.exchangePairs s.now).get Reg.UPDATE_ACTIVE_SLOT = s.get Reg.UPDATE_IDLE_SLOT := by
    unfold State.exchangePairs
    extract_lets t1 t2 t3
    have h1 : t1.get Reg.UPDATE_ACTIVE_SLOT = s.get Reg.UPDATE_IDLE_SLOT := by simp [t1]
    have h2 : t2.get Reg.UPDATE_ACTIVE_SLOT = s.get Reg.UPDATE_IDLE_SLOT := h1
    have h3 : t3.get Reg.UPDATE_ACTIVE_SLOT = s.get Reg.UPDATE_IDLE_SLOT := by
      unfold t3
      split <;> exact h2
    exact ((State.get_rekey _ rfl).trans (State.get_loadRefBlock _ _ rfl (by decide) (by decide))).trans h3
  unfold State.fallBack
  rw [if_neg (not_not.mpr hp)]
  dsimp only
  rw [raise_get _ _ _ _ _ (by decide), raise_get _ _ _ _ _ (by decide), raise_get _ _ _ _ _ (by rfl)]
  simp [hx]

/-! ### The probation (R384) -/

/-- Before the conditions have held for 60 s nothing is confirmed. -/
theorem State.probConfirmed_waiting {s : State} {b : Bool} (hp : s.get Reg.HEALTH_CONFIRM_STATE = 1)
    (h : (s.probTest b).get Hid.probFrom = 0 ∨ (s.probTest b).tickLf < (s.probTest b).get Hid.probFrom - 1 + 3175200000000) :
    s.probConfirmed b = s.probTest b := by
  unfold State.probConfirmed
  rw [if_neg (not_not.mpr hp)]
  exact if_pos (h.imp_right .inl)

/-- Once they have, the image in probation is in force. -/
theorem State.get_probConfirmed {s : State} {b : Bool} (hp : s.get Reg.HEALTH_CONFIRM_STATE = 1)
    (hf : (s.probTest b).get Hid.probFrom ≠ 0)
    (hl : (s.probTest b).get Hid.probFrom - 1 + 3175200000000 ≤ (s.probTest b).tickLf)
    (hc : (s.probTest b).get Reg.HEALTH_CONFIRM_REQUIRE_CONTROLLER = 0 ∨ (s.probTest b).get Hid.probConfirm ≠ 0) :
    (s.probConfirmed b).get Reg.HEALTH_CONFIRM_STATE = 2 ∧
    (s.probConfirmed b).get Hid.dirActive = (s.getN Reg.UPDATE_ACTIVE_SLOT + 1 : Nat) ∧
    (s.probConfirmed b).get (Reg.IMAGE_WINDOW_STATE (s.getN Reg.UPDATE_ACTIVE_SLOT)) = 4 := by
  have hn : (s.probTest b).getN Reg.UPDATE_ACTIVE_SLOT = s.getN Reg.UPDATE_ACTIVE_SLOT := by
    simp [State.getN, State.probTest, State.get_probTouch]
  unfold State.probConfirmed
  rw [if_neg (not_not.mpr hp)]
  dsimp only
  rw [if_neg (by rintro (h | h | ⟨h, h'⟩) <;> omega), hn]
  split
  · simp
  · unfold State.when
    split <;> simp [State.idleImage]

end Sys2Proof.Machine
namespace Sys2Proof
open Machine

/-- Settles O57: the zeroing of each bank is not undone by another's nor by SEC's report, and a fallback's exchange of the pairs is not by
the reference block nor by the re-keying. -/
theorem tamperAndBoot : Obligations.TamperAndBoot := by
  unfold Obligations.TamperAndBoot
  refine ⟨fun s c n b h1 h4 hc hn hb => ?tamper, fun s => ⟨rfl, fun hb => ?_⟩, fun s hb => ⟨fun hc => ?_, fun hc => ?_⟩,
    fun s ha => ⟨fun images => ⟨rfl, fun h => if_pos (.inr h)⟩, State.keepBoot_recovery ha,
      fun hi => ⟨s.idleBootEnd, live_next ha rfl, State.idleBootEnd_refused hi, State.idleBootEnd_booted hi⟩,
      fun hi => ?_, fun hp => ?probation, fun hp => ?none⟩⟩
  case tamper =>
    have ht : s.tamper c = (s.zeroise.put Hid.tamperCause c).put Hid.tamperAt (if s.up 1 then s.nowLT else 0) := by
      unfold State.tamper
      rw [if_neg (by omega), if_neg (by rintro (h | ⟨h, h'⟩); exacts [by omega, hc h h'])]
    refine ⟨_, (onElement_has (decide_eq_true h4) s _).trans (congrArg Host.Outcome.next ht), ?_⟩
    simp [State.zeroise_bankKey s hn hb, State.zeroise_bankGen s hn hb, State.zeroise_bankCrc s hn hb]
  case probation =>
    have fell : ∀ {i : Instr} {f : State → State} {t : State}, exec i s = .next (s.live f) → f s = t →
        exec i s = .next (t.closing s) := fun he h => he.trans (live_next ha h)
    refine ⟨fun b => ⟨live_next ha rfl, State.probConfirmed_waiting hp, State.get_probConfirmed hp⟩, fun h => fell rfl (if_pos h),
      fun h => fell rfl (if_neg (by omega)), fun h h' => fell rfl (if_pos ⟨h, h'⟩), State.get_fallBack hp⟩
  case none =>
    have hf : ∀ c, s.fallBack c = s := fun c => if_pos hp
    refine ⟨live_next ha ?_, live_next ha ?_, fun b => live_next ha (if_pos hp)⟩
    · simp [State.probDeadline, hf]
    · simp [State.rejectFall, hf]
  · exact congrArg Host.Outcome.next (by simp [State.tamper, hb])
  · exact congrArg Host.Outcome.next (if_neg (by simp [hc, hb]))
  · exact congrArg Host.Outcome.next (if_pos (.inl hc))
  · exact live_next ha (if_pos hi)
end Sys2Proof
end


section
/-! The service port (R372 to R381, R438): where a request goes, and what its executed operation makes of the state. -/
namespace Sys2Proof.Machine

/-! ### A request's way -/

@[simp] theorem State.get_svcTouch (s : State) (k : Bool) (l : Key) : (s.svcTouch k).get l = s.get l := by cases k <;> rfl

@[simp] theorem State.get_svcSend (s : State) (k : Bool) (r : SvcResp) (l : Key) : (s.svcSend k r).get l = s.get l := rfl

@[simp] theorem State.get_svcAnswer (s : State) (m : SvcMsg) (op : SvcOp) (k : Bool) (st : Status) (payload : List Nat) (l : Key) :
    (s.svcAnswer m op k st payload).get l = s.get l := by cases k <;> rfl

theorem State.flashOf_svcAnswer (s : State) (m : SvcMsg) (op : SvcOp) (k : Bool) (st : Status) (payload : List Nat) (n : Nat) :
    (s.svcAnswer m op k st payload).flashOf n = s.flashOf n := by cases k <;> rfl

/-- A flash slot that was replaced holds what replaced it. -/
theorem State.flashOf_setFlash (s : State) (x : FlashImage) : (s.setFlash x).flashOf x.slot = some x := by
  unfold State.flashOf State.setFlash
  rw [List.find?_append, List.find?_eq_none.mpr fun y hy => by simpa using (List.mem_filter.mp hy).2]
  simp

section
variable {s : State} {m : SvcMsg} {i : Instr} {op : SvcOp} {payload : List Nat} {f : State → Bool → State} (ha : s.alive = true)
  (hs : s.svcTimeout = s)
include ha hs

/-- A request that is not executed is dropped, answered again, or answered LOCKED_OUT. The command `g` may act on a step of time after the
port's part, and none of these makes one. -/
theorem svc_notExecuted {g : State → State} (he : exec i s = .next (s.live g))
    (hg : ∀ t : State, t.get Reg.STEP_STATUS_AT = s.get Reg.STEP_STATUS_AT → s.svcRun m op payload f = t → g s = t) :
    (s.svcWay m op payload = .drop → exec i s = .next (s.closing s)) ∧
    (∀ k r, s.svcWay m op payload = .again k r → exec i s = .next (((s.svcTouch k).svcSend k r).closing s)) ∧
    (∀ k, s.svcWay m op payload = .locked k → exec i s =
      .next (((s.svcTouch k).svcSend k ⟨op.code, .lockedOut, m.session, m.seq, []⟩).closing s)) := by
  refine ⟨fun hw => ?_, fun k r hw => ?_, fun k hw => ?_⟩ <;>
    exact he.trans (live_next ha (hg _ (by simp) (by unfold State.svcRun; rw [hs]; dsimp only; rw [hw])))

omit ha in
/-- A request that is executed runs its operation in the state its session's time was moved on in. -/
theorem State.svcRun_run {k : Bool} (hw : s.svcWay m op payload = .run k) : s.svcRun m op payload f = f (s.svcTouch k) k := by
  unfold State.svcRun
  rw [hs]
  dsimp only
  rw [hw]

theorem svc_executed {k : Bool} {t : State} (hw : s.svcWay m op payload = .run k)
    (he : exec i s = .next (s.live fun u => u.svcRun m op payload f)) (h : f (s.svcTouch k) k = t) : exec i s = .next (t.closing s) :=
  he.trans (live_next ha ((State.svcRun_run hs hw).trans h))

end

/-! ### What an operation reads of the state is what it was before the session's time moved on -/

theorem State.keyOf_svcTouch (s : State) (k : Bool) (n : Nat) : (s.svcTouch k).keyOf n = s.keyOf n := by cases k <;> rfl
theorem State.keyStatus_svcTouch (s : State) (k : Bool) (n v : Nat) : (s.svcTouch k).keyStatus n v = s.keyStatus n v := by
  cases k <;> rfl
theorem State.up_svcTouch (s : State) (k : Bool) (i : Nat) : (s.svcTouch k).up i = s.up i := by cases k <;> rfl
theorem State.imageOpenStatus_svcTouch (s : State) (k : Bool) (slot reserved total : Nat) :
    (s.svcTouch k).imageOpenStatus slot reserved total = s.imageOpenStatus slot reserved total := by cases k <;> rfl
theorem State.flashOf_svcTouch (s : State) (k : Bool) (n : Nat) : (s.svcTouch k).flashOf n = s.flashOf n := by cases k <;> rfl
theorem State.nowFine_svcTouch (s : State) (k : Bool) : (s.svcTouch k).nowFine = s.nowFine := by cases k <;> rfl
theorem State.stepFits_svcTouch (s : State) (k : Bool) (amount : Int) : (s.svcTouch k).stepFits amount = s.stepFits amount := by
  cases k <;> rfl
theorem State.timeSet_svcTouch (s : State) (k : Bool) : (s.svcTouch k).timeSet = s.timeSet := by cases k <;> rfl

/-- The image that is being written. -/
theorem State.openImage_svcTouch (s : State) (k : Bool) : (if (s.svcTouch k).get Hid.imgOpen = 0 then none else
    (s.svcTouch k).flashOf ((s.svcTouch k).getN Hid.imgOpen - 1)) =
    (if s.get Hid.imgOpen = 0 then none else s.flashOf (s.getN Hid.imgOpen - 1)) := by cases k <;> rfl

/-! ### HELLO -/

/-- The state in which HELLO has opened a session under a key (R380). -/
def State.svcOpened (u : State) (m : SvcMsg) (k : Bool) (key nonce : Nat) : State :=
  let dn := u.freeVal % 2 ^ 128
  let id := u.drawn.freeVal % 0xFFFFFFFF + 1
  let t := u.drawn.drawn.svcAnswer m .hello k .ok (beBytes 16 dn ++ beBytes 4 id)
  { t with svc := some ⟨id, ⟨key, nonce % 2 ^ 128, dn⟩, none, t.tickLf⟩ }

theorem State.svcOpened_svc (s : State) (m : SvcMsg) (k : Bool) (key nonce : Nat) :
    ((s.svcTouch k).svcOpened m k key nonce).svc = some ⟨(s.svcTouch k).drawn.freeVal % 0xFFFFFFFF + 1,
      ⟨key, nonce % 2 ^ 128, (s.svcTouch k).freeVal % 2 ^ 128⟩, none, s.tickLf⟩ := by
  cases k <;> rfl

/-- The response that opens the session gives the device's nonce and the session. -/
theorem State.svcOpened_out (u : State) (m : SvcMsg) (k : Bool) (key nonce : Nat) : ∃ e d,
    Emit.svc e ⟨SvcOp.hello.code, .ok, m.session, m.seq,
      beBytes 16 (u.freeVal % 2 ^ 128) ++ beBytes 4 (u.drawn.freeVal % 0xFFFFFFFF + 1)⟩ d ∈ (u.svcOpened m k key nonce).out :=
  ⟨_, _, List.mem_append_right _ (List.mem_singleton_self _)⟩

end Sys2Proof.Machine
namespace Sys2Proof
open Machine

/-- Settles O58: a request's way is its session's, and each operation reads what stood before the session's time moved on. -/
theorem servicePort : Obligations.ServicePort := by
  unfold Obligations.ServicePort
  refine ⟨fun s m a b c l ha hs p hp => ?ways, fun s m k ha hs => ⟨fun nonce hw =>
      ⟨fun h3 => ?_, fun h3 hk => ?_, fun key h3 hk => ?hello⟩,
    fun nonce hw h3 => ?_, fun slot reserved total hw => ⟨fun hst => ?opened, fun hst => ?_⟩,
    fun offset len data x hw ho hx hp hl hl' => ?data,
    fun d x hw => ⟨fun ho => ?_, fun ho hx => ⟨fun hd => ?_, fun hh hd hr => ?written⟩⟩, fun slot key hw hn h3 hst => ?key,
    fun l hw hl => ?_, fun hw => ?close, fun lt hw => ⟨fun hset => ?_, fun hset hv hf => ?step⟩⟩,
    fun s x ha hx => ⟨fun hl => ?_, fun hl => ?_⟩⟩
  case ways =>
    simp only [List.mem_cons, List.not_mem_nil, or_false] at hp
    rcases hp with rfl | rfl | rfl | rfl | rfl | rfl | rfl | rfl | rfl
    on_goal 9 =>
      exact svc_notExecuted ha hs rfl fun t ht h => (congrArg (State.afterStep · s) h).trans (State.afterStep_same ht)
    all_goals exact svc_notExecuted ha hs rfl fun t _ h => h
  case hello =>
    refine ⟨(s.svcTouch k).svcOpened m k key nonce, _, _, svc_executed ha hs hw rfl ?_, s.svcOpened_svc m k key nonce, by omega,
      by omega, Nat.mod_lt _ (by decide), State.svcOpened_out ..⟩
    refine (if_neg (by simp [State.up_svcTouch, h3])).trans ?_
    rw [State.keyOf_svcTouch, hk]
    rfl
  case opened =>
    refine ⟨_, svc_executed ha hs hw rfl (if_neg (by simp [State.imageOpenStatus_svcTouch, hst])), ?_⟩
    refine ⟨(State.flashOf_svcAnswer ..).trans ((s.svcTouch k).flashOf_setFlash ⟨slot, total, []⟩), ?_⟩
    simp
  case data =>
    refine svc_executed ha hs hw rfl ?_
    rw [State.openImage_svcTouch, if_neg ho, hx]
    exact (if_neg (by simp [hp]; omega)).trans (by rw [hp]; rfl)
  case written =>
    refine svc_executed ha hs hw rfl ?_
    dsimp only
    rw [State.openImage_svcTouch, if_neg ho, hx]
    refine (if_pos ⟨hh, hd⟩).trans ?_
    unfold State.when
    rw [if_neg (by simpa using hr)]
    cases k <;> rfl
  case key =>
    refine svc_executed ha hs hw rfl ((if_neg (by simpa using hn)).trans ((if_neg (by simp [State.up_svcTouch, h3])).trans ?_))
    exact if_neg (by simp [State.keyStatus_svcTouch, hst])
  case close => exact ⟨_, svc_executed ha hs hw rfl rfl, rfl⟩
  case step =>
    refine live_next ha (congrArg (State.afterStep · s) ((State.svcRun_run hs hw).trans ?_))
    rw [State.nowFine_svcTouch, State.timeSet_svcTouch]
    refine if_neg fun h => ?_
    rw [hset, hv, State.stepFits_svcTouch, hf] at h
    exact absurd h (by decide)
  · exact svc_executed ha hs hw rfl (if_pos ((s.up_svcTouch k 3).trans h3))
  · refine svc_executed ha hs hw rfl ((if_neg (by simp [State.up_svcTouch, h3])).trans ?_)
    rw [State.keyOf_svcTouch, hk]
  · exact svc_executed ha hs hw rfl (if_neg (by simp [State.up_svcTouch, h3]))
  · rw [← s.imageOpenStatus_svcTouch k] at hst ⊢
    exact svc_executed ha hs hw rfl (if_pos hst)
  · refine svc_executed ha hs hw rfl ?_
    dsimp only
    rw [State.openImage_svcTouch, if_pos ho]
  · refine svc_executed ha hs hw rfl ?_
    dsimp only
    rw [State.openImage_svcTouch, if_neg ho, hx]
    exact if_neg hd
  · exact svc_executed ha hs hw rfl (if_neg (by omega))
  · have ht : (s.svcTouch k).timeSet = true := (s.timeSet_svcTouch k).trans hset
    refine live_next ha ((congrArg (State.afterStep · s) ((State.svcRun_run hs hw).trans (if_pos (.inl ht)))).trans ?_)
    exact State.afterStep_same (by simp)
  · exact live_next ha (by simp [State.svcTimeout, hx, hl])
  · exact live_next ha (by simp [State.svcTimeout, hx, hl])
end Sys2Proof
end


section
/-! The pins (R402, R408, R409, R425, R432): what each input's timers and each selected instruction leave. -/
namespace Sys2Proof.Machine

/-- The noting of a transition writes no register. -/
theorem State.get_gpiNote (s : State) (g : Nat) (k : Key) : (s.gpiNote g).get k = s.get k := rfl

section
variable {s : State} {g : Nat}

/-- A transition of an input that chatters restarts its debounce and raises nothing more (R432). -/
theorem State.gpiRawTransition_chattering {v : Bool} (h54 : s.ready 54 = true) (hv : s.get (Hid.gpiRaw g) ≠ b2i v)
    (hc : s.get (Reg.GPI_STATE g) = 1) : (s.gpiRawTransition g v).get (Hid.gpiRaw g) = b2i v ∧
    (s.gpiRawTransition g v).get (Hid.gpiDue g) = s.tickLf + s.get (Reg.GPI_DEBOUNCE g) + 1 ∧
    (s.gpiRawTransition g v).get (Hid.gpiStamp g) = s.nowLT := by
  unfold State.gpiRawTransition
  extract_lets t u
  have ht : ∀ k, t.get k = ((s.put (Hid.gpiRaw g) (b2i v)).put (Hid.gpiStamp g) s.nowLT).get k := fun _ => rfl
  have htick : t.tickLf = s.tickLf := (State.put_tickLf ..).trans (State.put_tickLf ..)
  have hu : ∀ k, u.get k = ((t.gpiTimers g).put (Hid.gpiSilent g) 0).get k := State.get_gpiNote _ g
  clear_value u t
  have hst : u.get (Reg.GPI_STATE g) = 1 := by simp [hu, State.gpiTimers, ht, hc]
  rw [if_neg (by simp [h54, hv]), if_neg fun h => h.1 hst, hu, hu, hu]
  simp [State.gpiTimers, ht, htick]

/-! ### The debounce has passed (R432) -/

section
variable (h54 : s.ready 54 = true) (hd : s.get (Hid.gpiDue g) ≠ 0) (hp : s.get (Hid.gpiDue g) - 1 ≤ s.tickLf)
include h54 hd hp

/-- A level that is the qualified one already is no edge. -/
theorem State.gpiQualify_same (hl : s.get (Reg.GPI_LEVEL g) = b2i (s.get (Hid.gpiRaw g) != s.get (Reg.GPI_POLARITY g))) :
    s.gpiQualify g = s.put (Hid.gpiDue g) 0 := by
  unfold State.gpiQualify
  rw [if_neg (by rintro (h | h | h) <;> simp_all; omega)]
  exact if_pos (by simpa using hl)

/-- A level that becomes active in a quiet input is a rising edge. -/
theorem State.gpiQualify_rising (hl : s.get (Reg.GPI_LEVEL g) = 0) (hr : s.get (Hid.gpiRaw g) ≠ s.get (Reg.GPI_POLARITY g))
    (hn : s.get (Reg.GPI_STATE g) = 0) (hs : s.get (Hid.gpiSilent g) = 0) : s.gpiQualify g =
    ((((s.put (Hid.gpiDue g) 0).put (Reg.GPI_LEVEL g) 1).put (Hid.gpiFrom g) s.tickLf)).gpiEvent g true := by
  have hact : (s.get (Hid.gpiRaw g) != s.get (Reg.GPI_POLARITY g)) = true := by simpa using hr
  unfold State.gpiQualify
  rw [if_neg (by rintro (h | h | h) <;> simp_all; omega), hact]
  simp [hl, hn, hs, State.when, b2i]

end

/-- Before the debounce has passed nothing qualifies. -/
theorem State.gpiQualify_early (h : s.tickLf < s.get (Hid.gpiDue g) - 1) : s.gpiQualify g = s := if_pos (.inr (.inr h))

/-! ### Chatter and stuck (R432) -/

theorem State.gpiChatterQuiet_over (h54 : s.ready 54 = true) (hc : s.get (Reg.GPI_STATE g) = 1)
    (hq : s.get (Hid.gpiQuiet g) ≤ s.tickLf) :
    s.gpiChatterQuiet g = if s.gpiStuckNow g then s.gpiToStuck g else s.put (Reg.GPI_STATE g) 0 :=
  if_neg (by simp [h54, hc, hq])

end

/-! ### Held units (R402) -/

/-- An entry that holds no unit has none due. -/
theorem State.injectDue_empty {s : State} {j : Nat} (h : s.injectHeld j = []) : (s.injectDue j).2 = [] := by
  unfold State.injectHeld at h
  simp only [State.injectDue, List.map_eq_nil_iff]
  refine List.filter_eq_nil_iff.mpr fun x hx => ?_
  have := List.filter_eq_nil_iff.mp h x hx
  simp_all

/-! ### The TAP (R408, R409) -/

/-- While PORST_N is low EXTEST and its AC forms drive the pins. -/
theorem State.tapExtest_low {s : State} (h : s.porstLow = true) (code what cells : Nat) : s.tapExtest code what cells =
    if what = 0 then ((s.tapSelect code).put Hid.tapCells cells).send (.pin 7 0 cells)
    else (((s.tapSelect code).put Hid.tapCells cells).send (.pin 7 0 cells)).send (.pin 8 (what - 1) cells) := if_pos h

/-- Out of reset they select the bypass register. -/
theorem State.tapExtest_high {s : State} (h : s.porstLow = false) (code what cells : Nat) :
    s.tapExtest code what cells = s.tapSelect 0xFF := if_neg (by simp [h])

theorem State.smbusRead_deaf {s : State} {a : Nat} (h : a ≠ 0x4A ∨ s.alive = false ∨ s.ready 0 = false) (c : Nat) :
    s.smbusRead a c = s.send (.smbus none) := by
  unfold State.smbusRead
  rw [if_neg (by rintro ⟨ha, hl, h0⟩; simp_all)]

end Sys2Proof.Machine
namespace Sys2Proof
open Machine

/-- Settles O60: each pin's command is its rule's one branch. -/
theorem pinsAndBoundaryScan : Obligations.PinsAndBoundaryScan := by
  unfold Obligations.PinsAndBoundaryScan
  refine ⟨fun s ha => ⟨fun g v hg => ⟨onElement_next (decide_eq_true hg) ha rfl, State.gpiRawTransition_chattering⟩,
    fun g hg h54 => ?gpi, fun j hj => ⟨onElement_next (decide_eq_true hj) ha rfl, State.injectDue_empty⟩, fun p hp => ?links⟩,
    fun s a c => ⟨rfl, fun ha h0 => ?_, fun h => congrArg Host.Outcome.next (State.smbusRead_deaf h c), rfl, rfl,
      ⟨_, rfl, ?_, ?_⟩, fun hl => ?low, fun hh => ?high, fun h => ?_, fun h => ?_⟩⟩
  case gpi =>
    have at_ : ∀ {f : State → State} {t : State}, f s = t → onElement (decide (g < 16)) s (s.live f) = .next (t.closing s) :=
      fun h => onElement_next (decide_eq_true hg) ha h
    refine ⟨fun hd hp => ⟨at_ rfl, State.gpiQualify_same h54 hd hp, State.gpiQualify_rising h54 hd hp⟩,
      fun h => at_ (State.gpiQualify_early h), fun hc hq => ⟨fun hk => at_ ?_, fun hk => at_ ?_⟩,
      fun hn hk => at_ (if_pos ⟨h54, hn, hk⟩), fun hn hk => at_ (if_neg (by simp [hk]))⟩
    · rw [State.gpiChatterQuiet_over h54 hc hq, hk, if_neg (by simp)]
    · rw [State.gpiChatterQuiet_over h54 hc hq, hk, if_pos rfl]
  case links =>
    refine ⟨fun h0 hb => onElement_next (decide_eq_true hp) ha ((if_neg (by simp [h0, hb])).trans ?_),
      fun hb => onElement_next (decide_eq_true hp) ha ((if_neg (by simp [hb])).trans ?_)⟩
    all_goals simp only [State.when, decide_eq_true_eq]
  case low =>
    refine ⟨?_, ?_, ?_, ?_, ?_⟩
    · exact congrArg Host.Outcome.next (State.tapExtest_low hl 0 0 c)
    · exact congrArg Host.Outcome.next (State.tapExtest_low hl 5 1 c)
    · exact congrArg Host.Outcome.next (State.tapExtest_low hl 6 2 c)
    · exact congrArg Host.Outcome.next (if_pos hl)
    · exact congrArg Host.Outcome.next (if_pos hl)
  case high =>
    have hn : ¬s.porstLow = true := by simp [hh]
    refine ⟨?_, ?_, ?_, ?_, ?_⟩
    · exact congrArg Host.Outcome.next (State.tapExtest_high hh 0 0 c)
    · exact congrArg Host.Outcome.next (State.tapExtest_high hh 5 1 c)
    · exact congrArg Host.Outcome.next (State.tapExtest_high hh 6 2 c)
    · exact congrArg Host.Outcome.next (if_neg hn)
    · exact congrArg Host.Outcome.next (if_neg hn)
  · exact congrArg Host.Outcome.next (by rw [State.smbusRead, if_pos ⟨rfl, ha, h0⟩])
  · show ((s.tapSelect 2).put Hid.tapCells c).get _ = _
    simp
  · show ((s.tapSelect 2).put Hid.tapCells c).get _ = _
    simp [State.tapSelect]
  · exact congrArg Host.Outcome.next (if_neg (by simp [h]))
  · exact congrArg Host.Outcome.next (if_pos h)
end Sys2Proof
end


section
/-! The Almanac's interval records (R388): only the end of an interval writes one. A condition that a refit raises or ends, with whatever
reaction it brings about, leaves them. -/
namespace Sys2Proof.Machine

/-- The interval records stand as they stood. -/
def State.SameIntervals (s t : State) : Prop := t.almIntervals = s.almIntervals

section
variable {s t : State}

/-! ### Updates of other fields -/

/-- An update of any fields but this one. -/
theorem mk_sameIntervals (h : s.SameIntervals t) (x0 x1 x2 x3 x4 x5 x6 x7 x8 x9 x10 x11 x12 x13 x14 x15 x16 x17 x18 x19 x20 x21 x22 x24
    x25 x26 x27 x28 x29 x30 x31 x32 x33 x34 x35 x36 x37 x38 x39 x40 x41 x42 x43 x44 x45 x46 x47 x48 x49 x50 x51 x52 x53 x54 x55 x56
    x57 x58 x59 x60 x61 x62 x63 x64 x65 : _) :
    s.SameIntervals (State.mk x0 x1 x2 x3 x4 x5 x6 x7 x8 x9 x10 x11 x12 x13 x14 x15 x16 x17 x18 x19 x20 x21 x22 t.almIntervals x24 x25
      x26 x27 x28 x29 x30 x31 x32 x33 x34 x35 x36 x37 x38 x39 x40 x41 x42 x43 x44 x45 x46 x47 x48 x49 x50 x51 x52 x53 x54 x55 x56 x57
      x58 x59 x60 x61 x62 x63 x64 x65) := h

theorem put_sameIntervals (h : s.SameIntervals t) (k : Key) (v : Int) : s.SameIntervals (t.put k v) := mk_sameIntervals h ..

theorem bumpBy_sameIntervals (h : s.SameIntervals t) (k : Key) (n : Int) : s.SameIntervals (t.bumpBy k n) := put_sameIntervals h ..

theorem bump_sameIntervals (h : s.SameIntervals t) (k : Key) : s.SameIntervals (t.bump k) := bumpBy_sameIntervals h ..

theorem send_sameIntervals (h : s.SameIntervals t) (e : Emit) : s.SameIntervals (t.send e) := mk_sameIntervals h ..

theorem drawn_sameIntervals (h : s.SameIntervals t) : s.SameIntervals t.drawn := mk_sameIntervals h ..

theorem setSlip_sameIntervals (h : s.SameIntervals t) (x : Slip) : s.SameIntervals (t.setSlip x) := mk_sameIntervals h ..

/-! ### What a restart does -/

theorem probTouch_sameIntervals (h : s.SameIntervals t) : s.SameIntervals t.probTouch :=
  ite_keeps h (ite_keeps (put_sameIntervals h ..) (ite_keeps (put_sameIntervals h ..) h))

theorem setReady_sameIntervals (h : s.SameIntervals t) (b : Nat) (v : Bool) : s.SameIntervals (t.setReady b v) :=
  ite_keeps h (probTouch_sameIntervals (bump_sameIntervals (put_sameIntervals (put_sameIntervals (put_sameIntervals h ..) ..) ..) _))

theorem dropReady_sameIntervals (h : s.SameIntervals t) (b : Nat) : s.SameIntervals (t.dropReady b) :=
  each_keeps (setReady_sameIntervals h ..) _ _ fun _ _ h => setReady_sameIntervals h ..

theorem releaseLoan_sameIntervals (h : s.SameIntervals t) : s.SameIntervals t.releaseLoan := by
  have h1 : s.SameIntervals ((t.put Reg.LOAN_STATE 2).put Reg.LOAN_PRESENT 0) := put_sameIntervals (put_sameIntervals h ..) ..
  refine ite_keeps ?_ h
  dsimp only
  split
  · exact h1
  · exact mk_sameIntervals (put_sameIntervals h1 ..) ..

theorem closeSession_sameIntervals (h : s.SameIntervals t) : s.SameIntervals t.closeSession := by
  unfold State.closeSession
  split
  · exact h
  · exact mk_sameIntervals (put_sameIntervals (put_sameIntervals h ..) ..) ..

theorem sdiDecide_sameIntervals (h : s.SameIntervals t) (n st : Nat) : s.SameIntervals (t.sdiDecide n st) := by
  unfold State.sdiDecide
  exact when_keeps (put_sameIntervals (put_sameIntervals h ..) ..) _ _ fun _ h => put_sameIntervals h ..

theorem sdiDrop_sameIntervals (h : s.SameIntervals t) (n : Nat) : s.SameIntervals (t.sdiDrop n) :=
  when_keeps (put_sameIntervals h ..) _ _ fun _ h => sdiDecide_sameIntervals h ..

theorem startQuiet_sameIntervals (h : s.SameIntervals t) (n : Nat) : s.SameIntervals (t.startQuiet n) :=
  put_sameIntervals (put_sameIntervals h ..) ..

theorem endCond_sameIntervals (h : s.SameIntervals t) (n : Nat) : s.SameIntervals (t.endCond n) := by
  unfold State.endCond
  extract_lets t0 t1
  have h0 : s.SameIntervals t0 := mk_sameIntervals h ..
  have h1 : s.SameIntervals t1 := put_sameIntervals h0 ..
  exact ite_keeps (ite_keeps (startQuiet_sameIntervals (put_sameIntervals h1 ..) _) h1) h0

theorem queueRaise_sameIntervals (h : s.SameIntervals t) (n cause context : Nat) (cond : Bool) :
    s.SameIntervals (t.queueRaise n cause context cond) := ite_keeps h (mk_sameIntervals h ..)

theorem rearm_sameIntervals (h : s.SameIntervals t) (n : Nat) (items : List (Key × Int)) : s.SameIntervals (t.rearm n items) :=
  ite_keeps (put_sameIntervals (put_sameIntervals (put_sameIntervals (put_sameIntervals (setSlip_sameIntervals h _) ..) ..) ..) ..) h

theorem failRecord_sameIntervals (h : s.SameIntervals t) (n : Nat) (st : Status) (cause : Nat) :
    s.SameIntervals (t.failRecord n st cause) :=
  when_keeps (bump_sameIntervals (setSlip_sameIntervals h _) _) _ _ fun _ h => put_sameIntervals h ..

theorem failLaunched_sameIntervals (h : s.SameIntervals t) (i : Nat) : s.SameIntervals (t.failLaunched i) :=
  each_keeps h _ _ fun _ _ h => rearm_sameIntervals (put_sameIntervals (queueRaise_sameIntervals (failRecord_sameIntervals h ..) ..) ..) ..

theorem setPairing_sameIntervals (h : s.SameIntervals t) (v : Int) : s.SameIntervals (t.setPairing v) := by
  have h1 : s.SameIntervals (t.put Reg.PAIRING_STATE v) := put_sameIntervals h ..
  obtain ⟨r, hr⟩ := (setPairing_ownRegs t v).1
  rw [hr]
  exact mk_sameIntervals h1 ..

theorem linkFalls_sameIntervals (h : s.SameIntervals t) : s.SameIntervals t.linkFalls := by
  have h0 : s.SameIntervals (((((t.put Reg.TWIN_LINK_STATE 0).bump Reg.TWIN_LINK_DOWN_EVENTS).put Hid.rekeying 0).put
      Hid.twinStampNew 0).put Hid.twinOver 0) :=
    put_sameIntervals (put_sameIntervals (put_sameIntervals (bump_sameIntervals (put_sameIntervals h ..) _) ..) ..) ..
  have h1 := queueRaise_sameIntervals (endCond_sameIntervals h0 7) 6 0 0 false
  unfold State.linkFalls
  extract_lets t0 t1 t2 t3
  have h3 : s.SameIntervals t3 := put_sameIntervals (put_sameIntervals (mk_sameIntervals h1 ..) ..) ..
  exact ite_keeps h (ite_keeps (setPairing_sameIntervals h3 1) h3)

theorem macFalls_sameIntervals (h : s.SameIntervals t) (m : Nat) : s.SameIntervals (t.macFalls m) := by
  unfold State.macFalls
  extract_lets gone t0
  have h0 : s.SameIntervals t0 := queueRaise_sameIntervals (bumpBy_sameIntervals (bump_sameIntervals (put_sameIntervals h ..) _) ..) ..
  exact ite_keeps h (mk_sameIntervals h0 ..)

theorem txIdle_sameIntervals (h : s.SameIntervals t) (n : Nat) : s.SameIntervals (t.txIdle n) :=
  ite_keeps h (send_sameIntervals (put_sameIntervals h ..) _)

theorem flowsLost_sameIntervals (h : s.SameIntervals t) : s.SameIntervals t.flowsLost :=
  each_keeps (mk_sameIntervals h ..) _ _ fun _ _ h => when_keeps (put_sameIntervals h ..) _ _ fun _ h => put_sameIntervals h ..

theorem logLost_sameIntervals (h : s.SameIntervals t) (other : Nat) : s.SameIntervals (t.logLost other) :=
  ite_keeps h (mk_sameIntervals h ..)

theorem keepLoses_sameIntervals (h : s.SameIntervals t) : s.SameIntervals t.keepLoses :=
  when_keeps (mk_sameIntervals (closeSession_sameIntervals (releaseLoan_sameIntervals h)) ..) _ _ fun _ h => put_sameIntervals h ..

/-- What an island loses as it enters reset is no time: one loss for each kind of island (Table 1.1). -/
theorem islandLoses_sameIntervals (h : s.SameIntervals t) (i : Nat) : s.SameIntervals (t.islandLoses i) := by
  unfold State.islandLoses
  refine ite_keeps ?serial (ite_keeps ?crosspoint (ite_keeps ?ports (ite_keeps (flowsLost_sameIntervals h) (ite_keeps ?lanes
    (ite_keeps ?twin (ite_keeps ?memory (ite_keeps ?recorders (ite_keeps ?canvases (ite_keeps ?audio (ite_keeps ?reference
      (ite_keeps (logLost_sameIntervals h 0) (ite_keeps (logLost_sameIntervals (keepLoses_sameIntervals h) 4) h))))))))))))
  case serial =>
    exact each_keeps h _ _ fun _ _ h =>
      sdiDrop_sameIntervals (put_sameIntervals (mk_sameIntervals (txIdle_sameIntervals h _) ..) ..) _
  case crosspoint => exact each_keeps (put_sameIntervals (mk_sameIntervals h ..) ..) _ _ fun _ _ h => txIdle_sameIntervals h _
  case ports => exact mk_sameIntervals (each_keeps h _ _ fun _ _ h => put_sameIntervals (macFalls_sameIntervals h _) ..) ..
  case lanes => exact each_keeps h _ _ fun _ _ h => put_sameIntervals h ..
  case twin => exact linkFalls_sameIntervals (put_sameIntervals (put_sameIntervals (put_sameIntervals h ..) ..) ..)
  case memory =>
    exact each_keeps (each_keeps (mk_sameIntervals h ..) _ _ fun _ _ h => put_sameIntervals (put_sameIntervals h ..) ..) _ _ fun _ _ h =>
      when_keeps h _ _ fun _ h => put_sameIntervals h ..
  case recorders => exact each_keeps h _ _ fun _ _ h => when_keeps h _ _ fun _ h => put_sameIntervals h ..
  case canvases => exact each_keeps h _ _ fun _ _ h => when_keeps h _ _ fun _ h => put_sameIntervals h ..
  case audio => exact each_keeps h _ _ fun _ _ h => put_sameIntervals (put_sameIntervals h ..) ..
  case reference => exact put_sameIntervals h ..

theorem flushPartners_sameIntervals (h : s.SameIntervals t) (i : Nat) : s.SameIntervals (t.flushPartners i) :=
  each_keeps h _ _ fun _ _ h => ite_keeps (put_sameIntervals (drawn_sameIntervals (bumpBy_sameIntervals h ..)) ..) (put_sameIntervals h ..)

theorem restartIsland_sameIntervals (h : s.SameIntervals t) (i cause : Nat) : s.SameIntervals (t.restartIsland i cause) := by
  have h0 := failLaunched_sameIntervals (flushPartners_sameIntervals h i) i
  have h1 := dropReady_sameIntervals (islandLoses_sameIntervals h0 i) (islandBit i)
  exact ite_keeps (when_keeps h _ _ fun _ h => put_sameIntervals h ..)
    (put_sameIntervals (bump_sameIntervals (put_sameIntervals (put_sameIntervals (put_sameIntervals (put_sameIntervals h1
      ..) ..) ..) ..) _) ..)

/-! ### What a raising does -/

theorem addLog_sameIntervals (h : s.SameIntervals t) (src sev flags detail lt : Nat) :
    s.SameIntervals (t.addLog src sev flags detail lt) := by
  unfold State.addLog
  dsimp only
  split
  · exact mk_sameIntervals h ..
  · exact ite_keeps (bump_sameIntervals h _) (mk_sameIntervals (put_sameIntervals h ..) ..)

theorem driveAlert_sameIntervals (h : s.SameIntervals t) : s.SameIntervals t.driveAlert :=
  ite_keeps h (send_sameIntervals (put_sameIntervals h ..) _)

theorem settleReaction_sameIntervals (h : s.SameIntervals t) (n : Nat) : s.SameIntervals (t.settleReaction n) := by
  unfold State.settleReaction
  extract_lets rs level holders low old cause latched t0 t1
  have h0 : s.SameIntervals t0 := ite_keeps h (probTouch_sameIntervals (put_sameIntervals (put_sameIntervals h ..) ..))
  have h1 : s.SameIntervals t1 := ite_keeps (put_sameIntervals h0 ..) h0
  exact driveAlert_sameIntervals (put_sameIntervals (put_sameIntervals h1 ..) ..)

theorem runOn_sameIntervals (h : s.SameIntervals t) : s.SameIntervals t.runOn := closeSession_sameIntervals (releaseLoan_sameIntervals h)

theorem safeEntry_sameIntervals (h : s.SameIntervals t) : s.SameIntervals t.safeEntry :=
  put_sameIntervals (when_keeps (put_sameIntervals h ..) _ _ fun _ h =>
    each_keeps (put_sameIntervals h ..) _ _ fun _ _ h => put_sameIntervals h ..) ..

theorem react_sameIntervals (h : s.SameIntervals t) (n detail : Nat) : s.SameIntervals (t.react n detail) := by
  unfold State.react
  refine ite_keeps h (ite_keeps (restartIsland_sameIntervals (runOn_sameIntervals h) 0 4) (ite_keeps ?isolate
    (ite_keeps (runOn_sameIntervals h) (ite_keeps (safeEntry_sameIntervals (runOn_sameIntervals h)) h))))
  case isolate =>
    split
    · exact h
    · exact restartIsland_sameIntervals h _ 2

theorem settleRaise_sameIntervals (h : s.SameIntervals t) (n detail : Nat) (cond forced : Bool) (lt : Nat) :
    s.SameIntervals (t.settleRaise n detail cond forced lt) := by
  unfold State.settleRaise
  extract_lets st sev logIt t0 t1 t2 t3
  have h0 : s.SameIntervals t0 := put_sameIntervals (put_sameIntervals (put_sameIntervals (bump_sameIntervals h _) ..) ..) ..
  have h1 : s.SameIntervals t1 := ite_keeps h0 (ite_keeps (put_sameIntervals (put_sameIntervals h0 ..) ..)
    (when_keeps (put_sameIntervals h0 ..) _ _ fun _ h => startQuiet_sameIntervals h _))
  have h2 : s.SameIntervals t2 := ite_keeps (addLog_sameIntervals h1 ..) h1
  have h3 : s.SameIntervals t3 := ite_keeps (put_sameIntervals h2 ..) h2
  exact ite_keeps h (settleReaction_sameIntervals (react_sameIntervals h3 ..) _)

theorem settleHeld_sameIntervals (h : s.SameIntervals t) : s.SameIntervals t.settleHeld :=
  each_keeps (mk_sameIntervals h ..) _ _ fun _ _ h => settleRaise_sameIntervals h ..

theorem settleRounds_sameIntervals (n : Nat) (h : s.SameIntervals t) : s.SameIntervals (t.settleRounds n) := by
  induction n generalizing t with
  | zero => exact h
  | succ n ih => exact ite_keeps (ih (settleHeld_sameIntervals h)) h

/-- A condition that begins, the Almanac does not record (R391). -/
theorem raiseCond_sameIntervals (h : s.SameIntervals t) (n context : Nat) : s.SameIntervals (t.raiseCond n context) :=
  ite_keeps h (ite_keeps h (ite_keeps (settleRounds_sameIntervals 47 (settleRaise_sameIntervals h ..)) (mk_sameIntervals h ..)))

/-! ### A refit of the projection (R391) -/

theorem marginJudge_sameIntervals (h : s.SameIntervals t) : s.SameIntervals t.marginJudge := by
  unfold State.marginJudge
  dsimp only
  split
  · exact endCond_sameIntervals h 30
  · exact raiseCond_sameIntervals h 30 _

theorem refit_sameIntervals (h : s.SameIntervals t) : s.SameIntervals t.refit :=
  marginJudge_sameIntervals (each_keeps h _ _ fun _ _ hu => put_sameIntervals hu ..)

end
end Sys2Proof.Machine
end


section
/-! Monitors, the Almanac and the bookings (R386 to R418): what a sample, a record, a judgement and a booking leave in their registers. -/
namespace Sys2Proof.Machine

/-! ### Judgements -/

/-- A condition that begins or ends writes what a raising can write. -/
theorem State.get_judged {s : State} {k : Key} (hr : raiseWrites k = false) (c : Prop) [Decidable c] (n context : Nat) :
    (if c then s.raiseCond n context else s.endCond n).get k = s.get k := by
  split
  · exact raiseCond_spared (refl_spared s) n context k hr
  · exact endCond_spared (refl_spared s) n k hr

/-- Measured VDD stands as it was judged (R415). -/
theorem State.get_avsJudge (s : State) (v : Nat) : (s.avsJudge v).get Reg.SUPPLY_VDD = v := by
  unfold State.avsJudge
  extract_lets t off u
  have hu : u.get Reg.SUPPLY_VDD = v := (t.get_timeCond off (by decide)).trans (by simp [t])
  exact (State.get_judged (by decide) _ 31 0).trans hu

/-- MEASURED stands as it was judged (R418). -/
theorem State.get_powerJudge (s : State) (w : Nat) : (s.powerJudge w).get Reg.POWER_MEASURED = w := by
  unfold State.powerJudge
  extract_lets t u
  have hu : u.get Reg.POWER_MEASURED = w := (t.get_timeCond _ (by decide)).trans (by simp [t])
  exact (State.get_judged (by decide) _ 32 0).trans hu

/-! ### Samples (R386) -/

/-- What follows the readings of the wear monitors writes the margins of the islands and two timers. -/
theorem State.get_wearSample_one {s : State} {w slack : Nat} {shift : Int} (hr : s.runs (s.wearIsland w) = true) {k : Key}
    (hk : k.idx = 0xD010) : (s.wearSample [(w, slack, shift)]).get k =
      (((s.put (Reg.WEAR_SLACK w) slack).put (Reg.WEAR_SHIFT w) shift).put (Hid.wearSeen w) 1).get k := by
  have hne : ∀ l : Key, l.idx ≠ 0xD010 → l ≠ k := fun l hl e => hl (by rw [e, hk])
  unfold State.wearSample
  extract_lets t u
  have ht : t = ((s.put (Reg.WEAR_SLACK w) slack).put (Reg.WEAR_SHIFT w) shift).put (Hid.wearSeen w) 1 := if_pos hr
  have hu : u.get k = t.get k := each_keeps (P := fun x => x.get k = t.get k) rfl _ _ fun x i hx => by
    split
    · exact hx
    · exact (State.get_put_ne _ _ (hne _ (by simp))).trans ((State.get_put_ne _ _ (hne _ (by simp))).trans hx)
  rw [← ht, ← hu]
  split
  · rfl
  · exact (State.get_timeCond _ _ (hne _ (by simp))).trans (State.get_timeCond _ _ (hne _ (by simp)))

/-- What follows the readings of the sensors writes the lid's temperature, the channels' refresh and what a raising can write. -/
theorem State.get_thermalSample_one {s : State} {v : Int} (hr : s.runs (s.getN (Reg.THERMAL_ISLAND 0)) = true) {k : Key}
    (hk : k.idx = 0xD020) (hw : raiseWrites k = false) : (s.thermalSample [v]).get k =
      ((s.put (Reg.THERMAL_NOW 0) v).put (Reg.THERMAL_MAX 0) (max v (s.get (Reg.THERMAL_MAX 0)))).get k := by
  have hne : ∀ l : Key, l.idx ≠ 0xD020 → l ≠ k := fun l hl e => hl (by rw [e, hk])
  unfold State.thermalSample
  extract_lets t0 t1 now hot t2 i t3
  have h0 : t0.get k = ((s.put (Reg.THERMAL_NOW 0) v).put (Reg.THERMAL_MAX 0) (max v (s.get (Reg.THERMAL_MAX 0)))).get k := by
    have ht : t0 = ((s.put (Reg.THERMAL_NOW 0) v).put (Reg.THERMAL_MAX 0) (max v (s.get (Reg.THERMAL_MAX 0)))).put (Hid.perTemp 0)
        (max (v + 10000) (s.get (Hid.perTemp 0))) := if_pos hr
    rw [ht, State.get_put_ne _ _ (hne _ (by simp))]
  have h1 : t1.get k = t0.get k := each_keeps (P := fun x => x.get k = t0.get k) (State.get_put_ne _ _ (hne _ (by simp))) _ _
    fun x i hx => (State.get_put_ne _ _ (hne _ (by simp))).trans ((State.get_put_ne _ _ (hne _ (by simp))).trans hx)
  have h2 : t2.get k = t0.get k := (State.get_timeCond _ _ (hne _ (by simp))).trans h1
  have hot28 : ∀ i : Int, (t2.put Hid.thermHot i).get k = t0.get k := fun i => (State.get_put_ne _ _ (hne _ (by simp))).trans h2
  have h3 : t3.get k = t0.get k := ite_keeps (P := fun x => x.get k = t0.get k)
    (ite_keeps (P := fun x => x.get k = t0.get k) ((raiseCond_spared (refl_spared _) 28 0 k hw).trans (hot28 _)) h2)
    (ite_keeps (P := fun x => x.get k = t0.get k) ((endCond_spared (refl_spared _) 28 k hw).trans (hot28 _)) h2)
  exact ((State.get_judged hw _ 29 0).trans h3).trans h0

/-- The eye monitor of a lane whose island runs reports its margins. -/
theorem State.eyeSample_one {s : State} {k h v : Nat} {a : Bool} (hr : s.runs (eyeIsland k) = true) :
    (s.eyeSample [(k, h, v, a)]).get (Reg.EYE_H_MARGIN k) = h ∧ (s.eyeSample [(k, h, v, a)]).get (Reg.EYE_V_MARGIN k) = v ∧
      (s.eyeSample [(k, h, v, a)]).get (Reg.EYE_ADAPT_LIMIT k) = b2i a := by
  unfold State.eyeSample
  rw [List.filter_singleton, hr]
  simp [State.each]

/-! ### The Almanac (R388) -/

/-- The end of an interval keeps its record first; the day record and the refit that may follow leave it. -/
theorem State.almanacInterval_almIntervals (s : State) :
    s.almanacInterval.almIntervals = (s.intervalRec :: s.almIntervals).take 8192 := by
  unfold State.almanacInterval
  extract_lets r iv t0 t1 t2 t3 t4 t5 t6 seq
  have h1 : t0.SameIntervals t1 := put_sameIntervals (put_sameIntervals (put_sameIntervals (put_sameIntervals rfl ..) ..) ..) ..
  have h2 : t0.SameIntervals t2 := each_keeps h1 _ _ fun _ _ h =>
    put_sameIntervals (put_sameIntervals (put_sameIntervals h ..) ..) ..
  have h3 : t0.SameIntervals t3 := each_keeps h2 _ _ fun _ _ h => put_sameIntervals h ..
  have h4 : t0.SameIntervals t4 := each_keeps h3 _ _ fun _ _ h => put_sameIntervals h ..
  have h5 : t0.SameIntervals t5 := each_keeps h4 _ _ fun _ _ h => put_sameIntervals h ..
  have hm : t0.SameIntervals t5.memTemps := each_keeps h5 _ _ fun _ _ h => put_sameIntervals (put_sameIntervals h ..) ..
  have h6 : t0.SameIntervals t6 :=
    put_sameIntervals (put_sameIntervals (put_sameIntervals (put_sameIntervals (put_sameIntervals hm ..) ..) ..) ..) ..
  have h0 : t0.almIntervals = iv := rfl
  clear_value t6
  refine Eq.trans (?_ : t0.SameIntervals _) h0
  refine ite_keeps ?_ h6
  split
  · exact h6
  · exact refit_sameIntervals (put_sameIntervals (put_sameIntervals (mk_sameIntervals h6 ..) ..) ..)

/-! ### The silent voltage step (R390) -/

/-- A voltage step, where one is made, is one of 2.5 mV; without leave to make it silently none is. -/
theorem State.get_avsStep (s : State) : s.avsStep.get Reg.MARGIN_CONTROL_AVS_OFFSET = s.get Reg.MARGIN_CONTROL_AVS_OFFSET ∨
    (s.get Reg.MARGIN_CONTROL_SILENT ≠ 0 ∧ ∃ d : Int, d.natAbs ≤ 25 ∧
      s.avsStep.get Reg.MARGIN_CONTROL_AVS_OFFSET = s.get Reg.MARGIN_CONTROL_AVS_OFFSET + d) := by
  unfold State.avsStep
  extract_lets up down o bar d t v
  have hd : d.natAbs ≤ 25 := by unfold d; split_ifs <;> decide
  split
  · exact .inl (by simp)
  · split
    · exact .inl rfl
    · rename_i hb
      refine .inr ⟨fun hs => hb (.inl (by simp [bar, hs])), d, hd, ?_⟩
      split <;> simp [State.refreshTarget, t, o]

/-! ### Bookings (R393, R396) -/

/-- The injection entries follow their conditions in registers of their own. -/
theorem State.get_refreshInject (s : State) {k : Key} (hk : k.idx < 0xE000) : s.refreshInject.get k = s.get k := by
  have hne : ∀ l : Key, 0xE000 ≤ l.idx → l ≠ k := fun l hl e => by rw [e] at hl; omega
  have hp : ∀ {t : State} (l : Key) (v : Int), t.get k = s.get k → 0xE000 ≤ l.idx → (t.put l v).get k = s.get k := fun l v ht hl =>
    (State.get_put_ne _ _ (hne l hl)).trans ht
  exact each_keeps (P := fun t => t.get k = s.get k) rfl _ _ fun t j ht =>
    ite_keeps (P := fun t => t.get k = s.get k) ht (ite_keeps (P := fun t => t.get k = s.get k)
      (hp _ _ (hp _ _ (hp _ _ ht (by simp)) (by simp)) (by simp)) (hp _ _ ht (by simp)))

theorem State.get_endBooking_state (s : State) (b : Nat) (st : Int) (r : Status) :
    (s.endBooking b st r).get (Reg.BOOKING_STATE b) = st :=
  (State.get_refreshInject _ (by simp)).trans (by simp)

/-- A RUNNING booking whose window is over is DONE where its kind has no activity of its own to complete, else ENDED. -/
theorem State.get_bookingWindowEnd {s : State} {b : Nat} (h2 : s.get (Reg.BOOKING_STATE b) = 2) (hact : s.bookingActs b = true)
    (hend : s.get (Hid.bookTs b) + s.get (Reg.BOOKING_DURATION b) ≤ s.now) :
    (s.bookingWindowEnd b).get (Reg.BOOKING_STATE b) =
      (if s.get (Reg.BOOKING_KIND b) = 1 ∨ s.get (Reg.BOOKING_KIND b) = 9 then 3 else 5) := by
  unfold State.bookingWindowEnd
  rw [if_neg (by simp [h2, hact, hend])]
  split <;> exact State.get_endBooking_state ..

section
variable {s : State} {b : Nat} (h1 : s.get (Reg.BOOKING_STATE b) = 1) (hact : s.bookingActs b = true)
  (hts : s.get (Hid.bookTs b) ≤ s.now)
include h1 hact hts

/-- A booking of CLASS ALL runs in SERVICE alone (R397). -/
theorem State.startBooking_wrongMode (hc : s.get (Reg.BOOKING_CLASS b) = 2) (hm : s.get Reg.MODE_ACTIVE ≠ 7) : s.startBooking b =
    (s.put (Reg.BOOKING_STATE b) 4).put (Reg.BOOKING_RESULT b) (Status.wrongMode.code : Nat) := by
  unfold State.startBooking
  rw [if_neg (by simp [h1, hact, hts])]
  exact if_pos ⟨hc, hm⟩

/-- At Ts a booking in its mode runs if its conditions hold, and fails if they do not. -/
theorem State.startBooking_mode (hm : s.get (Reg.BOOKING_CLASS b) ≠ 2 ∨ s.get Reg.MODE_ACTIVE = 7) : s.startBooking b =
    if s.bookingConflict b (s.get (Hid.bookTs b)) || !s.drainOk b || !s.bookingHealthy b then
      (s.put (Reg.BOOKING_STATE b) 4).put (Reg.BOOKING_RESULT b) (Status.maintConflict.code : Nat)
    else (s.put (Reg.BOOKING_STATE b) 2).bookingActivity b := by
  unfold State.startBooking
  rw [if_neg (by simp [h1, hact, hts])]
  exact if_neg fun h => hm.elim (· h.1) h.2

end
end Sys2Proof.Machine
namespace Sys2Proof
open Machine

/-- Settles O59: each sample stands in its own registers, the interval's record outlives the refit, and a booking's command is its rule's
one branch. -/
theorem wearAndBookings : Obligations.WearAndBookings := by
  unfold Obligations.WearAndBookings
  refine fun s ha => ⟨fun l hl => ?_, fun k slack shift _ hr => ?_, fun l hl => ?_, fun v hr => ?_, fun l hl => ?_,
    fun k h v a _ hr => State.eyeSample_one hr, fun h55 => ⟨fun hd => ?_, fun n hd => ⟨?_, State.almanacInterval_almIntervals _⟩⟩,
    fun h55 => ?_, fun h0 => ⟨live_next ha (if_pos h0), ?_, fun hs => ?_⟩, fun v => ⟨live_next ha rfl, s.get_avsJudge v⟩,
    fun w => ⟨live_next ha rfl, s.get_powerJudge w⟩, fun b hb => ⟨?_, fun eyes he => ?_, ?_⟩,
    fun b _ h1 hact hts => ⟨fun hm => ⟨fun hc hd hh => ?_, fun hh => ?_⟩, fun hc hm => ?_⟩,
    fun b _ h2 hact hend => State.get_bookingWindowEnd h2 hact hend⟩
  · exact onElement_next (by simpa using hl) ha rfl
  · rw [State.get_wearSample_one hr rfl, State.get_wearSample_one hr rfl]
    simp
  · exact onElement_next (decide_eq_true hl) ha rfl
  · rw [State.get_thermalSample_one hr rfl (by decide), State.get_thermalSample_one hr rfl (by decide)]
    simp
  · exact onElement_next (by simpa using hl) ha rfl
  · exact live_next ha ((if_pos h55).trans (by rw [State.almanacBoundary, hd]))
  · exact live_next ha ((if_pos h55).trans (by rw [State.almanacBoundary, hd]))
  · exact live_next ha (if_neg (by simp [h55]))
  · rcases s.get_avsStep with h | ⟨_, d, hd, h⟩ <;> rw [h] <;> omega
  · exact s.get_avsStep.elim id fun h => absurd hs h.1
  · exact onElement_next (decide_eq_true hb) ha rfl
  · exact onElement_next (by simpa [hb] using he) ha rfl
  · exact onElement_next (decide_eq_true hb) ha rfl
  · rw [State.startBooking_mode h1 hact hts hm, if_neg (by simp [hc, hd, hh])]
  · rw [State.startBooking_mode h1 hact hts hm, if_pos (by simp [hh])]
    simp
  · rw [State.startBooking_wrongMode h1 hact hts hc hm]
    simp
end Sys2Proof
end
